-- ==== Sys2Proof/Word.lean ====
section
/-! DEFINITION. The word types of the BM960: bytes, the 32-bit elements of the Snare and the accumulators, and the
64-bit little-endian words of instructions, registers and descriptors (R7, R95). -/

namespace Sys2Proof

/-- One byte of memory. -/
abbrev Byte := BitVec 8

/-- A 32-bit element: a binary32 value or half of a wide value (R23, R24). -/
abbrev W32 := BitVec 32

/-- A 64-bit word: a scalar register, an instruction, a control register (R7, R95). -/
abbrev W64 := BitVec 64

/-- Sparse data by key in one canonical form: keys strictly rising, no entry equal to the default an unlisted key
reads as (Machine/Map.lean gives the operations and the form's predicate). -/
abbrev SMap (α : Type) := List (Nat × α)

end Sys2Proof
end

