-- ==== Sys2Proof/Syntax.lean ====
section
/-! DEFINITION. The commands of the block, one constructor per row of spec/opcode_table.json, and the data their
operands carry: Prompter fields (R99-R161), Camod packets (R462), the decoded Score (01, R19; its image format is
Ovcon's, log entry 2), the Roster (R367-R369), link packets and flits (R340-R345). -/

namespace Sys2Proof

/-- Who issues a Prompter instruction and its guard: the physical Stage and the fields GEN, GNEG, GP of R99, R100. -/
structure Iss where
  stage : Nat
  gen : Bool
  gneg : Bool
  gp : BitVec 3
  deriving DecidableEq, Repr

/-- The class 0x6 operand layout of R156. -/
structure VOp where
  vd : BitVec 4
  sa : BitVec 4
  sb : BitVec 4
  sc : BitVec 4
  row0 : BitVec 6
  nr : BitVec 6
  sr : BitVec 5
  acc : Bool
  deriving DecidableEq, Repr

/-- The operand layout of VLD, VST, VLDW and VSTW (R160). -/
structure VMem where
  vd : BitVec 4
  ra : BitVec 5
  row0 : BitVec 6
  nr : BitVec 6
  deriving DecidableEq, Repr

/-- A class 0x9 instruction's fields (R101, R120). -/
structure ShFields where
  sem : BitVec 6
  desc : BitVec 5
  nosig : Bool
  deriving DecidableEq, Repr

/-- The fields of MMA (R115). -/
structure MmaFields where
  acc : Bool
  slot : BitVec 4
  wt : Bool
  desc : BitVec 5
  mask : BitVec 5
  amask : BitVec 4
  fmt : BitVec 4
  mreg : Bool
  mimm : BitVec 8
  mr : BitVec 5
  deriving DecidableEq, Repr

/-- A Camod packet: the eight header words of R462 and the parameter words; `paramErr` marks a host-memory error on the
parameter read (R464). -/
structure Packet where
  hdr : List W64
  params : List W64
  paramErr : Bool
  deriving DecidableEq, Repr

/-- Where a Camod command arrives (R469): a PCIe slot, whose packet stands in the slot's submission ring in host memory
(R458), or another port, which brings its packet with it (R472, R389). -/
inductive CmdSrc where
  | slot (k : Nat)
  | smbus (p : Packet)
  | link (port : Nat) (p : Packet)
  | eth (port : Nat) (p : Packet)
  deriving DecidableEq, Repr

/-- A kernel of the Score: code words, entry offset, data-region size and initial bytes, argument block, instance
count (R94, R96, R297), and whether it is an update kernel (R277). -/
structure KernelDecl where
  code : List W64
  entry : Nat
  dataKib : Nat
  init : List (Nat × Byte)
  args : Nat
  instances : Nat
  update : Bool
  deriving DecidableEq, Repr

/-- A tensor of the Score: identity and length, of a sharded one that of the logical whole (R124, R264); ordered-reduction key list and per-step mark (R211, R215), `byRank`
where the keys' virtual rank is the instance's own (R273); a fill
Score's reduction-destination mark (R210); state kind and change rate and parameter group (R397); whether it is sharded
in the data-parallel Ensemble (R264) and whether it is a working copy (R269) with the format VST writes it in, coded as OUT_FMT (R276); the layer whose gathered copy it
holds, one for every rank of a (p, q) (R265); whether it holds activations, one length for every micro-batch of a group (R268); the
expert block and the expert whose state it is (R279). -/
structure TensorDecl where
  id : Nat
  bytes : Nat
  keys : List Nat
  byRank : Bool
  perStep : Bool
  redDest : Bool
  isState : Bool
  control : Bool
  change : Nat
  group : Nat
  sharded : Bool
  working : Bool
  fmt : Nat
  gathered : Option Nat
  act : Bool
  expert : Option (Nat × Nat)
  deriving DecidableEq, Repr

/-- A tag's scale tracking as the Score sets it (R189). -/
structure TagDecl where
  tag : Nat
  init : BitVec 8
  hist : Nat
  margin : Nat
  fmt : Nat
  src : Nat
  en : Bool
  deriving DecidableEq, Repr

/-- A declared Ensemble (R260, R371): its role and member virtual ranks. -/
structure EnsDecl where
  role : Nat
  members : List Nat
  deriving DecidableEq, Repr

/-- An expert block (R279): experts, choices, sources, overflow tag, the role of the expert Ensemble, the home member of each expert, and
the tensor of the rows its homes reserve (R281). -/
structure ExpertDecl where
  experts : Nat
  choices : Nat
  sources : Nat
  ovfTag : Nat
  role : Nat
  home : List Nat
  rows : Nat
  deriving DecidableEq, Repr

/-- A Roll chain's segments (R81, R118): the kernel and instance that run each segment index, and the role of a chain
that continues across devices (R384). -/
structure ChainDecl where
  chain : Nat
  role : Nat
  segs : List (Nat × Nat)
  deriving DecidableEq, Repr

/-- A Cue Sheet: its 16-byte entries as pairs of words (R302). -/
abbrev Sheet := List (W64 × W64)

/-- The Score of one job, decoded. `dataMap` names the object of each data-map index, which starts afresh after the last, and `input`
the tensor that takes a micro-batch's input (R261; log entry 28). -/
structure Score where
  kernels : List KernelDecl
  tensors : List TensorDecl
  sheets : List (Nat × Sheet)
  tags : List TagDecl
  ensembles : List EnsDecl
  experts : List ExpertDecl
  chains : List ChainDecl
  colls : List (List W64)
  dataMap : List W64
  input : Option Nat
  deriving DecidableEq, Repr

/-- Where a byte range of a tensor lies: offset in the tensor, length, device physical address (R295). -/
structure Range where
  off : Nat
  len : Nat
  pa : Nat
  deriving DecidableEq, Repr

/-- The Blocking's place of one tensor instance (R295): its identity, the virtual rank whose instance it is (65,536: one
instance for all), where its bytes lie, and for a working copy where its shadow lies (R264, R277). -/
structure TensorPlace where
  id : Nat
  vr : Nat
  ranges : List Range
  shadow : List Range
  deriving DecidableEq, Repr

/-- A Roster device entry with its 24 link-map words (R368, R400). -/
structure DevEntry where
  ident : W64
  number : Nat
  state : Nat
  hosted : Nat
  mirror : Nat
  replA : Nat
  replB : Nat
  pgroup : Nat
  ppos : Nat
  psize : Nat
  refill : Bool
  links : List W32
  deriving DecidableEq, Repr

/-- A Roster Ensemble record (R369). -/
structure EnsRec where
  ensId : Nat
  role : Nat
  kind : Nat
  members : Nat
  explicit : Bool
  base : Nat
  stride : Nat
  list : List Nat
  deriving DecidableEq, Repr

/-- The Roster (R367-R369). -/
structure Roster where
  jobId : W64
  version : Nat
  step : Nat
  vranks : Nat
  devs : List DevEntry
  vmap : List Nat
  ens : List EnsRec
  deriving DecidableEq, Repr

/-- The header of a link packet (R344) and its payload. -/
structure Pkt where
  dst : Nat
  src : Nat
  vc : Nat
  hop : Nat
  ty : Nat
  flow : Nat
  e2e : Nat
  rver : Nat
  aux16 : Nat
  aux64 : W64
  data : List Byte
  deriving DecidableEq, Repr

/-- A flit as it comes out of a port's receiver (R340, R341): its bytes, whether a codeword it overlaps is beyond correction, and whether it is the
first flit that such a codeword overlaps. -/
structure FlitIn where
  bytes : List Byte
  bad : Bool
  first : Bool
  deriving DecidableEq, Repr

/-- What the 100 ms test of a lane came to (R362), and the partner's identity and port in the training record the lane has brought (R338). -/
structure LaneTest where
  pass : Bool
  ident : W64
  peer : Nat
  deriving DecidableEq, Repr

/-- A Call proposal (R374): new version, the step whose Curtain it takes effect at (R367), ballot, the delta and the new Roster's digest. `moves` gives virtual ranks their
new host, `setDevs` the entries added or changed, `plans` the handovers a Curtain's Call records (R436); `base` is the replica a device that joins
starts from, present when the delta adds one (R438, log entry 16). -/
structure Proposal where
  version : Nat
  step : Nat
  ballot : Nat
  recast : Bool
  double : Bool
  moves : List (Nat × Nat)
  setDevs : List DevEntry
  removed : List Nat
  plans : List (Nat × Nat)
  base : Option Roster
  digest : W64
  deriving DecidableEq, Repr

/-- What one device's flags of a CURTAIN message stand for (R378, R434, R436, R439): its changed link-map words, whether it
asks to leave, whether it holds open refill items, and the virtual ranks whose load there is complete. -/
structure DevNote where
  dev : Nat
  links : Option (List W32)
  releasing : Bool
  refill : Bool
  ready : List Nat
  deriving DecidableEq, Repr

/-- A CURTAIN message (R378): u and h per device number, absolute maxima per tag, flags and Roster version. -/
structure CurtainMsg where
  uh : List (Nat × Nat × Nat)
  amax : List (Nat × W32)
  fReady : Bool
  fRelease : Bool
  fStrag : Bool
  fLinks : Bool
  fSave : Bool
  fEval : Bool
  notes : List DevNote
  version : Nat
  deriving DecidableEq, Repr

/-- Exact Tally registers of one tag and stream (R46, R176, R185): the sum of squares in units of 2^-298, its saturation,
the absolute maximum and the non-finite count. -/
structure TlyReg where
  sumsq : Nat
  sat : Bool
  amax : W32
  nonfin : Nat
  deriving DecidableEq, Repr

/-- A set of Tally registers: by 4 × tag + stream, and the overflow counts by tag (R176, R179). -/
structure Tally where
  regs : List (Nat × TlyReg)
  ovf : List (Nat × Nat)
  deriving DecidableEq, Repr

/-- A reduce-on-write line write in flight (R126, R209-R212). -/
structure RedWrite where
  ctx : Nat
  tensor : Nat
  off : Nat
  red : Nat
  key : Nat
  data : List Byte
  poison : Bool
  deriving DecidableEq, Repr

/-- A stage's regions for one kernel instance: physical Stage, Apron base of the code region and of the data region
(R94: the Stage Manager's choice). -/
structure Seat where
  stage : Nat
  code : Nat
  data : Nat
  deriving DecidableEq, Repr

/-- What the outside decides about the end of a deferred command (R465, R473): whether its time ran out, the units of a test that
failed (R480), and the places the Blocking gives a Score's tensors (R295). -/
structure Ending where
  late : Bool
  failed : List Nat
  places : List TensorPlace
  deriving DecidableEq, Repr

/-- The thermal and electrical sample of one Dimmer period (R525, R526, R542): rails in the order of R544. -/
structure PowerSample where
  watts : Nat
  junction : Nat
  fieldTemp : List Nat
  stackTemp : List Nat
  railMv : List Nat
  railAmps : List Nat
  deriving DecidableEq, Repr

/-- The commands, one per row of spec/opcode_table.json, in the table's order. -/
inductive Instr where
  -- class 0x0 (R106)
  | add (p : Iss) (rd ra rb : BitVec 5)
  | sub (p : Iss) (rd ra rb : BitVec 5)
  | mul (p : Iss) (rd ra rb : BitVec 5)
  | mulh (p : Iss) (rd ra rb : BitVec 5)
  | mulhu (p : Iss) (rd ra rb : BitVec 5)
  | divu (p : Iss) (rd ra rb : BitVec 5)
  | remu (p : Iss) (rd ra rb : BitVec 5)
  | div (p : Iss) (rd ra rb : BitVec 5)
  | rem (p : Iss) (rd ra rb : BitVec 5)
  | and (p : Iss) (rd ra rb : BitVec 5)
  | or (p : Iss) (rd ra rb : BitVec 5)
  | xor (p : Iss) (rd ra rb : BitVec 5)
  | shl (p : Iss) (rd ra rb : BitVec 5)
  | shr (p : Iss) (rd ra rb : BitVec 5)
  | sra (p : Iss) (rd ra rb : BitVec 5)
  | clz (p : Iss) (rd ra : BitVec 5)
  | popc (p : Iss) (rd ra : BitVec 5)
  | min (p : Iss) (rd ra rb : BitVec 5)
  | max (p : Iss) (rd ra rb : BitVec 5)
  | minu (p : Iss) (rd ra rb : BitVec 5)
  | maxu (p : Iss) (rd ra rb : BitVec 5)
  | sel (p : Iss) (rd ra rb : BitVec 5) (pa : BitVec 3)
  | ceq (p : Iss) (pd : BitVec 3) (ra rb : BitVec 5)
  | cne (p : Iss) (pd : BitVec 3) (ra rb : BitVec 5)
  | clt (p : Iss) (pd : BitVec 3) (ra rb : BitVec 5)
  | cle (p : Iss) (pd : BitVec 3) (ra rb : BitVec 5)
  | cltu (p : Iss) (pd : BitVec 3) (ra rb : BitVec 5)
  | cleu (p : Iss) (pd : BitVec 3) (ra rb : BitVec 5)
  | pand (p : Iss) (pd pa pb : BitVec 3)
  | por (p : Iss) (pd pa pb : BitVec 3)
  | pxor (p : Iss) (pd pa pb : BitVec 3)
  | pnot (p : Iss) (pd pa : BitVec 3)
  | prd (p : Iss) (rd : BitVec 5)
  | pwr (p : Iss) (ra : BitVec 5)
  | rdspec (p : Iss) (rd : BitVec 5) (spec : BitVec 8)
  -- class 0x1 (R107)
  | addi (p : Iss) (rd ra : BitVec 5) (imm : W32)
  | andi (p : Iss) (rd ra : BitVec 5) (imm : W32)
  | ori (p : Iss) (rd ra : BitVec 5) (imm : W32)
  | xori (p : Iss) (rd ra : BitVec 5) (imm : W32)
  | shli (p : Iss) (rd ra : BitVec 5) (imm : W32)
  | shri (p : Iss) (rd ra : BitVec 5) (imm : W32)
  | srai (p : Iss) (rd ra : BitVec 5) (imm : W32)
  | movi (p : Iss) (rd : BitVec 5) (imm : W32)
  | movhi (p : Iss) (rd : BitVec 5) (imm : W32)
  | ceqi (p : Iss) (pd : BitVec 3) (ra : BitVec 5) (imm : W32)
  | cnei (p : Iss) (pd : BitVec 3) (ra : BitVec 5) (imm : W32)
  | clti (p : Iss) (pd : BitVec 3) (ra : BitVec 5) (imm : W32)
  | clei (p : Iss) (pd : BitVec 3) (ra : BitVec 5) (imm : W32)
  | cltui (p : Iss) (pd : BitVec 3) (ra : BitVec 5) (imm : W32)
  | cleui (p : Iss) (pd : BitVec 3) (ra : BitVec 5) (imm : W32)
  -- class 0x2 (R109-R112)
  | nop (p : Iss)
  | br (p : Iss) (off : W32)
  | call (p : Iss) (rd : BitVec 5) (off : W32)
  | jr (p : Iss) (ra : BitVec 5)
  | loop (p : Iss) (ra : BitVec 5) (off : W32)
  | endK (p : Iss)
  | endComplete (n : Nat)
  | trap (p : Iss) (off : W32)
  -- class 0x3 (R113)
  | ldb (p : Iss) (rd ra : BitVec 5) (off : W32)
  | ldh (p : Iss) (rd ra : BitVec 5) (off : W32)
  | ldw (p : Iss) (rd ra : BitVec 5) (off : W32)
  | ldd (p : Iss) (rd ra : BitVec 5) (off : W32)
  | ldbu (p : Iss) (rd ra : BitVec 5) (off : W32)
  | ldhu (p : Iss) (rd ra : BitVec 5) (off : W32)
  | ldwu (p : Iss) (rd ra : BitVec 5) (off : W32)
  | stb (p : Iss) (rd ra : BitVec 5) (off : W32)
  | sth (p : Iss) (rd ra : BitVec 5) (off : W32)
  | stw (p : Iss) (rd ra : BitVec 5) (off : W32)
  | std (p : Iss) (rd ra : BitVec 5) (off : W32)
  -- classes 0x4 and 0x5 and their events (R53-R90, R115-R119)
  | wld (p : Iss) (wt : Bool) (tile scl : BitVec 5) (spk : Bool)
  | wldStart (n : Nat)
  | wldComplete (n : Nat)
  | azero (p : Iss) (slot : BitVec 4) (wide mreg : Bool) (mimm : BitVec 8) (mr : BitVec 5)
  | azeroStart (n : Nat)
  | mma (p : Iss) (f : MmaFields)
  | mmaStart (n : Nat)
  | mmaRowEnter (n : Nat)
  | mmaRowWrite (n : Nat)
  | drain (p : Iss) (slot : BitVec 4) (desc : BitVec 5)
  | drainStart (n : Nat)
  | drainBlockReadout (n : Nat)
  | drainBlockEnqueue (n : Nat)
  | roll (p : Iss) (slot : BitVec 4) (hnd : BitVec 5) (dslot : BitVec 4) (xdev : Bool) (amask : BitVec 4)
  | racc (p : Iss) (slot : BitVec 4) (hnd : BitVec 5) (xdev : Bool) (amask : BitVec 4)
  | raccStart (n : Nat)
  | rollGrant (n : Nat)
  | rollReadout (n : Nat)
  | rollIn (n : Nat)
  | matrixWaitLimit (n : Nat) (service : Bool)
  -- classes 0x9 and 0xA and their events (R120-R135)
  | dmov (p : Iss) (f : ShFields)
  | dgath (p : Iss) (f : ShFields)
  | dscat (p : Iss) (f : ShFields)
  | drel (p : Iss) (f : ShFields)
  | stagehandComplete (n : Nat) (i : Nat)
  | semsig (p : Iss) (sem : BitVec 6) (ra : BitVec 5) (val : BitVec 16) (remote : Bool)
  | remoteSemsig (n : Nat) (i : Nat)
  | semwait (p : Iss) (sem : BitVec 6) (val : BitVec 16)
  | semwaitSatisfy (n : Nat)
  | semset (p : Iss) (sem : BitVec 6) (val : BitVec 16)
  | semrd (p : Iss) (sem : BitVec 6) (rd : BitVec 5)
  | fence (p : Iss) (mask : BitVec 6)
  | fenceSatisfy (n : Nat)
  | curtwait (p : Iss) (rd : BitVec 5)
  | curtwaitResume (n : Nat)
  | syncWaitLimit (n : Nat)
  | belw (p : Iss) (ra : BitVec 5) (pd : BitVec 3)
  | belr (p : Iss) (rd : BitVec 5) (pd : BitVec 3)
  | belt (p : Iss) (pd : BitVec 3) (dir : Bool)
  -- class 0x6 (R157)
  | vadd (p : Iss) (o : VOp)
  | vsub (p : Iss) (o : VOp)
  | vmul (p : Iss) (o : VOp)
  | vfma (p : Iss) (o : VOp)
  | vfms (p : Iss) (o : VOp)
  | vfnma (p : Iss) (o : VOp)
  | vmin (p : Iss) (o : VOp)
  | vmax (p : Iss) (o : VOp)
  | vabs (p : Iss) (o : VOp)
  | vneg (p : Iss) (o : VOp)
  | vcpy (p : Iss) (o : VOp)
  | vceq (p : Iss) (o : VOp)
  | vcne (p : Iss) (o : VOp)
  | vclt (p : Iss) (o : VOp)
  | vcle (p : Iss) (o : VOp)
  | vcnan (p : Iss) (o : VOp)
  | vsel (p : Iss) (o : VOp)
  | vexp (p : Iss) (o : VOp)
  | vrcp (p : Iss) (o : VOp)
  | vrsq (p : Iss) (o : VOp)
  | vrsum (p : Iss) (o : VOp)
  | vrmax (p : Iss) (o : VOp)
  | vramax (p : Iss) (o : VOp)
  | vcsum (p : Iss) (o : VOp)
  | vcmax (p : Iss) (o : VOp)
  | vcamax (p : Iss) (o : VOp)
  -- class 0x7 (R160)
  | vpop (p : Iss) (vd : BitVec 4) (blk : BitVec 2)
  | vpopw (p : Iss) (vd : BitVec 4) (blk : BitVec 2)
  | vld (p : Iss) (o : VMem)
  | vst (p : Iss) (o : VMem)
  | vldw (p : Iss) (o : VMem)
  | vstw (p : Iss) (o : VMem)
  | vbld (p : Iss) (b : BitVec 4) (ra : BitVec 5)
  | vbst (p : Iss) (b : BitVec 4) (ra : BitVec 5)
  | vbrow (p : Iss) (b sa : BitVec 4) (row : BitVec 6)
  | vbcol (p : Iss) (b sa : BitVec 4) (col : BitVec 8)
  | vrvset (p : Iss) (vd : BitVec 4) (ra : BitVec 5)
  | vrvget (p : Iss) (va : BitVec 4) (rd : BitVec 5)
  | vsig (p : Iss) (sem : BitVec 6) (val : BitVec 16)
  -- class 0x8 (R161)
  | vrng (p : Iss) (o : VMem)
  | vdrop (p : Iss) (o : VMem) (sa : BitVec 4) (sr : BitVec 5)
  | vtopk (p : Iss) (vd sa : BitVec 4) (row0 nr : BitVec 6) (ncol : BitVec 8) (kk : BitVec 3)
  | vmom (p : Iss) (vm vg vv : BitVec 4) (row0 nr : BitVec 6) (sr : BitVec 5)
  | vupd (p : Iss) (vw vm vv vg : BitVec 4) (row0 nr : BitVec 6) (sr : BitVec 5)
  | vtly (p : Iss) (sa : BitVec 4) (row0 nr : BitVec 6) (sr : BitVec 5)
  | vtlyc (p : Iss) (sr rc : BitVec 5)
  | snarePopWaitLimit (n : Nat)
  -- Stage Manager events (R296-R318)
  | launchStart (launch : Nat) (seats : List Seat)
  | leadWantsStage (launch : Nat) (stages : List Nat)
  | hardPreempt (launch : Nat)
  | swapOut (ctx : Nat)
  | swapIn (ctx : Nat) (cache scratch : BitVec 16)
  | swapComplete (ctx : Nat) (ns : Nat)
  | stageRetire (n : Nat) (cause : Nat)
  -- Curtain and Tally events (R180-R183, R378-R380)
  | curtainArrive
  | curtainExchangeUp (port : Nat) (p : Pkt) (m : CurtainMsg)
  | curtainExchangeDown (port : Nat) (p : Pkt) (m : CurtainMsg)
  | curtainOpen
  | curtainSyncEnd
  | tallyCombineUp (port : Nat) (p : Pkt) (t : Tally)
  | tallyCombineDown (port : Nat) (p : Pkt) (t : Tally)
  -- memory events (06)
  | bar2Read (off len : Nat)
  | bar2Write (off : Nat) (data : List Byte)
  | rdmaRequest (ep : Nat) (write : Bool) (pa len : Nat) (data : List Byte)
  | roceSend (ep : Nat)
  | cacheAccess (pa : Nat) (write : Option (List Byte))
  | requestAdmit (i : Nat)
  | cacheSetWaitLimit (i : Nat)
  | reduceWrite (w : RedWrite) (n : Nat) (i : Nat)
  | reduceRefuseLimit (n : Nat) (i : Nat)
  | scrubRead (level : Nat) (addr : Nat)
  | softRemapInstall (stack pc row : Nat)
  | pageRetire (page target : Nat)
  | channelRetire (ch : Nat)
  | channelCopyDone
  -- link records (R340, R348, R359, R364, R365, R388)
  | credit (port : Nat) (counts : List Nat)
  | nak (port : Nat) (seq : Nat)
  | heartbeat (port : Nat) (state dev ver step : Nat)
  | width (port : Nat) (agree : Bool) (lanes : BitVec 8) (seq : Nat)
  | bell (port : Nat) (b : BitVec 2) (gen : Bool) (word : W64)
  | bellTaken (port : Nat) (b : BitVec 2) (gen : Bool)
  | gong (port : Nat) (cause dev ver : Nat)
  | packetForward (port : Nat) (p : Pkt)
  -- packets (R345)
  | rollBlock (port : Nat) (p : Pkt)
  | chunk (port : Nat) (p : Pkt)
  | pipe (port : Nat) (p : Pkt)
  | dispatch (port : Nat) (p : Pkt)
  | gatherReq (port : Nat) (p : Pkt)
  | gatherData (port : Nat) (p : Pkt)
  | fill (port : Nat) (p : Pkt)
  | grant (port : Nat) (p : Pkt)
  | e2eAck (port : Nat) (p : Pkt)
  | peerCmd (port : Nat) (p : Pkt) (c : Packet)
  | callPropose (port : Nat) (p : Pkt) (d : Proposal)
  | callAccept (port : Nat) (p : Pkt) (ballot : Nat)
  | callReject (port : Nat) (p : Pkt) (ballot : Nat)
  | callCommit (port : Nat) (p : Pkt) (ballot : Nat)
  | callAbort (port : Nat) (p : Pkt) (ballot : Nat)
  -- resilience packets (R416)
  | stateReq (port : Nat) (p : Pkt)
  | stateData (port : Nat) (p : Pkt)
  | teeTotal (port : Nat) (p : Pkt)
  | parityDelta (port : Nat) (p : Pkt)
  | parityRead (port : Nat) (p : Pkt)
  | replPut (port : Nat) (p : Pkt)
  | logPut (port : Nat) (p : Pkt)
  | logGet (port : Nat) (p : Pkt)
  | suspect (port : Nat) (p : Pkt)
  | quorumQuery (port : Nat) (p : Pkt)
  | quorumAnswer (port : Nat) (p : Pkt)
  | scrubDigest (port : Nat) (p : Pkt)
  | saveDone (port : Nat) (p : Pkt)
  | admitReq (port : Nat) (p : Pkt) (ident : W64)
  -- link and resilience timers, the collectives engine (09, 10)
  | linkResendTimeout (port : Nat)
  | portSilenceTimeout (port : Nat)
  | laneLockLoss (port lane : Nat)
  | laneWindowEnd (port : Nat) (syms : List Nat)
  | e2eTimeout (dst vc flow : Nat)
  | e2eAckTimer (src vc flow : Nat)
  | heartbeatSend
  | heartbeatInterval
  | opticsPoll (port : Nat) (ok : Bool) (temp warn alarm : BitVec 8)
  | moduleRemoved (port : Nat)
  | autoRetrain
  | retrainTestEnd (port lane : Nat) (pass : LaneTest)
  | routeTableReady
  | linkBellWrite (port : Nat) (b : BitVec 2) (word : W64)
  | callSilenceTimeout (dev : Nat)
  | quorumTimeout
  | isolationTimeout
  | recastStart (dev cause : Nat)
  | phaseOverrun
  | collectiveStart (launch : Nat)
  | engineChainStep (inst chain : Nat)
  | collectiveWaitLimit (inst : Nat)
  | shardRetryTimeout (n i : Nat)
  | shardDeclareTimeout (n i : Nat)
  | saveStreamDone
  -- Camod commands (R473-R485)
  | identify (c : CmdSrc)
  | getCaps (c : CmdSrc)
  | setConfig (c : CmdSrc)
  | commitStaged (c : CmdSrc)
  | enterQuiesced (c : CmdSrc)
  | leaveQuiesced (c : CmdSrc)
  | resetUnitDevice (c : CmdSrc)
  | resetUnitBooth (c : CmdSrc)
  | resetUnitStage (c : CmdSrc)
  | resetUnitLinkPort (c : CmdSrc)
  | resetUnitEthPort (c : CmdSrc)
  | loadScore (c : CmdSrc) (score : Score)
  | contextCreate (c : CmdSrc)
  | contextDestroy (c : CmdSrc)
  | contextSuspend (c : CmdSrc)
  | contextResume (c : CmdSrc)
  | cueSheetSet (c : CmdSrc)
  | rosterSet (c : CmdSrc)
  | rosterGet (c : CmdSrc)
  | admitDev (c : CmdSrc)
  | release (c : CmdSrc)
  | shardLoad (c : CmdSrc)
  | weightPointerSwitch (c : CmdSrc)
  | snapshotSave (c : CmdSrc)
  | snapshotSaveRegion (c : CmdSrc)
  | snapshotRestore (c : CmdSrc)
  | selfTest (c : CmdSrc)
  | calibrate (c : CmdSrc)
  | laneRetrain (c : CmdSrc)
  | telemetryRead (c : CmdSrc)
  | tallyRead (c : CmdSrc)
  | eventLogRead (c : CmdSrc)
  | powerLimitSet (c : CmdSrc)
  | firmwareStage (c : CmdSrc)
  | firmwareActivate (c : CmdSrc)
  | firmwareRollback (c : CmdSrc)
  | commandDeferredComplete (seq : W32) (slot : Nat) (e : Ending)
  -- Booth, Bells, registers (R7-R12, R457-R499)
  | doorbell (k : Nat) (h : BitVec 16)
  | slotEnable (k : Nat) (v : W64)
  | slotDisable (k : Nat)
  | evqEnable (v : W64)
  | cqCoalesceTimer (k : Nat)
  | h2fBellWrite (i : Nat) (w : W64)
  | h2fBellTake (i : Nat)
  | f2hBellRead (i : Nat)
  | p2fBellTake (n : Nat)
  | tlyRingEnable (v : W64)
  | endpointEnable (i : Nat) (v : W64)
  | endpointDisable (i : Nat)
  | lastTripClear
  | rcRegisterRead (off : Nat) (half : Option Bool)
  | registerWrite (off : Nat) (half : Option Bool) (v : W64)
  -- bring-up, clocks, power, time (12, 13)
  | pwrgoodRise (railsOk : Bool)
  | pwrgoodFall
  | perstAssert
  | perstDeassert
  | bootRomDone (pllOk fuseOk : Bool)
  | firmwareAuthDone
  | sramTestDone (badStages : List Nat) (sharedOk : Bool)
  | stageTestDone (badStages : List Nat)
  | stackTrainingDone (badChannels badPages : List Nat) (serials : List W64)
  | linkTrainingDone (lanes : List (BitVec 8)) (partners : List (Option (W64 × Nat)))
  | ethTimeDone (up : BitVec 4)
  | serviceStartDone
  | ethPortRetrain (e : Nat) (ok : Bool)
  | dimmerSample (x : PowerSample)
  | safeExit
  | thermalTrip
  | vrAlert (reg : Nat) (status : BitVec 16) (mv : Nat)
  | droopDetect (field : Nat) (edges : Nat)
  | pllLockLoss (pll : Nat)
  | ppsEdge (wide : Bool)
  | ptpSync (offset : Int)
  | timeHoldover
  | sensorSample
  | setEndpointId (eid : Byte)
  | setEventReceiver (eid : Byte)
  | rdmaRetryTimeout (ep : Nat)
  | ecnCeArrival (ep : Nat)
  | cnpReceive (ep : Nat)
  | rateRecoveryTimer (ep : Nat)
  -- recovery SPI and JTAG (R567, R568)
  | readId
  | status
  | write (off : W32) (data : List Byte)
  | check
  | bypass
  | idcode
  | samplePreload (v : List Bool)
  | extest
  | clamp
  | highz
  -- further events
  | flit (port : Nat) (bytes : FlitIn)
  | rdmaResponse (ep : Nat) (fatal : Bool) (data : List Byte)
  | orderedReadWaitLimit (n i : Nat)
  | snareInstructionComplete (n : Nat)
  | pcieLinkDown
  | linkBellRead (port : Nat) (b : BitVec 2)
  | delayResp (delay : Int)
  deriving DecidableEq, Repr

end Sys2Proof
end

