-- ==== Sys2Proof/Decode.lean ====
section
/-! DEFINITION. Decoding: the table's words (no row of the table gives bits), and the Prompter's 64-bit instruction words, decoded and
encoded (R95, R99-R101, R106-R117, R120, R131, R156-R161). -/

namespace Sys2Proof

/-- The command a word spells by the table's bits. spec/opcode_table.json gives no row any bits, so none. -/
def decodeTableWord (_nbits _w : Nat) : Option Instr := none

/-- Why a word is no instruction (R101); a reserved value of a field is found when the instruction issues. -/
inductive Illegal where
  | reservedClass (cls : Nat)
  | reservedOpcode (cls op : Nat)
  /-- A row range that ends past row 63 in an instruction that reads no row (R161). -/
  | rowRange (cls op : Nat)
  deriving DecidableEq, Repr

/-- The field of `n` bits from bit `lo` up. -/
def fieldAt (w : W64) (lo n : Nat) : BitVec n := w.extractLsb' lo n

/-- A field laid from bit `lo` up. -/
def put {n : Nat} (lo : Nat) (x : BitVec n) : W64 := x.setWidth 64 <<< lo

/-- A bit laid at `lo`. -/
def putBit (lo : Nat) (b : Bool) : W64 := put lo (BitVec.ofBool b)

/-- Class, opcode and guard of a word (R99). -/
def wordClass (w : W64) : Nat := (fieldAt w 60 4).toNat
def wordOp (w : W64) : Nat := (fieldAt w 52 8).toNat
def wordIss (stage : Nat) (w : W64) : Iss := ⟨stage, w.getLsbD 51, w.getLsbD 50, fieldAt w 47 3⟩

/-- The common fields of an instruction (R99). -/
def head (cls op : Nat) (p : Iss) : W64 :=
  put 60 (BitVec.ofNat 4 cls) ||| put 52 (BitVec.ofNat 8 op) ||| putBit 51 p.gen ||| putBit 50 p.gneg ||| put 47 p.gp

/-- VOp from its bits and back (R156). -/
def vopOf (w : W64) : VOp := ⟨fieldAt w 43 4, fieldAt w 39 4, fieldAt w 35 4, fieldAt w 31 4, fieldAt w 25 6, fieldAt w 19 6, fieldAt w 14 5, w.getLsbD 13⟩
def vopBits (o : VOp) : W64 :=
  put 43 o.vd ||| put 39 o.sa ||| put 35 o.sb ||| put 31 o.sc ||| put 25 o.row0 ||| put 19 o.nr ||| put 14 o.sr ||| putBit 13 o.acc

/-- VMem from its bits and back (R160, R161). -/
def vmemOf (w : W64) : VMem := ⟨fieldAt w 43 4, fieldAt w 36 5, fieldAt w 25 6, fieldAt w 19 6⟩
def vmemBits (o : VMem) : W64 :=
  put 43 o.vd ||| put 36 o.ra ||| put 25 o.row0 ||| put 19 o.nr

/-- ShFields from its bits and back (R101, R120). -/
def shOf (w : W64) : ShFields := ⟨fieldAt w 41 6, fieldAt w 36 5, w.getLsbD 35⟩
def shBits (o : ShFields) : W64 :=
  put 41 o.sem ||| put 36 o.desc ||| putBit 35 o.nosig

/-- MmaFields from its bits and back (R115). -/
def mmaOf (w : W64) : MmaFields := ⟨w.getLsbD 46, fieldAt w 42 4, w.getLsbD 41, fieldAt w 36 5, fieldAt w 31 5, fieldAt w 27 4, fieldAt w 23 4, w.getLsbD 22, fieldAt w 14 8, fieldAt w 9 5⟩
def mmaBits (o : MmaFields) : W64 :=
  putBit 46 o.acc ||| put 42 o.slot ||| putBit 41 o.wt ||| put 36 o.desc ||| put 31 o.mask ||| put 27 o.amask ||| put 23 o.fmt ||| putBit 22 o.mreg ||| put 14 o.mimm ||| put 9 o.mr

/-- Class 0x0 (R106). -/
def decode0 (p : Iss) (w : W64) : Except Illegal Instr :=
  match wordOp w with
  | 0x00 => .ok (.add p (fieldAt w 42 5) (fieldAt w 37 5) (fieldAt w 32 5))
  | 0x01 => .ok (.sub p (fieldAt w 42 5) (fieldAt w 37 5) (fieldAt w 32 5))
  | 0x02 => .ok (.mul p (fieldAt w 42 5) (fieldAt w 37 5) (fieldAt w 32 5))
  | 0x03 => .ok (.mulh p (fieldAt w 42 5) (fieldAt w 37 5) (fieldAt w 32 5))
  | 0x04 => .ok (.mulhu p (fieldAt w 42 5) (fieldAt w 37 5) (fieldAt w 32 5))
  | 0x05 => .ok (.divu p (fieldAt w 42 5) (fieldAt w 37 5) (fieldAt w 32 5))
  | 0x06 => .ok (.remu p (fieldAt w 42 5) (fieldAt w 37 5) (fieldAt w 32 5))
  | 0x07 => .ok (.div p (fieldAt w 42 5) (fieldAt w 37 5) (fieldAt w 32 5))
  | 0x08 => .ok (.rem p (fieldAt w 42 5) (fieldAt w 37 5) (fieldAt w 32 5))
  | 0x10 => .ok (.and p (fieldAt w 42 5) (fieldAt w 37 5) (fieldAt w 32 5))
  | 0x11 => .ok (.or p (fieldAt w 42 5) (fieldAt w 37 5) (fieldAt w 32 5))
  | 0x12 => .ok (.xor p (fieldAt w 42 5) (fieldAt w 37 5) (fieldAt w 32 5))
  | 0x13 => .ok (.shl p (fieldAt w 42 5) (fieldAt w 37 5) (fieldAt w 32 5))
  | 0x14 => .ok (.shr p (fieldAt w 42 5) (fieldAt w 37 5) (fieldAt w 32 5))
  | 0x15 => .ok (.sra p (fieldAt w 42 5) (fieldAt w 37 5) (fieldAt w 32 5))
  | 0x16 => .ok (.clz p (fieldAt w 42 5) (fieldAt w 37 5))
  | 0x17 => .ok (.popc p (fieldAt w 42 5) (fieldAt w 37 5))
  | 0x18 => .ok (.min p (fieldAt w 42 5) (fieldAt w 37 5) (fieldAt w 32 5))
  | 0x19 => .ok (.max p (fieldAt w 42 5) (fieldAt w 37 5) (fieldAt w 32 5))
  | 0x1A => .ok (.minu p (fieldAt w 42 5) (fieldAt w 37 5) (fieldAt w 32 5))
  | 0x1B => .ok (.maxu p (fieldAt w 42 5) (fieldAt w 37 5) (fieldAt w 32 5))
  | 0x1C => .ok (.sel p (fieldAt w 42 5) (fieldAt w 37 5) (fieldAt w 32 5) (fieldAt w 26 3))
  | 0x20 => .ok (.ceq p (fieldAt w 29 3) (fieldAt w 37 5) (fieldAt w 32 5))
  | 0x21 => .ok (.cne p (fieldAt w 29 3) (fieldAt w 37 5) (fieldAt w 32 5))
  | 0x22 => .ok (.clt p (fieldAt w 29 3) (fieldAt w 37 5) (fieldAt w 32 5))
  | 0x23 => .ok (.cle p (fieldAt w 29 3) (fieldAt w 37 5) (fieldAt w 32 5))
  | 0x24 => .ok (.cltu p (fieldAt w 29 3) (fieldAt w 37 5) (fieldAt w 32 5))
  | 0x25 => .ok (.cleu p (fieldAt w 29 3) (fieldAt w 37 5) (fieldAt w 32 5))
  | 0x30 => .ok (.pand p (fieldAt w 29 3) (fieldAt w 26 3) (fieldAt w 23 3))
  | 0x31 => .ok (.por p (fieldAt w 29 3) (fieldAt w 26 3) (fieldAt w 23 3))
  | 0x32 => .ok (.pxor p (fieldAt w 29 3) (fieldAt w 26 3) (fieldAt w 23 3))
  | 0x33 => .ok (.pnot p (fieldAt w 29 3) (fieldAt w 26 3))
  | 0x34 => .ok (.prd p (fieldAt w 42 5))
  | 0x35 => .ok (.pwr p (fieldAt w 37 5))
  | 0x38 => .ok (.rdspec p (fieldAt w 42 5) (fieldAt w 15 8))
  | o => .error (.reservedOpcode 0x0 o)

/-- Class 0x1 (R107). -/
def decode1 (p : Iss) (w : W64) : Except Illegal Instr :=
  match wordOp w with
  | 0x00 => .ok (.addi p (fieldAt w 42 5) (fieldAt w 37 5) (fieldAt w 0 32))
  | 0x01 => .ok (.andi p (fieldAt w 42 5) (fieldAt w 37 5) (fieldAt w 0 32))
  | 0x02 => .ok (.ori p (fieldAt w 42 5) (fieldAt w 37 5) (fieldAt w 0 32))
  | 0x03 => .ok (.xori p (fieldAt w 42 5) (fieldAt w 37 5) (fieldAt w 0 32))
  | 0x04 => .ok (.shli p (fieldAt w 42 5) (fieldAt w 37 5) (fieldAt w 0 32))
  | 0x05 => .ok (.shri p (fieldAt w 42 5) (fieldAt w 37 5) (fieldAt w 0 32))
  | 0x06 => .ok (.srai p (fieldAt w 42 5) (fieldAt w 37 5) (fieldAt w 0 32))
  | 0x08 => .ok (.movi p (fieldAt w 42 5) (fieldAt w 0 32))
  | 0x09 => .ok (.movhi p (fieldAt w 42 5) (fieldAt w 0 32))
  | 0x10 => .ok (.ceqi p (fieldAt w 34 3) (fieldAt w 37 5) (fieldAt w 0 32))
  | 0x11 => .ok (.cnei p (fieldAt w 34 3) (fieldAt w 37 5) (fieldAt w 0 32))
  | 0x12 => .ok (.clti p (fieldAt w 34 3) (fieldAt w 37 5) (fieldAt w 0 32))
  | 0x13 => .ok (.clei p (fieldAt w 34 3) (fieldAt w 37 5) (fieldAt w 0 32))
  | 0x14 => .ok (.cltui p (fieldAt w 34 3) (fieldAt w 37 5) (fieldAt w 0 32))
  | 0x15 => .ok (.cleui p (fieldAt w 34 3) (fieldAt w 37 5) (fieldAt w 0 32))
  | o => .error (.reservedOpcode 0x1 o)

/-- Class 0x2 (R109). -/
def decode2 (p : Iss) (w : W64) : Except Illegal Instr :=
  match wordOp w with
  | 0x00 => .ok (.nop p)
  | 0x01 => .ok (.br p (fieldAt w 0 32))
  | 0x02 => .ok (.call p (fieldAt w 42 5) (fieldAt w 0 32))
  | 0x03 => .ok (.jr p (fieldAt w 37 5))
  | 0x04 => .ok (.loop p (fieldAt w 37 5) (fieldAt w 0 32))
  | 0x06 => .ok (.endK p)
  | 0x07 => .ok (.trap p (fieldAt w 0 32))
  | o => .error (.reservedOpcode 0x2 o)

/-- Class 0x3 (R113). -/
def decode3 (p : Iss) (w : W64) : Except Illegal Instr :=
  match wordOp w with
  | 0x00 => .ok (.ldb p (fieldAt w 42 5) (fieldAt w 37 5) (fieldAt w 0 32))
  | 0x01 => .ok (.ldh p (fieldAt w 42 5) (fieldAt w 37 5) (fieldAt w 0 32))
  | 0x02 => .ok (.ldw p (fieldAt w 42 5) (fieldAt w 37 5) (fieldAt w 0 32))
  | 0x03 => .ok (.ldd p (fieldAt w 42 5) (fieldAt w 37 5) (fieldAt w 0 32))
  | 0x04 => .ok (.ldbu p (fieldAt w 42 5) (fieldAt w 37 5) (fieldAt w 0 32))
  | 0x05 => .ok (.ldhu p (fieldAt w 42 5) (fieldAt w 37 5) (fieldAt w 0 32))
  | 0x06 => .ok (.ldwu p (fieldAt w 42 5) (fieldAt w 37 5) (fieldAt w 0 32))
  | 0x08 => .ok (.stb p (fieldAt w 42 5) (fieldAt w 37 5) (fieldAt w 0 32))
  | 0x09 => .ok (.sth p (fieldAt w 42 5) (fieldAt w 37 5) (fieldAt w 0 32))
  | 0x0A => .ok (.stw p (fieldAt w 42 5) (fieldAt w 37 5) (fieldAt w 0 32))
  | 0x0B => .ok (.std p (fieldAt w 42 5) (fieldAt w 37 5) (fieldAt w 0 32))
  | o => .error (.reservedOpcode 0x3 o)

/-- Class 0x4 (R115). -/
def decode4 (p : Iss) (w : W64) : Except Illegal Instr :=
  match wordOp w with
  | 0x00 => .ok (.wld p (w.getLsbD 41) (fieldAt w 36 5) (fieldAt w 31 5) (w.getLsbD 30))
  | 0x01 => .ok (.azero p (fieldAt w 42 4) (w.getLsbD 40) (w.getLsbD 22) (fieldAt w 14 8) (fieldAt w 9 5))
  | 0x02 => .ok (.mma p (mmaOf w))
  | o => .error (.reservedOpcode 0x4 o)

/-- Class 0x5 (R117). -/
def decode5 (p : Iss) (w : W64) : Except Illegal Instr :=
  match wordOp w with
  | 0x00 => .ok (.drain p (fieldAt w 42 4) (fieldAt w 36 5))
  | 0x01 => .ok (.roll p (fieldAt w 42 4) (fieldAt w 36 5) (fieldAt w 32 4) (w.getLsbD 31) (fieldAt w 27 4))
  | 0x02 => .ok (.racc p (fieldAt w 42 4) (fieldAt w 36 5) (w.getLsbD 31) (fieldAt w 27 4))
  | o => .error (.reservedOpcode 0x5 o)

/-- Class 0x6 (R157). -/
def decode6 (p : Iss) (w : W64) : Except Illegal Instr :=
  match wordOp w with
  | 0x00 => .ok (.vadd p (vopOf w))
  | 0x01 => .ok (.vsub p (vopOf w))
  | 0x02 => .ok (.vmul p (vopOf w))
  | 0x03 => .ok (.vfma p (vopOf w))
  | 0x04 => .ok (.vfms p (vopOf w))
  | 0x05 => .ok (.vfnma p (vopOf w))
  | 0x08 => .ok (.vmin p (vopOf w))
  | 0x09 => .ok (.vmax p (vopOf w))
  | 0x0A => .ok (.vabs p (vopOf w))
  | 0x0B => .ok (.vneg p (vopOf w))
  | 0x0C => .ok (.vcpy p (vopOf w))
  | 0x10 => .ok (.vceq p (vopOf w))
  | 0x11 => .ok (.vcne p (vopOf w))
  | 0x12 => .ok (.vclt p (vopOf w))
  | 0x13 => .ok (.vcle p (vopOf w))
  | 0x14 => .ok (.vcnan p (vopOf w))
  | 0x15 => .ok (.vsel p (vopOf w))
  | 0x18 => .ok (.vexp p (vopOf w))
  | 0x19 => .ok (.vrcp p (vopOf w))
  | 0x1A => .ok (.vrsq p (vopOf w))
  | 0x20 => .ok (.vrsum p (vopOf w))
  | 0x21 => .ok (.vrmax p (vopOf w))
  | 0x22 => .ok (.vramax p (vopOf w))
  | 0x24 => .ok (.vcsum p (vopOf w))
  | 0x25 => .ok (.vcmax p (vopOf w))
  | 0x26 => .ok (.vcamax p (vopOf w))
  | o => .error (.reservedOpcode 0x6 o)

/-- Class 0x7 (R160). -/
def decode7 (p : Iss) (w : W64) : Except Illegal Instr :=
  match wordOp w with
  | 0x00 => .ok (.vpop p (fieldAt w 43 4) (fieldAt w 41 2))
  | 0x01 => .ok (.vpopw p (fieldAt w 43 4) (fieldAt w 41 2))
  | 0x04 => .ok (.vld p (vmemOf w))
  | 0x05 => .ok (.vst p (vmemOf w))
  | 0x06 => .ok (.vldw p (vmemOf w))
  | 0x07 => .ok (.vstw p (vmemOf w))
  | 0x08 => .ok (.vbld p (fieldAt w 43 4) (fieldAt w 36 5))
  | 0x09 => .ok (.vbst p (fieldAt w 43 4) (fieldAt w 36 5))
  | 0x0A => .ok (.vbrow p (fieldAt w 43 4) (fieldAt w 39 4) (fieldAt w 25 6))
  | 0x0B => .ok (.vbcol p (fieldAt w 43 4) (fieldAt w 39 4) (fieldAt w 14 8))
  | 0x0C => .ok (.vrvset p (fieldAt w 43 4) (fieldAt w 36 5))
  | 0x0D => .ok (.vrvget p (fieldAt w 43 4) (fieldAt w 31 5))
  | 0x10 => .ok (.vsig p (fieldAt w 41 6) (fieldAt w 16 16))
  | o => .error (.reservedOpcode 0x7 o)

/-- Class 0x8 (R161). VTLYC reads no row, so its command holds no row range: a range past row 63 is refused here. -/
def decode8 (p : Iss) (w : W64) : Except Illegal Instr :=
  match wordOp w with
  | 0x00 => .ok (.vrng p (vmemOf w))
  | 0x01 => .ok (.vdrop p (vmemOf w) (fieldAt w 39 4) (fieldAt w 14 5))
  | 0x04 => .ok (.vtopk p (fieldAt w 43 4) (fieldAt w 39 4) (fieldAt w 25 6) (fieldAt w 19 6) (fieldAt w 11 8) (fieldAt w 8 3))
  | 0x08 => .ok (.vmom p (fieldAt w 43 4) (fieldAt w 39 4) (fieldAt w 35 4) (fieldAt w 25 6) (fieldAt w 19 6) (fieldAt w 14 5))
  | 0x09 => .ok (.vupd p (fieldAt w 43 4) (fieldAt w 39 4) (fieldAt w 35 4) (fieldAt w 31 4) (fieldAt w 25 6) (fieldAt w 19 6) (fieldAt w 14 5))
  | 0x0C => .ok (.vtly p (fieldAt w 39 4) (fieldAt w 25 6) (fieldAt w 19 6) (fieldAt w 14 5))
  | 0x0D =>
    if 63 < (fieldAt w 25 6).toNat + (fieldAt w 19 6).toNat then .error (.rowRange 0x8 0x0D)
    else .ok (.vtlyc p (fieldAt w 14 5) (fieldAt w 4 5))
  | o => .error (.reservedOpcode 0x8 o)

/-- Class 0x9 (R120). -/
def decode9 (p : Iss) (w : W64) : Except Illegal Instr :=
  match wordOp w with
  | 0x00 => .ok (.dmov p (shOf w))
  | 0x01 => .ok (.dgath p (shOf w))
  | 0x02 => .ok (.dscat p (shOf w))
  | 0x03 => .ok (.drel p (shOf w))
  | o => .error (.reservedOpcode 0x9 o)

/-- Class 0xA (R131). -/
def decodeA (p : Iss) (w : W64) : Except Illegal Instr :=
  match wordOp w with
  | 0x00 => .ok (.semsig p (fieldAt w 41 6) (fieldAt w 36 5) (fieldAt w 16 16) (w.getLsbD 15))
  | 0x01 => .ok (.semwait p (fieldAt w 41 6) (fieldAt w 16 16))
  | 0x02 => .ok (.semset p (fieldAt w 41 6) (fieldAt w 16 16))
  | 0x03 => .ok (.semrd p (fieldAt w 41 6) (fieldAt w 31 5))
  | 0x08 => .ok (.fence p (fieldAt w 0 6))
  | 0x10 => .ok (.curtwait p (fieldAt w 31 5))
  | 0x18 => .ok (.belw p (fieldAt w 36 5) (fieldAt w 32 3))
  | 0x19 => .ok (.belr p (fieldAt w 31 5) (fieldAt w 32 3))
  | 0x1A => .ok (.belt p (fieldAt w 32 3) (w.getLsbD 0))
  | o => .error (.reservedOpcode 0xA o)

/-- The instruction a word at Stage `stage` spells (R99, R101). -/
def decodeKernel (stage : Nat) (w : W64) : Except Illegal Instr :=
  let p := wordIss stage w
  match wordClass w with
  | 0x0 => decode0 p w
  | 0x1 => decode1 p w
  | 0x2 => decode2 p w
  | 0x3 => decode3 p w
  | 0x4 => decode4 p w
  | 0x5 => decode5 p w
  | 0x6 => decode6 p w
  | 0x7 => decode7 p w
  | 0x8 => decode8 p w
  | 0x9 => decode9 p w
  | 0xA => decodeA p w
  | c => .error (.reservedClass c)

/-- The word of a Prompter instruction, reserved bits zero; none for a command that is no instruction. -/
def encodeKernel : Instr → Option W64
  | .add p rd ra rb => some (head 0x0 0x00 p ||| put 42 rd ||| put 37 ra ||| put 32 rb)
  | .sub p rd ra rb => some (head 0x0 0x01 p ||| put 42 rd ||| put 37 ra ||| put 32 rb)
  | .mul p rd ra rb => some (head 0x0 0x02 p ||| put 42 rd ||| put 37 ra ||| put 32 rb)
  | .mulh p rd ra rb => some (head 0x0 0x03 p ||| put 42 rd ||| put 37 ra ||| put 32 rb)
  | .mulhu p rd ra rb => some (head 0x0 0x04 p ||| put 42 rd ||| put 37 ra ||| put 32 rb)
  | .divu p rd ra rb => some (head 0x0 0x05 p ||| put 42 rd ||| put 37 ra ||| put 32 rb)
  | .remu p rd ra rb => some (head 0x0 0x06 p ||| put 42 rd ||| put 37 ra ||| put 32 rb)
  | .div p rd ra rb => some (head 0x0 0x07 p ||| put 42 rd ||| put 37 ra ||| put 32 rb)
  | .rem p rd ra rb => some (head 0x0 0x08 p ||| put 42 rd ||| put 37 ra ||| put 32 rb)
  | .shl p rd ra rb => some (head 0x0 0x13 p ||| put 42 rd ||| put 37 ra ||| put 32 rb)
  | .shr p rd ra rb => some (head 0x0 0x14 p ||| put 42 rd ||| put 37 ra ||| put 32 rb)
  | .sra p rd ra rb => some (head 0x0 0x15 p ||| put 42 rd ||| put 37 ra ||| put 32 rb)
  | .min p rd ra rb => some (head 0x0 0x18 p ||| put 42 rd ||| put 37 ra ||| put 32 rb)
  | .max p rd ra rb => some (head 0x0 0x19 p ||| put 42 rd ||| put 37 ra ||| put 32 rb)
  | .minu p rd ra rb => some (head 0x0 0x1A p ||| put 42 rd ||| put 37 ra ||| put 32 rb)
  | .maxu p rd ra rb => some (head 0x0 0x1B p ||| put 42 rd ||| put 37 ra ||| put 32 rb)
  | .and p rd ra rb => some (head 0x0 0x10 p ||| put 42 rd ||| put 37 ra ||| put 32 rb)
  | .or p rd ra rb => some (head 0x0 0x11 p ||| put 42 rd ||| put 37 ra ||| put 32 rb)
  | .xor p rd ra rb => some (head 0x0 0x12 p ||| put 42 rd ||| put 37 ra ||| put 32 rb)
  | .clz p rd ra => some (head 0x0 0x16 p ||| put 42 rd ||| put 37 ra)
  | .popc p rd ra => some (head 0x0 0x17 p ||| put 42 rd ||| put 37 ra)
  | .sel p rd ra rb pa => some (head 0x0 0x1C p ||| put 42 rd ||| put 37 ra ||| put 32 rb ||| put 26 pa)
  | .ceq p pd ra rb => some (head 0x0 0x20 p ||| put 29 pd ||| put 37 ra ||| put 32 rb)
  | .cne p pd ra rb => some (head 0x0 0x21 p ||| put 29 pd ||| put 37 ra ||| put 32 rb)
  | .clt p pd ra rb => some (head 0x0 0x22 p ||| put 29 pd ||| put 37 ra ||| put 32 rb)
  | .cle p pd ra rb => some (head 0x0 0x23 p ||| put 29 pd ||| put 37 ra ||| put 32 rb)
  | .cltu p pd ra rb => some (head 0x0 0x24 p ||| put 29 pd ||| put 37 ra ||| put 32 rb)
  | .cleu p pd ra rb => some (head 0x0 0x25 p ||| put 29 pd ||| put 37 ra ||| put 32 rb)
  | .pand p pd pa pb => some (head 0x0 0x30 p ||| put 29 pd ||| put 26 pa ||| put 23 pb)
  | .por p pd pa pb => some (head 0x0 0x31 p ||| put 29 pd ||| put 26 pa ||| put 23 pb)
  | .pxor p pd pa pb => some (head 0x0 0x32 p ||| put 29 pd ||| put 26 pa ||| put 23 pb)
  | .pnot p pd pa => some (head 0x0 0x33 p ||| put 29 pd ||| put 26 pa)
  | .prd p rd => some (head 0x0 0x34 p ||| put 42 rd)
  | .pwr p ra => some (head 0x0 0x35 p ||| put 37 ra)
  | .rdspec p rd spec => some (head 0x0 0x38 p ||| put 42 rd ||| put 15 spec)
  | .addi p rd ra imm => some (head 0x1 0x00 p ||| put 42 rd ||| put 37 ra ||| put 0 imm)
  | .andi p rd ra imm => some (head 0x1 0x01 p ||| put 42 rd ||| put 37 ra ||| put 0 imm)
  | .ori p rd ra imm => some (head 0x1 0x02 p ||| put 42 rd ||| put 37 ra ||| put 0 imm)
  | .xori p rd ra imm => some (head 0x1 0x03 p ||| put 42 rd ||| put 37 ra ||| put 0 imm)
  | .shli p rd ra imm => some (head 0x1 0x04 p ||| put 42 rd ||| put 37 ra ||| put 0 imm)
  | .shri p rd ra imm => some (head 0x1 0x05 p ||| put 42 rd ||| put 37 ra ||| put 0 imm)
  | .srai p rd ra imm => some (head 0x1 0x06 p ||| put 42 rd ||| put 37 ra ||| put 0 imm)
  | .movi p rd imm => some (head 0x1 0x08 p ||| put 42 rd ||| put 0 imm)
  | .movhi p rd imm => some (head 0x1 0x09 p ||| put 42 rd ||| put 0 imm)
  | .ceqi p pd ra imm => some (head 0x1 0x10 p ||| put 34 pd ||| put 37 ra ||| put 0 imm)
  | .cnei p pd ra imm => some (head 0x1 0x11 p ||| put 34 pd ||| put 37 ra ||| put 0 imm)
  | .clti p pd ra imm => some (head 0x1 0x12 p ||| put 34 pd ||| put 37 ra ||| put 0 imm)
  | .clei p pd ra imm => some (head 0x1 0x13 p ||| put 34 pd ||| put 37 ra ||| put 0 imm)
  | .cltui p pd ra imm => some (head 0x1 0x14 p ||| put 34 pd ||| put 37 ra ||| put 0 imm)
  | .cleui p pd ra imm => some (head 0x1 0x15 p ||| put 34 pd ||| put 37 ra ||| put 0 imm)
  | .nop p => some (head 0x2 0x00 p)
  | .br p off => some (head 0x2 0x01 p ||| put 0 off)
  | .call p rd off => some (head 0x2 0x02 p ||| put 42 rd ||| put 0 off)
  | .jr p ra => some (head 0x2 0x03 p ||| put 37 ra)
  | .loop p ra off => some (head 0x2 0x04 p ||| put 37 ra ||| put 0 off)
  | .endK p => some (head 0x2 0x06 p)
  | .trap p off => some (head 0x2 0x07 p ||| put 0 off)
  | .ldb p rd ra off => some (head 0x3 0x00 p ||| put 42 rd ||| put 37 ra ||| put 0 off)
  | .ldh p rd ra off => some (head 0x3 0x01 p ||| put 42 rd ||| put 37 ra ||| put 0 off)
  | .ldw p rd ra off => some (head 0x3 0x02 p ||| put 42 rd ||| put 37 ra ||| put 0 off)
  | .ldd p rd ra off => some (head 0x3 0x03 p ||| put 42 rd ||| put 37 ra ||| put 0 off)
  | .ldbu p rd ra off => some (head 0x3 0x04 p ||| put 42 rd ||| put 37 ra ||| put 0 off)
  | .ldhu p rd ra off => some (head 0x3 0x05 p ||| put 42 rd ||| put 37 ra ||| put 0 off)
  | .ldwu p rd ra off => some (head 0x3 0x06 p ||| put 42 rd ||| put 37 ra ||| put 0 off)
  | .stb p rd ra off => some (head 0x3 0x08 p ||| put 42 rd ||| put 37 ra ||| put 0 off)
  | .sth p rd ra off => some (head 0x3 0x09 p ||| put 42 rd ||| put 37 ra ||| put 0 off)
  | .stw p rd ra off => some (head 0x3 0x0A p ||| put 42 rd ||| put 37 ra ||| put 0 off)
  | .std p rd ra off => some (head 0x3 0x0B p ||| put 42 rd ||| put 37 ra ||| put 0 off)
  | .wld p wt tile scl spk => some (head 0x4 0x00 p ||| putBit 41 wt ||| put 36 tile ||| put 31 scl ||| putBit 30 spk)
  | .azero p slot wide mreg mimm mr => some (head 0x4 0x01 p ||| put 42 slot ||| putBit 40 wide ||| putBit 22 mreg ||| put 14 mimm ||| put 9 mr)
  | .mma p o => some (head 0x4 0x02 p ||| mmaBits o)
  | .drain p slot desc => some (head 0x5 0x00 p ||| put 42 slot ||| put 36 desc)
  | .roll p slot hnd dslot xdev amask => some (head 0x5 0x01 p ||| put 42 slot ||| put 36 hnd ||| put 32 dslot ||| putBit 31 xdev ||| put 27 amask)
  | .racc p slot hnd xdev amask => some (head 0x5 0x02 p ||| put 42 slot ||| put 36 hnd ||| putBit 31 xdev ||| put 27 amask)
  | .vadd p o => some (head 0x6 0x00 p ||| vopBits o)
  | .vsub p o => some (head 0x6 0x01 p ||| vopBits o)
  | .vmul p o => some (head 0x6 0x02 p ||| vopBits o)
  | .vfma p o => some (head 0x6 0x03 p ||| vopBits o)
  | .vfms p o => some (head 0x6 0x04 p ||| vopBits o)
  | .vfnma p o => some (head 0x6 0x05 p ||| vopBits o)
  | .vmin p o => some (head 0x6 0x08 p ||| vopBits o)
  | .vmax p o => some (head 0x6 0x09 p ||| vopBits o)
  | .vabs p o => some (head 0x6 0x0A p ||| vopBits o)
  | .vneg p o => some (head 0x6 0x0B p ||| vopBits o)
  | .vcpy p o => some (head 0x6 0x0C p ||| vopBits o)
  | .vceq p o => some (head 0x6 0x10 p ||| vopBits o)
  | .vcne p o => some (head 0x6 0x11 p ||| vopBits o)
  | .vclt p o => some (head 0x6 0x12 p ||| vopBits o)
  | .vcle p o => some (head 0x6 0x13 p ||| vopBits o)
  | .vcnan p o => some (head 0x6 0x14 p ||| vopBits o)
  | .vsel p o => some (head 0x6 0x15 p ||| vopBits o)
  | .vexp p o => some (head 0x6 0x18 p ||| vopBits o)
  | .vrcp p o => some (head 0x6 0x19 p ||| vopBits o)
  | .vrsq p o => some (head 0x6 0x1A p ||| vopBits o)
  | .vrsum p o => some (head 0x6 0x20 p ||| vopBits o)
  | .vrmax p o => some (head 0x6 0x21 p ||| vopBits o)
  | .vramax p o => some (head 0x6 0x22 p ||| vopBits o)
  | .vcsum p o => some (head 0x6 0x24 p ||| vopBits o)
  | .vcmax p o => some (head 0x6 0x25 p ||| vopBits o)
  | .vcamax p o => some (head 0x6 0x26 p ||| vopBits o)
  | .vpop p vd blk => some (head 0x7 0x00 p ||| put 43 vd ||| put 41 blk)
  | .vpopw p vd blk => some (head 0x7 0x01 p ||| put 43 vd ||| put 41 blk)
  | .vld p o => some (head 0x7 0x04 p ||| vmemBits o)
  | .vst p o => some (head 0x7 0x05 p ||| vmemBits o)
  | .vldw p o => some (head 0x7 0x06 p ||| vmemBits o)
  | .vstw p o => some (head 0x7 0x07 p ||| vmemBits o)
  | .vbld p b ra => some (head 0x7 0x08 p ||| put 43 b ||| put 36 ra)
  | .vbst p b ra => some (head 0x7 0x09 p ||| put 43 b ||| put 36 ra)
  | .vbrow p b sa row => some (head 0x7 0x0A p ||| put 43 b ||| put 39 sa ||| put 25 row)
  | .vbcol p b sa col => some (head 0x7 0x0B p ||| put 43 b ||| put 39 sa ||| put 14 col)
  | .vrvset p vd ra => some (head 0x7 0x0C p ||| put 43 vd ||| put 36 ra)
  | .vrvget p va rd => some (head 0x7 0x0D p ||| put 43 va ||| put 31 rd)
  | .vsig p sem val => some (head 0x7 0x10 p ||| put 41 sem ||| put 16 val)
  | .vrng p o => some (head 0x8 0x00 p ||| vmemBits o)
  | .vdrop p o sa sr => some (head 0x8 0x01 p ||| vmemBits o ||| put 39 sa ||| put 14 sr)
  | .vtopk p vd sa row0 nr ncol kk => some (head 0x8 0x04 p ||| put 43 vd ||| put 39 sa ||| put 25 row0 ||| put 19 nr ||| put 11 ncol ||| put 8 kk)
  | .vmom p vm vg vv row0 nr sr => some (head 0x8 0x08 p ||| put 43 vm ||| put 39 vg ||| put 35 vv ||| put 25 row0 ||| put 19 nr ||| put 14 sr)
  | .vupd p vw vm vv vg row0 nr sr => some (head 0x8 0x09 p ||| put 43 vw ||| put 39 vm ||| put 35 vv ||| put 31 vg ||| put 25 row0 ||| put 19 nr ||| put 14 sr)
  | .vtly p sa row0 nr sr => some (head 0x8 0x0C p ||| put 39 sa ||| put 25 row0 ||| put 19 nr ||| put 14 sr)
  | .vtlyc p sr rc => some (head 0x8 0x0D p ||| put 14 sr ||| put 4 rc)
  | .dmov p o => some (head 0x9 0x00 p ||| shBits o)
  | .dgath p o => some (head 0x9 0x01 p ||| shBits o)
  | .dscat p o => some (head 0x9 0x02 p ||| shBits o)
  | .drel p o => some (head 0x9 0x03 p ||| shBits o)
  | .semsig p sem ra val remote => some (head 0xA 0x00 p ||| put 41 sem ||| put 36 ra ||| put 16 val ||| putBit 15 remote)
  | .semwait p sem val => some (head 0xA 0x01 p ||| put 41 sem ||| put 16 val)
  | .semset p sem val => some (head 0xA 0x02 p ||| put 41 sem ||| put 16 val)
  | .semrd p sem rd => some (head 0xA 0x03 p ||| put 41 sem ||| put 31 rd)
  | .fence p mask => some (head 0xA 0x08 p ||| put 0 mask)
  | .curtwait p rd => some (head 0xA 0x10 p ||| put 31 rd)
  | .belw p ra pd => some (head 0xA 0x18 p ||| put 36 ra ||| put 32 pd)
  | .belr p rd pd => some (head 0xA 0x19 p ||| put 31 rd ||| put 32 pd)
  | .belt p pd dir => some (head 0xA 0x1A p ||| put 32 pd ||| putBit 0 dir)
  | _ => none

end Sys2Proof
end

