-- ==== Sys2Proof/Config.lean ====
section
/-! DEFINITION. What the part fixes and the spec leaves open: free values (opaque constants, no body) and the named
values of fuses and of quantities that hardware sets during boot (log entries 6 and 7). -/

namespace Sys2Proof.Config

/-- FREE VALUE (log entry 10). The bits an approximation returns for an input, before the bound of R158 is imposed:
operation 0 is VEXP, 1 VRCP, 2 VRSQ. -/
opaque approxBits : Nat → W32 → W32

/-- FREE VALUE (log entry 11). Whether an image's digest matches, its signature verifies and its key's hash stands in the fuses with
a clear revocation fuse (R508, R509): argument the image, header first. -/
opaque signatureOk : List Byte → Bool

/-- FREE VALUE (log entry 11). VERSION and FLOOR of an image's header, whose layout the spec does not give (R508). -/
opaque imageVersion : List Byte → W64
opaque imageRaise : List Byte → Bool

/-- FREE VALUE (log entry 12). The result bits the spec leaves open at a point counted by `State.freeCtr`. -/
opaque freeWord : Nat → W64

/-- FREE VALUE (log entry 12). The data bits a read of a double-bit error would give before poison is stored. -/
opaque freeByte : Nat → Byte

/-- FREE VALUE (log entry 12). Whether the copy of a channel retirement in progress has passed a granule, and whether it holds a line
at this moment (R208, R222): arguments `State.freeCtr` and the granule. -/
opaque copyPassed : Nat → Nat → Bool
opaque copyHolds : Nat → Nat → Bool

/-- FREE VALUE (log entry 10). Whether at this moment a vector load or store of a Stage waits for an Apron port (0), or a row is held for an
instruction that has not written yet (1; R191): arguments `State.freeCtr`, the Stage and which of the two. -/
opaque snrWaits : Nat → Nat → Nat → Bool

/-- Byte `j` of the object that a data map names (R261, log entry 28). -/
opaque objectByte : W64 → Nat → Byte

/-- Whether by draw `n` the host has submitted a further micro-batch to a fill context (R293, log entry 15). -/
opaque hostSubmits : Nat → Nat → Bool

/-- FREE VALUE (log entry 12). The DRAM bank of a row in a pseudo-channel (R219: not architectural), which bounds hard repairs (R236). -/
opaque bankOf : Nat → Nat → Nat

/-- FREE VALUE (log entry 12). The phase code that events 0x0001 to 0x0003 carry for a phase outside the boot (R21): 0-4 the
phases of a Recast, 5 a self-test, 6 a calibration. -/
opaque phaseCode : Nat → W64

/-- Fuse, DESIGN CHOICE (log entry 6): Stage n is fused on when its place in its field is below 32 (32 of 36 per field,
R22; which ones the spec leaves to the part). -/
def stageFused (n : Nat) : Bool := decide (n < 144 ∧ n % 36 < 32)

/-- Fuse, DESIGN CHOICE (log entry 6): lot sequence, wafer, die column and row of IDN_WAFER (R516, R517). -/
def lotSeq : Nat := 1
def wafer : Nat := 1
def dieX : Nat := 0
def dieY : Nat := 0

/-- Fuse, DESIGN CHOICE (log entry 6): speed bin of every field 0, "passes 1,800 MHz" (R517). -/
def fieldMap : Nat := 0

/-- Fuse, DESIGN CHOICE (log entry 6): PCI vendor identity, lot code, JTAG manufacturer code, SVN floor, MAC addresses. -/
def pciVendor : Nat := 0
def lotCode : Nat := 0
def jtagManufacturer : Nat := 0
def svnFloor : Nat := 0
def ethMac (_e : Nat) : Nat := 0

/-- The BM960 has 12 stacks (R2, CAP_STACKS); R6 and R217 also describe parts with 8. -/
def stackCount : Nat := 12

/-- Set by hardware during boot, DESIGN CHOICE (log entry 7): temperatures, rail readings and CCLK at power-on. -/
def bootTemp : Nat := 0
def bootRailMv (_r : Nat) : Nat := 0
def bootCclkMhz : Nat := 1500
def bootVddMv : Nat := 750

/-- R2, R518: CAP_UNITS without the debug fuse, CAP_STAGES, CAP_STACKS, CAP_LINKS, CAP_FORMATS of the BM960. -/
def capUnits : Nat := 0x7
def capStages : Nat := 0x2020202080
def capStacks : Nat := 0x4800FFF
def capLinks : Nat := 0x00FFFFFF
def capFormats : Nat := 0x1FFF

end Sys2Proof.Config
end

