-- ==== Sys2Proof/Machine/Map.lean ====
section
/-! DEFINITION. The one operation set over sparse data (registers, memories, buffers): read, write, canonical form. -/

namespace Sys2Proof.Machine

/-- What key `k` reads as: its entry, or the default `d`. -/
def mget {α : Type} (d : α) : SMap α → Nat → α
  | [], _ => d
  | (j, v) :: t, k => if j = k then v else mget d t k

/-- Key `k` set to `v`, keeping the canonical form: writing the default removes the entry. -/
def mset {α : Type} [DecidableEq α] (d : α) : SMap α → Nat → α → SMap α
  | [], k, v => if v = d then [] else [(k, v)]
  | (j, w) :: t, k, v =>
    if k < j then (if v = d then (j, w) :: t else (k, v) :: (j, w) :: t)
    else if k = j then (if v = d then t else (k, v) :: t)
    else (j, w) :: mset d t k v

/-- The canonical form above a lower bound: every key at least `lo`, keys strictly rising, no default value listed. -/
def mwfFrom {α : Type} [DecidableEq α] (d : α) : Nat → SMap α → Bool
  | _, [] => true
  | lo, (j, v) :: t => decide (lo ≤ j) && decide (v ≠ d) && mwfFrom d (j + 1) t

/-- The canonical form. -/
def mwf {α : Type} [DecidableEq α] (d : α) (m : SMap α) : Bool := mwfFrom d 0 m

/-- A run of consecutive keys read in ascending order. -/
def mgetRun {α : Type} (d : α) (m : SMap α) (k : Nat) : Nat → List α
  | 0 => []
  | n + 1 => mget d m k :: mgetRun d m (k + 1) n

/-- The entries a list of consecutive values gives from key `k` on: defaults are not listed. -/
def mlist {α : Type} [DecidableEq α] (d : α) (k : Nat) : List α → SMap α
  | [] => []
  | v :: vs => if v = d then mlist d (k + 1) vs else (k, v) :: mlist d (k + 1) vs

/-- A run of consecutive keys written in ascending order. -/
def msetRun {α : Type} [DecidableEq α] (d : α) (m : SMap α) (k : Nat) (vs : List α) : SMap α :=
  m.filter (fun e => decide (e.1 < k)) ++ mlist d k vs ++ m.filter (fun e => decide (k + vs.length ≤ e.1))

/-- The values of the keys from `k` on, walking a canonical list once. -/
def mwalk {α : Type} (d : α) : Nat → Nat → SMap α → List α
  | 0, _, _ => []
  | n + 1, k, [] => d :: mwalk d n (k + 1) []
  | n + 1, k, (j, v) :: t => if j = k then v :: mwalk d n (k + 1) t else d :: mwalk d n (k + 1) ((j, v) :: t)

/-- Keys of a run set to the default, one after another. -/
def mclearRun {α : Type} [DecidableEq α] (d : α) (m : SMap α) (k : Nat) : Nat → SMap α
  | 0 => m
  | n + 1 => mclearRun d (mset d m k d) (k + 1) n

/-- Every entry whose key lies in [lo, hi) dropped: the keys read as the default. -/
def mdrop {α : Type} (m : SMap α) (lo hi : Nat) : SMap α :=
  m.filter (fun kv => decide (kv.1 < lo ∨ hi ≤ kv.1))

end Sys2Proof.Machine
end

