-- ==== Sys2Proof/Machine/RegTable.lean ====
section
/-! DEFINITION. Every control register of BAR0 as the spec's field tables give it: offset, count, stride and the fields
with their access codes and reset values (R5-R12; the window lists R246, R325, R390, R448, R515, R561 and the field tables of 03-13). -/

namespace Sys2Proof.Machine

/-- The access codes of R9 (no field of the manual's tables is RWS). -/
inductive Acc where
  | ro | rw | wo | w1c | rc
  deriving DecidableEq, Repr

/-- One field of a register: bits [hi:lo], access, reset value (0 where the table says "fuse" or "hw": `regReset` gives
those). -/
structure RegField where
  hi : Nat
  lo : Nat
  acc : Acc
  reset : Nat
  deriving DecidableEq, Repr

/-- A register or array of registers: BAR0 offset of instance 0, count, stride, fields. -/
structure RegDesc where
  base : Nat
  count : Nat
  stride : Nat
  fields : List RegField
  deriving DecidableEq, Repr

/-- The control registers by name (the spec's names in lower camel case; BEL_OVR in its four parts). -/
inductive Reg where
  | pciBar2Base | pciLink | bthPinCfg | bthGpio | bthCmdStatus | bthEvqBase | bthEvqCfg | bthEvqHead
  | bthEvqTail | bthEvqDrop | bthEvtSeq | bthSlotCfg | bthSqBase | bthCqBase | bthCqIrq | bthSlotStatus
  | bthDb | bthCqTail | belH2fData | belF2hData | belH2fFull | belF2hFull | belP2fFull | belF2pFull
  | belLoFull | belLiFull | belOvrHost | belOvrP2f | belOvrF2p | belOvrLo | smgStatus | smgStages
  | smgBlockGen | smgCfg | smgStrag | smgStragState | smgTqSel | smgTqLoc | smgCue | smgStage
  | smgCtx | smgGatherStall | smgLeadWait | smgFillTime | smgPreempt | smgFillOverrun | smgSwap | smgSwapMax
  | smgIdle | smgPipeUp | smgPipeDown | wngPart | wngEcc | wngUeAddr | wngScrub | wngSeq
  | wngHit | wngMiss | wngWriteback | wngRedApplied | wngRedHeld | wngRedRefused | wngRedDup | hbmStack
  | hbmCapacity | hbmRepairCfg | hbmScrub | hbmLeadGuar | hbmInterleave | hbmRegRd | hbmRegWr | hbmRegSys
  | hbmRemap | hbmEcc | hbmRdBytes | hbmWrBytes | lnkCfg | lnkThresh | lnkRoster | lnkRosterVer
  | lnkCall | lnkCurtain | lnkVcCred | lnkPort | lnkPartner | lnkLane | lnkOptics | lnkFecCorr
  | lnkFecUncorr | lnkReplay | lnkHbMiss | lnkTxBytes | lnkRxBytes | lnkVcStall | lnkE2eRetx | lnkDiscard
  | lnkFailover | ethPort | ethPortMac | ethPortIp | ethTxBytes | ethRxBytes | ethFecUncorr | ethRetx
  | ethEpCfg | ethEpMac | ethEpIphi | ethEpIplo | ethEpStatus | pwrStatus | pwrLimit | pwrTemp
  | pwrRail | pwrThrSteps | pwrThrNs | pwrDroop | pwrEnergy | clkCclk | clkCclkRange | clkTime
  | clkTimeCfg | clkTimeSet | clkTimeStatus | clkPllStatus | idnPart | idnStepping | idnDevid | idnLot
  | idnWafer | idnStageFuse | idnState | idnFwRun | idnFwStaged | idnFwPrev | idnSvnFloor | idnStackSerial
  | capUnits | capStages | capStacks | capLinks | capFormats | tlyStatus | tlyCtrl | tlyRingBase
  | tlyRingSize | tlyRingHead | tlyRingTail | tlyRingDrop | tlyStep | tlyScale | tlyOvf | tlySumsq
  | tlyAmax | pbkStatus | pbkPolicy | pbkSaveCfg | pbkSaveState | pbkScrub | pbkTmo | pbkPartners
  | pbkPgroup | pbkRecastLast | pbkRecastPhase | pbkRecasts | pbkDouble | pbkShardRetry | pbkShardDeclare | pbkScrubMismatch
  | pbkTeeBytes | pbkDeltaBytes | pbkLogBytes | pbkSaveBytes | pbkCowStall | stgPrmStatus | stgPrmPc | stgFault
  | stgFaultPc | stgFaultInfo | stgPrmRegion | stgPrmRetired | stgPrmStallQ | stgPrmStallSync | stgMxaStatus | stgMxaEcc
  | stgMxaRows | stgMxaBusy | stgMxaStallWld | stgMxaStallDep | stgMxaStallSlot | stgMxaStallQfull | stgMxaStallBank | stgSnrStatus
  | stgSnrEcc | stgSnrRows | stgSnrBusy | stgSnrStallPop | stgSnrStallDep | stgSnrStallApr | stgAprEcc | stgAprUeAddr
  deriving DecidableEq, Repr

/-- Shorthand of the table below. -/
def rf (hi lo : Nat) (a : Acc) (r : Nat := 0) : RegField := ⟨hi, lo, a, r⟩

/-- A register of one 64-bit counter field (R93). -/
def cnt : List RegField := [rf 63 0 .ro]

/-- The field tables. Each line names its rule. -/
def Reg.desc : Reg → RegDesc
  | .pciBar2Base => ⟨0x8000, 1, 8, [rf 47 30 .rw]⟩  -- R245: BASE
  | .pciLink => ⟨0x8008, 1, 8, [rf 2 0 .ro, rf 7 3 .ro, rf 8 8 .ro, rf 31 16 .ro]⟩  -- R555: SPEED WIDTH FLIT DOWNS
  | .bthPinCfg => ⟨0x9000, 1, 8, [rf 0 0 .rw, rf 8 1 .rw 10, rf 10 9 .ro]⟩  -- R553: CS_EN CS_WIDTH SMB_ADDR
  | .bthGpio => ⟨0x9008, 1, 8, [rf 7 0 .rw, rf 15 8 .rw, rf 23 16 .ro]⟩  -- R553: OUT OE IN
  -- R496: TAKING QUIESCED STAGED STAGED_N
  | .bthCmdStatus => ⟨0x1000, 1, 8,
    [rf 0 0 .ro, rf 1 1 .ro, rf 2 2 .ro, rf 11 3 .ro]⟩
  | .bthEvqBase => ⟨0x1008, 1, 8, [rf 63 12 .rw]⟩  -- R496: BASE
  | .bthEvqCfg => ⟨0x1010, 1, 8, [rf 0 0 .rw, rf 2 1 .rw, rf 7 3 .rw 6]⟩  -- R496: EN MIN_SEV LOG2
  | .bthEvqHead => ⟨0x1018, 1, 8, [rf 15 0 .ro]⟩  -- R496: HEAD
  | .bthEvqTail => ⟨0x1020, 1, 8, [rf 15 0 .rw]⟩  -- R496: TAIL
  | .bthEvqDrop => ⟨0x1028, 1, 8, [rf 31 0 .rc]⟩  -- R496: COUNT
  | .bthEvtSeq => ⟨0x1030, 1, 8, [rf 63 0 .ro 1]⟩  -- R496: NEXT
  -- R497: EN SQ_LOG2 − 6 CQ_LOG2 − 8 CLASSES CTX_MASK
  | .bthSlotCfg => ⟨0x2000, 64, 64,
    [rf 0 0 .rw, rf 4 1 .rw, rf 8 5 .rw, rf 24 16 .rw 511, rf 47 32 .rw 65535]⟩
  | .bthSqBase => ⟨0x2008, 64, 64, [rf 63 12 .rw]⟩  -- R497: BASE
  | .bthCqBase => ⟨0x2010, 64, 64, [rf 63 12 .rw]⟩  -- R497: BASE
  | .bthCqIrq => ⟨0x2018, 64, 64, [rf 0 0 .rw, rf 8 1 .rw 1, rf 23 9 .rw]⟩  -- R497: EN COAL_N COAL_US
  -- R497: SQ_TAIL CQ_HEAD INFLIGHT ERR
  | .bthSlotStatus => ⟨0x2020, 64, 64,
    [rf 15 0 .ro, rf 31 16 .ro, rf 38 32 .ro, rf 40 39 .ro]⟩
  | .bthDb => ⟨0x40000, 64, 4096, [rf 15 0 .wo]⟩  -- R497: HEAD
  | .bthCqTail => ⟨0x40008, 64, 4096, [rf 15 0 .rw]⟩  -- R497: TAIL
  | .belH2fData => ⟨0x100000, 16, 8, [rf 63 0 .rw]⟩  -- R499: WORD
  | .belF2hData => ⟨0x100080, 16, 8, [rf 63 0 .rc]⟩  -- R499: WORD
  | .belH2fFull => ⟨0x100100, 1, 8, [rf 15 0 .ro]⟩  -- R499: FULL
  | .belF2hFull => ⟨0x100108, 1, 8, [rf 15 0 .ro]⟩  -- R499: FULL
  | .belP2fFull => ⟨0x100200, 3, 8, [rf 63 0 .ro]⟩  -- R499: FULL
  | .belF2pFull => ⟨0x100220, 3, 8, [rf 63 0 .ro]⟩  -- R499: FULL
  | .belLoFull => ⟨0x100240, 2, 8, [rf 63 0 .ro]⟩  -- R499: FULL
  | .belLiFull => ⟨0x100250, 2, 8, [rf 63 0 .ro]⟩  -- R499: FULL
  | .belOvrHost => ⟨0x100300, 1, 8, [rf 15 0 .w1c, rf 31 16 .w1c]⟩  -- R499: H2F F2H
  | .belOvrP2f => ⟨0x100308, 3, 8, [rf 63 0 .w1c]⟩  -- R499: P2F
  | .belOvrF2p => ⟨0x100320, 3, 8, [rf 63 0 .w1c]⟩  -- R499: F2P
  | .belOvrLo => ⟨0x100338, 2, 8, [rf 63 0 .w1c]⟩  -- R499: LO
  -- R326: LEAD_REG LEAD_SUSP FILL_RES REGISTERED SWAP_BUSY STAGED HANDOVER
  | .smgStatus => ⟨0x200000, 1, 8,
    [rf 0 0 .ro, rf 1 1 .ro, rf 3 2 .ro, rf 8 4 .ro, rf 9 9 .ro, rf 10 10 .ro, rf 11 11 .ro]⟩
  -- R327: AVAILABLE RETIRED TESTING FILL_HELD
  | .smgStages => ⟨0x200008, 1, 8,
    [rf 7 0 .ro, rf 15 8 .ro, rf 16 16 .ro, rf 31 24 .ro]⟩
  | .smgBlockGen => ⟨0x200010, 1, 8, [rf 31 0 .ro, rf 34 32 .ro]⟩  -- R328: GEN CAUSE
  -- R329: STRAG_PCT STRAG_STEPS STRAG_MAX REBLOCK_MAX MIN_RES LOW_STAGES
  | .smgCfg => ⟨0x200018, 1, 8,
    [rf 7 0 .ro 5, rf 11 8 .ro 3, rf 18 12 .ro 8, rf 31 24 .ro 16, rf 47 32 .ro 1000, rf 55 48 .ro 112]⟩
  | .smgStrag => ⟨0x200020, 1, 8, [rf 31 0 .ro, rf 63 32 .ro]⟩  -- R330: U_NS MEDIAN_NS
  -- R330: RUN STRAGGLER OUT IN
  | .smgStragState => ⟨0x200028, 1, 8,
    [rf 3 0 .ro, rf 4 4 .ro, rf 5 5 .ro, rf 6 6 .ro]⟩
  | .smgTqSel => ⟨0x200030, 1, 8, [rf 3 0 .rw, rf 27 4 .rw]⟩  -- R331: CTX TENSOR
  -- R331: VALID APRON_KIB WINGS_MIB STACK_MIB
  | .smgTqLoc => ⟨0x200038, 1, 8,
    [rf 0 0 .ro, rf 21 1 .ro, rf 42 22 .ro, rf 63 43 .ro]⟩
  -- R332: VALID STAGED ENTRIES HEAD SHARE IN_FLIGHT
  | .smgCue => ⟨0x200100, 64, 8,
    [rf 0 0 .ro, rf 1 1 .ro, rf 14 2 .ro, rf 26 15 .ro, rf 34 27 .ro, rf 41 35 .ro]⟩
  -- R333: STATE BUSY LEAD CTX SHEET KERNEL INSTANCE
  | .smgStage => ⟨0x200400, 144, 8,
    [rf 1 0 .ro, rf 2 2 .ro, rf 3 3 .ro, rf 7 4 .ro, rf 13 8 .ro, rf 31 16 .ro, rf 36 32 .ro]⟩
  -- R334: STATE LEAD PRIO STAGES WSETS SUSP_CAUSE PREEMPT_RUN
  | .smgCtx => ⟨0x200900, 16, 8,
    [rf 2 0 .ro, rf 3 3 .ro, rf 6 4 .ro, rf 15 8 .ro, rf 18 16 .ro, rf 31 24 .ro, rf 47 32 .ro]⟩
  | .smgGatherStall => ⟨0x200A00, 1, 8, cnt⟩  -- R335: COUNT
  | .smgLeadWait => ⟨0x200A08, 1, 8, cnt⟩  -- R335: COUNT
  | .smgFillTime => ⟨0x200A10, 1, 8, cnt⟩  -- R335: COUNT
  | .smgPreempt => ⟨0x200A18, 1, 8, cnt⟩  -- R335: COUNT
  | .smgFillOverrun => ⟨0x200A20, 1, 8, cnt⟩  -- R335: COUNT
  | .smgSwap => ⟨0x200A28, 1, 8, cnt⟩  -- R335: COUNT
  | .smgSwapMax => ⟨0x200A30, 1, 8, [rf 63 0 .rc]⟩  -- R335: COUNT
  | .smgIdle => ⟨0x200A38, 1, 8, cnt⟩  -- R335: COUNT
  | .smgPipeUp => ⟨0x201000, 64, 16, cnt⟩  -- R336: COUNT
  | .smgPipeDown => ⟨0x201008, 64, 16, cnt⟩  -- R336: COUNT
  -- R247: CTX MODE VALID SEGMENTS
  | .wngPart => ⟨0x400000, 32, 8,
    [rf 3 0 .ro, rf 4 4 .ro, rf 5 5 .ro, rf 31 16 .ro]⟩
  | .wngEcc => ⟨0x400100, 1, 8, [rf 31 0 .rc, rf 47 32 .rc, rf 53 48 .ro]⟩  -- R248: CE_COUNT UE_COUNT UE_SLICE
  | .wngUeAddr => ⟨0x400108, 1, 8, [rf 47 0 .ro, rf 48 48 .ro]⟩  -- R248: ADDR CACHED
  | .wngScrub => ⟨0x400110, 1, 8, [rf 11 0 .rw 60, rf 12 12 .rw 1]⟩  -- R249: PERIOD EN
  | .wngSeq => ⟨0x400118, 1, 8, [rf 20 0 .ro, rf 41 32 .rc]⟩  -- R249: USED HOLD_PEAK
  | .wngHit => ⟨0x400200, 1, 8, cnt⟩  -- R250: COUNT
  | .wngMiss => ⟨0x400208, 1, 8, cnt⟩  -- R250: COUNT
  | .wngWriteback => ⟨0x400210, 1, 8, cnt⟩  -- R250: COUNT
  | .wngRedApplied => ⟨0x400218, 1, 8, cnt⟩  -- R250: COUNT
  | .wngRedHeld => ⟨0x400220, 1, 8, cnt⟩  -- R250: COUNT
  | .wngRedRefused => ⟨0x400228, 1, 8, cnt⟩  -- R250: COUNT
  | .wngRedDup => ⟨0x400230, 1, 8, cnt⟩  -- R250: COUNT
  -- R252: PRESENT TRAINED HOT TEMP CH_RETIRED SOFT_USED
  | .hbmStack => ⟨0x800000, 12, 8,
    [rf 0 0 .ro, rf 1 1 .ro, rf 2 2 .ro, rf 10 3 .ro, rf 21 16 .ro, rf 34 22 .ro]⟩
  -- R253: LIVE_PC COPY_BUSY HEADROOM PAGES_RETIRED
  | .hbmCapacity => ⟨0x800080, 1, 8,
    [rf 9 0 .ro, rf 10 10 .ro, rf 20 16 .ro, rf 44 32 .ro]⟩
  | .hbmRepairCfg => ⟨0x800088, 1, 8, [rf 7 0 .rw 3, rf 16 8 .rw 16]⟩  -- R254: CE_REPEAT CH_PAGES
  | .hbmScrub => ⟨0x800090, 1, 8, [rf 7 0 .rw 24, rf 8 8 .rw 1]⟩  -- R254: PERIOD EN
  | .hbmLeadGuar => ⟨0x800098, 1, 8, [rf 14 0 .ro 16000]⟩  -- R255: GUAR
  | .hbmInterleave => ⟨0x8000A0, 1, 8, [rf 0 0 .ro 1]⟩  -- R218: XOR
  | .hbmRegRd => ⟨0x800100, 16, 16, [rf 14 0 .ro, rf 31 16 .ro 64]⟩  -- R255: RATE BURST
  | .hbmRegWr => ⟨0x800108, 16, 16, [rf 14 0 .ro, rf 31 16 .ro 64]⟩  -- R255: RATE BURST
  | .hbmRegSys => ⟨0x800200, 1, 8, [rf 14 0 .ro 64, rf 31 16 .ro 1024]⟩  -- R255: RATE BURST
  | .hbmRemap => ⟨0x800400, 768, 8, [rf 0 0 .ro, rf 10 1 .ro]⟩  -- R256: RETIRED RANK
  | .hbmEcc => ⟨0x802000, 12, 8, [rf 31 0 .rc, rf 47 32 .rc, rf 63 48 .rc]⟩  -- R256: CE_COUNT DEV_COUNT UE_COUNT
  | .hbmRdBytes => ⟨0x802100, 12, 8, cnt⟩  -- R257: COUNT
  | .hbmWrBytes => ⟨0x802200, 12, 8, cnt⟩  -- R257: COUNT
  -- R391: E2E_TMO RETRY_S AUTO_RETRAIN
  | .lnkCfg => ⟨0x1000000, 1, 8,
    [rf 7 0 .ro 25, rf 19 8 .ro 60, rf 20 20 .ro 1]⟩
  -- R391: RETIRE_SYM TREND_SYM TREND_WIN
  | .lnkThresh => ⟨0x1000008, 1, 8,
    [rf 23 0 .ro 128000, rf 47 24 .ro 25600, rf 63 48 .ro 1000]⟩
  -- R392: DEVICE COORD DEVICES VALID ENSEMBLES
  | .lnkRoster => ⟨0x1000010, 1, 8,
    [rf 15 0 .ro, rf 31 16 .ro, rf 48 32 .ro, rf 49 49 .ro, rf 56 50 .ro]⟩
  | .lnkRosterVer => ⟨0x1000018, 1, 8, [rf 63 0 .ro]⟩  -- R392: VERSION
  | .lnkCall => ⟨0x1000020, 1, 8, [rf 31 0 .ro, rf 34 32 .ro, rf 35 35 .ro]⟩  -- R392: BALLOT PHASE RECAST
  | .lnkCurtain => ⟨0x1000028, 1, 8, [rf 47 0 .ro, rf 50 48 .ro]⟩  -- R392: STEP STATE
  | .lnkVcCred => ⟨0x1000040, 8, 8, [rf 10 0 .ro, rf 19 16 .ro]⟩  -- R393: CREDITS WEIGHT
  -- R394: STATE WIDTH ACTIVE RETIRED PENDING OPTICS
  | .lnkPort => ⟨0x1000100, 24, 8,
    [rf 2 0 .ro, rf 6 3 .ro, rf 14 7 .ro, rf 22 15 .ro, rf 30 23 .ro, rf 31 31 .ro]⟩
  | .lnkPartner => ⟨0x1000200, 24, 8, [rf 15 0 .ro 65535, rf 20 16 .ro, rf 21 21 .ro]⟩  -- R394: DEVICE PORT VALID
  -- R395: SYM_1MS TREND STATE LOCK READMITS
  | .lnkLane => ⟨0x1000400, 192, 8,
    [rf 23 0 .ro, rf 39 24 .ro, rf 41 40 .ro, rf 42 42 .ro, rf 44 43 .ro]⟩
  -- R395: TEMP WARN ALARM PRESENT CMIS_ERR
  | .lnkOptics => ⟨0x1000A00, 24, 8,
    [rf 7 0 .ro, rf 15 8 .ro, rf 23 16 .ro, rf 24 24 .ro, rf 25 25 .ro]⟩
  | .lnkFecCorr => ⟨0x1001000, 24, 8, cnt⟩  -- R396: COUNT
  | .lnkFecUncorr => ⟨0x1001100, 24, 8, cnt⟩  -- R396: COUNT
  | .lnkReplay => ⟨0x1001200, 24, 8, cnt⟩  -- R396: COUNT
  | .lnkHbMiss => ⟨0x1001300, 24, 8, cnt⟩  -- R396: COUNT
  | .lnkTxBytes => ⟨0x1001400, 24, 8, cnt⟩  -- R396: COUNT
  | .lnkRxBytes => ⟨0x1001500, 24, 8, cnt⟩  -- R396: COUNT
  | .lnkVcStall => ⟨0x1001600, 8, 8, cnt⟩  -- R396: COUNT
  | .lnkE2eRetx => ⟨0x1001700, 1, 8, cnt⟩  -- R396: COUNT
  | .lnkDiscard => ⟨0x1001708, 1, 8, cnt⟩  -- R396: COUNT
  | .lnkFailover => ⟨0x1001710, 1, 8, cnt⟩  -- R396: COUNT
  | .ethPort => ⟨0x1800000, 4, 8, [rf 1 0 .ro, rf 2 2 .ro]⟩  -- R562: STATE MEDIA
  | .ethPortMac => ⟨0x1800020, 4, 8, [rf 47 0 .rw, rf 59 48 .rw]⟩  -- R562: MAC VLAN
  | .ethPortIp => ⟨0x1800040, 8, 8, [rf 63 0 .rw]⟩  -- R562: ADDR
  | .ethTxBytes => ⟨0x1800100, 4, 8, cnt⟩  -- R564: COUNT
  | .ethRxBytes => ⟨0x1800120, 4, 8, cnt⟩  -- R564: COUNT
  | .ethFecUncorr => ⟨0x1800140, 4, 8, cnt⟩  -- R564: COUNT
  | .ethRetx => ⟨0x1800160, 1, 8, cnt⟩  -- R564: COUNT
  -- R563: EN PORT RQPN VLAN PCP DSCP
  | .ethEpCfg => ⟨0x1810000, 256, 64,
    [rf 0 0 .rw, rf 2 1 .rw, rf 26 3 .rw, rf 38 27 .rw, rf 41 39 .rw, rf 47 42 .rw]⟩
  | .ethEpMac => ⟨0x1810008, 256, 64, [rf 47 0 .rw]⟩  -- R563: MAC
  | .ethEpIphi => ⟨0x1810010, 256, 64, [rf 63 0 .rw]⟩  -- R563: ADDR
  | .ethEpIplo => ⟨0x1810018, 256, 64, [rf 63 0 .rw]⟩  -- R563: ADDR
  | .ethEpStatus => ⟨0x1810020, 256, 64, [rf 1 0 .ro, rf 25 2 .ro]⟩  -- R563: STATE LQPN
  -- R532: POWER_W TJ STACK_T THROTTLE BELOW_MIN SAFE_COND
  | .pwrStatus => ⟨0x1C00000, 1, 8,
    [rf 11 0 .ro, rf 19 12 .ro, rf 27 20 .ro, rf 30 28 .ro, rf 31 31 .ro, rf 32 32 .ro]⟩
  | .pwrLimit => ⟨0x1C00008, 1, 8, [rf 11 0 .ro 2400]⟩  -- R532: WATTS
  | .pwrTemp => ⟨0x1C00010, 4, 8, [rf 7 0 .ro, rf 15 8 .rc]⟩  -- R533: TEMP PEAK
  | .pwrRail => ⟨0x1C00040, 5, 8, [rf 15 0 .ro, rf 31 16 .ro, rf 47 32 .ro]⟩  -- R533: MV AMPS WATTS
  | .pwrThrSteps => ⟨0x1C00100, 1, 8, cnt⟩  -- R534: COUNT
  | .pwrThrNs => ⟨0x1C00108, 1, 8, cnt⟩  -- R534: COUNT
  | .pwrDroop => ⟨0x1C00110, 1, 8, cnt⟩  -- R534: COUNT
  | .pwrEnergy => ⟨0x1C00118, 1, 8, cnt⟩  -- R534: COUNT
  | .clkCclk => ⟨0x1C01000, 1, 8, [rf 11 0 .ro, rf 21 12 .ro]⟩  -- R535: MHZ VDD_MV
  | .clkCclkRange => ⟨0x1C01008, 1, 8, [rf 11 0 .ro 800, rf 23 12 .ro 1500]⟩  -- R535: MIN_MHZ MAX_MHZ
  | .clkTime => ⟨0x1C01010, 1, 8, [rf 63 0 .ro]⟩  -- R536: NS
  | .clkTimeCfg => ⟨0x1C01018, 1, 8, [rf 1 0 .rw, rf 3 2 .rw, rf 15 8 .rw]⟩  -- R536: SRC PORT DOMAIN
  | .clkTimeSet => ⟨0x1C01020, 1, 8, [rf 63 0 .wo]⟩  -- R536: SECONDS
  | .clkTimeStatus => ⟨0x1C01028, 1, 8, [rf 1 0 .ro, rf 63 32 .ro]⟩  -- R536: STATE OFFSET_NS
  -- R536: CCLK FCLK MCLK KCLK TCLK LTCLK PCLK ECLK
  | .clkPllStatus => ⟨0x1C01030, 1, 8,
    [rf 0 0 .ro, rf 1 1 .ro, rf 13 2 .ro, rf 14 14 .ro, rf 15 15 .ro, rf 19 16 .ro, rf 20 20 .ro, rf 24 21 .ro]⟩
  | .idnPart => ⟨0x1E00000, 2, 8, [rf 63 0 .ro]⟩  -- R517: ASCII
  -- R517: ASCII MINOR MAJOR PCI_VENDOR
  | .idnStepping => ⟨0x1E00010, 1, 8,
    [rf 15 0 .ro, rf 19 16 .ro, rf 23 20 .ro, rf 39 24 .ro]⟩
  | .idnDevid => ⟨0x1E00018, 1, 8, [rf 63 0 .ro]⟩  -- R517: DEVID
  | .idnLot => ⟨0x1E00020, 1, 8, [rf 63 0 .ro]⟩  -- R517: LOT
  -- R517: WAFER DIE_X DIE_Y FIELD_MAP LOT_SEQ
  | .idnWafer => ⟨0x1E00028, 1, 8,
    [rf 7 0 .ro, rf 15 8 .ro, rf 23 16 .ro, rf 31 24 .ro, rf 63 32 .ro]⟩
  | .idnStageFuse => ⟨0x1E00030, 3, 8, [rf 63 0 .ro]⟩  -- R517: ENABLED
  -- R517: STATE PHASE_GRP PHASE FAULT_CAUSE RESET_CAUSE LAST_TRIP SAFE_CAUSE
  | .idnState => ⟨0x1E00048, 1, 8,
    [rf 3 0 .ro, rf 7 4 .ro, rf 15 8 .ro, rf 23 16 .ro, rf 25 24 .ro, rf 26 26 .w1c, rf 30 27 .ro]⟩
  -- R517: BUILD MINOR MAJOR SVN
  | .idnFwRun => ⟨0x1E00050, 1, 8,
    [rf 15 0 .ro, rf 23 16 .ro, rf 31 24 .ro, rf 63 48 .ro]⟩
  -- R517: BUILD MINOR MAJOR SVN
  | .idnFwStaged => ⟨0x1E00058, 1, 8,
    [rf 15 0 .ro, rf 23 16 .ro, rf 31 24 .ro, rf 63 48 .ro]⟩
  -- R517: BUILD MINOR MAJOR SVN
  | .idnFwPrev => ⟨0x1E00060, 1, 8,
    [rf 15 0 .ro, rf 23 16 .ro, rf 31 24 .ro, rf 63 48 .ro]⟩
  | .idnSvnFloor => ⟨0x1E00068, 1, 8, [rf 15 0 .ro]⟩  -- R517: FLOOR
  | .idnStackSerial => ⟨0x1E00100, 12, 8, [rf 63 0 .ro]⟩  -- R517: SERIAL
  | .capUnits => ⟨0x1E00200, 1, 8, [rf 0 0 .ro, rf 1 1 .ro, rf 2 2 .ro, rf 3 3 .ro]⟩  -- R518: ETH PCIE SMBUS JTAG
  -- R518: TOTAL FIELD0 FIELD1 FIELD2 FIELD3
  | .capStages => ⟨0x1E00208, 1, 8,
    [rf 7 0 .ro, rf 15 8 .ro, rf 23 16 .ro, rf 31 24 .ro, rf 39 32 .ro]⟩
  | .capStacks => ⟨0x1E00210, 1, 8, [rf 11 0 .ro, rf 27 16 .ro]⟩  -- R518: PRESENT GIB
  | .capLinks => ⟨0x1E00218, 1, 8, [rf 23 0 .ro]⟩  -- R518: PORTS
  | .capFormats => ⟨0x1E00220, 1, 8, [rf 12 0 .ro]⟩  -- R518: CODES
  -- R187: REC DROP SAT JOB_LOST
  | .tlyStatus => ⟨0x1F00000, 1, 8,
    [rf 0 0 .w1c, rf 1 1 .w1c, rf 2 2 .w1c, rf 3 3 .w1c]⟩
  | .tlyCtrl => ⟨0x1F00008, 1, 8, [rf 0 0 .rw, rf 1 1 .rw]⟩  -- R188: RING_EN IRQ_EN
  | .tlyRingBase => ⟨0x1F00010, 1, 8, [rf 47 12 .rw]⟩  -- R188: BASE
  | .tlyRingSize => ⟨0x1F00018, 1, 8, [rf 15 0 .rw]⟩  -- R188: PAGES
  | .tlyRingHead => ⟨0x1F00020, 1, 8, [rf 31 0 .ro]⟩  -- R188: HEAD
  | .tlyRingTail => ⟨0x1F00028, 1, 8, [rf 31 0 .rw]⟩  -- R188: TAIL
  | .tlyRingDrop => ⟨0x1F00030, 1, 8, [rf 31 0 .rc]⟩  -- R188: COUNT
  | .tlyStep => ⟨0x1F00038, 1, 8, [rf 63 0 .ro]⟩  -- R188: STEP
  -- R189: EXP INIT HIST MARGIN FMT SRC EN JOB_AMAX
  | .tlyScale => ⟨0x1F08000, 4096, 8,
    [rf 7 0 .ro, rf 15 8 .rw, rf 19 16 .rw 3, rf 21 20 .rw, rf 23 22 .rw, rf 25 24 .rw, rf 26 26 .rw, rf 63 32 .ro]⟩
  | .tlyOvf => ⟨0x1F10000, 4096, 8, [rf 31 0 .ro]⟩  -- R190: OVF
  | .tlySumsq => ⟨0x1F40000, 16384, 16, [rf 63 0 .ro]⟩  -- R190: SUMSQ
  | .tlyAmax => ⟨0x1F40008, 16384, 16, [rf 31 0 .ro, rf 63 32 .ro]⟩  -- R190: AMAX NONFIN
  | .pbkStatus => ⟨0x1F80000, 1, 8, [rf 2 0 .ro, rf 3 3 .ro, rf 31 8 .ro]⟩  -- R449: STATE HANDOVER REFILL_ITEMS
  -- R450: SMALL_MAX PARITY_MAX REPL_MAX GROUP
  | .pbkPolicy => ⟨0x1F80008, 1, 8,
    [rf 15 0 .ro 1024, rf 23 16 .ro 16, rf 35 24 .ro 64, rf 39 36 .ro 8]⟩
  -- R451: PERIOD_S RATE COW_GIB EN
  | .pbkSaveCfg => ⟨0x1F80010, 1, 8,
    [rf 11 0 .ro 240, rf 20 12 .ro 200, rf 28 21 .ro 8, rf 29 29 .ro 1]⟩
  -- R451: LAST_STEP SLOT VALID BUSY EVAL_HELD
  | .pbkSaveState => ⟨0x1F80018, 1, 8,
    [rf 47 0 .ro, rf 48 48 .ro, rf 49 49 .ro, rf 50 50 .ro, rf 51 51 .w1c]⟩
  | .pbkScrub => ⟨0x1F80020, 1, 8, [rf 10 0 .ro 16]⟩  -- R452: STEPS
  | .pbkTmo => ⟨0x1F80028, 1, 8, [rf 7 0 .ro 100]⟩  -- R452: RETRY_US
  -- R453: MIRROR REPL_A REPL_B PGROUP
  | .pbkPartners => ⟨0x1F80030, 1, 8,
    [rf 15 0 .ro 65535, rf 31 16 .ro 65535, rf 47 32 .ro 65535, rf 63 48 .ro 65535]⟩
  -- R453: PPOS PSIZE REFILL MIRROR_DUTIES REPL_DUTIES
  | .pbkPgroup => ⟨0x1F80038, 1, 8,
    [rf 3 0 .ro, rf 7 4 .ro, rf 8 8 .ro, rf 23 16 .ro, rf 31 24 .ro]⟩
  -- R454: FAILED CAUSE DOUBLE JOINED STEP
  | .pbkRecastLast => ⟨0x1F80040, 1, 8,
    [rf 15 0 .ro 65535, rf 19 16 .ro, rf 20 20 .ro, rf 21 21 .ro, rf 63 32 .ro]⟩
  | .pbkRecastPhase => ⟨0x1F80048, 5, 8, [rf 31 0 .ro]⟩  -- R455: NS
  | .pbkRecasts => ⟨0x1F80100, 1, 8, cnt⟩  -- R456: COUNT
  | .pbkDouble => ⟨0x1F80108, 1, 8, cnt⟩  -- R456: COUNT
  | .pbkShardRetry => ⟨0x1F80110, 1, 8, cnt⟩  -- R456: COUNT
  | .pbkShardDeclare => ⟨0x1F80118, 1, 8, cnt⟩  -- R456: COUNT
  | .pbkScrubMismatch => ⟨0x1F80120, 1, 8, cnt⟩  -- R456: COUNT
  | .pbkTeeBytes => ⟨0x1F80128, 1, 8, cnt⟩  -- R456: COUNT
  | .pbkDeltaBytes => ⟨0x1F80130, 1, 8, cnt⟩  -- R456: COUNT
  | .pbkLogBytes => ⟨0x1F80138, 1, 8, cnt⟩  -- R456: COUNT
  | .pbkSaveBytes => ⟨0x1F80140, 1, 8, cnt⟩  -- R456: COUNT
  | .pbkCowStall => ⟨0x1F80148, 1, 8, cnt⟩  -- R456: COUNT
  -- R139: STATE LEAD CTX WAIT_SEM LOOP_DEPTH LOOP_FULL SH_OUT SNARE_DEPTH SNARE_FULL
  | .stgPrmStatus => ⟨0x4000000, 144, 131072,
    [rf 2 0 .ro, rf 3 3 .ro, rf 7 4 .ro, rf 13 8 .ro, rf 15 14 .ro, rf 16 16 .ro, rf 21 17 .ro, rf 25 22 .ro, rf 26 26 .ro]⟩
  | .stgPrmPc => ⟨0x4000008, 144, 131072, [rf 22 0 .ro]⟩  -- R140: PC
  -- R141: CAUSE CLASS OPCODE CTX LEAD VALID OVERFLOW
  | .stgFault => ⟨0x4000010, 144, 131072,
    [rf 7 0 .ro, rf 11 8 .ro, rf 19 12 .ro, rf 23 20 .ro, rf 24 24 .ro, rf 25 25 .w1c, rf 26 26 .w1c]⟩
  | .stgFaultPc => ⟨0x4000018, 144, 131072, [rf 22 0 .ro]⟩  -- R142: PC
  | .stgFaultInfo => ⟨0x4000020, 144, 131072, [rf 63 0 .ro]⟩  -- R142: INFO
  | .stgPrmRegion => ⟨0x4000028, 144, 131072, [rf 15 0 .ro, rf 31 16 .ro]⟩  -- R143: DATA_SIZE CODE_SIZE
  | .stgPrmRetired => ⟨0x4000030, 144, 131072, cnt⟩  -- R144: COUNT
  | .stgPrmStallQ => ⟨0x4000038, 144, 131072, cnt⟩  -- R144: COUNT
  | .stgPrmStallSync => ⟨0x4000040, 144, 131072, cnt⟩  -- R144: COUNT
  -- R91: SLOT_OPEN FREE_BLOCKS QUEUE_USED WT0_VALID WT1_VALID WT0_SCALED WT1_SCALED FEED_DEPTH SERVICE_DEPTH
  | .stgMxaStatus => ⟨0x4003000, 144, 131072,
    [rf 15 0 .ro, rf 20 16 .ro 16, rf 27 24 .ro, rf 32 32 .ro, rf 33 33 .ro, rf 34 34 .ro, rf 35 35 .ro, rf 39 36 .ro, rf 43 40 .ro]⟩
  -- R92: CE_COUNT UE_COUNT UE_ARRAY UE_BLOCK
  | .stgMxaEcc => ⟨0x4003008, 144, 131072,
    [rf 31 0 .rc, rf 47 32 .rc, rf 49 48 .ro, rf 53 50 .ro]⟩
  | .stgMxaRows => ⟨0x4003010, 144, 131072, cnt⟩  -- R93: COUNT
  | .stgMxaBusy => ⟨0x4003018, 144, 131072, cnt⟩  -- R93: COUNT
  | .stgMxaStallWld => ⟨0x4003020, 144, 131072, cnt⟩  -- R93: COUNT
  | .stgMxaStallDep => ⟨0x4003028, 144, 131072, cnt⟩  -- R93: COUNT
  | .stgMxaStallSlot => ⟨0x4003030, 144, 131072, cnt⟩  -- R93: COUNT
  | .stgMxaStallQfull => ⟨0x4003038, 144, 131072, cnt⟩  -- R93: COUNT
  | .stgMxaStallBank => ⟨0x4003040, 144, 131072, cnt⟩  -- R93: COUNT
  -- R191: QDEPTH POP_WAIT DEP_WAIT APR_WAIT
  | .stgSnrStatus => ⟨0x4004000, 144, 131072,
    [rf 4 0 .ro, rf 5 5 .ro, rf 6 6 .ro, rf 7 7 .ro]⟩
  -- R192: CE_COUNT UE_COUNT UE_WHERE UE_ROW
  | .stgSnrEcc => ⟨0x4004008, 144, 131072,
    [rf 31 0 .rc, rf 47 32 .rc, rf 50 48 .ro, rf 56 51 .ro]⟩
  | .stgSnrRows => ⟨0x4004010, 144, 131072, cnt⟩  -- R193: COUNT
  | .stgSnrBusy => ⟨0x4004018, 144, 131072, cnt⟩  -- R193: COUNT
  | .stgSnrStallPop => ⟨0x4004020, 144, 131072, cnt⟩  -- R193: COUNT
  | .stgSnrStallDep => ⟨0x4004028, 144, 131072, cnt⟩  -- R193: COUNT
  | .stgSnrStallApr => ⟨0x4004030, 144, 131072, cnt⟩  -- R193: COUNT
  -- R230: CE_COUNT UE_COUNT UE_BANK UE_SRC
  | .stgAprEcc => ⟨0x4005000, 144, 131072,
    [rf 31 0 .rc, rf 47 32 .rc, rf 53 48 .ro, rf 56 54 .ro]⟩
  | .stgAprUeAddr => ⟨0x4005008, 144, 131072, [rf 22 0 .ro]⟩  -- R230: ADDR

/-- Part 0 of the register list. -/
def regs0 : List Reg :=
  [.pciBar2Base, .pciLink, .bthPinCfg, .bthGpio, .bthCmdStatus, .bthEvqBase, .bthEvqCfg, .bthEvqHead,
   .bthEvqTail, .bthEvqDrop, .bthEvtSeq, .bthSlotCfg, .bthSqBase, .bthCqBase, .bthCqIrq, .bthSlotStatus,
   .bthDb, .bthCqTail, .belH2fData, .belF2hData, .belH2fFull, .belF2hFull, .belP2fFull, .belF2pFull]

/-- Part 1 of the register list. -/
def regs1 : List Reg :=
  [.belLoFull, .belLiFull, .belOvrHost, .belOvrP2f, .belOvrF2p, .belOvrLo, .smgStatus, .smgStages,
   .smgBlockGen, .smgCfg, .smgStrag, .smgStragState, .smgTqSel, .smgTqLoc, .smgCue, .smgStage,
   .smgCtx, .smgGatherStall, .smgLeadWait, .smgFillTime, .smgPreempt, .smgFillOverrun, .smgSwap, .smgSwapMax]

/-- Part 2 of the register list. -/
def regs2 : List Reg :=
  [.smgIdle, .smgPipeUp, .smgPipeDown, .wngPart, .wngEcc, .wngUeAddr, .wngScrub, .wngSeq,
   .wngHit, .wngMiss, .wngWriteback, .wngRedApplied, .wngRedHeld, .wngRedRefused, .wngRedDup, .hbmStack,
   .hbmCapacity, .hbmRepairCfg, .hbmScrub, .hbmLeadGuar, .hbmInterleave, .hbmRegRd, .hbmRegWr, .hbmRegSys]

/-- Part 3 of the register list. -/
def regs3 : List Reg :=
  [.hbmRemap, .hbmEcc, .hbmRdBytes, .hbmWrBytes, .lnkCfg, .lnkThresh, .lnkRoster, .lnkRosterVer,
   .lnkCall, .lnkCurtain, .lnkVcCred, .lnkPort, .lnkPartner, .lnkLane, .lnkOptics, .lnkFecCorr,
   .lnkFecUncorr, .lnkReplay, .lnkHbMiss, .lnkTxBytes, .lnkRxBytes, .lnkVcStall, .lnkE2eRetx, .lnkDiscard]

/-- Part 4 of the register list. -/
def regs4 : List Reg :=
  [.lnkFailover, .ethPort, .ethPortMac, .ethPortIp, .ethTxBytes, .ethRxBytes, .ethFecUncorr, .ethRetx,
   .ethEpCfg, .ethEpMac, .ethEpIphi, .ethEpIplo, .ethEpStatus, .pwrStatus, .pwrLimit, .pwrTemp,
   .pwrRail, .pwrThrSteps, .pwrThrNs, .pwrDroop, .pwrEnergy, .clkCclk, .clkCclkRange, .clkTime]

/-- Part 5 of the register list. -/
def regs5 : List Reg :=
  [.clkTimeCfg, .clkTimeSet, .clkTimeStatus, .clkPllStatus, .idnPart, .idnStepping, .idnDevid, .idnLot,
   .idnWafer, .idnStageFuse, .idnState, .idnFwRun, .idnFwStaged, .idnFwPrev, .idnSvnFloor, .idnStackSerial,
   .capUnits, .capStages, .capStacks, .capLinks, .capFormats, .tlyStatus, .tlyCtrl, .tlyRingBase]

/-- Part 6 of the register list. -/
def regs6 : List Reg :=
  [.tlyRingSize, .tlyRingHead, .tlyRingTail, .tlyRingDrop, .tlyStep, .tlyScale, .tlyOvf, .tlySumsq,
   .tlyAmax, .pbkStatus, .pbkPolicy, .pbkSaveCfg, .pbkSaveState, .pbkScrub, .pbkTmo, .pbkPartners,
   .pbkPgroup, .pbkRecastLast, .pbkRecastPhase, .pbkRecasts, .pbkDouble, .pbkShardRetry, .pbkShardDeclare, .pbkScrubMismatch]

/-- Part 7 of the register list. -/
def regs7 : List Reg :=
  [.pbkTeeBytes, .pbkDeltaBytes, .pbkLogBytes, .pbkSaveBytes, .pbkCowStall, .stgPrmStatus, .stgPrmPc, .stgFault,
   .stgFaultPc, .stgFaultInfo, .stgPrmRegion, .stgPrmRetired, .stgPrmStallQ, .stgPrmStallSync, .stgMxaStatus, .stgMxaEcc,
   .stgMxaRows, .stgMxaBusy, .stgMxaStallWld, .stgMxaStallDep, .stgMxaStallSlot, .stgMxaStallQfull, .stgMxaStallBank, .stgSnrStatus]

/-- Part 8 of the register list. -/
def regs8 : List Reg :=
  [.stgSnrEcc, .stgSnrRows, .stgSnrBusy, .stgSnrStallPop, .stgSnrStallDep, .stgSnrStallApr, .stgAprEcc, .stgAprUeAddr]

/-- Every register name, in BAR0 order of the windows. -/
def allRegs : List Reg :=
  regs0 ++ regs1 ++ regs2 ++ regs3 ++ regs4 ++ regs5 ++ regs6 ++ regs7 ++ regs8

end Sys2Proof.Machine
end

