-- ==== Sys2Proof/Machine/BoothState.lean ====
section
/-! DEFINITION. The state of the Booth and of the platform around it: slots, commands in flight, event log, interrupts,
Bells, firmware areas, device state, clocks, power, time, pins and test ports (11, 12, 13). -/

namespace Sys2Proof.Machine

/-- A command in flight on a slot or another port (R459, R465): its source (the slot number, 64 for SMBus), header echo, parameter
words, and what a deferred one still has to do: `curtain` that it waits for a Curtain, `pend` a stage, count or unit, `units` the units of
a test still to do and `bad` those that failed (R480), `began` when it was taken. -/
structure InFlight where
  src : Nat
  opcode : Nat
  seq : W32
  tag : W64
  ctx : Option Nat
  words : List W64
  curtain : Bool
  pend : Nat
  units : List Nat
  bad : List Nat
  score : Option Score
  began : W64
  deriving DecidableEq, Repr

/-- A completion entry not written to a ring: returned in an SMBus, link or Ethernet answer (R469, R472). -/
structure Answer where
  status : Nat
  result0 : W64
  result1 : W64
  data : List Byte
  deriving DecidableEq, Repr

/-- An event record (R486): TYPE, SEV, context (none: not meaningful), SEQNO, TIME, STEP, DETAIL words. -/
structure Event where
  type : Nat
  sev : Nat
  ctx : Option Nat
  seqno : Nat
  time : W64
  step : Nat
  detail : List W64
  deriving DecidableEq, Repr

/-- A slot's ring positions and completion state (R457-R461, R465): submission head, tail, completion head, phase, entries
not yet signalled. -/
structure SlotSt where
  head : Nat
  tail : Nat
  cqHead : Nat
  phase : Bool
  err : Nat
  unsignalled : Nat
  deriving DecidableEq, Repr

def SlotSt.fresh : SlotSt := ⟨0, 0, 0, true, 0, 0⟩

/-- A staged SET_CONFIG entry (R483-R485): register offset, mask, value, and the command it came with. -/
structure StagedCfg where
  off : Nat
  mask : W64
  value : W64
  src : Nat
  seq : W32
  deriving DecidableEq, Repr

/-- A Bell: FULL flag and word (R491). -/
structure Bell where
  full : Bool
  word : W64
  deriving DecidableEq, Repr

def Bell.clear : Bell := ⟨false, 0⟩

/-- A firmware image in a flash area (R508): its bytes, header first. -/
structure Image where
  bytes : List Byte
  deriving DecidableEq, Repr

/-- The Booth. `bellsH2F` … are the Bells of R490 by index (LO and LI by 4 × port + bell); `msix` the messages raised by vector;
`lastH2F` the words last accepted (R499); `staged` the configuration waiting for COMMIT or the Curtain. -/
structure BoothSt where
  slots : SMap SlotSt
  inflight : List InFlight
  answer : Option Answer
  readData : List W64
  log : List Event
  nextSeq : Nat
  evqDropped : Nat
  msix : SMap Nat
  staged : List StagedCfg
  autoStaged : List StagedCfg
  bellH2F : SMap Bell
  bellF2H : SMap Bell
  bellF2P : SMap Bell
  bellP2F : SMap Bell
  bellLO : SMap Bell
  bellLI : SMap Bell
  lastH2F : SMap W64
  resetting : Bool
  deriving DecidableEq, Repr

/-- The device states of R500. -/
inductive DevState where
  | off | boot | test | ready | run | quiesced | recast | safe | fault
  deriving DecidableEq, Repr

/-- The boot flash (R508): areas A and B, staging area, the selector's active area (false is A), thermal-trip record. -/
structure Flash where
  imgA : Option Image
  imgB : Option Image
  staging : Option Image
  selB : Bool
  trip : Bool
  deriving DecidableEq, Repr

/-- An open RDMA transfer on a storage endpoint (R471, R559): its direction, address and key at the peer, length, the device memory it
covers, bytes acknowledged; what it is for (`kind` 0 SHARD_LOAD, 1 SNAPSHOT_RESTORE, 2 a save, 3 the restore of R446), whose data it
carries (a command's source, a virtual rank, or 65,536 plus a slot for a manifest); the digest awaited, whether it is read a second time,
the status it ended with, its data. -/
structure Xfer where
  ep : Nat
  write : Bool
  remote : Nat
  key : Nat
  len : Nat
  ranges : List (Nat × Nat)
  acked : Nat
  src : Nat
  seq : W32
  kind : Nat
  digest : List Byte
  retried : Bool
  failed : Nat
  data : List Byte
  deriving DecidableEq, Repr

/-- A transfer is open while it lacks data or an acknowledgement and has not failed. -/
def Xfer.opened (x : Xfer) : Bool := decide (x.acked < x.len ∧ x.failed = 0)

/-- A storage endpoint's connection state (R559, R560): PSNs, retries made, send rate in GB/s, whether a congestion
notification was sent or came in the current 50 µs. -/
structure EpSt where
  sendPsn : Nat
  recvPsn : Nat
  retries : Nat
  rate : Nat
  cnpSent : Bool
  cnps : Nat
  deriving DecidableEq, Repr

/-- The Dimmer (R525-R530): samples in a row at or below 97%, the episode's first CCLK, its lowest, samples since the last
event, samples with the junction or a stack at its SAFE threshold, samples with each rail outside its window, energy not yet a mJ. -/
structure Dimmer where
  lowRun : Nat
  episode : Bool
  before : Nat
  lowest : Nat
  sinceEvent : Nat
  hotRun : Nat
  stackRun : Nat
  railRun : List Nat
  energyRem : Nat
  deriving DecidableEq, Repr

/-- Time (R522, R523, R552): seconds set for the next PPS edge, time of the last accepted edge or Sync, good ones in a
row, the path delay last measured, ns still to be slewed (positive: forward), TCLK cycles. -/
structure TimeSt where
  setSec : Option W64
  lastEdge : Option W64
  good : Nat
  delay : Int
  slew : Int
  cycles : Nat
  deriving DecidableEq, Repr

/-- JTAG (R567) and management endpoints (R565, R566): instruction selected (0 EXTEST, 1 SAMPLE/PRELOAD, 2 IDCODE, 3 BYPASS, 4 CLAMP, 5
HIGHZ), boundary cells, whether they drive the pins or the pins float, the last data shifted out; MCTP endpoint identifier, event
receiver, the PLDM sensors as last sampled, event messages sent (receiver, sensor, level or state before and after); the recovery SPI's
buffer, the bytes it holds, its status bits BUSY, PASS, FAIL, the bytes it last returned. -/
structure PortsSt where
  jtagInstr : Nat
  jtagCells : List Bool
  jtagDriven : Bool
  jtagHigh : Bool
  jtagOut : List Bool
  mctpEid : Byte
  eventReceiver : Byte
  sensors : List Nat
  pldm : List (Byte × Nat × Nat × Nat)
  spiBuf : SMap Byte
  spiLen : Nat
  spiStatus : Nat
  spiOut : List Byte
  deriving DecidableEq, Repr

/-- The platform: device state, whether PWRGOOD is high and every rail was in its window when it rose, PERST_N's level, boot phases in progress, the phases done of 0x05-0x07, firmware, pins, power and time;
`naks` the NAKs given to inbound requests (endpoint; 0 Remote Access Error, 1 Remote Operational Error), oldest first;
`tested` that the admission subset of SELF_TEST has passed since the last reset (R477). -/
structure PlatSt where
  dev : DevState
  pwrgood : Bool
  railsOk : Bool
  perst : Bool
  phase : List Nat
  phaseStart : List (Nat × W64)
  runFw : W64
  flash : Flash
  faultN : Bool
  thermTrip : Bool
  curtainSync : Bool
  cclkStopped : Bool
  selfRefresh : Bool
  txStopped : Bool
  safeClear : Nat
  safeCause : Nat
  faultCause : Nat
  resetCause : Nat
  dimmer : Dimmer
  time : TimeSt
  eps : SMap EpSt
  xfers : List Xfer
  naks : List (Nat × Nat)
  ports : PortsSt
  gpioIn : BitVec 8
  tested : Bool
  bootEvents : List (Nat × Nat)
  deriving DecidableEq, Repr

def BoothSt.empty : BoothSt :=
  { slots := [], inflight := [], answer := none, readData := [], log := [], nextSeq := 1, evqDropped := 0, msix := [],
    staged := [], autoStaged := [], bellH2F := [], bellF2H := [], bellF2P := [], bellP2F := [], bellLO := [],
    bellLI := [], lastH2F := [], resetting := false }

def EpSt.fresh : EpSt := ⟨0, 0, 0, 100, false, 0⟩
def Dimmer.fresh : Dimmer := ⟨0, false, 0, 0, 0, 0, 0, [], 0⟩
def TimeSt.fresh : TimeSt := ⟨none, none, 0, 0, 0, 0⟩
def PortsSt.fresh : PortsSt := ⟨2, [], false, false, [], 0, 0, [], [], [], 0, 0, []⟩
/-- The flash of a new part: one image, in area A (log entry 7: what it holds is not the spec's). -/
def Flash.fresh : Flash := ⟨some ⟨[]⟩, none, none, false, false⟩

/-- After power-on reset, PERST_N deasserted (R501, R506): BOOT, boot ROM phase. -/
def PlatSt.boot : PlatSt :=
  { dev := .boot, pwrgood := true, railsOk := true, perst := false, phase := [1], phaseStart := [(1, 0)], runFw := 0, flash := .fresh, faultN := false,
    thermTrip := false, curtainSync := false, cclkStopped := false, selfRefresh := false, txStopped := false,
    safeClear := 0, safeCause := 0, faultCause := 0, resetCause := 0, dimmer := .fresh, time := .fresh, eps := [],
    xfers := [], naks := [], ports := .fresh, gpioIn := 0, tested := false, bootEvents := [] }

end Sys2Proof.Machine
end

