-- ==== Sys2Proof/Machine/LinkState.lean ====
section
/-! DEFINITION. The state of Brixmin Link: ports, flits, credits, flows, routes, Roster, Call, Curtain exchange and the
collectives engine (09). Port, lane and optics state that a register shows is held in the LNK_ registers. -/

namespace Sys2Proof.Machine

/-- A control record a port has to send (R340): its 16 bytes. -/
abbrev Ctl := List Byte

/-- Structured contents of a packet whose byte layout the spec leaves open: Call, Curtain and Tally messages, peer command
packets and their answers, Understudy requests (R374, R378, R181, R389, R438). -/
inductive Msg where
  | propose (d : Proposal)
  | accept (ballot : Nat)
  | reject (ballot : Nat)
  | commit (ballot : Nat)
  | abort (ballot : Nat)
  | curtainUp (m : CurtainMsg)
  | curtainDown (m : CurtainMsg)
  | tallyUp (t : Tally)
  | tallyDown (t : Tally)
  | peerAnswer (status : Nat) (r0 r1 : W64)
  deriving DecidableEq, Repr

/-- Credit a sender holds in use on one channel of a port (R347, R348): flits out of the shared remainder, out of the
reserve of each HOP value, and the cumulative count of freed flits last reported. -/
structure VcUse where
  shared : Nat
  res : List Nat
  freed : Nat
  deriving DecidableEq, Repr

def VcUse.none : VcUse := ⟨0, List.replicate 8 0, 0⟩

/-- One port's link layer (R338, R340-R343, R347-R350, R359, R363, R388): next SEQ, expected SEQ, whether the discard run has been
NAKed, flits kept for resend (oldest first), how often each SEQ has been resent, packets waiting to go out with the port they came
in on (none: this device's own), of each channel the flits left of the packet it is sending and the source it served last (24: this device),
control records that wait for room, credit in use, the allotments in force, flits freed per channel, weights left of the round robin, a width
change proposed and the SEQ at which an agreed one starts, generations of the link Bells, heartbeats
missed, whether one came in this interval and when the last one did (R423, R424); partner identity, the training record each lane has brought
(lane, identity, port) and the one sent last (own identity, port, lane), lanes whose transmitter is disabled; the flit sent in the last slot. -/
structure PortLink where
  txSeq : Nat
  rxSeq : Nat
  naked : Bool
  kept : List (Nat × List Byte)
  resends : SMap Nat
  outq : List (Pkt × Option Nat)
  cur : List (List (List Byte))
  served : List Nat
  ctlq : List Ctl
  cred : List VcUse
  allot : List Nat
  freed : List Nat
  wrr : List Nat
  width : Option (BitVec 8)
  switchAt : Option Nat
  loGen : BitVec 4
  liGen : List (Option Bool)
  partner : W64
  partnerPort : Nat
  recs : List (Nat × W64 × Nat)
  recOut : Option (W64 × Nat × Nat)
  trained : BitVec 8
  txOff : BitVec 8
  lastFlit : List Byte
  missed : Nat
  heard : Bool
  beat : Option W64
  lastState : Nat
  readErr : Nat
  deriving DecidableEq, Repr

def PortLink.fresh : PortLink :=
  { txSeq := 0, rxSeq := 0, naked := false, kept := [], resends := [], outq := [], cur := List.replicate 8 [], served := List.replicate 8 24
    ctlq := [], cred := List.replicate 8 VcUse.none, allot := [480, 288, 288, 160, 160, 160, 0, 0], freed := List.replicate 8 0
    wrr := [8, 4, 4, 2], width := none, switchAt := none, loGen := 0
    liGen := [none, none, none, none], partner := 0, partnerPort := 0, recs := [], recOut := none, trained := 0, txOff := 0, lastFlit := []
    missed := 0, heard := false, beat := none, lastState := 0, readErr := 0 }

/-- Who asked for a packet (R344): the Booth or another unit, a Stagehand transfer by Stage and identity, a collective, a
cross-device hop of a Stage. -/
inductive Requester where
  | other
  | transfer (stage id : Nat)
  | engine (inst : Nat)
  | roll (stage : Nat)
  deriving DecidableEq, Repr

/-- A packet this device has sent and the destination has not acknowledged (R344, R354, R355): its requester, and of a Stagehand's the runs of device
memory that the end of its payload was read from. -/
structure TxPkt where
  pkt : Pkt
  msg : Option Msg
  req : Requester
  range : List (Nat × Nat)
  deriving DecidableEq, Repr

/-- A flow this device sources (R344, R354): destination, channel, flow number, next number, unacknowledged packets,
timeouts in a row, the port it uses. -/
structure TxFlow where
  dst : Nat
  vc : Nat
  flow : Nat
  next : Nat
  unacked : List TxPkt
  tries : Nat
  port : Nat
  deriving DecidableEq, Repr

/-- A route-table entry (R351): a destination's direct and detour candidate ports. -/
structure RouteEnt where
  dst : Nat
  direct : List Nat
  detour : List Nat
  deriving DecidableEq, Repr

/-- A flow this device receives (R354): source, channel, flow number, next number expected, deliveries not yet acknowledged. -/
structure RxFlow where
  src : Nat
  vc : Nat
  flow : Nat
  next : Nat
  owed : Nat
  deriving DecidableEq, Repr

/-- A chunk on its way out of the engine (R382, R385): kind 0 a chain's value, 1 a total, 2 a copy; chain or source member; the member it
is for, and the bytes still to send from a position on. -/
structure ChunkOut where
  kind : Nat
  chain : Nat
  dest : Nat
  pos : Nat
  granted : Bool
  data : List Byte
  deriving DecidableEq, Repr

/-- A collective in the engine (R381-R387): instance number, launch, the record's words, the members' virtual ranks; `next` the next
chain (or for a copy 1 once taken up) of each hosted member, `ready` the values that have reached a member, `parts` chunks on their
way in (kind, chain, member, bytes), `written` the totals and copies written (member, chain), `outs` what waits to go out. -/
structure Coll where
  inst : Nat
  launch : Nat
  words : List W64
  members : List Nat
  next : List (Nat × Nat)
  ready : List (Nat × Nat × List Byte)
  parts : List (Nat × Nat × Nat × List Byte)
  written : List (Nat × Nat)
  outs : List ChunkOut
  deriving DecidableEq, Repr

/-- A received quarter of an accumulator block (R345, R384): block in readout order, half, quarter, entries, fed bits, poisoned
rows of the quarter. -/
structure Quarter where
  block : Nat
  lo : Bool
  part : Nat
  vals : List W32
  fed : BitVec 16
  poison : List Nat
  deriving DecidableEq, Repr

/-- The receiving end of a cross-device hop (R384): sending device, chain, the receiver's segment, the sending member and
micro-batch, the Stage and the RACC's place in program order, the slot's shape, whether the GRANT has gone out, blocks delivered,
quarters of the next one. -/
structure XHop where
  src : Nat
  chain : Nat
  seg : Nat
  vr : Nat
  mb : Nat
  stage : Nat
  seq : Nat
  slot : Nat
  wide : Bool
  m : Nat
  amask : Nat
  fill : Bool
  granted : Bool
  next : Nat
  quarters : List Quarter
  deriving DecidableEq, Repr

/-- A GRANT held for a ROLL of this device (R384): the receiving device, chain and segment, the sending member and micro-batch,
the receiving slot's shape, and whether its readout has begun. -/
structure RollGrant where
  dev : Nat
  chain : Nat
  seg : Nat
  vr : Nat
  mb : Nat
  slot : Nat
  wide : Bool
  m : Nat
  amask : Nat
  fill : Bool
  used : Bool
  deriving DecidableEq, Repr

/-- A pipeline payload in the queue between two stages (R285): context, sender's and receiver's virtual ranks, micro-batch, tensor,
offset, its length, the device that sent it, the bytes that have come. -/
structure PipeMsg where
  ctx : Nat
  srcVr : Nat
  dstVr : Nat
  mb : Nat
  tensor : Nat
  off : Nat
  total : Nat
  dev : Nat
  data : List Byte
  deriving DecidableEq, Repr

/-- A reserved row of an expert's home that a source's dispatch has filled (R281, R283): context, tensor, instance and offset, the home's and
the source's virtual rank, micro-batch, and the transfer that filled it (device, AUX64). -/
structure RowRegion where
  ctx : Nat
  tensor : Nat
  inst : Nat
  off : Nat
  dst : Nat
  src : Nat
  mb : Nat
  dev : Nat
  id : W64
  deriving DecidableEq, Repr

/-- The Call in progress on this device (R373-R376): the proposal, children that have answered, own answer, coordinator, and
the link-map words that answers to a new job's first Call have brought (R373). -/
structure CallSt where
  prop : Proposal
  next : Roster
  answered : List Nat
  rejected : Bool
  accepted : Bool
  coordinator : Bool
  links : List (Nat × List W32)
  deriving DecidableEq, Repr

/-- Brixmin Link. `curtain` is 0 step running, 1 arrived, 2 exchange complete, 3 in a Call (R392); `curtMsg` the message
combined so far, `curtFrom` the devices it holds; `chunkGrants` the room granted for chunks (instance, kind, chain, member's rank); `pipeIn` the payloads that wait for
their receiver, `pipeTaken` those the lead's replays may want again in the step (R137), and `pipeOut` those sent and not yet taken (context,
sender, receiver, micro-batch); `linkSent` that this device's last message told of its changed links, `callPast` that the Call of the Curtain
now in exchange is over, `curtHeld` the messages that came under a Roster version not yet in force here (R378-R380); `rowsTaken` whose dispatches
the lead's experts took in the step (source, home, micro-batch; R414); `ended` the engine's and the Rolls'
transfers that the link has ended, which are never acknowledged (R354, R356); `rows` the reserved rows held and `rowsWait` the dispatches, with their ports, that wait for rows (R283). -/
structure LinkSt where
  ports : SMap PortLink
  tx : List TxFlow
  rx : List RxFlow
  delivered : List Pkt
  roster : Option Roster
  prevRoster : Option Roster
  me : Nat
  routes : List RouteEnt
  nextRoutes : Option (List RouteEnt)
  linkChanged : Bool
  linkSent : Bool
  callPast : Bool
  curtHeld : List (Nat × CurtainMsg)
  call : Option CallSt
  ballot : Nat
  callDone : Option (Proposal × Roster)
  curtain : Nat
  curtMsg : Option CurtainMsg
  curtFrom : List Nat
  record : Option CurtainMsg
  colls : List Coll
  chunkGrants : List (Nat × Nat × Nat × Nat)
  hops : List XHop
  grants : List RollGrant
  pipeIn : List PipeMsg
  pipeOut : List (Nat × Nat × Nat × Nat)
  pipeTaken : List PipeMsg
  rowsTaken : List (Nat × Nat × Nat)
  rows : List RowRegion
  rowsWait : List (Nat × Pkt)
  gongs : List (Nat × Nat)
  ended : List Requester
  unreachable : List Nat
  fillEns : List (Nat × EnsRec)
  retrain : List (Nat × Nat)
  passedLanes : List (Nat × Nat)
  readmits : List (Nat × Nat)
  deriving DecidableEq, Repr

def LinkSt.empty : LinkSt :=
  { ports := [], tx := [], rx := [], delivered := [], roster := none, prevRoster := none, me := 0, routes := [],
    nextRoutes := none, linkChanged := false, linkSent := false, callPast := false, curtHeld := [], call := none, ballot := 0, callDone := none,
    curtain := 0, curtMsg := none, curtFrom := [], record := none, colls := [], chunkGrants := [], hops := [], grants := [], pipeIn := [], pipeOut := [], pipeTaken := [], rowsTaken := [], rows := [], rowsWait := [], gongs := [], ended := [],
    unreachable := [], fillEns := [], retrain := [], passedLanes := [], readmits := [] }

end Sys2Proof.Machine
end

