-- ==== Sys2Proof/Machine/MemState.lean ====
section
/-! DEFINITION. The state of the shared memory: Wings scratch, Wings cache lines, the stacks by physical place, ordered
sequences, regulators, repair, and host memory (06). -/

namespace Sys2Proof.Machine

/-- A cached 256-byte line (R207): line number (address / 256), owning context, valid and dirty bits of its four sectors,
bytes by offset, error state by 16-byte word. -/
structure CLine where
  line : Nat
  ctx : Nat
  valid : BitVec 4
  dirty : BitVec 4
  data : SMap Byte
  ecc : SMap (BitVec 2)
  deriving DecidableEq, Repr

/-- A write held for an ordered sequence (R212): key, format, bytes, poison. -/
structure HeldWrite where
  key : Nat
  red : Nat
  data : List Byte
  poison : Bool
  deriving DecidableEq, Repr

/-- The ordered sequence of one 256-byte line (R212): line number (address / 256), its tensor, position, held writes, and
whether its key list has one key only, so that it takes no table entry (R213). -/
structure SeqLine where
  line : Nat
  tensor : Nat
  pos : Nat
  held : List HeldWrite
  single : Bool
  deriving DecidableEq, Repr

/-- A request that waits at a home slice, for its regulator (R225) or for a way (R208): the context charged (16 is the system
class), address, length, the bytes of a write, and for a kernel's request the Stage, PC, class and opcode of its transfer. -/
structure MemReq where
  ctx : Nat
  pa : Nat
  bytes : Nat
  data : Option (List Byte)
  kernel : Option (Nat × Nat × Nat × Nat)
  deriving DecidableEq, Repr

/-- A record of the repair log (R240): 1 hard repair, 2 soft remap, 3 page, 4 channel; stack, pseudo-channel or page, row. -/
structure Repair where
  kind : Nat
  stack : Nat
  pc : Nat
  row : Nat
  deriving DecidableEq, Repr

/-- A channel retirement in progress (R222): the channels being retired, and whether the copy has ended. -/
structure ChanCopy where
  chans : List Nat
  ended : Bool
  deriving DecidableEq, Repr

/-- The memory system. `stack` is keyed by the place R217 gives, 2^31 × pseudo-channel + 256 × row + byte (the relocation
of R220 is a bijection of those places, applied where the stack itself matters); `scratch` by the offset of R205; `lines`
most recently used first; `pages` gives the owner (context + 1) of each 2 MiB page; `tokens` how far each bucket of R225 and
R226 is below full (0-15 read, 16-31 write, 32 system, 33 guarantee); `rows` the times of the corrected-error occasions of
R235 by row; `failing` the failing rows (pseudo-channel, row) that await a repair; `waiters` the accesses that found every
way pinned (R208); `chanCount` the pages retired for rows in each channel, and rows found failing in them later (R236, R237);
`turns` the context each stack controller served last (R226). `sys` is the MODEL's own field: it says that the access being made
is a swap, a repair or a move of the Stage Manager, which the system regulator is charged for (R224); no command leaves it set. -/
structure MemSt where
  scratch : SMap Byte
  scratchEcc : SMap (BitVec 2)
  stack : SMap Byte
  stackEcc : SMap (BitVec 3)
  lines : List CLine
  seqs : List SeqLine
  doneSeqs : List (Nat × Nat)
  tokens : SMap Nat
  queue : List MemReq
  waiters : List MemReq
  pages : SMap Nat
  retiredPages : List Nat
  pendPages : List (Nat × Nat)
  retiredChans : List Nat
  copy : Option ChanCopy
  remaps : List Repair
  hard : List Repair
  log : List Repair
  rows : SMap (List Nat)
  failing : List (Nat × Nat)
  chanCount : SMap Nat
  turns : SMap Nat
  sys : Bool
  host : SMap Byte
  hostBad : List (Nat × Nat)
  deriving DecidableEq, Repr

/-- After reset: nothing listed anywhere. -/
def MemSt.empty : MemSt :=
  ⟨[], [], [], [], [], [], [], [], [], [], [], [], [], [], none, [], [], [], [], [], [], [], false, [], []⟩

end Sys2Proof.Machine
end

