-- ==== Sys2Proof/Machine/PbkState.lean ====
section
/-! DEFINITION. The state of Prompt Book and Recast: protection classes and copies, parity, input log, open requests and
queries, Recast, refill, handovers, admission, saves and restores (10). -/

namespace Sys2Proof.Machine

/-- A quorum query the coordinator has open (R423): suspect, cause code of R454, devices asked, answers (device, alive). -/
structure Query where
  dev : Nat
  cause : Nat
  asked : List Nat
  answers : List (Nat × Bool)
  deriving DecidableEq, Repr

/-- A Recast in progress (R425-R432): the failed devices, cause, phase 0-4, the TCLK time that phase began, whether it became
a double fault, and the virtual ranks that moved here. -/
structure RecastSt where
  failed : List Nat
  cause : Nat
  phase : Nat
  since : W64
  double : Bool
  gained : List Nat
  deriving DecidableEq, Repr

/-- A request for state (R419, R428): virtual rank, tensor, offset, bytes still wanted, who was asked, attempts. -/
structure StReq where
  vr : Nat
  tensor : Nat
  off : Nat
  len : Nat
  src : Nat
  tries : Nat
  deriving DecidableEq, Repr

/-- A run being rebuilt from its parity group (R408, R411, R419): its identity here, the lost member, for whom, what was asked, where in
the lost member's sequence, the members still to answer, the exclusive or so far, and for a gather its Stage, transfer, row
length, rows and stride. -/
structure Rebuild where
  id : Nat
  lost : Nat
  forDev : Nat
  vr : Nat
  tensor : Nat
  off : Nat
  len : Nat
  seqOff : Nat
  left : List Nat
  value : List Byte
  gather : Option (Nat × Nat × Nat × Nat × Nat)
  deriving DecidableEq, Repr

/-- A refill item (R433): 0 a moved rank's load, 1 a mirror copy, 2 a replica copy, 3 parity; virtual rank, tensor, source. -/
structure Refill where
  kind : Nat
  vr : Nat
  tensor : Nat
  src : Nat
  deriving DecidableEq, Repr

/-- A handover (R436): virtual rank, source, target, whether its load is complete. -/
structure Handover where
  vr : Nat
  src : Nat
  tgt : Nat
  ready : Bool
  deriving DecidableEq, Repr

/-- A record of the input log (R413): virtual rank, micro-batch, step, contents. -/
structure LogRec where
  vr : Nat
  mb : Nat
  step : Nat
  data : List Byte
  deriving DecidableEq, Repr

/-- The save region of SNAPSHOT_SAVE (R441, R478): endpoint, base, bytes. -/
structure SaveRegion where
  ep : Nat
  base : Nat
  len : Nat
  key : Nat
  deriving DecidableEq, Repr

/-- A Curtain save being written (R440-R444): slot 0 A, 1 B, 2 EVAL; the saved step; whether this device's objects are
written, at the coordinator itself once the manifest goes out; the ranks of the job, the Roster version and the tag records at that Curtain;
the digests of objects known here. -/
structure SaveSt where
  region : SaveRegion
  slot : Nat
  step : Nat
  eval : Bool
  own : Bool
  done : List Nat
  vranks : Nat
  version : Nat
  tags : List Byte
  data : List (Nat × List Byte)
  deriving DecidableEq, Repr

/-- The copy of version s of a shard that a version fault calls for (R272): member, tensor, the gather's offset, row length, rows and stride, the
stamp wanted, the devices still to be asked, the first of them the one asked; the bytes fetched, all of them once `found`. -/
structure Redirect where
  member : Nat
  tensor : Nat
  off : Nat
  len : Nat
  rows : Nat
  stride : Nat
  ens : Nat
  step : Nat
  crc : W64
  devs : List Nat
  found : Bool
  data : List Byte
  deriving DecidableEq, Repr

/-- Prompt Book's state. `classes` gives each state tensor's class (1 replicated, 2 mirrored, 3 parity; R397); `applied` the step
whose total each shard last took (virtual rank, DST word of its collective, step; R406); `parSelf` this member's data
sequence at the Curtain and `parSent` as its deltas tell it, `parCur` and `parWork` the parity blocks held in both versions (R408-R410), `parRoster` the Roster
under which the Curtain version is laid out; `waitReqs` requests for state of a rank whose update is running here (requester, request);
`replPrev` a replica's contents before this step's (R412); `kept` payloads and rows sent this step (R414); `failed` the devices known
to have failed, `lost` the entries of those whose refill is open, `owed` the copies that a Recast has given a new partner meanwhile (1 mirror or 2 replica,
owner, partner) and `newHosts` the hosts that took their ranks (R435); `begun` the micro-batches of the step whose log record has gone out
(R413); `replays` the items restored once, each with the virtual rank and micro-batch of its replay, its tensor and offset (R137); `redirects` the retained copies fetched,
which further gathers of a shard in this step come from (R272); `digests` the stamps of working copies (virtual rank, tensor, step, CRC-64; R269), `scrubs` this
device's own CRC-64 values of the last scrub and `scrubIn` those that have come (device, virtual rank, tensor, step, CRC-64; R420);
`inputs` the logged inputs that a mirror's log has given (virtual rank, micro-batch, bytes), `supplied` the micro-batches whose input is in
place, `logAsked` the ranks whose log is still awaited (R261, R413, R430); `held` packets that wait for this device to reach the sender's step or Roster version, `parSince` the Roster version at which the
parity was last begun anew; `savedIn` the region that the last complete save of PBK_SAVE_STATE lies in. -/
structure PbkSt where
  classes : List (Nat × Nat)
  applied : List (Nat × Nat × Nat)
  parSelf : SMap Byte
  parSent : SMap Byte
  parCur : SMap Byte
  parWork : SMap Byte
  parRoster : Option Roster
  waitReqs : List (Nat × StReq)
  replPrev : List (Nat × Nat × List Byte)
  log : List LogRec
  kept : List Pkt
  reqs : List StReq
  rebuilds : List Rebuild
  nextRebuild : Nat
  redirects : List Redirect
  digests : List (Nat × Nat × Nat × W64)
  scrubs : List (Nat × Nat × Nat × W64)
  scrubIn : List (Nat × Nat × Nat × Nat × W64)
  held : List Pkt
  parSince : Nat
  queries : List Query
  confirmed : List (Nat × Nat)
  failed : List Nat
  lost : List DevEntry
  owed : List (Nat × Nat × Nat)
  newHosts : List Nat
  recast : Option RecastSt
  refill : List Refill
  handovers : List Handover
  admitting : Option (W64 × Nat)
  admitReqs : List (W64 × List Byte)
  releasing : Bool
  saveAsked : Option Bool
  saveBegan : W64
  save : Option SaveSt
  region : Option SaveRegion
  savedIn : Option SaveRegion
  restoring : Option Nat
  restored : List (Nat × Nat)
  replays : List (Nat × Nat × Nat × Nat)
  begun : List (Nat × Nat)
  inputs : List (Nat × Nat × List Byte)
  supplied : List (Nat × Nat)
  logAsked : List Nat
  deriving DecidableEq, Repr

def PbkSt.empty : PbkSt :=
  { classes := [], applied := [], parSelf := [], parSent := [], parCur := [], parWork := [], parRoster := none, waitReqs := [], replPrev := [],
    log := [], kept := [], reqs := [], rebuilds := [], nextRebuild := 0, redirects := [], digests := [], scrubs := [], scrubIn := [], held := [], parSince := 0, queries := [], confirmed := [], failed := [], lost := [], owed := [],
    newHosts := [], recast := none, refill := [], handovers := [], admitting := none, admitReqs := [],
    releasing := false, saveAsked := none, saveBegan := 0, save := none, region := none, savedIn := none, restoring := none,
    restored := [], replays := [], begun := [], inputs := [], supplied := [], logAsked := [] }

end Sys2Proof.Machine
end

