-- ==== Sys2Proof/Machine/SchedState.lean ====
section
/-! DEFINITION. The state of the Stage Manager: contexts, launches, Cue Sheets, Stage shares, Curtain and straggler
figures (07, 08). -/

namespace Sys2Proof.Machine

/-- The job shape of LOAD_SCORE (R258, R474), zero fields already replaced by their defaults. -/
structure Shape where
  vranks : Nat
  dp : Nat
  pp : Nat
  sq : Nat
  mb : Nat
  tokens : Nat
  capFactor : Nat
  ahead : Nat
  groupMax : Nat
  stageQueue : Nat
  deriving DecidableEq, Repr

/-- A weight set of a serving context (R286-R288): number, references held, whether a load has completed, whether it is current, and the
targets whose bytes failed their check (tensor, offset). -/
structure WSet where
  num : Nat
  refs : Nat
  loaded : Bool
  current : Bool
  bad : List (Nat × Nat)
  deriving DecidableEq, Repr

/-- A tag's history of job-wide maxima (R47) is kept with the tag's exponent in TLY_SCALE; newest first. -/
structure TagHist where
  tag : Nat
  maxima : List W32
  deriving DecidableEq, Repr

/-- A registered context (R290-R294). `since` orders swaps (R316); `saved` says where the
scratch contents of a swapped-out context lie in its stack pages (R204): position among its segments, stack address, length; `mbNext` the micro-batches begun (R96); `resumed` says that
CONTEXT_RESUME has acted on it, so that it counts as runnable or blocked and no longer as created (R294, R334). -/
structure Ctx where
  num : Nat
  lead : Bool
  prio : Nat
  resident : Bool
  suspended : Bool
  suspCause : Nat
  resumed : Bool
  jobId : W64
  seed : W64
  cacheSegs : Nat
  scratchSegs : Nat
  cacheMask : BitVec 16
  scratchMask : BitVec 16
  stackGib : Nat
  score : Option Score
  shape : Option Shape
  tensors : List TensorPlace
  wsets : List WSet
  mbNext : Nat
  submitted : Nat
  since : Nat
  preemptRun : Nat
  saved : List (Nat × Nat × Nat)
  savedRng : List (Nat × SMap (BitVec 128))
  deriving DecidableEq, Repr

/-- A launch (R304-R306): its sheet and entry, the item it serves, the launches it waits on, the Stages it holds;
`state` 0 waiting, 1 running, 2 complete; `serves` the instances it serves (R268); `tally` the contributions of its completed instances, `tallied` once they were
added to the step, `insts` those instances (virtual rank, micro-batch), `fetched` that it fetched something over the links (R268), `tags` the distinct tags those instances named (R177). -/
structure Launch where
  id : Nat
  ctx : Nat
  sheet : Nat
  entry : Nat
  kind : Nat
  backward : Bool
  kernel : Nat
  layer : Nat
  vrank : Nat
  mb : Nat
  group : Option Nat
  deps : List Nat
  cap : Nat
  state : Nat
  stages : List Nat
  left : Nat
  serves : Nat
  insts : List (Nat × Nat)
  fetched : Bool
  started : Nat
  preempts : Nat
  noTally : Bool
  tally : Tally
  tallied : Bool
  tags : List Nat
  deriving DecidableEq, Repr

/-- A pin of a gathered copy (R129, R271): its context, launch, virtual rank and micro-batch, the instances its launch serves; tensor, offset, length, row length and stride; the member
whose shard it is, its stamp (step, CRC-64), and the device runs that hold it. -/
structure Pin where
  ctx : Nat
  launch : Nat
  vrank : Nat
  mb : Nat
  insts : List (Nat × Nat)
  tensor : Nat
  off : Nat
  len : Nat
  row : Nat
  stride : Nat
  member : Nat
  step : Nat
  crc : W64
  runs : List (Nat × Nat)
  deriving DecidableEq, Repr

/-- A measurement of the ended step (R268): pipeline stage, q, layer, direction, gather or compute, ns, the instances served, whether a gather fetched over
the links. -/
structure Meas where
  p : Nat
  q : Nat
  layer : Nat
  backward : Bool
  gather : Bool
  ns : Nat
  insts : List (Nat × Nat)
  fetched : Bool
  deriving DecidableEq, Repr

/-- A staged Cue Sheet (R301): stage, target step, sheet, and the slot, sequence number and tag of its command. -/
structure StagedSheet where
  p : Nat
  target : Nat
  sheet : Sheet
  deriving DecidableEq, Repr

/-- What the ring records of an ended step need (R183, R184): the step, the Curtain's time, the exponents in force during the step where
they differ from those chosen, whether a Recast occurred in it, and the devices that left at the Curtain (R181). -/
structure RingCtx where
  step : Nat
  time : W64
  exps : List (Nat × Nat)
  recast : Bool
  left : List Nat
  deriving DecidableEq, Repr

/-- The Stage Manager's state. `step` is the lead step in progress; `begun` that its opening Curtain has opened (R569);
`wants` the lead launches that wait for Stages, since when, and the Stages chosen (R311); `busyNs` Stage-ns by sheet (R320); `issueNs` Stage-ns in which lead instances issued (R321); `urgentTest` that the test which took Stages out was urgent (R327); `ahead` the look-ahead in force, 0 while it is
the job shape's (R267); `nextExp`
the exponents chosen for weight-stream tags at the last Curtain (R278); `order` counts starts and swaps; `swap` the
context being swapped in or out; `refs` the weight-set references (context, micro-batch, set) of R287; `moves` the straggler plan (virtual rank, source, target); `uh`
the figures of R322 (device, u, Curtains in a row above the threshold); `jobTally` the parts of a combination received (65,536 × step +
device) and `tallySent` that this device's own part is in one; `dropped` that a ring record was dropped since the last one written; `jobRecord` the
last job-wide record (R179, R183). -/
structure SchedSt where
  ctxs : List Ctx
  launches : List Launch
  nextLaunch : Nat
  sheets : List (Nat × Sheet)
  staged : List StagedSheet
  shares : List (Nat × List Nat)
  groups : List (Nat × Nat)
  retired : List (Nat × Nat)
  testing : List Nat
  outAtCurtain : List Nat
  backAtCurtain : List Nat
  step : Nat
  begun : Bool
  leadStop : Bool
  wants : List (Nat × Nat × List Nat)
  order : Nat
  swapOut : List Nat
  swapIn : Option Nat
  moves : List (Nat × Nat × Nat)
  uh : List (Nat × Nat × Nat)
  hist : List TagHist
  stepTally : Tally
  jobTally : List (Nat × Tally)
  tallySent : Bool
  ring : RingCtx
  tallyLost : Bool
  replayed : Bool
  recastStep : Bool
  dropped : Bool
  jobRecord : List Byte
  busyNs : List (Nat × Nat)
  meas : List Meas
  nextExp : List (Nat × Nat)
  pins : List Pin
  refs : List (Nat × Nat × Nat)
  savedStep : Nat
  ahead : Nat
  issueNs : Nat
  urgentTest : Bool
  deriving DecidableEq, Repr

/-- After reset: no context, no launch. -/
def SchedSt.empty : SchedSt :=
  { ctxs := [], launches := [], nextLaunch := 0, sheets := [], staged := [], shares := [], groups := [], retired := [],
    testing := [], outAtCurtain := [], backAtCurtain := [], step := 0, begun := false, leadStop := false, wants := [],
    order := 0, swapOut := [], swapIn := none, moves := [], uh := [], hist := [], stepTally := ⟨[], []⟩, jobTally := [],
    tallySent := false, ring := ⟨0, 0, [], false, []⟩, tallyLost := false, replayed := false, recastStep := false, dropped := false, jobRecord := [],
    busyNs := [], meas := [], nextExp := [], pins := [], refs := [], savedStep := 0, ahead := 0, issueNs := 0, urgentTest := false }

end Sys2Proof.Machine
end

