-- ==== Sys2Proof/Machine/StageState.lean ====
section
/-! DEFINITION. The state of one Stage: Prompter, matrix arrays and accumulators, finished-tile queue, Snare, Stagehand,
semaphores, Tally contributions and Apron (03, 04, 05, 06). -/

namespace Sys2Proof.Machine

/-- Where a queued operation came from, for the fault registers (R138, R141): code-region offset, class, opcode. -/
structure Origin where
  pc : Nat
  cls : Nat
  op : Nat
  deriving DecidableEq, Repr

/-- A loop-stack entry (R111): offsets of the body's first and last instruction, iterations that remain. -/
structure LoopEnt where
  first : Nat
  last : Nat
  left : Nat
  deriving DecidableEq, Repr

/-- The kernel instance that holds a Stage: what the Stage Manager gave it (R94, R96, R108) and the tag exponents latched
at its start (R48). `noTally` marks launches R178 leaves out of the Tally. -/
structure Inst where
  ctx : Nat
  lead : Bool
  launch : Nat
  kernel : Nat
  index : Nat
  count : Nat
  vrank : Nat
  mb : W64
  step : Nat
  codeBase : Nat
  codeSize : Nat
  dataBase : Nat
  dataSize : Nat
  exps : List (Nat × Int)
  update : Bool
  noTally : Bool
  deriving DecidableEq, Repr

/-- What the Prompter waits for (the STATE codes 1-7 of R139). -/
inductive PrmWait where
  | run
  | queue
  | sem (i : Nat) (n : Nat)
  | fence (mask : BitVec 6)
  | curtain (rd : BitVec 5)
  | ending
  | faulted
  deriving DecidableEq, Repr

/-- The Prompter (R96, R98, R111, R139-R144): s1-s31 by number, p0-p7, PC, loop stack, wait, issue count. -/
structure Prm where
  regs : SMap W64
  preds : BitVec 8
  pc : Nat
  loops : List LoopEnt
  wait : PrmWait
  org : Origin
  seq : Nat
  deriving DecidableEq, Repr

/-- A feed-queue operation with the scalars captured at issue (R55, R102, R115). -/
inductive FeedOp where
  | wld (wt : Bool) (tile scl : W64) (spk : Bool)
  | azero (slot : Nat) (wide : Bool) (m : Nat)
  | mma (acc : Bool) (slot : Nat) (wt : Bool) (desc mask : W64) (amask fmt m : Nat)
  deriving DecidableEq, Repr

/-- A service-queue operation (R55, R117). -/
inductive SvcOp where
  | drain (slot : Nat) (desc : W64)
  | roll (slot : Nat) (hnd : W64) (dslot : Nat) (xdev : Bool) (amask : Nat)
  | racc (slot : Nat) (hnd : W64) (xdev : Bool) (amask : Nat)
  deriving DecidableEq, Repr

/-- A queued matrix operation, its origin and its place in program order. -/
structure FeedEnt where
  org : Origin
  seq : Nat
  op : FeedOp
  deriving DecidableEq, Repr

structure SvcEnt where
  org : Origin
  seq : Nat
  op : SvcOp
  deriving DecidableEq, Repr

/-- A weight register (R57, R58): tile bytes and, where loaded, a scale plane of 512 B or (`big`) 1,024 B. -/
structure WtReg where
  valid : Bool
  tile : SMap Byte
  scaled : Bool
  big : Bool
  plane : SMap Byte
  deriving DecidableEq, Repr

/-- A weight-tile load the port has started (R57): `own` the CCLK for which its scale line meets a bank of its own tile lines, `met` those for
which the rows that entered meanwhile met on a bank (R199). -/
structure WldLoad where
  seq : Nat
  wt : Bool
  data : WtReg
  own : Nat
  met : Nat
  deriving DecidableEq, Repr

/-- An accumulator slot (R67, R71): physical row blocks in order, and the fed bits keyed 256 × array + row. -/
structure Slot where
  opened : Bool
  wide : Bool
  m : Nat
  blocks : List Nat
  fed : SMap Bool
  deriving DecidableEq, Repr

/-- One array's entry of an activation descriptor (R63). -/
structure ActEnt where
  rowBase : Nat
  rowStride : Nat
  scaleBase : Nat
  scaleStride : Nat
  deriving DecidableEq, Repr

/-- An MMA whose rows are entering (R59): the entries of the four arrays, and per named array the rows still to feed. -/
structure MmaRun where
  org : Origin
  seq : Nat
  acc : Bool
  slot : Nat
  wt : Bool
  fmt : Nat
  base : List ActEnt
  left : List (Nat × List Nat)
  deriving DecidableEq, Repr

/-- A row in an adder tree (R61): the lockstep group it entered with, its 256 results, each hi and lo. -/
structure RowFly where
  grp : Nat
  seq : Nat
  slot : Nat
  array : Nat
  row : Nat
  res : List (W32 × W32)
  deriving DecidableEq, Repr

/-- The fields of a drain descriptor (R75). -/
structure DrainDesc where
  outFmt : Nat
  rnd : Nat
  sat : Bool
  maskedZero : Bool
  arrays : Nat
  k : Int
  tensor : Nat
  tileRow : Nat
  tileCol : Nat
  deriving DecidableEq, Repr

/-- One 16-row group of one array's part on its way out (R74, R82): array, group, whether it delivers the lo half of a wide
drain, the 4,096 hi and (wide) lo entries, rows that hold a poisoned word, fed bits of the rows. -/
structure Block where
  array : Nat
  group : Nat
  lo : Bool
  vals : List W32
  los : List W32
  poison : List Nat
  fed : List Bool
  deriving DecidableEq, Repr

/-- The readout in progress at the head of the service queue (R74, R82). -/
structure SvcRun where
  drain : Option DrainDesc
  left : List (Nat × Nat × Bool)
  out : Option Block
  granted : Bool
  deriving DecidableEq, Repr

/-- A use of an accumulator's service port that has become ready (R86): the Roll-in it belongs to, or none for the readout at the
head of the service queue, and the array. -/
structure PortUse where
  rin : Option Nat
  array : Nat
  deriving DecidableEq, Repr

/-- A Roll-in accepted by an RACC (R82-R85): whether its sender holds the grant, blocks that have arrived and the count still to
add. -/
structure RollIn where
  org : Origin
  seq : Nat
  slot : Nat
  hnd : W64
  xdev : Bool
  amask : Nat
  granted : Bool
  arrived : List Block
  left : Nat
  deriving DecidableEq, Repr

/-- A finished-tile queue entry (R79): element bits keyed 256 × row + column, scale bytes keyed 8 × row + block. -/
structure FtqEnt where
  fmt : Nat
  lo : Bool
  vals : SMap W32
  scales : SMap Byte
  valid : BitVec 16
  poison : Bool
  ecc : SMap (BitVec 2)
  deriving DecidableEq, Repr

/-- The matrix arrays of a Stage (03): the queues, the WLD the weight port loads (`port`) and the one it holds pending (`pend`,
R57), uses of the service ports in the order they became ready (`uses`, R86), rows a Roll-in
added to since a pass last entered (slot, array, row; R62); accumulator entries keyed 65,536 × array + 4,096 × block + 256 × row + column,
their error state keyed by 64-bit word. -/
structure Mxa where
  feed : List FeedEnt
  svc : List SvcEnt
  port : Option WldLoad
  pend : Option FeedEnt
  wt0 : WtReg
  wt1 : WtReg
  slots : SMap Slot
  acc : SMap W32
  accEcc : SMap (BitVec 2)
  mma : Option MmaRun
  fly : List RowFly
  svcRun : Option SvcRun
  rollIns : List RollIn
  uses : List PortUse
  rolled : List (Nat × Nat × Nat)
  ftq : List FtqEnt
  deriving DecidableEq, Repr

/-- Elementwise operations of R157. -/
inductive EwOp where
  | add | sub | mul | fma | fms | fnma | min | max | abs | neg | cpy | ceq | cne | clt | cle | cnan | sel | exp | rcp | rsq
  deriving DecidableEq, Repr

/-- Reductions of R157, R159. -/
inductive RedOp where
  | rsum | rmax | ramax | csum | cmax | camax
  deriving DecidableEq, Repr

/-- A vector instruction with its scalars captured at issue (R102). -/
inductive VInst where
  | ew (f : EwOp) (o : VOp) (sr : W64)
  | red (f : RedOp) (o : VOp) (sr : W64)
  | pop (vd blk : Nat)
  | popw (vd blk : Nat)
  | ld (o : VMem) (ra : W64)
  | st (o : VMem) (ra : W64)
  | ldw (o : VMem) (ra : W64)
  | stw (o : VMem) (ra : W64)
  | bld (b : Nat) (ra : W64)
  | bst (b : Nat) (ra : W64)
  | brow (b sa row : Nat)
  | bcol (b sa col : Nat)
  | rvset (vd : Nat) (ra : W64)
  | rvget (va : Nat) (rd : BitVec 5)
  | sig (sem n : Nat)
  | rng (o : VMem) (ra : W64)
  | drop (o : VMem) (sa : Nat) (ra sr : W64)
  | topk (vd sa row0 nr ncol k : Nat)
  | mom (vm vg vv row0 nr : Nat) (sr : W64)
  | upd (vw vm vv vg row0 nr : Nat) (sr : W64)
  | tly (sa row0 nr : Nat) (sr : W64)
  | tlyc (sr rc : W64)
  deriving DecidableEq, Repr

/-- A Snare-queue entry (R152-R154): once worked off (`done`), the Apron bytes it still has to write and the semaphore
increment it still has to make; it leaves the queue when it completes. -/
structure SnEntry where
  org : Origin
  ins : VInst
  done : Bool
  writes : List (Nat × List Byte)
  deriving DecidableEq, Repr

/-- The Snare (R145, R151, R152): buffer elements keyed 16,384 × buffer + 256 × row + column, valid bits by buffer,
broadcast elements (bvr0 0-255, bvr1 256-511, bvc0 512-575, bvc1 576-639), error state by 64-bit word. -/
structure Snr where
  queue : List SnEntry
  vb : SMap W32
  valid : SMap W64
  bv : SMap W32
  vbEcc : SMap (BitVec 2)
  bvEcc : SMap (BitVec 2)
  deriving DecidableEq, Repr

/-- An outstanding Stagehand instruction (R121-R130): descriptor words copied at issue, the descriptor's place, semaphore;
for a gather the bytes that arrived, their copy's version stamp and their own CRC-64; of a scatter its index list as it was read, and whether
it was poisoned (R102); for a reducing transfer the lines applied or held; whether its
packets have been handed to the link; its identity; whether the link has ended it (R354, R356). -/
structure ShOp where
  org : Origin
  desc : List W64
  daddr : Nat
  sem : Nat
  nosig : Bool
  retries : Nat
  arrived : Option (List Byte × Nat × W64 × W64)
  list : Option (List W64 × Bool)
  lines : Nat
  sent : Bool
  id : Nat
  dead : Bool
  slot : Nat
  deriving DecidableEq, Repr

/-- A remote semaphore signal in flight (R133). -/
structure RemSig where
  launch : Nat
  inst : Nat
  sem : Nat
  n : Nat
  deriving DecidableEq, Repr

/-- Synchronisation and DMA state of a Stage (R98, R120, R133). -/
structure Shd where
  ops : List ShOp
  sems : SMap (BitVec 16)
  remote : List RemSig
  deriving DecidableEq, Repr

/-- A Stage's Apron (R198, R229): bytes, error state by 8-byte word, which context last held which bytes (R94), and the poisoned word that the
instance met last (R137). -/
structure Apr where
  bytes : SMap Byte
  ecc : SMap (BitVec 2)
  owner : List (Nat × Nat × Nat)
  met : Option Nat
  deriving DecidableEq, Repr

/-- One physical Stage. `rng` holds the free-mode counter of each context on the Stage (R170); `tags` the distinct tags the
kernel has named in a Tally contribution (R177); `ues` when its memories' last four uncorrectable errors were met, newest first (R514). -/
structure Stage where
  inst : Option Inst
  prm : Prm
  mx : Mxa
  sn : Snr
  sh : Shd
  ap : Apr
  tally : Tally
  tags : List Nat
  rng : SMap (BitVec 128)
  ues : List Nat
  deriving DecidableEq, Repr

def WtReg.empty : WtReg := ⟨false, [], false, false, []⟩
def Slot.closed : Slot := ⟨false, false, 0, [], []⟩

/-- R96, R139: no kernel. -/
def Prm.idle : Prm := ⟨[], 0, 0, [], .run, ⟨0, 0, 0⟩, 0⟩
def Mxa.empty : Mxa := ⟨[], [], none, none, .empty, .empty, [], [], [], none, [], none, [], [], [], []⟩
def Snr.empty : Snr := ⟨[], [], [], [], [], []⟩
def Shd.empty : Shd := ⟨[], [], []⟩
def tallyEmpty : Tally := ⟨[], []⟩

/-- A Stage after reset: idle, everything at its reset value. -/
def Stage.idle : Stage := ⟨none, .idle, .empty, .empty, .empty, ⟨[], [], [], none⟩, tallyEmpty, [], [], []⟩

end Sys2Proof.Machine
end

