-- ==== Sys2Proof/Machine/State.lean ====
section
/-! DEFINITION. The machine's state, why a step can stop, and the state after reset. -/

namespace Sys2Proof.Machine

/-- Why a step can fault. Ordinary data never does. -/
inductive Fault where
  /-- Raised by a meaning whose operand names a unit the device does not have (a Stage past 143, a port past 23, a slot
  past 63 …): the device takes no such command. Safe: the machine stops where the hardware has no behaviour. -/
  | noSuchUnit
  deriving DecidableEq, Repr

/-- Why a step can refuse. -/
inductive Refusal where
  /-- Raised by an arm of `exec` that has no meaning yet. Safe: nothing can be proved of it. -/
  | notModelled (mnemonic : String)
  deriving DecidableEq, Repr

/-- The BM960 as a block. `regs` holds the control registers that are plain storage, by BAR0 offset, each as the
exclusive or with its reset value (Machine/Regs.lean reads and writes them); `stages` the Stages by physical number;
`freeCtr` and `turn` are the MODEL's own fields: `freeCtr` counts the free values drawn so far (log entry 12), `turn` is the
Stage from which the tick looks for a Prompter that can issue (log entry 3). -/
structure State where
  pending : List Instr
  regs : SMap W64
  stages : SMap Stage
  mem : MemSt
  sched : SchedSt
  link : LinkSt
  pbk : PbkSt
  booth : BoothSt
  plat : PlatSt
  freeCtr : Nat
  turn : Nat
  deriving DecidableEq, Repr

/-- The machine after power-on reset with PERST_N deasserted (R501, R506): BOOT, every register at its reset value,
every memory with nothing listed, no command waiting. -/
def State.reset : State :=
  { pending := [], regs := [], stages := [], mem := .empty, sched := .empty, link := .empty, pbk := .empty,
    booth := .empty, plat := .boot, freeCtr := 0, turn := 0 }

end Sys2Proof.Machine
end

