-- ==== Sys2Proof/Machine/Regs.lean ====
section
/-! DEFINITION. Stored control registers: reset values, reading and writing registers and fields, counters (R9, R93).
A register is stored as the exclusive or with its reset value, so an unlisted offset reads as the reset value. -/

namespace Sys2Proof.Machine

/-- Bits [hi:lo] of a word as a number. -/
def bitsOf (v : W64) (hi lo : Nat) : Nat := v.toNat / 2 ^ lo % 2 ^ (hi + 1 - lo)

/-- A word with bits [hi:lo] replaced. -/
def setBits (v : W64) (hi lo x : Nat) : W64 :=
  BitVec.ofNat 64 (v.toNat - bitsOf v hi lo * 2 ^ lo + x % 2 ^ (hi + 1 - lo) * 2 ^ lo)

/-- The reset values of a field table put together. -/
def fieldsReset : List RegField → Nat
  | [] => 0
  | f :: t => f.reset * 2 ^ f.lo + fieldsReset t

/-- Eight ASCII characters in a word, the first in [7:0] (R517). -/
def ascii : List Nat → Nat
  | [] => 0
  | c :: t => c + 256 * ascii t

/-- The credits of the eight virtual channels and the weights of VC0-VC3 at reset (R346, R393). -/
def vcCredit : Nat → Nat
  | 0 => 480 | 1 => 288 | 2 => 288 | 3 => 160 | 4 => 160 | 5 => 160 | _ => 0
def vcWeight : Nat → Nat
  | 0 => 8 | 1 => 4 | 2 => 4 | 3 => 2 | _ => 0

/-- Bits n·64 to n·64 + 63 of the Stage fuse map (R517). -/
def fuseWord (j : Nat) : Nat → Nat
  | 0 => 0
  | k + 1 => fuseWord j k + (if Config.stageFused (64 * j + k) then 2 ^ k else 0)

/-- Reset values that a field table gives as "fuse" or "hw", and per-instance ones (R517, R518, R252-R256, R393, R535;
log entries 6 and 7). -/
def hwReset (r : Reg) (i : Nat) : Nat :=
  match r with
  | .idnPart => if i = 0 then ascii [66, 77, 57, 54, 48, 45, 76, 81] else ascii [65]
  | .idnStepping => 0x3141 + 2 ^ 16 + Config.pciVendor * 2 ^ 24
  | .idnDevid => Config.lotSeq * 2 ^ 32 + Config.wafer * 2 ^ 16 + Config.dieX * 2 ^ 8 + Config.dieY
  | .idnLot => Config.lotCode
  | .idnWafer => Config.wafer + Config.dieX * 2 ^ 8 + Config.dieY * 2 ^ 16 + Config.fieldMap * 2 ^ 24
      + Config.lotSeq * 2 ^ 32
  | .idnStageFuse => fuseWord i 64
  | .idnSvnFloor => Config.svnFloor
  | .capUnits => Config.capUnits
  | .capStages => Config.capStages
  | .capStacks => Config.capStacks
  | .capLinks => Config.capLinks
  | .capFormats => Config.capFormats
  | .hbmStack => 1 + Config.bootTemp * 2 ^ 3
  | .hbmCapacity => 768 + 4 * 2 ^ 16
  | .hbmRemap => i * 2
  | .lnkVcCred => vcCredit i + vcWeight i * 2 ^ 16
  | .pwrTemp => Config.bootTemp + Config.bootTemp * 2 ^ 8
  | .pwrRail => Config.bootRailMv i
  | .pwrStatus => Config.bootTemp * 2 ^ 12 + Config.bootTemp * 2 ^ 20
  | .clkCclk => Config.bootCclkMhz + Config.bootVddMv * 2 ^ 12
  | .ethPortMac => Config.ethMac i
  | .ethEpStatus => (0x100 + i) * 2 ^ 2
  | _ => 0

/-- The value of instance `i` of register `r` after reset. -/
def regReset (r : Reg) (i : Nat) : W64 := BitVec.ofNat 64 (fieldsReset r.desc.fields + hwReset r i)

/-- BAR0 offset of instance `i`. -/
def Reg.off (r : Reg) (i : Nat) : Nat := r.desc.base + i * r.desc.stride

/-- The stored value of a register. -/
def State.rd (s : State) (r : Reg) (i : Nat := 0) : W64 := mget 0 s.regs (r.off i) ^^^ regReset r i

/-- A register given a value. -/
def State.wr (s : State) (r : Reg) (i : Nat) (v : W64) : State :=
  { s with regs := mset 0 s.regs (r.off i) (v ^^^ regReset r i) }

/-- A field of a register. -/
def State.fld (s : State) (r : Reg) (i hi lo : Nat) : Nat := bitsOf (s.rd r i) hi lo

/-- A field given a value. -/
def State.setFld (s : State) (r : Reg) (i hi lo x : Nat) : State := s.wr r i (setBits (s.rd r i) hi lo x)

/-- A counter that wraps modulo 2^64 raised by `n` (R93). -/
def State.bump (s : State) (r : Reg) (i n : Nat) : State := s.wr r i (s.rd r i + BitVec.ofNat 64 n)

/-- A counting field raised by `n`, saturating. -/
def State.satBump (s : State) (r : Reg) (i hi lo n : Nat) : State :=
  s.setFld r i hi lo (Nat.min (s.fld r i hi lo + n) (2 ^ (hi + 1 - lo) - 1))

/-- A register put back to its reset value. -/
def State.resetReg (s : State) (r : Reg) (i : Nat) : State := s.wr r i (regReset r i)

/-- TCLK now, in nanoseconds (R522, R536). -/
def State.now (s : State) : W64 := s.rd .clkTime

end Sys2Proof.Machine
end

