-- ==== Sys2Proof/Machine/Ops.lean ====
section
/-! DEFINITION. Shared operations: bytes and words, error states, Stages and their Aprons, host memory, interrupts and the
event log (R104-R114, R229-R233, R486-R489). -/

namespace Sys2Proof.Machine

/-- `n` bytes of a number, least significant first (R7). -/
def leBytes : Nat → Nat → List Byte
  | 0, _ => []
  | n + 1, x => BitVec.ofNat 8 x :: leBytes n (x / 256)

/-- The number a little-endian byte sequence spells. -/
def ofLe : List Byte → Nat
  | [] => 0
  | b :: t => b.toNat + 256 * ofLe t

/-- The 64-bit words of a byte sequence. -/
def leWords : Nat → List Byte → List W64
  | 0, _ => []
  | n + 1, bs => BitVec.ofNat 64 (ofLe (bs.take 8)) :: leWords n (bs.drop 8)

/-- The bytes of words. -/
def wordsLe : List W64 → List Byte
  | [] => []
  | w :: t => leBytes 8 w.toNat ++ wordsLe t

/-- A list entry replaced. -/
def setAt {α : Type} : List α → Nat → α → List α
  | [], _, _ => []
  | _ :: t, 0, x => x :: t
  | a :: t, n + 1, x => a :: setAt t n x

/-- A list entry removed. -/
def dropAt {α : Type} : List α → Nat → List α
  | [], _ => []
  | _ :: t, 0 => t
  | a :: t, n + 1 => a :: dropAt t n

/-- Division rounded up. -/
def cdiv (a b : Nat) : Nat := (a + b - 1) / b

/-- The states of a protected unit: clean, a correctable error, an uncorrectable error not yet met, poisoned (R229, R231). -/
abbrev eccOk : BitVec 2 := 0
abbrev eccCe : BitVec 2 := 1
abbrev eccUe : BitVec 2 := 2
abbrev eccBad : BitVec 2 := 3

/-- What reading a run of units meets: the states after, corrections made, units that became poisoned, units that are
poisoned (R229, R231). -/
structure Scan where
  ecc : SMap (BitVec 2)
  ce : Nat
  ue : List Nat
  bad : List Nat
  deriving DecidableEq, Repr

/-- Reading units `w` to `w + n − 1`: a correctable error is corrected, an uncorrectable one becomes poison. -/
def eccScan (m : SMap (BitVec 2)) (w n : Nat) : Scan :=
  let here (e : Nat × BitVec 2) : Bool := decide (w ≤ e.1 ∧ e.1 < w + n)
  let met := m.filter here
  { ecc := (m.filter (fun e => !(here e && decide (e.2 = eccCe)))).map
      (fun e => if here e && decide (e.2 = eccUe) then (e.1, eccBad) else e)
    ce := (met.filter (fun e => decide (e.2 = eccCe))).length
    ue := (met.filter (fun e => decide (e.2 = eccUe))).map (fun (e : Nat × BitVec 2) => e.1)
    bad := (met.filter (fun e => decide (e.2 = eccUe ∨ e.2 = eccBad))).map (fun (e : Nat × BitVec 2) => e.1) }

/-- Units made clean. -/
def eccClear (m : SMap (BitVec 2)) (w n : Nat) : SMap (BitVec 2) := mdrop m w (w + n)

/-- Units given poison or another state. -/
def eccFill (m : SMap (BitVec 2)) (w : Nat) (x : BitVec 2) (n : Nat) : SMap (BitVec 2) :=
  msetRun eccOk m w (List.replicate n x)

/-- The units of `u` bytes that a run of `len` bytes at `a` touches: first unit, count. -/
def unitsOf (u a len : Nat) : Nat × Nat := if len = 0 then (a / u, 0) else (a / u, (a + len - 1) / u - a / u + 1)

/-- The first unit wholly inside a run, and how many there are. -/
def wholeOf (u a len : Nat) : Nat × Nat := (cdiv a u, (a + len) / u - cdiv a u)

/-- The bytes of a run outside poisoned units, with their addresses. -/
def goodBytes (u : Nat) (bad : List Nat) (a : Nat) : List Byte → List (Nat × Byte)
  | [] => []
  | b :: t => if bad.contains (a / u) then goodBytes u bad (a + 1) t else (a, b) :: goodBytes u bad (a + 1) t

/-- Bytes written at their addresses. -/
def writePairs (m : SMap Byte) : List (Nat × Byte) → SMap Byte
  | [] => m
  | (a, b) :: t => writePairs (mset 0 m a b) t

/-- A plain write into protected memory of unit `u` (R233): whole units become clean; a part of a poisoned unit is
discarded. -/
def protWrite (u : Nat) (m : SMap Byte) (ecc : SMap (BitVec 2)) (a : Nat) (bs : List Byte) : SMap Byte × Scan :=
  let whole := wholeOf u a bs.length
  let e1 := eccClear ecc whole.1 whole.2
  let touched := unitsOf u a bs.length
  let sc := eccScan e1 touched.1 touched.2
  (writePairs m (goodBytes u sc.bad a bs), sc)

/-- A Stage's state. -/
def State.stage (s : State) (n : Nat) : Stage := mget Stage.idle s.stages n

/-- A Stage given a state. -/
def State.setStage (s : State) (n : Nat) (t : Stage) : State := { s with stages := mset Stage.idle s.stages n t }

/-- A Stage changed. -/
def State.modStage (s : State) (n : Nat) (f : Stage → Stage) : State := s.setStage n (f (s.stage n))

/-- Uncorrectable errors met in a Stage's memories, of which R514 needs the last four. -/
def State.noteUes (s : State) (n k : Nat) : State :=
  s.modStage n (fun t => { t with ues := (List.replicate (Nat.min k 4) s.now.toNat ++ t.ues).take 4 })

/-- Four of them within 24 hours (R514). -/
def State.fourUes (s : State) (n : Nat) : Bool :=
  match (s.stage n).ues[3]? with
  | some at4 => decide (s.now.toNat - at4 ≤ 86400000000000)
  | none => false

/-- Apron errors counted in STG_APR_ECC and STG_APR_UE_ADDR (R230): `src` is the reader's UE_SRC code. -/
def State.countApron (s : State) (n src : Nat) (sc : Scan) : State :=
  let s := if sc.ce = 0 then s else s.satBump .stgAprEcc n 31 0 sc.ce
  match sc.ue.getLast? with
  | none => s
  | some w =>
    ((((s.noteUes n sc.ue.length).satBump .stgAprEcc n 47 32 sc.ue.length).setFld .stgAprEcc n 53 48 (w / 8 % 64)).setFld .stgAprEcc n 56
      54 src).setFld .stgAprUeAddr n 22 0 (8 * w)

/-- A read of Apron bytes: the bytes, whether any word of them is poisoned, and the state with the errors met counted and a poisoned word
noted, the device's own check reads (source 5) apart. -/
def State.apRead (s : State) (n a len src : Nat) : List Byte × Bool × State :=
  let t := s.stage n
  let u := unitsOf 8 a len
  let sc := eccScan t.ap.ecc u.1 u.2
  (mgetRun 0 t.ap.bytes a len, !sc.bad.isEmpty,
    (s.setStage n { t with ap := { t.ap with
      ecc := sc.ecc
      met := if src = 5 then t.ap.met else sc.bad.head?.or t.ap.met } }).countApron n src sc)

/-- A plain write of Apron bytes (R233). -/
def State.apWrite (s : State) (n a src : Nat) (bs : List Byte) : State :=
  let t := s.stage n
  let r := protWrite 8 t.ap.bytes t.ap.ecc a bs
  (s.setStage n { t with ap := { t.ap with bytes := r.1, ecc := r.2.ecc } }).countApron n src r.2

/-- Poison stored with the words of a run (R231). -/
def State.apPoison (s : State) (n a len : Nat) : State :=
  let u := unitsOf 8 a len
  s.modStage n (fun t => { t with ap := { t.ap with ecc := eccFill t.ap.ecc u.1 eccBad u.2 } })

/-- Whether a run of host memory meets a range the host answers with an error. -/
def State.hostErr (s : State) (a len : Nat) : Bool :=
  s.mem.hostBad.any (fun r => decide (a < r.1 + r.2 ∧ r.1 < a + len))

/-- A read of host memory; none where the host answers with an error. -/
def State.hostRead (s : State) (a len : Nat) : Option (List Byte) :=
  if s.hostErr a len then none else some (mgetRun 0 s.mem.host a len)

/-- A write of host memory; none where the host answers with an error. -/
def State.hostWrite (s : State) (a : Nat) (bs : List Byte) : Option State :=
  if s.hostErr a bs.length then none else some { s with mem := { s.mem with host := msetRun 0 s.mem.host a bs } }

/-- MSI-X vector `v` raised (R489): the count of its messages rises. -/
def State.msi (s : State) (v : Nat) : State :=
  { s with booth := { s.booth with msix := mset 0 s.booth.msix v (mget 0 s.booth.msix v + 1) } }

/-- The eight words of an event record (R486). -/
def Event.words (e : Event) : List W64 :=
  [BitVec.ofNat 64 (e.type + e.sev * 2 ^ 16 + (match e.ctx with | some c => c * 2 ^ 18 + 2 ^ 22 | none => 0)),
   BitVec.ofNat 64 e.seqno, e.time, BitVec.ofNat 64 e.step] ++ (e.detail ++ [0, 0, 0, 0]).take 4

/-- The copy of an event into the host event queue (R488); with the queue disabled, Uzokel's word in F2H 1 (R494). -/
def State.copyEvent (s : State) (e : Event) : State :=
  if s.fld .bthEvqCfg 0 0 0 = 0 then
    if e.sev < 2 ∨ (mget Bell.clear s.booth.bellF2H 1).full = true then s
    else
      ({ s with
          booth := { s.booth with bellF2H := mset Bell.clear s.booth.bellF2H 1 ⟨true, BitVec.ofNat 64 e.seqno⟩ } }).msi 65
  else if e.sev < s.fld .bthEvqCfg 0 2 1 then s
  else
    let size := 2 ^ s.fld .bthEvqCfg 0 7 3
    let head := s.fld .bthEvqHead 0 15 0
    let tail := s.fld .bthEvqTail 0 15 0
    if (head + 1) % size = tail % size then s.satBump .bthEvqDrop 0 31 0 1
    else match s.hostWrite ((s.rd .bthEvqBase).toNat / 4096 * 4096 + 64 * head) (wordsLe e.words) with
      | none => s.satBump .bthEvqDrop 0 31 0 1
      | some s => (s.setFld .bthEvqHead 0 15 0 ((head + 1) % size)).msi 64

/-- Whether a lead context is registered (R290). -/
def State.leadCtx (s : State) : Option Ctx := s.sched.ctxs.find? (fun c => c.lead)

/-- An event of time `t` recorded (R486): the log keeps 4,096 records, the oldest dropped first. -/
def State.postAt (s : State) (t : W64) (type sev : Nat) (ctx : Option Nat) (detail : List W64) : State :=
  let step := if s.leadCtx.isSome then s.sched.step else 0
  let e : Event := ⟨type, sev, ctx, s.booth.nextSeq, t, step, (detail ++ [0, 0, 0, 0]).take 4⟩
  let log := if s.booth.log.length < 4096 then s.booth.log else s.booth.log.drop (s.booth.log.length - 4095)
  let s := { s with booth := { s.booth with log := log ++ [e], nextSeq := s.booth.nextSeq + 1 } }
  (s.setFld .bthEvtSeq 0 63 0 s.booth.nextSeq).copyEvent e

/-- An event of now recorded (R486). -/
def State.post (s : State) (type sev : Nat) (ctx : Option Nat) (detail : List W64) : State := s.postAt s.now type sev ctx detail

/-- A 64-bit word of a number. -/
abbrev w64 (n : Nat) : W64 := BitVec.ofNat 64 n

/-- When a phase of the boot began. -/
def State.phaseBegan (s : State) (k : Nat) : W64 :=
  ((s.plat.phaseStart.find? (fun x => decide (x.1 = k))).map (fun (x : Nat × W64) => x.2)).getD 0

/-- The record of the boot ROM phase's start (R21), stamped with the time it began. It is put into the log where that phase ends, fails,
overruns or is cut off by a reset: nothing reads the log within the phase (R505, R506; log entry 21). -/
def State.romStart (s : State) : State := if s.plat.phase.contains 1 then s.postAt (s.phaseBegan 1) 0x0001 0 none [1] else s

/-- One free value drawn (log entry 12). -/
def State.free (s : State) : W64 × State := (Config.freeWord s.freeCtr, { s with freeCtr := s.freeCtr + 1 })

/-- A counter of CCLK waited raised by a number of cycles the model does not count: a free value (log entry 10). -/
def State.stall (s : State) (r : Reg) (i : Nat) : State := s.free.2.wr r i (s.rd r i + s.free.1)

/-- A context by number. -/
def State.ctx? (s : State) (c : Nat) : Option Ctx := s.sched.ctxs.find? (fun x => decide (x.num = c))

/-- A context changed. -/
def State.modCtx (s : State) (c : Nat) (f : Ctx → Ctx) : State :=
  { s with sched := { s.sched with ctxs := s.sched.ctxs.map (fun x => if x.num = c then f x else x) } }

/-- A launch by identity. -/
def State.launch? (s : State) (l : Nat) : Option Launch := s.sched.launches.find? (fun x => decide (x.id = l))

/-- A launch changed. -/
def State.modLaunch (s : State) (l : Nat) (f : Launch → Launch) : State :=
  { s with sched := { s.sched with launches := s.sched.launches.map (fun x => if x.id = l then f x else x) } }

/-- The host reaches BAR0 and BAR2: powered, out of reset, the boot ROM phase over (R506). -/
def State.barLive (s : State) : Bool := decide (s.plat.dev ≠ .off) && !s.plat.perst && !s.plat.phase.contains 1

/-- A Stage that is in the Blocking: fused on, not retired, not under test (R295, R298, R299). -/
def State.stageAvail (s : State) (n : Nat) : Bool :=
  Config.stageFused n && !(s.sched.retired.any (fun r => decide (r.1 = n))) && !(s.sched.testing.contains n)

/-- How many Stages are in the Blocking. -/
def State.availCount (s : State) : Nat := ((List.range 144).filter s.stageAvail).length

end Sys2Proof.Machine
end

