-- ==== Sys2Proof/Machine/MemOps.lean ====
section
/-! DEFINITION. Operations of the shared memory: address map, interleave, regulators, stack blocks with their errors, Wings
cache lines, and runs read and written at any device physical address (R196-R208, R215-R227, R229-R235). -/

namespace Sys2Proof.Machine

/-- Bytes per pseudo-channel: 1.5 GiB (R217). -/
def pcBytes : Nat := 6291456 * 256
def scratchBase : Nat := 0xF00000000000
def apronBase : Nat := 0xF80000000000
def pageBytes : Nat := 2097152

/-- Live pseudo-channels and the in-service ceiling (R220, R253). -/
def State.livePc (s : State) : Nat := s.fld .hbmCapacity 0 9 0
def State.ceiling (s : State) : Nat := s.livePc * pcBytes

/-- Pseudo-channels present. -/
def pcCount : Nat := 64 * Config.stackCount

/-- The pseudo-channel and row of a stack address (R217). -/
def hashPlace (x : Bool) (pa : Nat) : Nat × Nat :=
  let g := pa / 256
  if Config.stackCount = 12 then
    let a := g % 3
    let h := g / 3
    let b := h % 256
    let q := h / 256
    let b := if x then Nat.xor b (Nat.xor (Nat.xor (q % 256) (q / 256 % 256)) (q / 65536 % 128)) else b
    let a := if x then (a + q % 3) % 3 else a
    (64 * (4 * a + b % 4) + 2 * (b / 4 % 32) + b / 128, q)
  else
    let b := g % 512
    let q := g / 512
    let b := if x then Nat.xor b (Nat.xor (Nat.xor (q % 512) (q / 512 % 512)) (q / 262144 % 32)) else b
    (64 * (b % 8) + 2 * (b / 8 % 32) + b / 256, q)

/-- The interleave in force (R218). -/
def State.hash (s : State) (pa : Nat) : Nat × Nat := hashPlace (decide (s.fld .hbmInterleave 0 0 0 = 1)) pa

/-- The key a stack address has in `MemSt.stack`. -/
def State.stackKey (s : State) (pa : Nat) : Nat :=
  let p := s.hash pa
  2 ^ 31 * p.1 + 256 * p.2 + pa % 256

/-- Where the granule of a place lies after channel retirements (R220). -/
def State.relocate (s : State) (pc q : Nat) : Nat × Nat :=
  if s.fld .hbmRemap pc 0 0 = 1 then
    let l := s.livePc
    let qTop := 6291456 / pcCount * l
    let n := s.fld .hbmRemap pc 10 1 * qTop + q
    let live := (List.range pcCount).filter (fun i =>
      decide (s.fld .hbmRemap i 0 0 = 0 ∧ s.fld .hbmRemap i 10 1 = n % l))
    (live.headD 0, qTop + n / l)
  else (pc, q)

/-- Where a granule would lie with a set of channels retired (R220): the place `relocate` gives once the table has switched. -/
def relocIn (chans : List Nat) (pc q : Nat) : Nat × Nat :=
  let dead (i : Nat) : Bool := chans.contains (i / 2)
  let live := (List.range pcCount).filter (fun i => !dead i)
  if dead pc then
    let qTop := 6291456 / pcCount * live.length
    let n := ((List.range pc).filter dead).length * qTop + q
    (live.getD (n % live.length) 0, qTop + n / live.length)
  else (pc, q)

/-- The place that a granule of a retiring channel, or a spilled one, is being copied to (R222); none where it does not move. -/
def State.copyPlace (s : State) (pc q : Nat) : Option (Nat × Nat) :=
  match s.mem.copy with
  | none => none
  | some c =>
    let t := relocIn (s.mem.retiredChans ++ c.chans) pc q
    if t = s.relocate pc q then none else some t

/-- Home slice and set of a stack line (R206, R207). -/
def State.sliceSet (s : State) (line : Nat) : Nat × Nat :=
  let p := s.hash (256 * line)
  (p.1 % 64, p.2 % 4096)

/-- The region of R196 and R197 an address lies in. -/
inductive Place where
  | stack
  | scratch (o : Nat)
  | apron (n off : Nat)
  | unmapped
  deriving DecidableEq, Repr

/-- A Wings segment belongs to some context's scratch partition. -/
def State.scratchSeg (s : State) (seg : Nat) : Bool := s.sched.ctxs.any (fun c => c.scratchMask.getLsbD seg)

def State.place (s : State) (pa : Nat) : Place :=
  if pa < s.ceiling then .stack
  else if scratchBase ≤ pa ∧ pa < scratchBase + 2 ^ 32 then
    if s.scratchSeg ((pa - scratchBase) / 2 ^ 28) then .scratch (pa - scratchBase) else .unmapped
  else if apronBase ≤ pa ∧ pa < apronBase + 144 * 2 ^ 23 then
    let n := (pa - apronBase) / 2 ^ 23
    if Config.stageFused n && !(s.sched.retired.any (fun r => decide (r.1 = n))) then .apron n ((pa - apronBase) % 2 ^ 23)
    else .unmapped
  else .unmapped

/-- The context that owns a stack address's page; 16 is the system class (R202, R224). -/
def State.pageOwner (s : State) (pa : Nat) : Nat :=
  let x := mget 0 s.mem.pages (pa / pageBytes)
  if x = 0 then 16 else x - 1

/-- Segments set in a mask. -/
def popMask (m : BitVec 16) : Nat := ((List.range 16).filter (fun i => m.getLsbD i)).length

/-- The context whose cache partition serves a stack address (R206). -/
def State.cacheOwner (s : State) (pa : Nat) : Option Ctx :=
  match s.ctx? (s.pageOwner pa) with
  | some c => if c.cacheMask = 0 then none else some c
  | none => none

/-- A bucket's rate and burst in KiB (R224-R226, R255): 0-15 read, 16-31 write, 32 system, 33 guarantee. -/
def State.bucket (s : State) (b : Nat) : Nat × Nat :=
  if b < 16 then (s.fld .hbmRegRd b 14 0, s.fld .hbmRegRd b 31 16)
  else if b < 32 then (s.fld .hbmRegWr (b - 16) 14 0, s.fld .hbmRegWr (b - 16) 31 16)
  else if b = 32 then (s.fld .hbmRegSys 0 14 0, s.fld .hbmRegSys 0 31 16)
  else (s.fld .hbmLeadGuar 0 14 0, 64)

/-- Tokens a bucket holds, in half-bytes (R225). -/
def State.tokensOf (s : State) (b : Nat) : Nat := 2048 * (s.bucket b).2 - mget 0 s.mem.tokens b

/-- `k` FCLK pass for the buckets (R225). -/
def State.passFclk (s : State) (k : Nat) : State :=
  { s with
    mem := { s.mem with
      tokens := (s.mem.tokens.map (fun e => (e.1, e.2 - (s.bucket e.1).1 * k))).filter (fun e => decide (e.2 ≠ 0)) } }

/-- The bucket of a context's direction. -/
def bucketOf (ctx : Nat) (write : Bool) : Nat := if ctx = 16 then 32 else if write then 16 + ctx else ctx

/-- FCLK until a request of `bytes` is admissible (R225). -/
def State.waitFclk (s : State) (b bytes : Nat) : Nat :=
  let r := (s.bucket b).1
  if r = 0 then 0 else cdiv (2 * bytes - s.tokensOf b) r

/-- Tokens taken from a bucket. -/
def State.draw (s : State) (b bytes : Nat) : State :=
  if (s.bucket b).1 = 0 then s
  else { s with mem := { s.mem with tokens := mset 0 s.mem.tokens b (mget 0 s.mem.tokens b + 2 * bytes) } }

/-- The guarantee bucket admits a request of `bytes`, as it does every one while GUAR is 0 (R225, R226). -/
def State.guaranteed (s : State) (bytes : Nat) : Bool := decide ((s.bucket 33).1 = 0 ∨ 2 * bytes ≤ s.tokensOf 33)

/-- A request admitted at once: its tokens are drawn, and a lead request that the guarantee bucket admits draws it down
(R225, R226). -/
def State.admitNow (s : State) (ctx : Nat) (write : Bool) (bytes : Nat) : State :=
  let s := s.draw (bucketOf ctx write) bytes
  match s.ctx? ctx with
  | some c => if c.lead && s.guaranteed bytes then s.draw 33 bytes else s
  | none => s

/-- A request that waits its turn and is then admitted (log entry 8: the FCLK it waits pass for every bucket); swaps, repair copies
and moves of the Stage Manager draw on the system regulator, whoever owns the address (R224). -/
def State.charge (s : State) (ctx : Nat) (write : Bool) (bytes : Nat) : State :=
  let c := if s.mem.sys then 16 else ctx
  (s.passFclk (s.waitFclk (bucketOf c write) bytes)).admitNow c write bytes

/-- An operation whose stack traffic the system regulator is charged for (R224). -/
def State.system (s : State) (f : State → State) : State :=
  let old := s.mem.sys
  let t := f { s with mem := { s.mem with sys := true } }
  { t with mem := { t.mem with sys := old } }

/-- A long run of system requests admitted one after another: the tokens they draw, and the FCLK they wait, which pass for every
bucket (R224, R225; log entry 8). -/
def State.chargeBulk (s : State) (bytes : Nat) : State :=
  let r := (s.bucket 32).1
  if r = 0 then s
  else
    let tok := s.tokensOf 32
    let k := cdiv (2 * bytes - tok) r
    let t := s.passFclk k
    let cap := 2048 * (s.bucket 32).2
    { t with mem := { t.mem with tokens := mset 0 t.mem.tokens 32 (cap - (tok + k * r - 2 * bytes)) } }

/-- Error states of a stack block (R229, R231, R256): clean, one symbol, one device, uncorrectable, poisoned. -/
abbrev stkOk : BitVec 3 := 0
abbrev stkSym : BitVec 3 := 1
abbrev stkDev : BitVec 3 := 2
abbrev stkUe : BitVec 3 := 3
abbrev stkBad : BitVec 3 := 4

/-- A row noted as failing (R235). -/
def State.noteFailing (s : State) (pc row : Nat) : State :=
  if s.mem.failing.contains (pc, row) then s
  else { s with mem := { s.mem with failing := s.mem.failing ++ [(pc, row)] } }

/-- A corrected error in a row: an occasion counts when 1 s has passed since the last, within 24 hours (R235). -/
def State.noteCorrected (s : State) (pc row : Nat) : State :=
  let now := s.now.toNat
  let k := 2 ^ 21 * pc + row
  let old := (mget [] s.mem.rows k).filter (fun t => decide (now - t ≤ 86400000000000))
  let due := match old with
    | [] => true
    | t :: _ => decide (now - t ≥ 1000000000)
  let ts := if due then now :: old else old
  let s := { s with mem := { s.mem with rows := mset [] s.mem.rows k ts } }
  if ts.length ≥ s.fld .hbmRepairCfg 0 7 0 then s.noteFailing pc row else s

/-- One 64-byte stack block, `j` of the granule at place (pc, q), read for its errors: whether it is poisoned, the errors
corrected and counted (R229, R231). -/
def State.placeBlock (s : State) (pc q j : Nat) : Bool × State :=
  let k := (2 ^ 31 * pc + 256 * q) / 64 + j
  let r := s.relocate pc q
  let stk := r.1 / 64
  let row := r.2 / 4
  match mget stkOk s.mem.stackEcc k with
  | 0#3 => (false, s)
  | 4#3 => (true, s)
  | 3#3 =>
    (true, ({ s with mem := { s.mem with stackEcc := mset stkOk s.mem.stackEcc k stkBad } }.satBump .hbmEcc stk 63 48
      1).noteFailing r.1 row)
  | e =>
    let s := { s with mem := { s.mem with stackEcc := mset stkOk s.mem.stackEcc k stkOk } }
    let s := if e = stkSym then s.satBump .hbmEcc stk 31 0 1 else s.satBump .hbmEcc stk 47 32 1
    (false, s.noteCorrected r.1 row)

/-- The block at a stack address. -/
def State.stackBlock (s : State) (pa : Nat) : Bool × State :=
  let p := s.hash pa
  s.placeBlock p.1 p.2 (pa / 64 % 4)

/-- The 64-byte blocks a run inside one granule touches. -/
def blocksOf (a len : Nat) : List Nat := let u := unitsOf 64 a len; (List.range u.2).map (fun j => 64 * (u.1 + j))

/-- Blocks checked one after another: those poisoned. -/
def State.stackBlocks : List Nat → State → List Nat × State
  | [], s => ([], s)
  | b :: t, s =>
    match s.stackBlock b with
    | (bad, s) =>
      match State.stackBlocks t s with
      | (bs, s) => (if bad then b :: bs else bs, s)

/-- Bytes a stack moved (R257); a write to a granule that the copy of R222 has passed goes to its new place as well. Which granules it has
passed before it ends is a free value (log entry 12). -/
def State.stackMoved (s : State) (pa n : Nat) (write : Bool) : State :=
  let p := s.hash pa
  let s1 := s.bump (if write then .hbmWrBytes else .hbmRdBytes) ((s.relocate p.1 p.2).1 / 64) n
  match (if write then s.copyPlace p.1 p.2 else none), s.mem.copy with
  | some t, some c => if c.ended || Config.copyPassed s.freeCtr (pa / 256) then s1.bump .hbmWrBytes (t.1 / 64) n else s1
  | _, _ => s1

/-- A stack read inside one granule: bytes and poisoned blocks. -/
def State.stackRead (s : State) (a len : Nat) : List Byte × List Nat × State :=
  match State.stackBlocks (blocksOf a len) s with
  | (bad, s) => (mgetRun 0 s.mem.stack (s.stackKey a) len, bad, s.stackMoved a (64 * (blocksOf a len).length) false)

/-- A stack write inside one granule (R233): a whole block clears its error; a part of a poisoned block is discarded. -/
def State.stackWrite (s : State) (a : Nat) (bs : List Byte) : State :=
  let k := s.stackKey a
  let whole := wholeOf 64 k bs.length
  let s := { s with mem := { s.mem with stackEcc := mdrop s.mem.stackEcc whole.1 (whole.1 + whole.2) } }
  match State.stackBlocks (blocksOf a bs.length) s with
  | (bad, s) =>
    let good := (bs.zipIdx.filter (fun p => !bad.contains ((a + p.2) / 64 * 64))).map (fun p => (k + p.2, p.1))
    let m := if bad.isEmpty then msetRun 0 s.mem.stack k bs else writePairs s.mem.stack good
    { s with mem := { s.mem with stack := m } }.stackMoved a (64 * (blocksOf a bs.length).length) true

/-- Poison stored with the blocks of a run. -/
def State.stackPoison (s : State) (a len : Nat) : State :=
  { s with
    mem := { s.mem with
      stackEcc := (blocksOf a len).foldl (fun m b => mset stkOk m (s.stackKey b / 64) stkBad) s.mem.stackEcc } }

/-- Wings errors counted (R248): slice and line of the last poisoned word. -/
def State.countWings (s : State) (slice lineAddr : Nat) (cached : Bool) (sc : Scan) : State :=
  let s := if sc.ce = 0 then s else s.satBump .wngEcc 0 31 0 sc.ce
  if sc.ue.isEmpty then s
  else ((s.satBump .wngEcc 0 47 32 sc.ue.length).setFld .wngEcc 0 53 48 slice).wr .wngUeAddr 0
    (w64 (lineAddr + (if cached then 2 ^ 48 else 0)))

/-- A scratch read inside one line. -/
def State.scratchRead (s : State) (o len : Nat) : List Byte × List Nat × State :=
  let u := unitsOf 16 o len
  let sc := eccScan s.mem.scratchEcc u.1 u.2
  (mgetRun 0 s.mem.scratch o len, sc.bad.map (fun w => scratchBase + 16 * w),
    ({ s with mem := { s.mem with scratchEcc := sc.ecc } }).countWings (o / 256 % 64) (scratchBase + o / 256 * 256) false sc)

/-- A scratch write inside one line. -/
def State.scratchWrite (s : State) (o : Nat) (bs : List Byte) : State :=
  let r := protWrite 16 s.mem.scratch s.mem.scratchEcc o bs
  ({ s with mem := { s.mem with scratch := r.1, scratchEcc := r.2.ecc } }).countWings (o / 256 % 64)
    (scratchBase + o / 256 * 256) false r.2

/-- Why an access cannot be made now or at all: unmapped (R197), an ordered line not complete (R214), every way pinned
(R208). -/
inductive MStop where
  | unmapped | ordered | pinned
  deriving DecidableEq, Repr

/-- A line is pinned by its ordered sequence, its held writes, or the copy of a channel retirement (R208): which line that copy holds at
a moment is a free value (log entry 12). -/
def State.pinned (s : State) (line : Nat) : Bool :=
  s.mem.seqs.any (fun q => decide (q.line = line))
    || (match s.mem.copy with
      | none => false
      | some c =>
        let p := s.hash (256 * line)
        !c.ended && (s.copyPlace p.1 p.2).isSome && Config.copyHolds s.freeCtr line)

/-- A line is in the middle of its ordered sequence, 0 < p < L, so that a device read of it waits (R214). -/
def State.midSeq (s : State) (line : Nat) : Bool := s.mem.seqs.any (fun q => decide (q.line = line ∧ 0 < q.pos))

/-- Some line of a run is in the middle of its ordered sequence (R214). -/
def State.midRun (s : State) (a len : Nat) : Bool := s.mem.seqs.any (fun q => decide (0 < q.pos ∧ a / 256 ≤ q.line ∧ 256 * q.line < a + len))

/-- A cached line's errors met in a run at offset `o`. -/
def CLine.scan (l : CLine) (o len : Nat) : Scan := let u := unitsOf 16 o len; eccScan l.ecc u.1 u.2

/-- The lines with one replaced (by its number) and put first. -/
def State.putLine (s : State) (l : CLine) : State :=
  { s with mem := { s.mem with lines := l :: s.mem.lines.filter (fun x => decide (x.line ≠ l.line)) } }

def State.dropLine (s : State) (line : Nat) : State :=
  { s with mem := { s.mem with lines := s.mem.lines.filter (fun x => decide (x.line ≠ line)) } }

/-- A line's dirty sectors written back (R207), with their poison (R231). -/
def State.writeBack (s : State) (l : CLine) : State :=
  let dirty := [0, 1, 2, 3].filter (fun k => l.dirty.getLsbD k)
  let s := dirty.foldl (fun s k =>
    let a := 256 * l.line + 64 * k
    let sc := l.scan (64 * k) 64
    let s := (s.charge l.ctx true 64).countWings (s.sliceSet l.line).1 (256 * l.line) true sc
    let s := s.stackWrite a (mgetRun 0 l.data (64 * k) 64)
    if sc.bad.isEmpty then s else s.stackPoison a 64) s
  s.bump .wngWriteback 0 dirty.length

/-- A context's cache lines written back, or dropped, and invalidated (R203, R204). -/
def State.flushCtx (s : State) (c : Nat) (keep : Bool) : State :=
  let ls := s.mem.lines.filter (fun l => decide (l.ctx = c))
  let s := if keep then ls.foldl (fun s l => s.writeBack l) s else s
  { s with mem := { s.mem with lines := s.mem.lines.filter (fun l => decide (l.ctx ≠ c)) } }

/-- The line of a cached address brought to the front of its set, allocated if absent: the least recently used unpinned
way is evicted when the set is full (R207, R208). -/
def State.allocLine (s : State) (c : Ctx) (line : Nat) : Option (CLine × State) :=
  match s.mem.lines.find? (fun l => decide (l.line = line)) with
  | some l => some (l, s.putLine l)
  | none =>
    let ss := s.sliceSet line
    let peers := s.mem.lines.filter (fun l => decide (l.ctx = c.num) && decide (s.sliceSet l.line = ss))
    let new : CLine := ⟨line, c.num, 0, 0, [], []⟩
    if peers.length < 4 * popMask c.cacheMask then some (new, s.putLine new)
    else
      match (peers.filter (fun l => !s.pinned l.line)).getLast? with
      | none => none
      | some v => some (new, ((s.writeBack v).dropLine v.line).putLine new)

/-- Sectors filled from the stack, with their poison (R207, R231). -/
def State.fillSectors (s : State) (l : CLine) (ks : List Nat) : CLine × State :=
  ks.foldl (fun (p : CLine × State) k =>
    match (p.2.charge p.1.ctx false 64).stackRead (256 * p.1.line + 64 * k) 64 with
    | (bs, bad, s) =>
      let ecc := if bad.isEmpty then eccClear p.1.ecc (4 * k) 4 else eccFill p.1.ecc (4 * k) eccBad 4
      ({ p.1 with
          data := msetRun 0 p.1.data (64 * k) bs
          valid := p.1.valid ||| (1#4 <<< k)
          ecc := ecc }, s)) (l, s)

/-- The sectors a run inside a line touches, and those it covers whole. -/
def sectorsOf (o len : Nat) : List Nat := let u := unitsOf 64 o len; (List.range u.2).map (fun j => u.1 + j)
def wholeSectors (o len : Nat) : List Nat := let u := wholeOf 64 o len; (List.range u.2).map (fun j => u.1 + j)

/-- A read of a run inside one line, through its cache partition or uncached (R206, R207); bad: device addresses of
poisoned units. -/
def State.lineRead (s : State) (a len : Nat) : (List Byte × List Nat × State) ⊕ MStop :=
  match s.cacheOwner a with
  | none => .inl ((s.charge (s.pageOwner a) false len).stackRead a len)
  | some c =>
    match s.allocLine c (a / 256) with
    | none => .inr .pinned
    | some (l, s) =>
      let o := a % 256
      let miss := (sectorsOf o len).any (fun k => !l.valid.getLsbD k)
      match (if miss then s.fillSectors l ([0, 1, 2, 3].filter (fun k => !l.valid.getLsbD k)) else (l, s)) with
      | (l, s) =>
        let sc := l.scan o len
        let s := (s.putLine { l with ecc := sc.ecc }).bump (if miss then .wngMiss else .wngHit) 0 1
        .inl (mgetRun 0 l.data o len, sc.bad.map (fun w => a / 256 * 256 + 16 * w),
          s.countWings (s.sliceSet (a / 256)).1 (a / 256 * 256) true sc)

/-- A write of a run inside one line (R207): a sector written in part is filled first. -/
def State.lineWrite (s : State) (a : Nat) (bs : List Byte) : Option State :=
  match s.cacheOwner a with
  | none => some ((s.charge (s.pageOwner a) true bs.length).stackWrite a bs)
  | some c =>
    match s.allocLine c (a / 256) with
    | none => none
    | some (l, s) =>
      let o := a % 256
      let part := (sectorsOf o bs.length).filter (fun k => !(wholeSectors o bs.length).contains k && !l.valid.getLsbD k)
      match s.fillSectors l part with
      | (l, s) =>
        let r := protWrite 16 l.data l.ecc o bs
        let m := (sectorsOf o bs.length).foldl (fun (m : BitVec 4) k => m ||| (1#4 <<< k)) 0
        let s := s.putLine { l with data := r.1, ecc := r.2.ecc, valid := l.valid ||| m, dirty := l.dirty ||| m }
        some ((s.bump (if part.isEmpty then .wngHit else .wngMiss) 0 1).countWings (s.sliceSet (a / 256)).1
          (a / 256 * 256) true r.2)

/-- Poison stored with the units of a run inside one line, where it is held. -/
def State.linePoison (s : State) (a len : Nat) : State :=
  match s.mem.lines.find? (fun l => decide (l.line = a / 256)) with
  | none => s.stackPoison a len
  | some l =>
    let u := unitsOf 16 (a % 256) len
    { s with
      mem := { s.mem with
        lines := s.mem.lines.map (fun x =>
          if x.line = l.line then
            { x with
              ecc := eccFill x.ecc u.1 eccBad u.2
              dirty := (sectorsOf (a % 256) len).foldl (fun m k => m ||| (1#4 <<< k)) x.dirty }
          else x) } }

/-- A sequence returns to position 0 (R215): held writes are discarded and counted, its entry freed. -/
def State.resetSeq (s : State) (line : Nat) : State :=
  let held := ((s.mem.seqs.filter (fun q => decide (q.line = line))).map (fun q => q.held.length)).sum
  ({ s with
     mem := { s.mem with
       seqs := s.mem.seqs.filter (fun q => decide (q.line ≠ line))
       doneSeqs := s.mem.doneSeqs.filter (fun q => decide (q.1 ≠ line)) } }).bump .wngRedDup 0 held

/-- A read of a run inside one 256-byte line anywhere. `src` is the Apron reader (R230); `hold` says that an incomplete
ordered line makes the reader wait (R214). -/
def State.pieceRead (s : State) (src : Nat) (hold : Bool) (a len : Nat) : (List Byte × List Nat × State) ⊕ MStop :=
  match s.place a with
  | .unmapped => .inr .unmapped
  | .apron n off =>
    let t := s.stage n
    let u := unitsOf 8 off len
    let bad := (eccScan t.ap.ecc u.1 u.2).bad
    match s.apRead n off len src with
    | (bs, _, s) => .inl (bs, bad.map (fun w => a / 8 * 8 - off / 8 * 8 + 8 * w), s)
  | .scratch o => if hold && s.midSeq (a / 256) then .inr .ordered else .inl (s.scratchRead o len)
  | .stack => if hold && s.midSeq (a / 256) then .inr .ordered else s.lineRead a len

/-- A write of a run inside one line anywhere. -/
def State.pieceStore (s : State) (src : Nat) (a : Nat) (bs : List Byte) : State ⊕ MStop :=
  match s.place a with
  | .unmapped => .inr .unmapped
  | .apron n off => .inl (s.apWrite n off src bs)
  | .scratch o => .inl (s.scratchWrite o bs)
  | .stack => match s.lineWrite a bs with
    | some s => .inl s
    | none => .inr .pinned

/-- A plain write of a run inside one line; one that covers the line resets its sequence (R215). -/
def State.pieceWrite (s : State) (src : Nat) (a : Nat) (bs : List Byte) : State ⊕ MStop :=
  (if bs.length = 256 then s.resetSeq (a / 256) else s).pieceStore src a bs

/-- Poison stored with the units of a run inside one line. -/
def State.piecePoison (s : State) (a len : Nat) : State :=
  match s.place a with
  | .unmapped => s
  | .apron n off => s.apPoison n off len
  | .scratch o =>
    let u := unitsOf 16 o len
    { s with mem := { s.mem with scratchEcc := eccFill s.mem.scratchEcc u.1 eccBad u.2 } }
  | .stack => s.linePoison a len

/-- A run cut at 256-byte lines: address and length of each piece (at most `k`). -/
def pieces : Nat → Nat → Nat → List (Nat × Nat)
  | 0, _, _ => []
  | k + 1, a, len =>
    if len = 0 then []
    else
      let n := Nat.min len (256 - a % 256)
      (a, n) :: pieces k (a + n) (len - n)

def piecesOf (a len : Nat) : List (Nat × Nat) := pieces (len / 256 + 2) a len

/-- Pieces read in ascending order. -/
def readPieces (src : Nat) (hold : Bool) : List (Nat × Nat) → State → (List Byte × List Nat × State) ⊕ MStop
  | [], s => .inl ([], [], s)
  | p :: t, s =>
    match s.pieceRead src hold p.1 p.2 with
    | .inr e => .inr e
    | .inl (bs, bad, s) =>
      match readPieces src hold t s with
      | .inr e => .inr e
      | .inl (cs, bad', s) => .inl (bs ++ cs, bad ++ bad', s)

/-- A run read anywhere. -/
def State.memRead (s : State) (src : Nat) (hold : Bool) (a len : Nat) : (List Byte × List Nat × State) ⊕ MStop :=
  readPieces src hold (piecesOf a len) s

/-- Pieces written in ascending order. -/
def writePieces (src : Nat) : List (Nat × Nat) → List Byte → State → State ⊕ MStop
  | [], _, s => .inl s
  | p :: t, bs, s =>
    match s.pieceWrite src p.1 (bs.take p.2) with
    | .inr e => .inr e
    | .inl s => writePieces src t (bs.drop p.2) s

/-- A run written anywhere. -/
def State.memWrite (s : State) (src a : Nat) (bs : List Byte) : State ⊕ MStop :=
  writePieces src (piecesOf a bs.length) bs s

/-- Poison stored with the units of a run anywhere. -/
def State.memPoison (s : State) (a len : Nat) : State := (piecesOf a len).foldl (fun s p => s.piecePoison p.1 p.2) s

/-- Every address of a run is mapped (R197). -/
def State.mapped (s : State) (a len : Nat) : Bool :=
  (piecesOf a len).all (fun p => decide (s.place p.1 ≠ .unmapped) && decide (s.place (p.1 + p.2 - 1) ≠ .unmapped))

/-- An access past the cache of one piece inside a line, which then holds no copy of it (R208). -/
def State.rawRead (s : State) (a len : Nat) : List Byte × List Nat × State :=
  (s.charge (s.pageOwner a) false len).stackRead a len
def State.rawWrite (s : State) (a : Nat) (bs : List Byte) : State :=
  (s.charge (s.pageOwner a) true bs.length).stackWrite a bs

/-- A piece read or written without fail: one whose set has no free way goes to the stack uncached (R208), an unmapped one reads as
zeros and takes nothing. -/
def State.forceRead (s : State) (a len : Nat) : List Byte × List Nat × State :=
  match s.pieceRead 4 false a len with
  | .inl x => x
  | .inr .unmapped => (List.replicate len 0, [], s)
  | .inr _ => s.rawRead a len
def State.forceStore (s : State) (a : Nat) (bs : List Byte) : State :=
  match s.pieceStore 4 a bs with
  | .inl s => s
  | .inr .unmapped => s
  | .inr _ => s.rawWrite a bs

/-- Pieces read or written one after another, each through its way or, where its set has none free, uncached (R208); a whole line
written resets its sequence (R215). -/
def forceReads : List (Nat × Nat) → State → List Byte × List Nat × State
  | [], s => ([], [], s)
  | p :: t, s =>
    match s.forceRead p.1 p.2 with
    | (bs, bad, s) =>
      match forceReads t s with
      | (cs, bad', s) => (bs ++ cs, bad ++ bad', s)
def forceStores : List (Nat × Nat) → List Byte → State → State
  | [], _, s => s
  | p :: t, bs, s => forceStores t (bs.drop p.2) ((if p.2 = 256 then s.resetSeq (p.1 / 256) else s).forceStore p.1 (bs.take p.2))

/-- Bytes that poison covers where a poisoned unit is met: 8 in Apron, 16 in the Wings, 64 in the stacks (R231). -/
def State.unitAt (s : State) (a : Nat) : Nat :=
  match s.place a with
  | .apron _ _ => 8
  | .scratch _ => 16
  | _ => if (s.mem.lines.any (fun l => decide (l.line = a / 256))) then 16 else 64

/-- One piece moved, the poison of every unit it read with it (R231). -/
def State.movePiece (s : State) (src dst len : Nat) : State :=
  match s.forceRead src len with
  | (bs, bad, s) =>
    let s1 := (piecesOf dst len).foldl (fun (s : State) p => s.forceStore p.1 ((bs.drop (p.1 - dst)).take p.2)) s
    bad.foldl (fun (s1 : State) b =>
      let lo := Nat.max src b
      let hi := Nat.min (src + len) (b + s.unitAt b)
      s1.memPoison (dst + (lo - src)) (hi - lo)) s1

/-- The positions of ordered sequences go with their lines when a run moves (R203, R204, R239). -/
def State.carrySeqs (s : State) (src dst len : Nat) : State :=
  let mv (l : Nat) : Nat := if src ≤ 256 * l ∧ 256 * l + 256 ≤ src + len ∧ src % 256 = dst % 256 then l - src / 256 + dst / 256 else l
  { s with
    mem := { s.mem with
      seqs := s.mem.seqs.map (fun (q : SeqLine) => { q with line := mv q.line })
      doneSeqs := s.mem.doneSeqs.map (fun (q : Nat × Nat) => (mv q.1, q.2)) } }

/-- A copy inside the device by the Stage Manager, through the home slices, with its poison (R206, R231); the system regulator is charged
(R224). -/
def State.copyRun (s : State) (src dst len : Nat) : State :=
  s.system (fun s => (piecesOf src len).foldl (fun (s : State) p => s.movePiece p.1 (dst + (p.1 - src)) p.2) s)

/-- A move: a copy, and the positions of the ordered lines with it (R203, R204, R239). -/
def State.moveRun (s : State) (src dst len : Nat) : State := (s.copyRun src dst len).carrySeqs src dst len

/-- Two lists of runs of one length taken together: source, destination, length. -/
def zipRuns : Nat → List (Nat × Nat) → List (Nat × Nat) → List (Nat × Nat × Nat)
  | 0, _, _ => []
  | _, [], _ => []
  | _, _, [] => []
  | k + 1, x :: t, y :: u =>
    let n := Nat.min x.2 y.2
    (x.1, y.1, n) :: zipRuns k (if n < x.2 then (x.1 + n, x.2 - n) :: t else t) (if n < y.2 then (y.1 + n, y.2 - n) :: u else u)

/-- Where a tensor byte run of a context lies (R124, R295): device address and length of each part, in order; `none` where a
byte is not in the tensor table. -/
def findRange (rs : List Range) (off : Nat) : Option Range := rs.find? (fun r => decide (r.off ≤ off ∧ off < r.off + r.len))

def resolveGo (rs : List Range) : Nat → Nat → Nat → Option (List (Nat × Nat))
  | 0, _, len => if len = 0 then some [] else none
  | k + 1, off, len =>
    if len = 0 then some []
    else
      match findRange rs off with
      | none => none
      | some r =>
        let n := Nat.min len (r.off + r.len - off)
        match resolveGo rs k (off + n) (len - n) with
        | none => none
        | some t => some ((r.pa + (off - r.off), n) :: t)

/-- The place of a tensor for an instance key: its own instance, or the one that serves all (R124, R264, R295). -/
def Ctx.placeOf (c : Ctx) (key tensor : Nat) : Option TensorPlace :=
  match c.tensors.find? (fun t => decide (t.id = tensor ∧ t.vr = key)) with
  | some t => some t
  | none => c.tensors.find? (fun t => decide (t.id = tensor ∧ t.vr = 65536))

/-- The runs of device addresses that hold bytes of a tensor instance, in order; none where some byte lies nowhere. -/
def Ctx.resolve (c : Ctx) (key tensor off len : Nat) : Option (List (Nat × Nat)) :=
  match c.placeOf key tensor with
  | none => none
  | some t => resolveGo t.ranges (t.ranges.length + 1) off len

/-- The runs a kernel's writes go to: of a working copy its shadow, never the current copy (R277). -/
def Ctx.resolveW (c : Ctx) (key tensor off len : Nat) : Option (List (Nat × Nat)) :=
  match c.placeOf key tensor with
  | none => none
  | some t =>
    if t.shadow.isEmpty then resolveGo t.ranges (t.ranges.length + 1) off len
    else resolveGo t.shadow (t.shadow.length + 1) off len

/-- A context's declaration of a tensor. -/
def Ctx.decl (c : Ctx) (tensor : Nat) : Option TensorDecl :=
  match c.score with
  | none => none
  | some sc => sc.tensors.find? (fun t => decide (t.id = tensor))

/-- The instance key of a lead tensor for a virtual rank and micro-batch (R264, R265, R268): one gathered copy serves every rank of its
(p, q); activations have an instance for each micro-batch, everything else one for each rank. -/
def Ctx.keyOf (c : Ctx) (tensor vr mb : Nat) : Nat :=
  match c.decl tensor with
  | none => vr
  | some d =>
    if d.gathered.isSome then vr % ((c.shape.map (fun (h : Shape) => h.pp * h.sq)).getD 0)
    else if d.act then 2 ^ 20 * (mb + 1) + vr else vr

/-- Bytes of one instance of a tensor in a job of `dp` replicas (R264): of a sharded one its shard. -/
def TensorDecl.inst (d : TensorDecl) (dp : Nat) : Nat := if d.sharded then cdiv (cdiv d.bytes dp) 256 * 256 else d.bytes
def Ctx.instBytes (c : Ctx) (d : TensorDecl) : Nat :=
  match c.shape with
  | some h => TensorDecl.inst d h.dp
  | none => d.bytes

/-- Parts read in order. -/
def readParts (src : Nat) (hold : Bool) : List (Nat × Nat) → State → (List Byte × List Nat × State) ⊕ MStop
  | [], s => .inl ([], [], s)
  | p :: t, s =>
    match s.memRead src hold p.1 p.2 with
    | .inr e => .inr e
    | .inl (bs, bad, s) =>
      match readParts src hold t s with
      | .inr e => .inr e
      | .inl (cs, bad', s) => .inl (bs ++ cs, bad ++ bad', s)

/-- Parts written in order. -/
def writeParts (src : Nat) : List (Nat × Nat) → List Byte → State → State ⊕ MStop
  | [], _, s => .inl s
  | p :: t, bs, s =>
    match s.memWrite src p.1 (bs.take p.2) with
    | .inr e => .inr e
    | .inl s => writeParts src t (bs.drop p.2) s

/-- Bytes put at runs of device addresses; at a set without a free way they pass the cache (R208). -/
def State.putRuns (s : State) (l : List (Nat × Nat)) (bs : List Byte) : State :=
  match writeParts 4 l bs s with
  | .inl s => s
  | .inr _ => (l.foldl (fun (a : State × List Byte) (p : Nat × Nat) => (forceStores (piecesOf p.1 p.2) (a.2.take p.2) a.1, a.2.drop p.2)) (s, bs)).1

end Sys2Proof.Machine
end

