-- ==== Sys2Proof/Machine/Digest.lean ====
section
/-! DEFINITION. The checks the spec names by their standards: CRC-64 of ECMA-182, CRC-32 of IEEE 802.3 (R340) and
SHA-256 of FIPS 180-4 (R418, R476, R509); log entry 14 for the standards' conventions. -/

namespace Sys2Proof.Machine

/-- One byte into CRC-64 (ECMA-182: polynomial 0x42F0_E1EB_A9EA_3693, most significant bit first). -/
def crc64Bits : Nat → W64 → W64
  | 0, c => c
  | n + 1, c => crc64Bits n (if c.getLsbD 63 then (c <<< 1) ^^^ 0x42F0E1EBA9EA3693 else c <<< 1)

/-- CRC-64 of a byte sequence, register cleared at the start. -/
def crc64 (bs : List Byte) : W64 :=
  bs.foldl (fun (c : W64) b => crc64Bits 8 (c ^^^ BitVec.shiftLeft (b.setWidth 64) 56)) 0#64

/-- One byte into CRC-32 (IEEE 802.3, 0x04C1_1DB7, least significant bit first). -/
def crc32Bits : Nat → W32 → W32
  | 0, c => c
  | n + 1, c => crc32Bits n (if c.getLsbD 0 then (c >>> 1) ^^^ 0xEDB88320 else c >>> 1)

/-- CRC-32 of a byte sequence with IEEE 802.3's initial and final complement. -/
def crc32 (bs : List Byte) : W32 :=
  ~~~(bs.foldl (fun (c : W32) b => crc32Bits 8 (c ^^^ b.setWidth 32)) 0xFFFFFFFF#32)

/-- The integer part of the k-th root of v, found bit by bit from bit n − 1 down. -/
def rootBits (k v : Nat) : Nat → Nat → Nat
  | 0, r => r
  | n + 1, r => rootBits k v n (if (r + 2 ^ n) ^ k ≤ v then r + 2 ^ n else r)

/-- The first 32 fraction bits of the k-th root of p, from which FIPS 180-4 takes its constants. -/
def rootFrac (k p : Nat) : W32 := BitVec.ofNat 32 (rootBits k (p * 2 ^ (32 * k)) 40 0)

/-- The first 64 primes. -/
def shaPrimes : List Nat := (List.range 312).filter (fun n => decide (1 < n) && (List.range 18).all (fun d => d < 2 || d ≥ n || n % d ≠ 0))

/-- The exclusive or of three rotations to the right. -/
def rots (x : W32) (i j k : Nat) : W32 := x.rotateRight i ^^^ (x.rotateRight j ^^^ x.rotateRight k)

/-- The two histories of the compression, newest first: FIPS 180-4's a, b, c, d are four successive values of one sequence
and e, f, g, h of the other. -/
structure ShaHist where
  lead : List W32
  tail : List W32
  deriving DecidableEq, Repr

/-- One round: both sequences gain a value. -/
def ShaHist.push (q : ShaHist) (kw : W32) : ShaHist :=
  match q.lead, q.tail with
  | [a, b, c, d], [e, f, g, h] =>
    let t := kw + (h + (rots e 6 11 25 + (g ^^^ (e &&& (f ^^^ g)))))
    ⟨[t + (rots a 2 13 22 + ((a &&& b) ||| (c &&& (a ||| b)))), a, b, c], [d + t, e, f, g]⟩
  | _, _ => q

/-- The word a window of 16 schedule words (oldest first) is followed by. -/
def shaNext (w : List W32) : W32 :=
  match w with
  | w0 :: w1 :: t =>
    let z := t.getD 12 0
    w0 + (((w1 >>> 3) ^^^ (w1.rotateRight 7 ^^^ w1.rotateRight 18))
      + (t.getD 7 0 + ((z >>> 10) ^^^ (z.rotateRight 17 ^^^ z.rotateRight 19))))
  | _ => 0

/-- The rounds of a block, one per constant: the window's oldest word is used and the next one joins it. -/
def shaRun : List W32 → List W32 → ShaHist → ShaHist
  | [], _, q => q
  | k :: ks, w, q => shaRun ks (w.drop 1 ++ [shaNext w]) (q.push (k + w.headD 0))

/-- Big-endian 32-bit words of a byte sequence. -/
def beWords : List Byte → List W32
  | a :: b :: c :: d :: t => (a ++ b ++ c ++ d : BitVec 32) :: beWords t
  | _ => []

/-- The chaining value of FIPS 180-4 after each whole block of a padded message. -/
def shaFold (ks : List W32) : Nat → List Byte → ShaHist → ShaHist
  | 0, _, q => q
  | n + 1, bs, q =>
    let r := shaRun ks (beWords (bs.take 64)) q
    shaFold ks n (bs.drop 64) ⟨List.zipWith (· + ·) q.lead r.lead, List.zipWith (· + ·) q.tail r.tail⟩

/-- Big-endian bytes of a number. -/
def beBytes : Nat → Nat → List Byte
  | 0, _ => []
  | n + 1, v => beBytes n (v / 256) ++ [BitVec.ofNat 8 v]

/-- SHA-256 (FIPS 180-4) as its 32 digest bytes. -/
def sha256 (bs : List Byte) : List Byte :=
  let fill := (119 - bs.length % 64) % 64
  let msg := bs ++ (0x80 :: List.replicate fill 0) ++ beBytes 8 (8 * bs.length)
  let start := (shaPrimes.take 8).map (rootFrac 2)
  let q := shaFold (shaPrimes.map (rootFrac 3)) (msg.length / 64) msg ⟨start.take 4, start.drop 4⟩
  (q.lead ++ q.tail).flatMap (fun w => beBytes 4 w.toNat)

end Sys2Proof.Machine
end

