-- ==== Sys2Proof/Machine/Wire.lean ====
section
/-! DEFINITION. What link packets and the Roster are as bytes, and what the Roster says: flits of a packet, routes by
breadth-first search, Ensembles, the digest (R340, R344, R351, R366-R370, R400). -/

namespace Sys2Proof

open Machine

/-- Flits a packet takes (24-byte header and 224 payload bytes in the first, 248 in each other). -/
def Pkt.flits (p : Pkt) : Nat := 1 + cdiv (p.data.length - 224) 248

/-- The packet header of R344. -/
def Pkt.header (p : Pkt) : List Byte :=
  leBytes 8 (p.dst + p.src * 2 ^ 16 + p.vc * 2 ^ 32 + p.hop * 2 ^ 35 + p.ty * 2 ^ 39 + p.data.length * 2 ^ 45
    + p.flow * 2 ^ 58)
  ++ leBytes 8 (p.e2e % 2 ^ 32 + p.rver * 2 ^ 32 + p.aux16 * 2 ^ 48) ++ leBytes 8 p.aux64.toNat

/-- The flit bodies of a packet. -/
def Pkt.bodies (p : Pkt) : List (List Byte) :=
  let bs := p.header ++ p.data
  (List.range p.flits).map (fun j => let b := (bs.drop (248 * j)).take 248; b ++ List.replicate (248 - b.length) 0)

/-- A packet that could be on a wire: field values inside their widths, 1 to 4,096 payload bytes (R344). -/
def Pkt.wire (p : Pkt) : Bool :=
  decide (p.vc < 8) && decide (p.hop < 8) && decide (p.ty < 64) && decide (0 < p.data.length)
    && decide (p.data.length ≤ 4096) && decide (p.flow < 16)

/-- A number in the payload: `n` bytes from byte `o`, least significant first. -/
def Pkt.num (p : Pkt) (o n : Nat) : Nat := ofLe ((p.data.drop o).take n)

/-- A link from a device to a neighbour that the Roster's map marks up: port, peer (R351, R368). -/
def DevEntry.upLinks (d : DevEntry) : List (Nat × Nat) :=
  d.links.zipIdx.filterMap (fun p => if p.1.getLsbD 21 then some (p.2, p.1.toNat % 65536) else none)

/-- One round of a breadth-first search: devices reached with their distances. -/
def bfsStep (r : Roster) (seen : List (Nat × Nat)) (d : Nat) : List (Nat × Nat) :=
  let edge := (seen.filter (fun x => decide (x.2 = d))).flatMap (fun x =>
    match r.devs.find? (fun e => decide (e.number = x.1)) with
    | some e => e.upLinks.map (fun (l : Nat × Nat) => l.2)
    | none => [])
  let fresh := (edge.eraseDups).filter (fun k =>
    !(seen.any (fun x => decide (x.1 = k))) && r.devs.any (fun e => decide (e.number = k)))
  seen ++ fresh.map (fun k => (k, d + 1))

/-- Distances from a device, up to 8 (R351). -/
def Roster.dists (r : Roster) (src : Nat) : List (Nat × Nat) :=
  (List.range 8).foldl (fun seen d => bfsStep r seen d) [(src, 0)]

def distOf (ds : List (Nat × Nat)) (k : Nat) : Option Nat := (ds.find? (fun x => decide (x.1 = k))).map (fun x => x.2)

/-- The route table of R351. -/
def Roster.routeTable (r : Roster) (me : Nat) : List RouteEnt :=
  match r.devs.find? (fun e => decide (e.number = me)) with
  | none => []
  | some e =>
    let mine := r.dists me
    let nb := e.upLinks.map (fun l => (l.1, r.dists l.2))
    (mine.filter (fun x => decide (1 ≤ x.2))).map (fun x =>
      let at' (d : Nat) : List Nat := (nb.filter (fun q => decide (distOf q.2 x.1 = some d))).map (fun q => q.1)
      let direct := (at' (x.2 - 1)).take 4
      ⟨x.1, direct, (at' x.2).take (4 - direct.length)⟩)

/-- The device's own entry in its Roster. -/
def Roster.entry (r : Roster) (dev : Nat) : Option DevEntry := r.devs.find? (fun e => decide (e.number = dev))

/-- The device that hosts a virtual rank. -/
def Roster.hostOf (r : Roster) (v : Nat) : Nat := r.vmap.getD v 0

/-- The Roster's bytes with its DIGEST word taken as zero (R367-R369, R400), and their CRC-64. -/
def DevEntry.bytes (d : DevEntry) : List Byte :=
  leBytes 8 d.ident.toNat ++ leBytes 8 (d.number + d.state * 2 ^ 16 + d.hosted * 2 ^ 18)
    ++ leBytes 8 (d.mirror + d.replA * 2 ^ 16 + d.replB * 2 ^ 32 + d.pgroup * 2 ^ 48)
    ++ leBytes 8 (d.ppos + d.psize * 2 ^ 4 + (if d.refill then 2 ^ 8 else 0))
    ++ d.links.flatMap (fun w => leBytes 4 w.toNat)

def EnsRec.bytes (e : EnsRec) : List Byte :=
  leBytes 8 (e.ensId + e.role * 2 ^ 32 + e.kind * 2 ^ 38 + e.members * 2 ^ 40 + (if e.explicit then 2 ^ 53 else 0))
    ++ leBytes 8 (e.base + e.stride * 2 ^ 16) ++ List.replicate 16 0 ++ e.list.flatMap (fun v => leBytes 2 v)

def Roster.bytes (r : Roster) (digest : W64) : List Byte :=
  leBytes 8 r.jobId.toNat ++ leBytes 8 r.version ++ leBytes 8 r.step ++ leBytes 8 (r.vranks + r.devs.length * 2 ^ 17)
    ++ leBytes 8 r.ens.length ++ leBytes 8 digest.toNat ++ List.replicate 16 0
    ++ r.devs.flatMap DevEntry.bytes ++ r.vmap.flatMap (fun d => leBytes 2 d) ++ r.ens.flatMap EnsRec.bytes

def Roster.digest (r : Roster) : W64 := crc64 (r.bytes 0)

/-- The members of an Ensemble record as virtual ranks (R369). -/
def EnsRec.ranks (e : EnsRec) : List Nat :=
  if e.explicit then e.list else (List.range e.members).map (fun i => e.base + i * e.stride)

/-- The Ensemble a role names for a virtual rank (R370): its members in order, or the rank alone. -/
def Roster.role (r : Roster) (role v : Nat) : List Nat :=
  match r.ens.find? (fun e => decide (e.role = role) && e.ranks.contains v) with
  | some e => e.ranks
  | none => [v]

end Sys2Proof
end

