-- ==== Sys2Proof/Machine/LinkOps.lean ====
section
/-! DEFINITION. Brixmin Link operations: flits, control records, credit and arbitration, packets and flows, routes, lanes and
ports (R340-R363, R388). Packet layouts the spec leaves open are log entry 16. -/

namespace Sys2Proof.Machine

/-- A port's link layer. -/
def State.port (s : State) (n : Nat) : PortLink := mget PortLink.fresh s.link.ports n
def State.setPort (s : State) (n : Nat) (p : PortLink) : State :=
  { s with link := { s.link with ports := mset PortLink.fresh s.link.ports n p } }
def State.modPort (s : State) (n : Nat) (f : PortLink → PortLink) : State := s.setPort n (f (s.port n))

/-- A port carries traffic: active or changing width (R394). -/
def State.portUp (s : State) (n : Nat) : Bool := decide (s.fld .lnkPort n 2 0 = 2 ∨ s.fld .lnkPort n 2 0 = 3)

/-- A 256-byte flit with its CRC-32 (R340). -/
def flitBytes (ftype vc seq ack : Nat) (body : List Byte) : List Byte :=
  let h := leBytes 4 (ftype * 2 ^ 30 + vc * 2 ^ 27 + seq * 2 ^ 16 + ack * 2 ^ 5) ++ body
  h ++ leBytes 4 (crc32 h).toNat

/-- The SEQ of the last flit received in order (R340). -/
def PortLink.lastAck (p : PortLink) : Nat := (p.rxSeq + 2047) % 2048

/-- A data or control flit sent and kept for resend (R342). -/
def PortLink.send (p : PortLink) (ftype vc : Nat) (body : List Byte) : PortLink :=
  let f := flitBytes ftype vc p.txSeq p.lastAck body
  { p with
    txSeq := (p.txSeq + 1) % 2048
    kept := p.kept ++ [(p.txSeq, f)]
    lastFlit := f }

/-- The idle flit of a slot in which the port has nothing else (R340): it acknowledges, and carries no SEQ. -/
def PortLink.idle (p : PortLink) : PortLink := { p with lastFlit := flitBytes 2 0 0 p.lastAck (List.replicate 248 0) }

/-- A control flit with some of its records, up to 15 (R340). -/
def PortLink.sendRecs (p : PortLink) (l : List Ctl) : PortLink :=
  let b := (l.take 15).flatten
  p.send 1 0 (b ++ List.replicate (248 - b.length) 0)

/-- A control record goes out, or waits while 1,024 flits are unacknowledged (R340, R342). -/
def State.sendCtl (s : State) (n : Nat) (rec : Ctl) : State :=
  if s.portUp n then
    s.modPort n (fun p => if p.kept.length < 1024 ∧ p.ctlq.isEmpty = true then p.sendRecs [rec] else { p with ctlq := p.ctlq ++ [rec] })
  else s

/-- Control records (R340). -/
def recNak (seq : Nat) : Ctl := [2, 0] ++ leBytes 2 seq ++ List.replicate 12 0
def recHeartbeat (state dev ver step : Nat) : Ctl :=
  [3, BitVec.ofNat 8 state] ++ leBytes 2 dev ++ leBytes 8 ver ++ leBytes 4 step
def recWidth (agree : Bool) (lanes : BitVec 8) (seq : Nat) : Ctl :=
  [4, if agree then 1 else 0, lanes, 0] ++ leBytes 2 seq ++ List.replicate 10 0
def recBell (b : Nat) (gen : Bool) (w : W64) : Ctl :=
  [5, BitVec.ofNat 8 (b + if gen then 128 else 0)] ++ List.replicate 6 0 ++ leBytes 8 w.toNat
def recBellTaken (b : Nat) (gen : Bool) : Ctl :=
  [6, BitVec.ofNat 8 (b + if gen then 128 else 0)] ++ List.replicate 14 0
def recGong (cause dev ver : Nat) : Ctl :=
  [7, BitVec.ofNat 8 cause] ++ leBytes 2 dev ++ leBytes 8 ver ++ List.replicate 4 0

/-- Cumulative freed counts of the eight channels, 12 bits each. -/
def packCounts : List Nat → Nat
  | [] => 0
  | c :: t => c % 4096 + 4096 * packCounts t
def recCredit (freed : List Nat) : Ctl := [1, 0] ++ leBytes 12 (packCounts freed) ++ [0, 0]

/-- Receiver space of a channel freed and reported (R348). -/
def State.freeCredit (s : State) (n vc flits : Nat) : State :=
  let s := s.modPort n (fun p => { p with freed := setAt p.freed vc ((p.freed.getD vc 0 + flits) % 4096) })
  s.sendCtl n (recCredit (s.port n).freed)

/-- Flits of credit in use. -/
def VcUse.used (u : VcUse) : Nat := u.shared + u.res.sum

/-- The allotments in force on a port (R347): those of LNK_VC_CRED, a reduced one once the channel's occupancy has fallen below it. -/
def State.setAllots (s : State) (n : Nat) : State :=
  s.modPort n (fun p => { p with allot := (List.range 8).map (fun v =>
    let new := s.fld .lnkVcCred v 10 0
    if p.allot.getD v 0 ≤ new ∨ (p.cred.getD v VcUse.none).used < new then new else p.allot.getD v 0) })

/-- Credit for `f` flits of a packet on a channel with an allotment: the shared remainder first, then the reserve of its HOP (R347, R348). -/
def takeCredit (allot : Nat) (u : VcUse) (hop f : Nat) : Option VcUse :=
  let sh := Nat.min f (allot - 136 - u.shared)
  let r := u.res.getD hop 0 + (f - sh)
  if r ≤ 17 then some { u with shared := u.shared + sh, res := setAt u.res hop r } else none

/-- Credit given back: reserves first, in ascending HOP, then the shared remainder (log entry 16). -/
def giveBack : List Nat → Nat → List Nat × Nat
  | [], f => ([], f)
  | r :: t, f => let k := Nat.min r f; let q := giveBack t (f - k); ((r - k) :: q.1, q.2)

def VcUse.refund (u : VcUse) (f : Nat) : VcUse :=
  let q := giveBack u.res f
  { u with res := q.1, shared := u.shared - q.2 }

/-- The packet a channel takes up next (R350): round robin over the input ports and, as 24, local injection, from the source after the one served
last. -/
def PortLink.headOf (p : PortLink) (vc : Nat) : Option (Pkt × Option Nat) :=
  let qs := p.outq.filter (fun q => decide (q.1.vc = vc))
  if qs.isEmpty then none
  else ((List.range 25).map (fun k => (p.served.getD vc 24 + 1 + k) % 25)).findSome? (fun k => qs.find? (fun q => decide (q.2.getD 24 = k)))

/-- The credit with which a channel's next packet can start (R348). -/
def PortLink.startCredit (p : PortLink) (vc : Nat) (q : Pkt × Option Nat) : Option VcUse :=
  takeCredit (p.allot.getD vc 0) (p.cred.getD vc VcUse.none) q.1.hop q.1.flits

/-- A channel has a packet that waits for credit (R396). -/
def PortLink.stalled (p : PortLink) (vc : Nat) : Bool :=
  (p.cur.getD vc []).isEmpty && (match p.headOf vc with
    | some q => (p.startCredit vc q).isNone
    | none => false)

/-- A channel has a flit to send: of the packet it is sending, or the first of one that holds credit (R348). -/
def PortLink.canSend (p : PortLink) (vc : Nat) : Bool :=
  !(p.cur.getD vc []).isEmpty || (match p.headOf vc with
    | some q => (p.startCredit vc q).isSome
    | none => false)

/-- Weights of VC0-VC3 (R350, R393). -/
def State.weights (s : State) : List Nat := (List.range 4).map (fun v => s.fld .lnkVcCred v 19 16)

/-- The channel a port serves in a flit slot (R350), and the round-robin weights then left, given those of a new round. -/
def PortLink.nextVc (p : PortLink) (ws : List Nat) : Option (Nat × List Nat) :=
  if p.canSend 4 then some (4, p.wrr)
  else
    match [0, 1, 2, 3].find? (fun v => p.canSend v && decide (0 < p.wrr.getD v 0)) with
    | some v => some (v, setAt p.wrr v (p.wrr.getD v 0 - 1))
    | none =>
      match [0, 1, 2, 3].find? p.canSend with
      | some v => some (v, setAt ws v (ws.getD v 0 - 1))
      | none => if p.canSend 5 then some (5, p.wrr) else none

/-- One flit of a channel goes out: of the packet it is sending, or the first of its next one, which takes its credit and, forwarded, frees the space
it held (R348, R350). -/
def State.sendSlot (s : State) (n vc : Nat) (w : List Nat) : State :=
  let p := { s.port n with wrr := w }
  match p.cur.getD vc [] with
  | b :: t => s.setPort n { p.send 0 vc b with cur := setAt p.cur vc t }
  | [] =>
    match p.headOf vc with
    | none => s
    | some q =>
      match p.startCredit vc q, q.1.bodies with
      | some u, b :: t =>
        let p := { p with
          outq := p.outq.erase q
          served := setAt p.served vc (q.2.getD 24)
          cred := setAt p.cred vc u
          cur := setAt p.cur vc t }
        let s := (s.setPort n (p.send 0 vc b)).bump .lnkTxBytes n q.1.data.length
        match q.2 with
        | some from' => s.freeCredit from' vc q.1.flits
        | none => s
      | _, _ => s

/-- A port sends what credit and the resend window allow, `k` flits at most (R342, R348, R350): waiting control records first; no data while its
width changes (R359). -/
def State.pumpN : Nat → State → Nat → State
  | 0, s, _ => s
  | k + 1, s, n =>
    let p := s.port n
    if 1024 ≤ p.kept.length then s
    else if !p.ctlq.isEmpty then State.pumpN k (s.setPort n { p.sendRecs p.ctlq with ctlq := p.ctlq.drop 15 }) n
    else if s.fld .lnkPort n 2 0 ≠ 2 then s
    else
      match p.nextVc s.weights with
      | none => s
      | some (vc, w) => State.pumpN k (s.sendSlot n vc w) n

/-- Flits and records a port has to send. -/
def PortLink.waiting (p : PortLink) : Nat :=
  (p.outq.map (fun (q : Pkt × Option Nat) => q.1.flits)).sum + (p.cur.map List.length).sum + p.ctlq.length

/-- A port sends what it can; with nothing to send its slot takes an idle flit (R340). -/
def State.pump (s : State) (n : Nat) : State :=
  if s.portUp n then
    let s := s.setAllots n
    if (s.port n).waiting = 0 then s.modPort n PortLink.idle else State.pumpN (s.port n).waiting s n
  else s

/-- A packet put in a port's queue. -/
def State.enqueue (s : State) (n : Nat) (p : Pkt) (from' : Option Nat) : State :=
  (s.modPort n (fun x => { x with outq := x.outq ++ [(p, from')] })).pump n

/-- The port R352 chooses for a packet. -/
def State.choosePort (s : State) (p : Pkt) : Option Nat :=
  match s.link.routes.find? (fun r => decide (r.dst = p.dst)) with
  | none => none
  | some r =>
    let l := r.direct.filter s.portUp
    let d := r.detour.filter s.portUp
    let i := p.src + p.vc + p.flow
    if l.isEmpty then (if p.hop = 0 ∧ d.isEmpty = false then some (d.getD (i % d.length) 0) else none)
    else some (l.getD (i % l.length) 0)

/-- A destination reported unreachable (R353, R354). -/
def State.unreach (s : State) (dev : Nat) : State :=
  if s.link.unreachable.contains dev then s
  else { s with link := { s.link with unreachable := s.link.unreachable ++ [dev] } }

/-- A packet goes out on the port its flow takes, or is discarded where none lives (R352, R353). -/
def State.routeOut (s : State) (p : Pkt) (from' : Option Nat) : State :=
  match s.choosePort p with
  | some n => s.enqueue n p from'
  | none =>
    let s := (s.bump .lnkDiscard 0 1).unreach p.dst
    match from' with
    | some k => s.freeCredit k p.vc p.flits
    | none => s

/-- Low 16 bits of the Roster version in force (R344, R356). -/
def State.rver (s : State) : Nat := match s.link.roster with
  | some r => r.version % 65536
  | none => 0

/-- A flow this device sources. -/
def State.txFlow (s : State) (dst vc flow : Nat) : TxFlow :=
  (s.link.tx.find? (fun f => decide (f.dst = dst ∧ f.vc = vc ∧ f.flow = flow))).getD ⟨dst, vc, flow, 0, [], 0, 0⟩

def State.putTx (s : State) (f : TxFlow) : State :=
  { s with
    link := { s.link with
      tx := s.link.tx.filter (fun g => !decide (g.dst = f.dst ∧ g.vc = f.vc ∧ g.flow = f.flow)) ++ [f] } }

/-- A packet injected by this device (R344): it takes its flow's next number, is kept with its requester and source until acknowledged, and goes
out. -/
def State.inject (s : State) (dst vc ty flow aux16 : Nat) (aux64 : W64) (data : List Byte) (msg : Option Msg)
    (req : Requester) (range : List (Nat × Nat) := []) : State :=
  let f := s.txFlow dst vc flow
  let p : Pkt := ⟨dst, s.link.me, vc, 0, ty, flow, f.next, s.rver, aux16, aux64, if data.isEmpty then [0] else data⟩
  let s := s.putTx { f with
    next := (f.next + 1) % 2 ^ 32
    unacked := f.unacked ++ [⟨p, msg, req, range⟩]
    port := (s.choosePort p).getD f.port }
  s.routeOut p none

/-- A transfer's packet (R344, R345, R372): of the lead on its type's channel, of a fill context as a FILL packet, which names the
type in AUX16 and puts the type's AUX16 before the payload; a FILL of ROLL_BLOCK sets bit 63 of AUX64 (log entry 16). -/
def State.sendData (s : State) (fill : Bool) (dst vc ty flow aux16 : Nat) (aux64 : W64) (data : List Byte) (req : Requester)
    (range : List (Nat × Nat) := []) : State :=
  if !fill then s.inject dst vc ty flow aux16 aux64 data none req range
  else if ty = 1 then s.inject dst 5 0x08 flow aux16 (aux64 ||| w64 (2 ^ 63)) data none req range
  else s.inject dst 5 0x08 flow ty aux64 (leBytes 2 aux16 ++ data) none req range

/-- An acknowledgement for a flow (R354, R356; layout log entry 16); acknowledgements are not themselves numbered. -/
def State.sendAck (s : State) (dst vc flow next : Nat) (stale : Bool) : State :=
  s.routeOut ⟨dst, s.link.me, 4, 0, 0x11, 0, 0, s.rver, vc * 16 + flow + (if stale then 2 ^ 15 else 0), w64 next, [0]⟩ none

/-- A flow this device receives. -/
def State.rxFlow (s : State) (src vc flow : Nat) : RxFlow :=
  (s.link.rx.find? (fun f => decide (f.src = src ∧ f.vc = vc ∧ f.flow = flow))).getD ⟨src, vc, flow, 0, 0⟩

def State.putRx (s : State) (f : RxFlow) : State :=
  { s with
    link := { s.link with
      rx := s.link.rx.filter (fun g => !decide (g.src = f.src ∧ g.vc = f.vc ∧ g.flow = f.flow)) ++ [f] } }

/-- The channel of each packet type (R345). -/
def typeVc : Nat → Option Nat
  | 0x01 => some 0 | 0x02 => some 0 | 0x03 => some 0 | 0x04 => some 1 | 0x05 => some 2 | 0x06 => some 2 | 0x07 => some 3
  | 0x08 => some 5 | 0x10 => some 4 | 0x11 => some 4 | 0x12 => some 4 | 0x13 => some 4 | 0x14 => some 4
  | _ => none

/-- A packet of type `ty` arrives for this device on port `n` (R345, R346, R349, R354, R356): discarded on a reserved type, a wrong channel
or Roster version, or out of order; otherwise delivered to `f` and acknowledged. Every case frees the port's buffer. -/
def State.receive (s : State) (n : Nat) (p : Pkt) (ty : Nat) (f : State → State) : State :=
  if !s.portUp n || !p.wire || decide (p.dst ≠ s.link.me) then s
  else if p.ty ≠ ty then
    (if (typeVc p.ty).isNone then ((s.bump .lnkRxBytes n p.data.length).freeCredit n p.vc p.flits).bump .lnkDiscard 0 1 else s)
  else
    let s := (s.bump .lnkRxBytes n p.data.length).freeCredit n p.vc p.flits
    if typeVc ty ≠ some p.vc then s.bump .lnkDiscard 0 1
    else if p.vc ≤ 2 ∧ p.rver ≠ s.rver then (s.bump .lnkDiscard 0 1).sendAck p.src p.vc p.flow p.e2e true
    else if ty = 0x11 then f s
    else
      let x := s.rxFlow p.src p.vc p.flow
      if x.next ≠ p.e2e then s
      else
        let x := { x with next := (x.next + 1) % 2 ^ 32, owed := x.owed + 1 }
        let s := if x.owed ≥ 16 then (s.putRx { x with owed := 0 }).sendAck p.src p.vc p.flow x.next false else s.putRx x
        f s

/-- Unacknowledged packets that some requester still has in flight (R355), those of a transfer that the link has ended among them. -/
def State.inFlight (s : State) (q : Requester → Bool) : Bool := s.link.tx.any (fun f => f.unacked.any (fun u => q u.req)) || s.link.ended.any q

/-- Bytes in the engine's resend store (R355). -/
def State.resendBytes (s : State) : Nat :=
  (s.link.tx.map (fun f => (f.unacked.map (fun u => match u.req with
    | .engine _ => u.pkt.data.length
    | .roll _ => u.pkt.data.length
    | _ => 0)).sum)).sum

/-- Room for a packet of `k` bytes in the resend store. -/
def State.storeRoom (s : State) (k : Nat) : Bool := decide (s.resendBytes + k ≤ 4194304)

/-- Transfers ended by the link (R354, R356): a Stagehand's is marked; the engine's and a Roll's are never acknowledged. -/
def State.killTransfers (s : State) (reqs : List Requester) : State :=
  reqs.foldl (fun s r => match r with
    | .transfer n id => s.modStage n (fun t =>
      { t with sh := { t.sh with ops := t.sh.ops.map (fun o => if o.id = id then { o with dead := true } else o) } })
    | .other => s
    | r => if s.link.ended.contains r then s else { s with link := { s.link with ended := s.link.ended ++ [r] } }) s

/-- A flow's transfers ended. -/
def State.endFlow (s : State) (f : TxFlow) : State :=
  (s.putTx { f with unacked := [], tries := 0 }).killTransfers (f.unacked.map (fun u => u.req))

/-- A packet sent again (R355): of a Stagehand's the data is read again from its source; poison there is not sent (R232), and the transfer meets it
when it completes. -/
def State.resend (s : State) (u : TxPkt) : State :=
  let pass (s : State) (p : Pkt) : State := (s.bump .lnkE2eRetx 0 1).routeOut { p with hop := 0 } none
  if u.range.isEmpty then pass s u.pkt
  else
    match forceReads (u.range.flatMap (fun (r : Nat × Nat) => piecesOf r.1 r.2)) s with
    | (bs, bad, s) => if bad.isEmpty then pass s { u.pkt with data := u.pkt.data.take (u.pkt.data.length - bs.length) ++ bs } else s

/-- Every unacknowledged packet of a flow sent again, in order (R354, R360). -/
def State.resendFlow (s : State) (f : TxFlow) : State := f.unacked.foldl (fun s u => s.resend u) s

/-- Trained lanes that are not retired (R358). -/
def State.goodLanes (s : State) (n : Nat) : List Nat :=
  (List.range 8).filter (fun l => (s.port n).trained.getLsbD l && decide (s.fld .lnkPort n (15 + l) (15 + l) = 0))

/-- The width a count of good lanes gives (R358). -/
def widthOf (g : Nat) : Nat := if g ≥ 8 then 8 else if g ≥ 6 then 6 else if g ≥ 4 then 4 else 0

/-- A bitmap of lanes. -/
def laneMap (ls : List Nat) : BitVec 8 := ls.foldl (fun m l => m ||| (1#8 <<< l)) 0

/-- The lanes R358 makes active. -/
def State.wantLanes (s : State) (n : Nat) : BitVec 8 :=
  let g := s.goodLanes n
  laneMap (g.take (widthOf g.length))

def popLanes (m : BitVec 8) : Nat := ((List.range 8).filter (fun l => m.getLsbD l)).length

/-- A flow by what its packets' headers say. -/
def Pkt.flowKey (p : Pkt) : Nat × Nat × Nat × Nat := (p.src, p.dst, p.vc, p.flow)

/-- A port goes down (R360): its flows, transit ones among them, move to another candidate where one lives, each counted; transit packets that it
had not begun to send go with them, what else it held is lost to the end-to-end layer; its lanes have to be retrained (R362). The
Curtain exchange will report the change. The event's cause code is a free value (log entry 12). -/
def State.portDown (s : State) (n : Nat) : State :=
  if s.portUp n then
    let own := (s.link.tx.filter (fun f => decide (f.port = n))).filterMap (fun f => f.unacked.head?.map (fun (u : TxPkt) => u.pkt))
    let transit := (s.port n).outq.filter (fun q => q.2.isSome)
    let s := (((s.setFld .lnkPort n 2 0 4).setFld .lnkPort n 6 3 0).setFld .lnkPort n 14 7 0)
    let s := s.modPort n (fun p =>
      { p with
        kept := [], outq := [], cur := List.replicate 8 [], served := List.replicate 8 24, ctlq := [], width := none, switchAt := none
        resends := [], trained := 0, recs := [], cred := List.replicate 8 VcUse.none, freed := List.replicate 8 0, wrr := s.weights })
    let moved := ((own ++ transit.map (fun (q : Pkt × Option Nat) => q.1)).filter (fun p => (s.choosePort p).isSome)).map Pkt.flowKey
    let s := s.bump .lnkFailover 0 moved.eraseDups.length
    let s := { s with
      link := { s.link with
        linkChanged := true
        tx := s.link.tx.map (fun (f : TxFlow) =>
          if f.port = n then
            match f.unacked with
            | [] => f
            | u :: _ => { f with port := (s.choosePort u.pkt).getD n }
          else f) } }
    let s := transit.foldl (fun (s : State) q => s.routeOut q.1 q.2) s
    match s.free with
    | (c, s) => s.post 0x0031 1 none [w64 n, c]
  else s

/-- The lane set in force (R358, R359). -/
def State.applyWidth (s : State) (n : Nat) (m : BitVec 8) : State :=
  (((s.setFld .lnkPort n 2 0 2).setFld .lnkPort n 6 3 (popLanes m)).setFld .lnkPort n 14 7 m.toNat).modPort n
    (fun p => { p with width := none, switchAt := none })

/-- A port's partner by its training record (R338): another identity than the one before it clears the port's outbound Bells, with an event
(R360, R492). -/
def State.setPartner (s : State) (n : Nat) (x : W64 × Nat) : State :=
  let old := (s.port n).partner
  let s := s.modPort n (fun p => { p with partner := x.1, partnerPort := x.2 })
  if old = 0 ∨ old = x.1 then s
  else
    { s with
      booth :=
        { s.booth with
          bellLO := (List.range 4).foldl (fun l k => mset Bell.clear l (4 * n + k) Bell.clear) s.booth.bellLO } : State }.post 0x0033 1 none
      [w64 n, old, x.1]

/-- The lanes brought to what R358 asks: fewer than 4 good ones take the port down; a different set is proposed to the
partner (R359). -/
def State.reWidth (s : State) (n : Nat) : State :=
  if s.portUp n then
    let want := s.wantLanes n
    if want = 0 then s.portDown n
    else if want.toNat = s.fld .lnkPort n 14 7 then s
    else if (s.port n).width.isSome then s
    else
      let s := (s.setFld .lnkPort n 2 0 3).modPort n (fun p => { p with width := some want })
      s.sendCtl n (recWidth false want 0)
  else s

/-- The marks of a retired lane (R357, R363, R394, R395); a module's transmitter for it is disabled. -/
def State.markRetired (s : State) (n l : Nat) : State :=
  let s := ((s.setFld .lnkPort n (15 + l) (15 + l) 1).setFld .lnkPort n (23 + l) (23 + l) 0).setFld .lnkLane (8 * n + l) 41 40 1
  if s.fld .lnkOptics n 24 24 = 1 then s.modPort n (fun p => { p with txOff := p.txOff ||| (1#8 <<< l) }) else s

/-- A lane retired (R357). -/
def State.retireLane (s : State) (n l : Nat) : State :=
  if s.fld .lnkPort n (15 + l) (15 + l) = 1 ∨ (s.port n).trained.getLsbD l = false then s
  else
    let s := s.markRetired n l
    match s.free with
    | (c, s) => (s.post 0x0030 1 none [w64 n, w64 l, c]).reWidth n

/-- A lane marked pending (R361). -/
def State.pendLane (s : State) (n l : Nat) : State :=
  if s.fld .lnkLane (8 * n + l) 41 40 = 0 ∧ (s.port n).trained.getLsbD l = true then
    let s := (s.setFld .lnkPort n (23 + l) (23 + l) 1).setFld .lnkLane (8 * n + l) 41 40 2
    match s.free with
    | (c, s) => s.post 0x0030 1 none [w64 n, w64 l, c]
  else s

/-- Pending lanes retired at a Curtain, while at least 4 lanes stay active (R361). -/
def State.retirePending (s : State) (n : Nat) : State :=
  (List.range 8).foldl (fun s l =>
    if s.fld .lnkPort n (23 + l) (23 + l) = 1 ∧ 5 ≤ (s.goodLanes n).length then s.retireLane n l else s) s

/-- Automatic readmissions of a lane within the last 24 hours (R362). -/
def State.readmitCount (s : State) (i : Nat) : Nat :=
  (s.link.readmits.filter (fun x => decide (x.1 = i ∧ s.now.toNat < x.2 + 86400000000000))).length

/-- A lane that passed its test is good again (R362, R394, R395). -/
def State.markGood (s : State) (n l : Nat) : State :=
  let s := (s.setFld .lnkPort n (15 + l) (15 + l) 0).setFld .lnkPort n (23 + l) (23 + l) 0
  let s := (s.setFld .lnkLane (8 * n + l) 41 40 0).setFld .lnkLane (8 * n + l) 42 42 1
  s.modPort n (fun p => { p with trained := p.trained ||| (1#8 <<< l) })

/-- The partner identity and port that every trained lane of a port names (R338). -/
def State.agreedPartner (s : State) (n : Nat) : Option (W64 × Nat) :=
  match (s.goodLanes n).map (fun l => ((s.port n).recs.find? (fun x => decide (x.1 = l))).map (fun (x : Nat × W64 × Nat) => x.2)) with
  | x :: t => if t.all (fun y => decide (y = x)) then x else none
  | [] => none

end Sys2Proof.Machine
end

