-- ==== Sys2Proof/Machine/RosterOps.lean ====
section
/-! DEFINITION. What the Roster's rules compute: the tree, hosted ranks, protection partners, assignment and handover
plans, and a Call's delta applied (R366-R374, R400-R403, R427, R436-R439). -/

namespace Sys2Proof

open Machine

/-- Device numbers in ascending order. -/
def Roster.nums (r : Roster) : List Nat := r.devs.map (fun (d : DevEntry) => d.number)

/-- The tree of R374: parent and children of a device. -/
def Roster.parent (r : Roster) (d : Nat) : Option Nat :=
  match r.nums.idxOf? d with
  | some k => if k = 0 then none else r.nums[(k - 1) / 8]?
  | none => none

def Roster.kids (r : Roster) (d : Nat) : List Nat :=
  match r.nums.idxOf? d with
  | some k => (List.range 8).filterMap (fun j => r.nums[8 * k + 1 + j]?)
  | none => []

/-- The virtual ranks a device hosts, ascending (R369). -/
def Roster.hostedBy (r : Roster) (d : Nat) : List Nat := (List.range r.vranks).filter (fun v => decide (r.hostOf v = d))

/-- The hosted counts put right after a change of the map (R368). -/
def Roster.recount (r : Roster) : Roster :=
  { r with devs := r.devs.map (fun (d : DevEntry) => { d with hosted := (r.hostedBy d.number).length }) }

/-- An entry added or replaced, in ascending order of number. -/
def putDev (e : DevEntry) : List DevEntry → List DevEntry
  | [] => [e]
  | d :: t => if e.number < d.number then e :: d :: t else if e.number = d.number then e :: t else d :: putDev e t

/-- A Call's delta applied to a Roster (R374): its version rises, STEP names the Curtain it takes effect at. -/
def Roster.apply (r : Roster) (p : Proposal) : Roster :=
  let devs := r.devs.filter (fun d => !p.removed.contains d.number)
  ({ r with
    version := p.version
    step := p.step
    devs := p.setDevs.foldl (fun l e => putDev e l) devs
    vmap := p.moves.foldl (fun m (x : Nat × Nat) => setAt m x.1 x.2) r.vmap }).recount

/-- Ensemble records whose members include a rank of a list (R371). -/
def Roster.ensOf (r : Roster) (vs : List Nat) : Nat := (r.ens.filter (fun e => e.ranks.any (fun v => vs.contains v))).length

/-- The limits of R371 hold: no device with more than 64 Ensemble records. -/
def Roster.limitsOk (r : Roster) : Bool := r.devs.all (fun d => decide (r.ensOf (r.hostedBy d.number) ≤ 64))

/-- Every device lies within 8 hops (R351, R374). -/
def Roster.reachable (r : Roster) (me : Nat) : Bool :=
  let ds := r.dists me
  r.devs.all (fun d => ds.any (fun x => decide (x.1 = d.number)))

/-- The entry of a list with the least figure, ties to the lower number. -/
def leastOf : List (Nat × Nat) → Option (Nat × Nat)
  | [] => none
  | x :: t =>
    match leastOf t with
    | none => some x
    | some y => if x.2 < y.2 ∨ (x.2 = y.2 ∧ x.1 ≤ y.1) then some x else some y

abbrev noDev : Nat := 0xFFFF

/-- Duties of each kind: devices whose mirror, or one of whose replicas, is `x` (R402, R453). -/
def mirrorDuties (ds : List DevEntry) (x : Nat) : Nat := (ds.filter (fun e => decide (e.mirror = x))).length
def replDuties (ds : List DevEntry) (x : Nat) : Nat := (ds.filter (fun e => decide (e.replA = x ∨ e.replB = x))).length

/-- The member with the fewest duties, none of `but` (R402). -/
def choosePartner (ds : List DevEntry) (duty : Nat → Nat) (but : List Nat) : Nat :=
  let c := (ds.filter (fun e => decide (e.state = 0) && !but.contains e.number)).map
    (fun (e : DevEntry) => (e.number, duty e.number))
  match leastOf c with
  | some x => x.1
  | none => noDev

/-- The partner choices R402 makes for one device where a partner was `gone`. -/
def fixPartners (gone : Nat) (ds : List DevEntry) (n : Nat) : List DevEntry :=
  match ds.find? (fun e => decide (e.number = n)) with
  | none => ds
  | some e =>
    let e1 := if e.mirror = gone then { e with mirror := choosePartner ds (mirrorDuties ds) [n] } else e
    let ds := putDev e1 ds
    let e2 := if e1.replA = gone then { e1 with replA := choosePartner ds (replDuties ds) [n, e1.replB] } else e1
    let ds := putDev e2 ds
    putDev (if e2.replB = gone then { e2 with replB := choosePartner ds (replDuties ds) [n, e2.replA] } else e2) ds

/-- Members of a parity group in order of position. -/
def groupOf (ds : List DevEntry) (g : Nat) : List DevEntry :=
  (List.range 15).filterMap (fun p => ds.find? (fun e => decide (e.pgroup = g ∧ e.ppos = p)))

/-- A group's positions and sizes written: its members in order. -/
def setGroup (g : Nat) (ms : List Nat) (ds : List DevEntry) : List DevEntry :=
  ds.map (fun e =>
    match ms.idxOf? e.number with
    | some p => { e with pgroup := g, ppos := p, psize := ms.length }
    | none => e)

/-- Groups with their sizes. -/
def groupSizes (ds : List DevEntry) : List (Nat × Nat) :=
  (((ds.map (fun (e : DevEntry) => e.pgroup)).filter (fun g => decide (g ≠ noDev))).eraseDups).map
    (fun g => (g, (ds.filter (fun e => decide (e.pgroup = g))).length))

/-- A device joins the smallest group, not `but`, with fewer than 15 members (R402). -/
def joinGroup (ds : List DevEntry) (n but : Nat) : Option (List DevEntry) :=
  match leastOf ((groupSizes ds).filter (fun x => decide (x.2 < 15 ∧ x.1 ≠ but))) with
  | some x => some (setGroup x.1 (((groupOf ds x.1).map (fun (e : DevEntry) => e.number)) ++ [n]) ds)
  | none => none

/-- A removed device leaves its group; the others close the gap (R402). -/
def leaveGroup (ds : List DevEntry) (x : DevEntry) : List DevEntry :=
  setGroup x.pgroup (((groupOf ds x.pgroup).map (fun (e : DevEntry) => e.number)).filter (fun n => decide (n ≠ x.number))) ds

/-- A device removed with all its duties reassigned (R402). -/
def dropDev (ds : List DevEntry) (n : Nat) : List DevEntry :=
  match ds.find? (fun e => decide (e.number = n)) with
  | none => ds
  | some x =>
    let ds := (leaveGroup ds x).filter (fun e => decide (e.number ≠ n))
    (ds.map (fun (e : DevEntry) => e.number)).foldl (fun l k => fixPartners n l k) ds

/-- Groups of fewer than 3 members join the others (R402). -/
def mergeGroups (ds : List DevEntry) : List DevEntry :=
  ((groupSizes ds).filter (fun x => decide (x.2 < 3))).foldl (fun ds g =>
    if (groupSizes ds).any (fun x => decide (x.1 ≠ g.1)) then
      ((groupOf ds g.1).map (fun (e : DevEntry) => e.number)).foldl (fun ds n => (joinGroup ds n g.1).getD ds) ds
    else ds) ds

/-- The lowest number not in use, for a device or a group. -/
def lowestFree (used : List Nat) : Nat := ((List.range (used.length + 1)).find? (fun n => !used.contains n)).getD 0

/-- An admitted device's entry with its partners (R402, R438). -/
def admitEntry (ds : List DevEntry) (ident : W64) (links : List W32) : List DevEntry :=
  let n := lowestFree (ds.map (fun (e : DevEntry) => e.number))
  let a := choosePartner ds (replDuties ds) [n]
  let e : DevEntry := ⟨ident, n, 1, 0, choosePartner ds (mirrorDuties ds) [n], a, choosePartner ds (replDuties ds) [n, a],
    noDev, 0, 0, false, links⟩
  let ds := putDev e ds
  match joinGroup ds n noDev with
  | some l => l
  | none => setGroup (lowestFree ((groupSizes ds).map (fun (x : Nat × Nat) => x.1))) [n] ds

/-- The partners of version 1 (R401). -/
def firstPartners (group : Nat) (ds : List DevEntry) : List DevEntry :=
  let n := ds.length
  let num (k : Nat) : Nat := ((ds[k]?).map (fun (e : DevEntry) => e.number)).getD noDev
  let g := Nat.max 1 (n / group)
  ds.zipIdx.map (fun x =>
    let e := x.1
    let k := x.2
    if n = 1 then { e with mirror := noDev, replA := noDev, replB := noDev, pgroup := noDev, ppos := 0, psize := 0 }
    else
      { e with
        mirror := if n % 2 = 1 ∧ k = n - 1 then num 0 else if k % 2 = 0 then num (k + 1) else num (k - 1)
        replA := num ((k + 1) % n)
        replB := if n = 2 then noDev else num ((k + 2) % n)
        pgroup := k % g
        ppos := k / g
        psize := (n - k % g + g - 1) / g })

/-- Where R427 puts the virtual ranks `vs`: the candidate with the least hosted count, ties to the lower number, skipping
those R371 forbids. -/
def assignRanks (r : Roster) (cands : List Nat) : List Nat → List (Nat × Nat) → List (Nat × Nat)
  | [], done => done
  | v :: t, done =>
    let held (d : Nat) : List Nat :=
      ((r.hostedBy d).filter (fun u => !done.any (fun x => decide (x.1 = u))))
        ++ (done.filter (fun x => decide (x.2 = d))).map (fun (x : Nat × Nat) => x.1)
    let ok := cands.filter (fun d => decide (r.ensOf (v :: held d) ≤ 64))
    match leastOf (ok.map (fun d => (d, (held d).length))) with
    | some x => assignRanks r cands t (done ++ [(v, x.1)])
    | none => assignRanks r cands t done

/-- The handovers planned onto a new device (R438): repeatedly the highest rank of the member that hosts most, ties to the
higher number, while it keeps one. -/
def planAdmit (r : Roster) (tgt : Nat) : Nat → List (Nat × Nat) → List (Nat × Nat)
  | 0, done => done
  | k + 1, done =>
    let held (d : Nat) : List Nat := (r.hostedBy d).filter (fun u => !done.any (fun x => decide (x.1 = u)))
    let c := (r.devs.filter (fun e => decide (e.state = 0) && decide (2 ≤ (held e.number).length))).map
      (fun (e : DevEntry) => (65535 - e.number, 65536 - (held e.number).length))
    match leastOf c with
    | none => done
    | some x =>
      match (held (65535 - x.1)).getLast? with
      | none => done
      | some v => planAdmit r tgt k (done ++ [(v, tgt)])

/-- The moves one Curtain may make (R437): for each Ensemble of M members at most max(1, M / 8) onto Understudies, and as
many away from releasing devices. -/
def limitMoves (r : Roster) : List (Nat × Nat) → List (Nat × Nat) → List (Nat × Nat)
  | [], done => done
  | x :: t, done =>
    let st (d : Nat) : Nat := match r.entry d with
      | some e => e.state
      | none => 0
    let onto (y : Nat × Nat) : Bool := decide (st y.2 = 1)
    let away (y : Nat × Nat) : Bool := decide (st (r.hostOf y.1) = 2)
    let full (cls : Nat × Nat → Bool) : Bool := cls x && r.ens.any (fun e =>
      e.ranks.contains x.1
        && decide (Nat.max 1 (e.members / 8) ≤ (done.filter (fun y => cls y && e.ranks.contains y.1)).length))
    if full onto || full away then limitMoves r t done else limitMoves r t (done ++ [x])

/-- A device number and the devices whose up links reach it (R423). -/
def Roster.neighbours (r : Roster) (d : Nat) : List Nat :=
  (r.devs.filter (fun e => decide (e.number ≠ d) && e.upLinks.any (fun l => decide (l.2 = d)))).map
    (fun (e : DevEntry) => e.number)

end Sys2Proof
end

