-- ==== Sys2Proof/Machine/Float.lean ====
section
/-! DEFINITION. Number formats, exact values, rounding and conversion, the summation window of a pass, binary32
arithmetic and the bounded approximations (02, R23-R46, R52; 05, R158). -/

namespace Sys2Proof.Machine

/-- The encoded formats of R23 but E8M0. -/
inductive Fmt where
  | e4m3 | e5m2 | e2m3 | e3m2 | e2m1 | bf16 | fp16 | b32 | b64
  deriving DecidableEq, Repr

/-- Exponent and mantissa widths and bias (R23). -/
def Fmt.eb : Fmt → Nat
  | .e4m3 => 4 | .e5m2 => 5 | .e2m3 => 2 | .e3m2 => 3 | .e2m1 => 2 | .bf16 => 8 | .fp16 => 5 | .b32 => 8 | .b64 => 11
def Fmt.mb : Fmt → Nat
  | .e4m3 => 3 | .e5m2 => 2 | .e2m3 => 3 | .e3m2 => 2 | .e2m1 => 1 | .bf16 => 7 | .fp16 => 10 | .b32 => 23 | .b64 => 52
def Fmt.bias : Fmt → Nat
  | .e4m3 => 7 | .e5m2 => 15 | .e2m3 => 1 | .e3m2 => 3 | .e2m1 => 1 | .bf16 => 127 | .fp16 => 15 | .b32 => 127
  | .b64 => 1023

/-- R26, R27: the narrow formats read and write no subnormals. -/
def Fmt.subs : Fmt → Bool
  | .bf16 | .fp16 | .b32 | .b64 => true
  | _ => false

/-- Formats that encode infinities (R23). -/
def Fmt.hasInf : Fmt → Bool
  | .e5m2 | .bf16 | .fp16 | .b32 | .b64 => true
  | _ => false

/-- The largest exponent field of a finite value. -/
def Fmt.topExp (f : Fmt) : Nat := if f.hasInf then 2 ^ f.eb - 2 else 2 ^ f.eb - 1

/-- The encoding of the largest finite magnitude (R23). -/
def Fmt.maxBits (f : Fmt) : Nat :=
  match f with
  | .e4m3 => 0x7E
  | _ => f.topExp * 2 ^ f.mb + (2 ^ f.mb - 1)

/-- The canonical NaN (R25); the MX element formats have none. -/
def Fmt.nanBits : Fmt → Nat
  | .e4m3 => 0x7F | .e5m2 => 0x7E | .bf16 => 0x7FC0 | .fp16 => 0x7E00 | .b32 => 0x7FC00000
  | .b64 => 0x7FF8000000000000 | _ => 0

/-- An exact value: NaN, an infinity, or (-1)^neg × m × 2^e (zero keeps its sign). -/
inductive FV where
  | nan
  | inf (neg : Bool)
  | fin (neg : Bool) (m : Nat) (e : Int)
  deriving DecidableEq, Repr

/-- The value of an encoding (R23, R26, R27). -/
def Fmt.decode (f : Fmt) (bits : Nat) : FV :=
  let man := bits % 2 ^ f.mb
  let ex := bits / 2 ^ f.mb % 2 ^ f.eb
  let neg := decide (bits / 2 ^ (f.mb + f.eb) % 2 = 1)
  if f.hasInf && decide (ex = 2 ^ f.eb - 1) then (if man = 0 then .inf neg else .nan)
  else if decide (f = .e4m3) && decide (ex = 15 ∧ man = 7) then .nan
  else if ex = 0 then (if f.subs then .fin neg man (1 - (f.bias : Int) - f.mb) else .fin neg 0 0)
  else .fin neg (2 ^ f.mb + man) ((ex : Int) - f.bias - f.mb)

/-- floor(log2 |x|) of a non-zero finite magnitude. -/
def ilog (m : Nat) (e : Int) : Int := (Nat.log2 m : Int) + e

/-- 2^z of a non-negative integer exponent. -/
def pow2 (z : Int) : Nat := 2 ^ z.toNat

/-- The encoding of sign, q × 2^u for a value on the grid. -/
def Fmt.enc (f : Fmt) (neg : Bool) (q : Nat) (u : Int) : Nat :=
  let s := if neg then 2 ^ (f.mb + f.eb) else 0
  if q = 0 then s
  else
    let l := ilog q u
    if l < 1 - (f.bias : Int) then s + q
    else s + (l + f.bias).toNat * 2 ^ f.mb + (q * 2 ^ f.mb / 2 ^ Nat.log2 q - 2 ^ f.mb)

/-- Rounding modes; the 16-bit random value comes with the stochastic one (R39). -/
inductive Rnd where
  | rne
  | rtz
  | sto (r16 : Nat)
  deriving DecidableEq, Repr

/-- R40. -/
def Fmt.overflow (f : Fmt) (neg sat : Bool) : Nat :=
  let s := if neg then 2 ^ (f.mb + f.eb) else 0
  if sat then s + f.maxBits
  else if f.hasInf then s + (2 ^ f.eb - 1) * 2 ^ f.mb
  else f.nanBits

/-- R39 for a non-zero magnitude m × 2^e: lo is q × 2^u, the gap 2^u (for a source below the smallest normal of a format
without subnormals lo is 0 and the gap is that normal), and beyond the largest finite lo is that. -/
def Fmt.round (f : Fmt) (mode : Rnd) (sat neg : Bool) (m : Nat) (e : Int) : Nat :=
  let s := if neg then 2 ^ (f.mb + f.eb) else 0
  let l := ilog m e
  let minE : Int := 1 - (f.bias : Int)
  let tiny := decide (l < minE) && !f.subs
  let u0 : Int := if tiny then minE else max (l - f.mb) (minE - f.mb)
  let top : Int := (f.topExp : Int) - f.bias - f.mb
  let qmax : Nat := 2 ^ f.mb + f.maxBits % 2 ^ f.mb
  let b0 := min e u0
  let ovf := !tiny && (decide (u0 > top) || decide (u0 = top) && decide (m * pow2 (e - b0) / pow2 (u0 - b0) ≥ qmax))
  let u := if ovf then top else u0
  let b := min e u
  let a := m * pow2 (e - b)
  let g := pow2 (u - b)
  let q := if ovf then qmax else a / g
  let rem := a - q * g
  if rem = 0 then f.enc neg q u
  else
    let up := match mode with
      | .rne => decide (2 * rem > g) || (decide (2 * rem = g) && decide (q % 2 = 1))
      | .rtz => false
      | .sto r16 => decide (rem * 65536 / g + r16 ≥ 65536)
    if up then
      if ovf then f.overflow neg sat
      else if decide (u = top) && decide (q + 1 > qmax) then f.overflow neg sat
      else f.enc neg (q + 1) u
    else if q = 0 then s else f.enc neg q u

/-- The conversion of a value into a format (R39-R41, R43): the scale exponent is applied to the exact source. -/
def Fmt.conv (f : Fmt) (mode : Rnd) (sat : Bool) (k : Int) : FV → Nat
  | .nan => f.nanBits
  | .inf neg => if sat then (if neg then 2 ^ (f.mb + f.eb) else 0) + f.maxBits else f.overflow neg false
  | .fin neg m e => if m = 0 then f.enc neg 0 0 else f.round mode sat neg m (e + k)

/-- Exact sign and magnitude as an integer in units of 2^u, u at most the exponent. -/
def FV.units (u : Int) : FV → Int
  | .fin neg m e => let v : Int := m * pow2 (e - u); if neg then -v else v
  | _ => 0

def FV.exp : FV → Int
  | .fin _ _ e => e
  | _ => 0

def FV.isZero : FV → Bool
  | .fin _ 0 _ => true
  | _ => false

def FV.neg : FV → Bool
  | .nan => false
  | .inf n => n
  | .fin n _ _ => n

def FV.negate : FV → FV
  | .nan => .nan
  | .inf n => .inf (!n)
  | .fin n m e => .fin (!n) m e

def FV.ofInt (z : Int) (e : Int) : FV := .fin (decide (z < 0)) z.natAbs e

/-- Exact addition with IEEE 754-2019 special values and RNE's sign of an exact zero (R44). -/
def FV.add : FV → FV → FV
  | .nan, _ => .nan
  | _, .nan => .nan
  | .inf a, .inf b => if a = b then .inf a else .nan
  | .inf a, _ => .inf a
  | _, .inf b => .inf b
  | .fin n1 m1 e1, .fin n2 m2 e2 =>
    let u := min e1 e2
    let z := FV.units u (.fin n1 m1 e1) + FV.units u (.fin n2 m2 e2)
    if z = 0 then .fin (n1 && n2) 0 0 else .ofInt z u

/-- Exact multiplication (R44). -/
def FV.mul : FV → FV → FV
  | .nan, _ => .nan
  | _, .nan => .nan
  | .inf a, .inf b => .inf (a != b)
  | .inf a, .fin n m _ => if m = 0 then .nan else .inf (a != n)
  | .fin n m _, .inf b => if m = 0 then .nan else .inf (n != b)
  | .fin n1 m1 e1, .fin n2 m2 e2 => .fin (n1 != n2) (m1 * m2) (e1 + e2)

/-- Exact order of two values that are not NaN: -1, 0, 1 (−0 equals +0). -/
def FV.cmp (a b : FV) : Int :=
  match a, b with
  | .inf x, .inf y => if x = y then 0 else if x then -1 else 1
  | .inf x, _ => if x then -1 else 1
  | _, .inf y => if y then 1 else -1
  | a, b => let u := min a.exp b.exp; let d := a.units u - b.units u; if d < 0 then -1 else if d = 0 then 0 else 1

/-- A binary32 value. -/
def fv32 (w : W32) : FV := Fmt.b32.decode w.toNat

/-- RNE32: one rounding into binary32. -/
def rne32 (x : FV) : W32 := BitVec.ofNat 32 (Fmt.b32.conv .rne false 0 x)

def isNan32 (w : W32) : Bool := decide (fv32 w = .nan)
def isFin32 (w : W32) : Bool := match fv32 w with
  | .fin _ _ _ => true
  | _ => false

/-- The exact value of a wide pair (R24). -/
def fvWide (hi lo : W32) : FV := match fv32 hi with
  | .fin n m e => (FV.fin n m e).add (fv32 lo)
  | x => x

/-- R24, R35: a value rounded into a wide pair; lo is +0 beside a zero, infinite or NaN hi. DESIGN CHOICE (log entry 26): where
RNE32(x − hi) is exactly half an ulp of an odd hi, R24's hi = RNE(hi + lo) and R35's formula disagree; the model writes R35's. -/
def wideOf (x : FV) : W32 × W32 :=
  let hi := rne32 x
  match fv32 hi with
  | .fin n m e => if m = 0 then (hi, 0) else (hi, rne32 ((x.add (FV.fin n m e).negate)))
  | _ => (hi, 0)

/-- A term of a pass (R32): its value and the exponent R33 gives it. -/
structure Term where
  v : FV
  ex : Int
  deriving DecidableEq, Repr

/-- A term of one value. -/
def Term.one (x : FV) : Term := match x with
  | .fin n m e => ⟨.fin n m e, ilog m e⟩
  | y => ⟨y, 0⟩

/-- A product term: the exponent is the sum of the operands' exponents and scale exponents. -/
def Term.prod (a w : FV) (s : Int) : Term := match a, w with
  | .fin n1 m1 e1, .fin n2 m2 e2 => ⟨.fin (n1 != n2) (m1 * m2) (e1 + e2 + s), ilog m1 e1 + ilog m2 e2 + s⟩
  | x, y => ⟨x.mul y, 0⟩

/-- One term truncated to the window below exponent E, in units of 2^(E−69) (R33). -/
def Term.units (E : Int) (t : Term) : Int := match t.v with
  | .fin n m e =>
    let sh := e - (E - 69)
    let mag : Int := if sh ≥ 0 then m * pow2 sh else m / pow2 (-sh)
    if n then -mag else mag
  | _ => 0

/-- The largest exponent among the non-zero finite terms. -/
def topEx (ts : List Term) : Option Int :=
  ts.foldl (fun o t => match t.v with
    | .fin _ m _ => if m = 0 then o else some (match o with | none => t.ex | some x => max x t.ex)
    | _ => o) none

/-- R33, R34: the exact sum of a pass's terms. -/
def windowSum (ts : List Term) : FV :=
  let nan := ts.any (fun t => decide (t.v = .nan))
  let pinf := ts.any (fun t => decide (t.v = .inf false))
  let ninf := ts.any (fun t => decide (t.v = .inf true))
  if nan || (pinf && ninf) then .nan
  else if pinf then .inf false
  else if ninf then .inf true
  else match topEx ts with
    | none => .fin false 0 0
    | some E =>
      let z := ts.foldl (fun a t => a + t.units E) 0
      if z = 0 then .fin false 0 0 else .ofInt z (E - 69)

/-- R35: the new accumulator value of a sum, in single or wide format. -/
def roundAcc (wide : Bool) (s : FV) : W32 × W32 :=
  if wide then wideOf s else (rne32 s, 0)

/-- Binary32 arithmetic of R44. -/
def f32add (a b : W32) : W32 := rne32 ((fv32 a).add (fv32 b))
def f32sub (a b : W32) : W32 := rne32 ((fv32 a).add (fv32 b).negate)
def f32mul (a b : W32) : W32 := rne32 ((fv32 a).mul (fv32 b))
def f32fma (a b c : W32) : W32 := rne32 (((fv32 a).mul (fv32 b)).add (fv32 c))
def f32fms (a b c : W32) : W32 := rne32 (((fv32 a).mul (fv32 b)).add (fv32 c).negate)
def f32fnma (a b c : W32) : W32 := rne32 (((fv32 a).mul (fv32 b)).negate.add (fv32 c))

def nan32 : W32 := 0x7FC00000
def one32 : W32 := 0x3F800000
def ninf32 : W32 := 0xFF800000
def pinf32 : W32 := 0x7F800000

/-- R44: a NaN operand gives NaN; −0 is below +0. -/
def f32min (a b : W32) : W32 :=
  if isNan32 a || isNan32 b then nan32
  else match (fv32 a).cmp (fv32 b) with
    | 0 => if (fv32 a).neg then a else b
    | z => if z < 0 then a else b
def f32max (a b : W32) : W32 :=
  if isNan32 a || isNan32 b then nan32
  else match (fv32 a).cmp (fv32 b) with
    | 0 => if (fv32 a).neg then b else a
    | z => if z < 0 then b else a
def f32abs (a : W32) : W32 := if isNan32 a then nan32 else a &&& 0x7FFFFFFF
def f32neg (a : W32) : W32 := if isNan32 a then nan32 else a ^^^ 0x80000000
def f32cpy (a : W32) : W32 := if isNan32 a then nan32 else a
def f32bool (b : Bool) : W32 := if b then one32 else 0
def f32eq (a b : W32) : Bool := !isNan32 a && !isNan32 b && decide ((fv32 a).cmp (fv32 b) = 0)
def f32lt (a b : W32) : Bool := !isNan32 a && !isNan32 b && decide ((fv32 a).cmp (fv32 b) < 0)
def f32le (a b : W32) : Bool := !isNan32 a && !isNan32 b && decide ((fv32 a).cmp (fv32 b) ≤ 0)

/-- A fixed pairwise tree (R45): one level pairs position 2j with 2j + 1. -/
def pairLevel (f : W32 → W32 → W32) : List W32 → List W32
  | a :: b :: t => f a b :: pairLevel f t
  | l => l

/-- `n` levels of the tree; the root of the 2^n positions. -/
def pairTree (f : W32 → W32 → W32) (z : W32) : Nat → List W32 → W32
  | 0, l => l.headD z
  | n + 1, l => pairTree f z n (pairLevel f l)

/-- A quotient 2^k / m with a sticky bit, as an exact value scaled so that one rounding of it is the rounding of the
quotient. -/
def quotFV (neg : Bool) (num den : Nat) (e : Int) : FV :=
  let k := Nat.log2 den + 64
  let q := num * 2 ^ k / den
  let sticky := if num * 2 ^ k % den = 0 then 0 else 1
  .fin neg (2 * q + sticky) (e - k - 1)

/-- The spacing exponent of binary32 at a magnitude whose floor log2 is l. -/
def ulpExp (l : Int) : Int := max (l - 23) (-149)

/-- R158 for 1 / SA: the free candidate `c` where it lies within 1 ulp of the exact value, else the nearest value. -/
def rcp32 (c : W32) (x : W32) : W32 :=
  match fv32 x with
  | .nan => nan32
  | .inf n => if n then 0x80000000 else 0
  | .fin n m e =>
    if m = 0 then (if n then ninf32 else pinf32)
    else
      let pw := decide (2 ^ Nat.log2 m = m)
      let exact := quotFV n 1 m (-e)
      let near := rne32 exact
      let ovf := decide (exact.cmp (.fin n (2 ^ 24 - 1) 104) = (if n then -1 else 1))
      if ovf then (if n then ninf32 else pinf32)
      else if pw && decide ((near.toNat / 2 ^ 23) % 256 ≠ 0) then near
      else
        let l : Int := (if pw then -(Nat.log2 m : Int) else -(Nat.log2 m : Int) - 1) - e
        match fv32 c with
        | .fin cn cm ce =>
          -- |c·x − 1| ≤ ulp·|x|
          let u := min (ce + e) (min 0 (ulpExp l + e))
          let d : Int := (cm * m * pow2 (ce + e - u) : Nat) - (pow2 (-u) : Nat)
          if decide (cn = n) && decide (d.natAbs ≤ m * pow2 (ulpExp l + e - u)) then c else near
        | _ => near

/-- R158 for 1 / √SA: within 2 ulp. -/
def rsq32 (c : W32) (x : W32) : W32 :=
  match fv32 x with
  | .nan => nan32
  | .inf n => if n then nan32 else 0
  | .fin n m e =>
    if m = 0 then (if n then ninf32 else pinf32)
    else if n then nan32
    else
      let pw := decide (2 ^ Nat.log2 m = m)
      let L : Int := (if pw then -(Nat.log2 m : Int) else -(Nat.log2 m : Int) - 1) - e
      let l : Int := L / 2
      -- 2^(2k) / x with k fraction bits enough for one correct rounding
      let k : Int := 80 - l
      let num : Nat := pow2 (2 * k - e)
      let r := Nat.sqrt (num / m)
      let sticky := if r * r * m = num then 0 else 1
      let near := rne32 (.fin false (2 * r + sticky) (-k - 1))
      if pw && decide ((Nat.log2 m + e) % 2 = 0) then near
      else match fv32 c with
        | .fin cn cm ce =>
          let g := ulpExp l + 1
          let u := min ce g
          let cu : Int := cm * pow2 (ce - u)
          let gu : Int := pow2 (g - u)
          -- (c − 2ulp)² x ≤ 1 ≤ (c + 2ulp)² x
          let b := min 0 (2 * u + e)
          let one : Int := pow2 (-b)
          let sq (z : Int) : Int := z * z * m * pow2 (2 * u + e - b)
          if !cn && (decide (cu - gu ≤ 0) || decide (sq (cu - gu) ≤ one)) && decide (one ≤ sq (cu + gu)) then c else near
        | _ => near

/-- e^x in units of 2^-512 by Horner's scheme; x in units of 2^-512. Below 2^7 in magnitude 640 terms leave less than 2^-400. -/
def expFix (x : Int) : Nat → Int → Int
  | 0, acc => acc
  | n + 1, acc => expFix x n (2 ^ 512 + x * acc / (2 ^ 512 * (n + 1)))

/-- R158 for e^SA: within 2 ulp, or within 2^-149 below 2^-126. -/
def exp32 (c : W32) (x : W32) : W32 :=
  match fv32 x with
  | .nan => nan32
  | .inf n => if n then 0 else pinf32
  | .fin n m e =>
    if m = 0 then one32
    else if ilog m e ≥ 7 then (if n then 0 else pinf32)
    else
      let y := expFix ((FV.fin n m e).units (-512)) 640 (2 ^ 512)
      let v : FV := .fin false y.natAbs (-512)
      if v.cmp (.fin false (2 ^ 24 - 1) 104) = 1 then pinf32
      else if v.cmp (.fin false 1 (-150)) = -1 then 0
      else
        let near := rne32 v
        let l := ilog y.natAbs (-512)
        let tol : Int := if l < -126 then -149 else ulpExp l + 1
        match fv32 c with
        | .fin cn cm ce =>
          let u := min ce (-512)
          let d := (FV.fin cn cm ce).units u - v.units u
          if decide (d.natAbs ≤ pow2 (tol - u)) then c else near
        | _ => near

/-- The signed integer nearest under a mode, saturating to 32 bits; NaN gives 0x8000_0000 (R164, FMT 0xB). -/
def toInt32 (mode : Rnd) (k : Int) : FV → W32
  | .nan => 0x80000000
  | .inf n => if n then 0x80000000 else 0x7FFFFFFF
  | .fin n m e0 =>
    let e := e0 + k
    let b := min e 0
    let a := m * pow2 (e - b)
    let g := pow2 (-b)
    let q : Nat := a / g
    let rem := a % g
    let up := match mode with
      | .rne => decide (2 * rem > g) || (decide (2 * rem = g) && decide (q % 2 = 1))
      | .rtz => false
      | .sto r16 => decide (rem * 65536 / g + r16 ≥ 65536)
    let q' : Nat := if up then q + 1 else q
    if n then (if q' ≥ 2 ^ 31 then 0x80000000 else BitVec.ofInt 32 (-(q' : Int)))
    else (if q' ≥ 2 ^ 31 then 0x7FFFFFFF else BitVec.ofNat 32 q')

/-- emax of an MX element format (R42). -/
def Fmt.emax : Fmt → Int
  | .e4m3 => 8 | .e5m2 => 15 | .e2m3 => 2 | .e3m2 => 4 | .e2m1 => 2 | _ => 0

/-- R42: a block of values into one MX block: the scale byte and the elements. `mode i` is the rounding of element i; a
scale exponent k multiplies every source first (R43). -/
def convBlock (f : Fmt) (mode : Nat → Rnd) (k : Int) (xs : List FV) : Nat × List Nat :=
  let bad := xs.any (fun x => match x with | .fin _ _ _ => false | _ => true)
  let tops := xs.filterMap (fun x => match x with | .fin _ m e => if m = 0 then none else some (ilog m (e + k)) | _ => none)
  if bad then (0xFF, xs.map (fun _ => 0))
  else match tops with
    | [] => (0x7F, xs.map (fun x => f.enc x.neg 0 0))
    | t :: ts =>
      let x := max (-127) (min 127 (ts.foldl max t - f.emax))
      ((x + 127).toNat, xs.zipIdx.map (fun p => f.conv (mode p.2) true (k - x) p.1))

/-- R28: an element under its block scale. -/
def scaleElem (f : Fmt) (bits scale : Nat) : FV :=
  if scale = 0xFF then .nan
  else match f.decode bits with
    | .fin n m e => .fin n m (e + (scale : Int) - 127)
    | x => x

/-- Philox-4x32-10 (R168). -/
def philoxRound (n : Nat) (c : W32 × W32 × W32 × W32) (k0 k1 : W32) : W32 × W32 × W32 × W32 :=
  match n with
  | 0 => c
  | n + 1 =>
    let p0 := 0xD2511F53 * c.1.toNat
    let p1 := 0xCD9E8D57 * c.2.2.1.toNat
    let h0 := BitVec.ofNat 32 (p0 / 2 ^ 32)
    let l0 := BitVec.ofNat 32 p0
    let h1 := BitVec.ofNat 32 (p1 / 2 ^ 32)
    let l1 := BitVec.ofNat 32 p1
    philoxRound n (h1 ^^^ c.2.1 ^^^ k0, l1, h0 ^^^ c.2.2.2 ^^^ k1, l0) (k0 + 0x9E3779B9) (k1 + 0xBB67AE85)

def philox (c0 c1 c2 c3 k0 k1 : W32) : W32 × W32 × W32 × W32 := philoxRound 10 (c0, c1, c2, c3) k0 k1

/-- R46: the square of a finite binary32 value in units of 2^-298. -/
def sqUnits (w : W32) : Nat := match fv32 w with
  | .fin _ m e => m * m * pow2 (2 * e + 298)
  | _ => 0

/-- R46, R185: the binary64 rounding of an exact sum-of-squares register. -/
def sumsq64 (n : Nat) (sat : Bool) : W64 :=
  if sat then 0x7FF0000000000000
  else BitVec.ofNat 64 (Fmt.b64.conv .rne false 0 (.fin false n (-298)))

end Sys2Proof.Machine
end

