-- ==== Sys2Proof/Machine/TallyOps.lean ====
section
/-! DEFINITION. Exact Tally registers (R46, R176, R179, R181, R185). -/

namespace Sys2Proof

open Machine

def TlyReg.zero : TlyReg := ⟨0, false, 0, 0⟩

/-- An entry of a list sorted by key; listing a key records that it received a contribution. -/
def aput {α : Type} (k : Nat) (v : α) : List (Nat × α) → List (Nat × α)
  | [] => [(k, v)]
  | (j, w) :: t => if k < j then (k, v) :: (j, w) :: t else if k = j then (k, v) :: t else (j, w) :: aput k v t

/-- The sum of two exact registers, which stops at 2^304 (R185). -/
def sqAdd (a : Nat) (sat : Bool) (b : Nat) : Nat × Bool :=
  if sat then (a, true) else if a + b > 2 ^ 602 then (a, true) else (a + b, false)

/-- Counts saturate at 0xFFFF_FFFF (R179, R181). -/
def cap32 (n : Nat) : Nat := Nat.min n 0xFFFFFFFF

/-- One tallied value (R176). -/
def TlyReg.see (r : TlyReg) (x : W32) : TlyReg :=
  if isFin32 x then
    let q := sqAdd r.sumsq r.sat (sqUnits x)
    { r with sumsq := q.1, sat := q.2, amax := if r.amax.ult (x &&& 0x7FFFFFFF) then x &&& 0x7FFFFFFF else r.amax }
  else { r with nonfin := cap32 (r.nonfin + 1) }

/-- Two registers combined (R181). -/
def TlyReg.add (a b : TlyReg) : TlyReg :=
  let q := sqAdd a.sumsq (a.sat || b.sat) b.sumsq
  { sumsq := q.1, sat := q.2, amax := if a.amax.ult b.amax then b.amax else a.amax, nonfin := cap32 (a.nonfin + b.nonfin) }

/-- A value tallied under tag and stream. -/
def Tally.see (t : Tally) (tag stream : Nat) (x : W32) : Tally :=
  { t with regs := aput (4 * tag + stream) ((mget TlyReg.zero t.regs (4 * tag + stream)).see x) t.regs }

/-- Overflows counted under a tag (R179). -/
def Tally.addOvf (t : Tally) (tag n : Nat) : Tally :=
  { t with ovf := aput tag (cap32 (mget 0 t.ovf tag + n)) t.ovf }

/-- Two sets combined exactly (R180, R181). -/
def Tally.add (a b : Tally) : Tally :=
  { regs := b.regs.foldl (fun m e => aput e.1 (if m.any (fun x => decide (x.1 = e.1)) then (mget TlyReg.zero m e.1).add e.2 else e.2) m)
      a.regs
    ovf := b.ovf.foldl (fun m e => aput e.1 (cap32 (mget 0 m e.1 + e.2)) m) a.ovf }

/-- The distinct tags a set names (R177). -/
def Tally.tags (t : Tally) : List Nat := (t.regs.map (fun (e : Nat × TlyReg) => e.1 / 4) ++ t.ovf.map (fun (e : Nat × Nat) => e.1)).eraseDups

end Sys2Proof
end

