-- ==== Sys2Proof/Machine/SchedOps.lean ====
section
/-! DEFINITION. Shared operations of the Stage Manager on running launches: ending a kernel, suspending a context,
replaying an item, preempting a fill launch (R89, R90, R97, R137, R294, R313). -/

namespace Sys2Proof.Machine

/-- What remains of a Stage when its kernel ends or is stopped (R89, R97, R313): queues, slots, weight registers, the
finished-tile queue, outstanding transfers and Tally contributions go; memories keep their contents. -/
def Stage.cleared (t : Stage) (w : PrmWait) : Stage :=
  { t with
    inst := none
    prm := { Prm.idle with wait := w }
    mx := { Mxa.empty with acc := t.mx.acc, accEcc := t.mx.accEcc }
    sn := { t.sn with queue := [] }
    sh := Shd.empty
    tally := tallyEmpty
    tags := [] }

/-- A Stage's instance is gone, and with it what the link had ended of its Rolls (R354, R356). -/
def State.freeStage (s : State) (n : Nat) (w : PrmWait) : State :=
  { s.modStage n (fun x => x.cleared w) with link := { s.link with ended := s.link.ended.filter (fun r => decide (r ≠ .roll n)) } }

/-- Stages of a list cleared. -/
def State.clearStages (s : State) (w : PrmWait) : List Nat → State
  | [] => s
  | n :: t => (s.freeStage n w).clearStages w t

/-- A fill launch has run longer than its budget of 50 µs (R310). -/
def State.overran (s : State) (x : Launch) : Bool :=
  decide (x.state = 1 ∧ 50000 < s.now.toNat - x.started) && ((s.ctx? x.ctx).map (fun (c : Ctx) => !c.lead)).getD false

/-- A kernel ended on every Stage its launch still holds (R89, R137); the launch goes back to waiting. A fill launch that has run too long
counts (R310). -/
def State.endLaunch (s : State) (l : Nat) : State :=
  match s.launch? l with
  | none => s
  | some x =>
    let s := if s.overran x then s.bump .smgFillOverrun 0 1 else s
    (s.clearStages .run x.stages).modLaunch l
      (fun y => { y with state := 0, stages := [], left := 0, tally := tallyEmpty, tags := [] })

/-- Pins of a launch's item released (R271, R313). -/
def State.dropPins (s : State) (p : Pin → Bool) : State :=
  { s with sched := { s.sched with pins := s.sched.pins.filter (fun x => !p x) } }

/-- A context suspended at once, with its cause and event (R294, R334, R487); one that is suspended already keeps its cause, unless it now needs
a restore (R447). -/
def State.suspend (s : State) (c cause : Nat) : State :=
  match s.ctx? c with
  | none => s
  | some x =>
    if x.suspended ∧ cause ≠ 4 then s
    else (s.modCtx c (fun y => { y with suspended := true, suspCause := cause })).post 0x0011 1 (some c) [w64 cause]

/-- Two launches of the lead serve the same item: one virtual rank and micro-batch, or one group (R137, R268). -/
def sameItem (a b : Launch) : Bool :=
  decide (a.ctx = b.ctx) && decide (a.vrank = b.vrank) && decide (a.mb = b.mb) && decide (a.group = b.group)

/-- A launch serves a micro-batch of a virtual rank. -/
def Launch.of (x : Launch) (v m : Nat) : Bool := x.insts.contains (v, m) || decide (v = x.vrank ∧ m = x.mb)

/-- The launches of an item run again from their first instruction (R51, R137, R275), with the payloads of this device's own senders in their queue
and their logged inputs supplied again, and the gathers of their group made again. -/
def State.replayItem (s : State) (x : Launch) : State :=
  let ls := s.sched.launches.filter (fun y => sameItem x y)
  let s := ls.foldl (fun s y => if y.state = 1 then s.endLaunch y.id else s) s
  let back := s.link.pipeTaken.filter (fun m => decide (m.ctx = x.ctx ∧ m.dev = s.link.me) && x.of m.dstVr m.mb)
  { s with
    sched := { s.sched with
      replayed := true
      launches := s.sched.launches.map (fun y =>
        if sameItem x y then { y with state := 0, stages := [], left := 0, tally := tallyEmpty, tags := [] }
        else if y.ctx = x.ctx ∧ y.kind = 1 ∧ y.state = 2 ∧ y.insts.any (fun i => x.insts.contains i) = true then { y with state := 0 } else y) }
    link := { s.link with
      pipeIn := s.link.pipeIn ++ back
      pipeTaken := s.link.pipeTaken.filter (fun m => !(decide (m.ctx = x.ctx) && x.of m.dstVr m.mb)) }
    pbk := { s.pbk with supplied := s.pbk.supplied.filter (fun m => !x.of m.1 m.2) } }

/-- A fill launch hard-preempted (R90, R312, R313, R315, R492): the Prompter-to-Booth Bells of its Stages stay as they
are; every eighth preemption in a row posts a starvation event. -/
def State.preempt (s : State) (l : Nat) : State :=
  match s.launch? l with
  | none => s
  | some x =>
    let s := (s.endLaunch l).dropPins (fun p => decide (p.launch = l))
    let s := s.modLaunch l (fun y => { y with preempts := x.preempts + 1 })
    let s := s.modCtx x.ctx (fun c => { c with preemptRun := Nat.min (x.preempts + 1) 0xFFFF })
    let s := s.bump .smgPreempt 0 1
    if (x.preempts + 1) % 8 = 0 then s.post 0x0012 1 (some x.ctx) [w64 x.kernel] else s

/-- A weight set no longer current and without references is freed with its tensors, with an event (R288). -/
def State.freeWset (s : State) (c num : Nat) : State :=
  match s.ctx? c with
  | none => s
  | some x =>
    let dead := x.wsets.filter (fun w => decide (w.refs = 0 ∧ w.num = num) && !w.current && w.loaded)
    let s := s.modCtx c (fun y =>
      { y with
        wsets := y.wsets.filter (fun w => !dead.contains w)
        tensors := y.tensors.filter (fun t => dead.isEmpty || decide (t.vr ≠ 65537 + num)) })
    dead.foldl (fun s w => s.post 0x0013 0 (some c) [w64 w.num]) s

/-- A weight set's reference given back (R287, R288). -/
def State.dropWset (s : State) (c num : Nat) : State :=
  (s.modCtx c (fun y => { y with wsets := y.wsets.map (fun w => if w.num = num then { w with refs := w.refs - 1 } else w) })).freeWset c num

/-- A micro-batch of the lead has ended when no launch but updates and collectives is left to serve it (R129, R271). -/
def State.mbOver (s : State) (ctx : Nat) (i : Nat × Nat) : Bool :=
  !s.sched.launches.any (fun y => decide (y.ctx = ctx ∧ y.state ≠ 2 ∧ (y.kind = 0 ∨ y.kind = 1 ∨ y.kind = 3)) && y.insts.contains i)

/-- A pin's group has ended (R129): every micro-batch it serves, or for a pin of a launch outside every loop everything but updates and
collectives. -/
def State.pinOver (s : State) (p : Pin) : Bool :=
  if p.insts.isEmpty then
    !s.sched.launches.any (fun y => decide (y.ctx = p.ctx ∧ y.state ≠ 2 ∧ (y.kind = 0 ∨ y.kind = 1 ∨ y.kind = 3)))
  else p.insts.all (s.mbOver p.ctx)

/-- The launches a fill Score lists for one micro-batch, in list order, each after the one before (R293, log entry 15). -/
def fillLaunches (c : Nat) (mb : Nat) (first : Nat) : List KernelDecl → Nat → List Nat → List Launch
  | [], _, _ => []
  | k :: t, j, deps =>
    { id := first + j, ctx := c, sheet := 0, entry := 0, kind := 0, backward := false, kernel := j, layer := 0,
      vrank := 0, mb := mb, group := none, deps := deps, cap := k.instances, state := 0, stages := [], left := 0,
      serves := 1, insts := [(0, mb)], fetched := false, started := 0, preempts := 0, noTally := true, tally := tallyEmpty, tallied := false, tags := [] }
    :: fillLaunches c mb first t (j + 1) [first + j]

/-- The next micro-batch of a fill context enters its launch order (R293). -/
def State.nextFill (s : State) (c : Nat) : State :=
  match s.ctx? c with
  | none => s
  | some x =>
    match x.score with
    | none => s
    | some sc =>
      let ls := fillLaunches c x.mbNext s.sched.nextLaunch sc.kernels 0 []
      let s := s.modCtx c (fun y => { y with mbNext := x.mbNext + 1, submitted := x.mbNext + 1 })
      { s with
        sched := { s.sched with
          launches := s.sched.launches ++ ls, nextLaunch := s.sched.nextLaunch + ls.length } }

/-- A fill context takes up the host's next micro-batch, if it has been submitted: how the host submits one is not in the spec, so whether it
has is a free value (log entry 15). -/
def State.takeWork (s : State) (c : Nat) : State :=
  let t := { s with freeCtr := s.freeCtr + 1 }
  if Config.hostSubmits s.freeCtr c then t.nextFill c else t

/-- The figures a completed lead launch gives (R268): its gather or compute time by layer and direction. -/
def State.measure (s : State) (c : Ctx) (x : Launch) : State :=
  let ns := s.now.toNat - x.started
  let m : List Meas := match c.shape with
    | none => []
    | some h => if x.kind = 0 ∨ x.kind = 1 then
        [⟨x.sheet, x.vrank % h.sq, x.layer, x.backward, decide (x.kind = 1), ns, x.insts, x.fetched⟩] else []
  { s with
    sched := { s.sched with
      meas := s.sched.meas ++ m } }

/-- The launch's last instance has ended: its contributions join the step's; with the last launch of a micro-batch its pins, activations and
reserved rows are given up, and a fill micro-batch gives its weight set back (R129, R177, R268, R271, R283, R287). -/
def State.launchDone (s : State) (x : Launch) : State :=
  let s := if s.overran x then s.bump .smgFillOverrun 0 1 else s
  let s := s.modLaunch x.id (fun y => { y with state := 2, stages := [], left := 0, tallied := true, preempts := 0 })
  match s.ctx? x.ctx with
  | none => s
  | some c =>
    if c.lead then
      let ended := x.insts.filter (s.mbOver x.ctx)
      let s := s.dropPins (fun p => decide (p.ctx = x.ctx) && s.pinOver p)
      let s := (s.modCtx x.ctx (fun y =>
        { y with
          tensors := y.tensors.filter (fun t => !(ended.any (fun i => decide (t.vr = 2 ^ 20 * (i.2 + 1) + i.1)))) })).measure c x
      let s := { s with link := { s.link with rows := s.link.rows.filter (fun r => !(decide (r.ctx = x.ctx ∧ (x.kind = 0 ∨ x.kind = 3))
        && x.insts.contains (r.dst, r.mb))) } }
      if x.noTally || x.tallied then s
      else
        let t := s.sched.stepTally.add x.tally
        let s := if t.regs.any (fun e => e.2.sat) then s.setFld .tlyStatus 0 2 2 1 else s
        { s with sched := { s.sched with stepTally := t } }
    else
      let s := s.modCtx x.ctx (fun y => { y with preemptRun := 0 })
      let s := { s with link := { s.link with rows := s.link.rows.filter (fun r => decide (r.ctx ≠ x.ctx ∨ r.mb ≠ x.mb)) } }
      if !(s.sched.launches.any (fun y => sameItem x y && decide (y.state ≠ 2))) then
        let s := s.dropPins (fun p => decide (p.ctx = x.ctx ∧ p.mb = x.mb))
        let s := match s.sched.refs.find? (fun r => decide (r.1 = x.ctx) && decide (r.2.1 = x.mb)) with
          | none => s
          | some r =>
            ({ s with sched := { s.sched with refs := s.sched.refs.filter (fun q => decide (q ≠ r)) } }).dropWset
              x.ctx r.2.2
        ({ s with
           sched := { s.sched with
             launches := s.sched.launches.filter (fun y => !(sameItem x y)) } }).takeWork x.ctx
      else s

/-- An instance has ended on Stage `n` (R112): the Stage is free; its Tally contributions go to its launch. -/
def State.instDone (s : State) (n : Nat) : State :=
  let t := s.stage n
  match t.inst with
  | none => s
  | some i =>
    let s := s.freeStage n .run
    match s.launch? i.launch with
    | none => s
    | some x =>
      let x := { x with
        stages := x.stages.filter (fun k => decide (k ≠ n))
        left := x.left - 1
        tally := x.tally.add t.tally
        tags := (t.tags ++ x.tags).eraseDups }
      let s := s.modLaunch i.launch (fun _ => x)
      if x.left = 0 then s.launchDone x else s

end Sys2Proof.Machine
end

