-- ==== Sys2Proof/Machine/PbkOps.lean ====
section
/-! DEFINITION. Shared operations of Prompt Book: FAULT and the Gong, reports of failures, proposing a Call, where a tensor's
copies lie, requests for state, double faults and falling back to a save (09, 10, R502). -/

namespace Sys2Proof.Machine

/-- The device drives every active port with a Gong (R365, R502). -/
def State.gong (s : State) (cause dev ver : Nat) (but : Nat) : State :=
  (List.range 24).foldl (fun s n => if n = but then s else s.sendCtl n (recGong cause dev ver)) s

/-- The Roster version in force, 0 with none. -/
def State.rosterVersion (s : State) : Nat := match s.link.roster with
  | some r => r.version
  | none => 0

/-- Every Stage stopped: kernels end, their launches go back to waiting (R502). -/
def State.stopStages (s : State) : State :=
  (s.sched.launches.filter (fun (x : Launch) => decide (x.state = 1))).foldl (fun s x => s.endLaunch x.id) s

/-- The device enters FAULT (R501-R503). -/
def State.enterFault (s : State) (cause : Nat) : State :=
  if s.plat.dev = .off ∨ s.plat.dev = .fault then s
  else
    let s := s.stopStages
    let s := { s with plat := { s.plat with dev := .fault, faultCause := cause, faultN := true } }
    (s.post 0x0080 3 none [w64 cause]).gong cause s.link.me s.rosterVersion 24

/-- The device that coordinates Calls (R373): the lowest-numbered one that this device does not know as confirmed failed, `but` left out. -/
def State.coordBut (s : State) (but : List Nat) : Option Nat :=
  match s.link.roster with
  | none => none
  | some r => r.nums.find? (fun d => !s.pbk.failed.contains d && !s.pbk.confirmed.any (fun c => decide (c.1 = d)) && !but.contains d)

def State.coord (s : State) : Option Nat := s.coordBut []

/-- The partner device of a port, by the identity that training found (R338, R394). -/
def State.partnerDev (s : State) (n : Nat) : Option Nat :=
  match s.link.roster with
  | none => none
  | some r =>
    (r.devs.find? (fun e => decide (e.ident = (s.port n).partner ∧ e.ident ≠ 0))).map (fun (e : DevEntry) => e.number)

/-- A heartbeat from a device came within the last 20 µs (R423). -/
def State.alive (s : State) (dev : Nat) : Bool :=
  (List.range 24).any (fun n => decide (s.partnerDev n = some dev) && (match (s.port n).beat with
    | some t => decide ((s.now - t).toNat ≤ 20000)
    | none => false))

def State.modPbk (s : State) (f : PbkSt → PbkSt) : State := { s with pbk := f s.pbk }
def State.modLink (s : State) (f : LinkSt → LinkSt) : State := { s with link := f s.link }
def State.modSched (s : State) (f : SchedSt → SchedSt) : State := { s with sched := f s.sched }
def State.modPlat (s : State) (f : PlatSt → PlatSt) : State := { s with plat := f s.plat }
def State.modBooth (s : State) (f : BoothSt → BoothSt) : State := { s with booth := f s.booth }

/-- A RESIL packet (R416). -/
def State.resil (s : State) (dst kind : Nat) (aux64 : W64) (data : List Byte) : State :=
  s.inject dst 3 0x07 0 kind aux64 data none .other

/-- A failure is confirmed at the coordinator (R423): RECAST_START begins its Recast. -/
def State.confirm (s : State) (dev cause : Nat) : State :=
  s.modPbk (fun p =>
    { p with
      queries := p.queries.filter (fun q => decide (q.dev ≠ dev))
      confirmed := if p.confirmed.any (fun c => decide (c.1 = dev)) then p.confirmed else p.confirmed ++ [(dev, cause)] })

/-- A suspect reaches the coordinator (R423): a Gong or a shard declaration is confirmed at once, any other report opens a
query of the suspect's neighbours, this device among them. -/
def State.suspectAt (s : State) (dev cause : Nat) : State :=
  match s.link.roster with
  | none => s
  | some r =>
    if (r.entry dev).isNone || s.pbk.failed.contains dev || s.pbk.confirmed.any (fun c => decide (c.1 = dev)) then s
    else if cause = 2 ∨ cause = 3 then s.confirm dev cause
    else if s.pbk.queries.any (fun q => decide (q.dev = dev)) then s
    else
      let asked := r.neighbours dev
      let own := if asked.contains s.link.me then [(s.link.me, s.alive dev)] else []
      let s := s.modPbk (fun p => { p with queries := p.queries ++ [⟨dev, cause, asked, own⟩] })
      (asked.filter (fun d => decide (d ≠ s.link.me))).foldl (fun s d => s.resil d 0x0A (w64 dev) []) s

/-- Failure detection (R422): the suspect is reported to the coordinator, or to the next in order when it is the coordinator.
Causes: 0 heartbeat, 1 unreachable, 2 Gong, 3 shard declaration (R454). -/
def State.reportSuspect (s : State) (dev cause : Nat) : State :=
  match s.link.roster with
  | none => s
  | some r =>
    if dev = s.link.me ∨ (r.entry dev).isNone = true ∨ s.pbk.failed.contains dev = true then s
    else
      match s.coordBut [dev] with
      | none => s
      | some c => if c = s.link.me then s.suspectAt dev cause else s.resil c 0x09 (w64 dev) [BitVec.ofNat 8 cause]

/-- Destinations the link found unreachable are reported (R353, R354). -/
def State.reportUnreachable (s : State) : State :=
  let l := s.link.unreachable
  l.foldl (fun s d => s.reportSuspect d 1) (s.modLink (fun k => { k with unreachable := [] }))

/-- The class of a state tensor (R397); in a parity group of fewer than 3 members the parity class is protected as mirrored
(R403). -/
def State.classIn (s : State) (r : Roster) (dev tensor : Nat) : Nat :=
  let c := mget 0 s.pbk.classes tensor
  match r.entry dev with
  | none => c
  | some e => if c = 3 ∧ e.psize < 3 then 2 else c
def State.classOf (s : State) (dev tensor : Nat) : Nat :=
  match s.link.roster with
  | none => mget 0 s.pbk.classes tensor
  | some r => s.classIn r dev tensor

/-- The holders that can give a copy of a tensor of a device's rank, besides the device (R398, R428). -/
def State.sources (s : State) (r : Roster) (dev tensor : Nat) : List Nat :=
  match r.entry dev with
  | none => []
  | some e =>
    let c := s.classIn r dev tensor
    let l := if c = 2 then [e.mirror] else if c = 1 then [e.replA, e.replB] else if c = 3 then
        ((groupOf r.devs e.pgroup).map (fun (x : DevEntry) => x.number)).filter (fun n => decide (n ≠ dev))
      else []
    l.filter (fun d => decide (d ≠ noDev ∧ d ≠ dev) && !s.pbk.failed.contains d)

/-- A shadow working copy is named by its tensor's identity with bit 24 set (log entry 16). -/
abbrev shadowBit : Nat := 2 ^ 24

/-- A STATE_REQ sent (R416; layout log entry 16): AUX64 names the tensor in [63:40], the offset in 256-byte lines in [39:8] and one less than the
length's lines in [7:0]; the payload the virtual rank, 1 for a shadow copy, and the device the answer is for. -/
def State.sendStateReq (s : State) (dst : Nat) (q : StReq) : State :=
  s.resil dst 0x01 (w64 (q.tensor % shadowBit * 2 ^ 40 + q.off / 256 * 2 ^ 8 + (cdiv q.len 256 - 1)))
    (leBytes 4 q.vr ++ leBytes 1 (q.tensor / shadowBit) ++ leBytes 2 s.link.me)

/-- A request for state sent and remembered, in runs of at most 64 KiB (R416, R419, R428). -/
def State.askState (s : State) (vr tensor off len src : Nat) : State :=
  (List.range (cdiv len 65536)).foldl (fun s k =>
    let q : StReq := ⟨vr, tensor, off + 65536 * k, Nat.min 65536 (len - 65536 * k), src, 1⟩
    (s.modPbk (fun p => { p with reqs := p.reqs ++ [q] })).sendStateReq src q) s

/-- Bytes of an instance of a lead tensor (R264). -/
def State.tensorBytes (s : State) (tensor : Nat) : Nat :=
  match s.leadCtx with
  | none => 0
  | some c => ((c.decl (tensor % shadowBit)).map (fun (d : TensorDecl) => c.instBytes d)).getD 0

/-- What restoring a lost item comes to (R137): it needs no copy, a request for one is out, or none exists. -/
inductive Restore where
  | rebuilt (s : State)
  | asked (s : State)
  | none

/-- The restoring of lead data of rank `vr` that the replay of a micro-batch `mb` needs (R137), whole: data that is no state tensor is
rebuilt by the replay; a state tensor is requested from a holder; each once for one item. -/
def State.restoreItem (s : State) (vr mb tensor off len : Nat) : Restore :=
  if s.pbk.replays.contains (vr, mb, tensor, off) then .none
  else
    let s := s.modPbk (fun p => { p with replays := p.replays ++ [(vr, mb, tensor, off)] })
    if mget 0 s.pbk.classes tensor = 0 then .rebuilt s
    else
      match s.link.roster with
      | none => .none
      | some r =>
        match s.sources r (r.hostOf vr) tensor with
        | [] => .none
        | d :: _ =>
          let lo := off / 256 * 256
          let hi := Nat.min (cdiv (off + len) 256 * 256) (s.tensorBytes tensor)
          .asked (s.askState vr tensor lo (hi - lo) d)

/-- A Call message to a device (R374): kind in AUX16, ballot in AUX64 (log entry 16). -/
def State.sendCall (s : State) (dst kind ballot : Nat) (m : Msg) : State :=
  s.inject dst 4 0x12 0 kind (w64 ballot) [] (some m) .other

/-- LNK_CALL (R392). -/
def State.setCall (s : State) (ballot phase : Nat) (recast : Bool) : State :=
  ((s.setFld .lnkCall 0 31 0 ballot).setFld .lnkCall 0 34 32 phase).setFld .lnkCall 0 35 35 (if recast then 1 else 0)

/-- The step whose Curtain a Call proposed now takes effect at (R367, R375): for a Recast, and before the opening Curtain, the step in
progress; at a Curtain the step it opens (log entry 20). -/
def State.callStep (s : State) (recast : Bool) : Nat := if recast || !s.sched.begun then s.sched.step else s.sched.step + 1

/-- What a device checks of a proposal before it accepts (R374): the DIGEST, the limits of R371 (with its fill contexts' Ensembles, R372), that it holds loaded state for every rank given to
it, which a Recast's Call does not ask, and that every device lies within 8 hops. -/
def State.callOk (s : State) (r next : Roster) (d : Proposal) : Bool :=
  let mine := d.moves.filter (fun m => decide (m.2 = s.link.me ∧ r.hostOf m.1 ≠ s.link.me))
  decide (next.digest = d.digest) && next.limitsOk && next.reachable s.link.me
    && decide (next.ensOf (next.hostedBy s.link.me) + s.link.fillEns.length ≤ 64)
    && (d.recast || mine.all (fun m => s.pbk.handovers.any (fun h => decide (h.vr = m.1 ∧ h.tgt = s.link.me) && h.ready)))

/-- The coordinator proposes a Call (R374, R376): a higher ballot than any it answered, the delta applied to a copy of the
replica and checked there as by every other device, the proposal sent down the tree of the proposed Roster. -/
def State.propose (s : State) (r : Roster) (recast double : Bool) (moves : List (Nat × Nat)) (setDevs : List DevEntry)
    (removed : List Nat) (plans : List (Nat × Nat)) : State :=
  let ballot := s.link.ballot + 1
  let p : Proposal := ⟨r.version + 1, s.callStep recast, ballot, recast, double, moves, setDevs, removed, plans,
    if setDevs.all (fun e => (r.entry e.number).isSome) then none else some r, 0⟩
  let next := r.apply p
  let p := { p with digest := next.digest }
  let s := (s.modLink (fun k =>
    { k with ballot := ballot, call := some ⟨p, next, [], !s.callOk r next p, s.callOk r next p, true, []⟩ })).setCall ballot 1 recast
  (next.kids s.link.me).foldl (fun s d => s.sendCall d 0 ballot (.propose p)) s

/-- A save that could be fallen back to exists (R446, R447, R451). -/
def State.savedSlot (s : State) : Option Nat :=
  if s.fld .pbkSaveState 0 49 49 = 1 ∧ s.pbk.savedIn.isSome = true then some (s.fld .pbkSaveState 0 48 48) else none

/-- Every lead launch of the step dropped; kernels end (R446). -/
def State.dropLead (s : State) : State :=
  match s.leadCtx with
  | none => s
  | some c =>
    let mine := s.sched.launches.filter (fun (x : Launch) => decide (x.ctx = c.num))
    let s := (mine.filter (fun (x : Launch) => decide (x.state = 1))).foldl (fun s x => s.endLaunch x.id) s
    (s.modSched (fun q =>
      { q with
        launches := q.launches.filter (fun (x : Launch) => decide (x.ctx ≠ c.num))
        wants := [], pins := q.pins.filter (fun p => decide (p.ctx ≠ c.num)) })).modLink (fun k => { k with colls := [], hops := [] })

/-- Bytes of one rank's object and of a slot of the save region (R441): 4 KiB aligned objects after an 8 MiB manifest. -/
def State.objectBytes (s : State) : Nat := ((s.pbk.classes.map (fun (x : Nat × Nat) => s.tensorBytes x.1)).sum + 4095) / 4096 * 4096
def State.slotBytes (s : State) (vranks : Nat) : Nat := 8 * 2 ^ 20 + vranks * s.objectBytes

/-- A transfer that writes a save's bytes, and one that reads. -/
def Xfer.save (ep remote key src : Nat) (bs : List Byte) (ranges : List (Nat × Nat)) : Xfer :=
  { ep := ep, write := true, remote := remote, key := key, len := bs.length, ranges := ranges, acked := 0, src := src, seq := 0, kind := 2
    digest := [], retried := false, failed := 0, data := bs }
def Xfer.load (ep remote key len src : Nat) (seq : W32) (kind : Nat) (digest : List Byte) (ranges : List (Nat × Nat)) : Xfer :=
  { ep := ep, write := false, remote := remote, key := key, len := len, ranges := ranges, acked := 0, src := src, seq := seq, kind := kind
    digest := digest, retried := false, failed := 0, data := [] }

/-- A double fault's Call has committed (R446, R447): event and count; the objects of the hosted ranks are read from the last
complete save, or without one the lead is suspended with cause 4. -/
def State.doubleCommit (s : State) (failed : List Nat) : State :=
  let s := ((s.post 0x0041 3 none (failed.map w64)).bump .pbkDouble 0 1).setFld .pbkRecastLast 0 20 20 1
  match s.leadCtx with
  | none => s
  | some c =>
    let s := s.dropLead
    match s.savedSlot, s.pbk.savedIn with
    | some slot, some g =>
      let v := ((c.shape.map (fun (h : Shape) => h.vranks))).getD 0
      let xs := [Xfer.load g.ep (g.base + slot * s.slotBytes v) g.key (8 * 2 ^ 20) (65536 + slot) 0 3 [] []]
      (s.modPbk (fun p => { p with restoring := some slot, restored := [], reqs := [], replays := [] })).modPlat
        (fun p => { p with xfers := p.xfers ++ xs })
    | _, _ => (s.suspend c.num 4).post 0x0044 3 (some c.num) []

/-- A double fault with the given failed devices (R435, R446): alone in its job a device commits the flag by itself; otherwise
the coordinator's Call sets it, and a device that is not the coordinator tells it (log entry 16). -/
def State.doubleFault (s : State) (failed : List Nat) : State :=
  match s.link.roster with
  | none => s.doubleCommit failed
  | some r =>
    if r.devs.length ≤ 1 then s.doubleCommit failed
    else if s.coord = some s.link.me then s.propose r true true [] [] [] []
    else match s.coord with
      | some c => s.resil c 0x09 (w64 noDev) [4]
      | none => s

end Sys2Proof.Machine
end

