-- ==== Sys2Proof/Machine/Jobs.lean ====
section
/-! DEFINITION. What the Stage Manager computes at a Curtain: checking and expanding Cue Sheets, groups of micro-batches,
Stage shares, stragglers (R258-R268, R301-R306, R320-R322). -/

namespace Sys2Proof.Machine

/-- An expert's capacity in rows for one source and micro-batch (R280); CAP_FACTOR counts sixteenths (R258). -/
def Shape.capacity (h : Shape) (e : ExpertDecl) (tokens : Nat) : Nat := cdiv (h.capFactor * e.choices * tokens) (16 * e.experts)

/-- The Ensemble that role 0, 1 or 2 names for a virtual rank, formed from the job shape alone (R260, R370): data-parallel, pipeline, sequence. -/
def Shape.ensemble (h : Shape) (role v : Nat) : Option (List Nat) :=
  let d := v / (h.pp * h.sq)
  let p := v / h.sq % h.pp
  let q := v % h.sq
  match role with
  | 0 => some ((List.range h.dp).map (fun i => p * h.sq + q + i * (h.pp * h.sq)))
  | 1 => some ((List.range h.pp).map (fun i => d * h.pp * h.sq + q + i * h.sq))
  | 2 => some ((List.range h.sq).map (fun i => (d * h.pp + p) * h.sq + i))
  | _ => none

/-- A virtual rank holds the state of an expert of a block: it is the expert's home member in an Ensemble of the block's role (R279). -/
def Score.expertHome (sc : Score) (h : Shape) (v : Nat) (x : Nat × Nat) : Bool :=
  match sc.experts[x.1]? with
  | none => false
  | some e => match e.home[x.2]? with
    | none => false
    | some m => match h.ensemble e.role v with
      | some l => decide (l[m]? = some v)
      | none => sc.ensembles.any (fun y => decide (y.role = e.role ∧ y.members[m]? = some v))

/-- A Cue Sheet entry's fields (R302). -/
structure Cue where
  op : Nat
  kind : Nat
  dir : Bool
  share : Nat
  kernel : Nat
  layer : Nat
  level : Nat
  dep0 : Nat
  dep1 : Nat
  skew : Nat
  deriving DecidableEq, Repr

def cueOf (e : W64 × W64) : Cue :=
  ⟨bitsOf e.1 3 0, bitsOf e.1 6 4, decide (bitsOf e.1 7 7 = 1), bitsOf e.1 15 8, bitsOf e.1 31 16, bitsOf e.1 47 32,
    bitsOf e.1 49 48, bitsOf e.2 11 0, bitsOf e.2 23 12, bitsOf e.2 31 24⟩

/-- An entry without reserved values: fields its OP does not use are zero (R302, R303). -/
def cueFieldsOk (e : W64 × W64) : Bool :=
  let c := cueOf e
  decide (bitsOf e.1 63 50 = 0 ∧ bitsOf e.2 63 32 = 0 ∧ c.op < 4) &&
    (if c.op = 0 then decide (c.kind < 5 ∧ 0 < c.share ∧ c.level = 0)
     else decide (e.1.toNat = c.op + (if c.op = 1 then c.level else 0) * 2 ^ 48 ∧ e.2 = 0 ∧ c.level < 2))

/-- A dependency distance names an earlier RUN entry (R303). -/
def depOk (cs : List Cue) (i d : Nat) : Bool :=
  d = 0 || (decide (d ≤ i) && (match cs[i - d]? with
    | some c => decide (c.op = 0)
    | none => false))

/-- The loops' structure (R303): `open'` the OVER values of the loops open, innermost first. -/
def loopsOk : List Nat → List Cue → Bool
  | open', [] => open'.isEmpty
  | open', c :: t =>
    if c.op = 1 then decide (open'.length < 2) && !(decide (c.level = 0) && open'.contains 1) && loopsOk (c.level :: open') t
    else if c.op = 2 then (match open' with
      | [] => false
      | _ :: o => loopsOk o t)
    else if c.op = 3 then t.isEmpty && open'.isEmpty
    else (decide (c.skew = 0) || !open'.isEmpty) && loopsOk open' t

/-- A Cue Sheet without a fault of R303. -/
def sheetOk (sc : Score) (sh : Sheet) : Bool :=
  let cs := sh.map cueOf
  decide (2 ≤ sh.length ∧ sh.length ≤ 4096) && sh.all cueFieldsOk && loopsOk [] cs
    && cs.zipIdx.all (fun x => decide (x.1.op ≠ 0) ||
      (depOk cs x.2 x.1.dep0 && depOk cs x.2 x.1.dep1
        && decide (x.1.kernel < (if x.1.kind = 4 then sc.colls.length else sc.kernels.length))))

/-- What a launch serves (R268, R304): a virtual rank and micro-batch, or a group of instances. -/
structure Item where
  vr : Nat
  mb : Nat
  grp : Option Nat
  insts : List (Nat × Nat)
  deriving DecidableEq, Repr

/-- Coordinates of a virtual rank (R260). -/
def Shape.pOf (h : Shape) (v : Nat) : Nat := v / h.sq % h.pp
def Shape.qOf (h : Shape) (v : Nat) : Nat := v % h.sq

/-- The instances of a list of virtual ranks at pipeline stage `p`: ascending rank, then micro-batch (R268, R304). -/
def Shape.instances (h : Shape) (vs : List Nat) (p : Nat) : List (Nat × Nat) :=
  (vs.filter (fun v => decide (h.pOf v = p))).flatMap (fun v => (List.range h.mb).map (fun m => (v, m)))

/-- A list cut into runs of `g`. -/
def cut {α : Type} (g : Nat) : Nat → List α → List (List α)
  | 0, _ => []
  | _, [] => []
  | k + 1, l => l.take g :: cut g k (l.drop g)

/-- The groups of a sheet's items: ascending group index, then q (R268, R304); `g` the group size of each q. -/
def Shape.groups (h : Shape) (vs : List Nat) (p : Nat) (g : Nat → Nat) : List Item :=
  let per := (List.range h.sq).map (fun q =>
    let l := (h.instances vs p).filter (fun x => decide (h.qOf x.1 = q))
    (cut (Nat.max 1 (g q)) l.length l).zipIdx.map (fun x =>
      (⟨p * h.sq + q, 0, some (x.2 * h.sq + q), x.1⟩ : Item)))
  let most := (per.map List.length).foldl Nat.max 0
  (List.range most).flatMap (fun j => per.filterMap (fun l => l[j]?))

def instItem (x : Nat × Nat) : Item := ⟨x.1, x.2, none, [x]⟩

/-- A launch of the expansion before its dependencies are found: entry, innermost loop, turn of the outer loop, item. -/
structure Cued where
  entry : Nat
  loop : Option Nat
  turn : Nat
  item : Item
  deriving DecidableEq, Repr

/-- Indices directly in a loop body, from `i` on, and the index after its NEXT; inner loops are skipped over. -/
def bodyOf (cs : List Cue) : Nat → Nat → Nat → List Nat
  | 0, _, _ => []
  | k + 1, depth, i =>
    match cs[i]? with
    | none => []
    | some c =>
      if c.op = 2 then (if depth = 0 then [] else bodyOf cs k (depth - 1) (i + 1))
      else if c.op = 1 then (if depth = 0 then i :: bodyOf cs k 1 (i + 1) else bodyOf cs k (depth + 1) (i + 1))
      else if depth = 0 then i :: bodyOf cs k 0 (i + 1) else bodyOf cs k depth (i + 1)

/-- One loop without inner loops expanded over its items (R304). -/
def expandInner (cs : List Cue) (loop turn : Nat) (items : List Item) : List Cued :=
  let body := bodyOf cs cs.length 0 (loop + 1)
  let skewOf (e : Nat) : Nat := ((cs[e]?).map (fun (c : Cue) => c.skew)).getD 0
  let s := (body.map skewOf).foldl Nat.max 0
  (List.range (items.length + s)).flatMap (fun j => body.filterMap (fun e =>
    if j < skewOf e then none else (items[j - skewOf e]?).map (fun x => (⟨e, some loop, turn, x⟩ : Cued))))

/-- An outermost loop expanded, its inner loops over their own items (R304). -/
def expandOuter (cs : List Cue) (loop : Nat) (groups insts : List Item) : List Cued :=
  let body := bodyOf cs cs.length 0 (loop + 1)
  let c? (e : Nat) : Option Cue := cs[e]?
  let skewOf (e : Nat) : Nat := ((c? e).map (fun (c : Cue) => c.skew)).getD 0
  let isLoop (e : Nat) : Bool := decide ((c? e).map (fun (c : Cue) => c.op) = some 1)
  let items := if (c? loop).map (fun (c : Cue) => c.level) = some 0 then groups else insts
  let s := ((body.filter (fun e => !isLoop e)).map skewOf).foldl Nat.max 0
  (List.range (items.length + s)).flatMap (fun j => body.flatMap (fun e =>
    if isLoop e then
      match items[j]? with
      | none => []
      | some x => expandInner cs e j (if x.grp.isSome then x.insts.map instItem else insts)
    else if j < skewOf e then []
    else match items[j - skewOf e]? with
      | none => []
      | some x => [(⟨e, some loop, 0, x⟩ : Cued)]))

/-- A sheet expanded into its launch sequence (R304). A RUN outside every loop serves no single item (log entry 18). -/
def expandSheet (cs : List Cue) (alone : Item) (groups insts : List Item) : List Cued :=
  let top := bodyOf cs cs.length 0 0
  top.flatMap (fun e =>
    match cs[e]? with
    | none => []
    | some c => if c.op = 0 then [⟨e, none, 0, alone⟩] else if c.op = 1 then expandOuter cs e groups insts else [])

/-- What a launch waits on through a distance (R305): within its body the same entry's launch for the same item, elsewhere
the entry's most recent launch. Positions in the sequence. -/
def depOf (seq : List Cued) (i : Nat) (x : Cued) (d : Nat) : List Nat :=
  if d = 0 then []
  else
    let e := x.entry - d
    let loopOf := (seq.find? (fun y => decide (y.entry = e))).map (fun (y : Cued) => y.loop)
    let hit := if loopOf = some x.loop ∧ x.loop.isSome = true then
        seq.zipIdx.find? (fun y => decide (y.1.entry = e ∧ y.1.turn = x.turn ∧ y.1.item = x.item))
      else ((seq.take i).zipIdx.filter (fun y => decide (y.1.entry = e))).getLast?
    match hit with
    | some y => [y.2]
    | none => []

/-- The launches of an expanded sheet (R304-R306). -/
def mkLaunches (c p first : Nat) (cs : List Cue) (noTally : Bool) (seq : List Cued) : List Launch :=
  seq.zipIdx.filterMap (fun x =>
    match cs[x.1.entry]? with
    | none => none
    | some q =>
      some {
        id := first + x.2, ctx := c, sheet := p, entry := x.1.entry, kind := q.kind, backward := q.dir
        kernel := q.kernel, layer := q.layer, vrank := x.1.item.vr, mb := x.1.item.mb, group := x.1.item.grp
        deps := (depOf seq x.2 x.1 q.dep0 ++ depOf seq x.2 x.1 q.dep1).map (fun j => first + j)
        cap := q.share, state := 0, stages := [], left := 0, serves := x.1.item.insts.length, insts := x.1.item.insts
        fetched := false, started := 0, preempts := 0, noTally := noTally
        tally := tallyEmpty, tallied := false, tags := [] })

/-- The Stages of an equal share, remainder to the lowest p, each at least its least (R320). -/
def equalShares (a : Nat) (mins : List (Nat × Nat)) : List (Nat × Nat) :=
  let n := mins.length
  let base := mins.zipIdx.map (fun x => (x.1.1, Nat.max x.1.2 (a / n + (if x.2 < a % n then 1 else 0))))
  -- too many only where a least exceeds an equal part: the excess comes off the largest shares
  (List.range ((base.map (fun (x : Nat × Nat) => x.2)).sum - a)).foldl (fun l _ =>
    let m := (l.map (fun (x : Nat × Nat) => x.2)).foldl Nat.max 0
    match (l.filter (fun x => decide (x.2 = m))).getLast? with
    | none => l
    | some y => l.map (fun x => if x = y then (x.1, x.2 - 1) else x)) base

/-- Targets of R320: floor(a × busy / sum), at least the least; remaining Stages to the largest fractional parts. -/
def targetShares (a : Nat) (mins busy : List (Nat × Nat)) : List (Nat × Nat) :=
  let b (p : Nat) : Nat := mget 0 busy p
  let tot := Nat.max 1 ((mins.map (fun (x : Nat × Nat) => b x.1)).sum)
  let t0 := mins.map (fun x => (x.1, Nat.max x.2 (a * b x.1 / tot)))
  let left := a - (t0.map (fun (x : Nat × Nat) => x.2)).sum
  let fr := t0.map (fun x => (x.1, tot - a * b x.1 % tot))
  let rec pick : Nat → List (Nat × Nat) → List Nat
    | 0, _ => []
    | k + 1, l => match leastOf l with
      | none => []
      | some y => y.1 :: pick k (l.erase y)
  let extra := pick left fr
  t0.map (fun x => (x.1, x.2 + (extra.filter (fun p => decide (p = x.1))).length))

/-- Stages moved one at a time from the largest excess to the largest deficit, at most `k` (R320). -/
def moveShares (target : List (Nat × Nat)) : Nat → List (Nat × Nat) → List (Nat × Nat)
  | 0, l => l
  | k + 1, l =>
    let exc := l.filterMap (fun x => let t := mget 0 target x.1; if t < x.2 then some (x.1, 65536 - (x.2 - t)) else none)
    let dfc := l.filterMap (fun x => let t := mget 0 target x.1; if x.2 < t then some (x.1, 65536 - (t - x.2)) else none)
    match leastOf exc, leastOf dfc with
    | some e, some d =>
      moveShares target k (l.map (fun x => if x.1 = e.1 then (x.1, x.2 - 1) else if x.1 = d.1 then (x.1, x.2 + 1) else x))
    | _, _ => l

/-- Which Stages carry out shares of the given sizes: those a sheet has, as far as they go, then free ones (R295). -/
def placeShares (avail : List Nat) (old : List (Nat × List Nat)) (size : List (Nat × Nat)) : List (Nat × List Nat) :=
  let keep := size.map (fun x => (x.1, ((((old.find? (fun o => decide (o.1 = x.1))).map (fun (o : Nat × List Nat) => o.2)).getD
    []).filter (fun n => avail.contains n)).take x.2))
  let free := avail.filter (fun n => !keep.any (fun k => k.2.contains n))
  (keep.zip size).foldl (fun (acc : List (Nat × List Nat) × List Nat) x =>
    let need := x.2.2 - x.1.2.length
    (acc.1 ++ [(x.1.1, x.1.2 ++ acc.2.take need)], acc.2.drop need)) ([], free) |>.1

/-- The smallest group size that hides every gather (R268): `ms` holds (gather ns, compute ns per instance) by layer and
direction; without a measurement the largest. -/
def groupSize (n gmax : Nat) (measured : Bool) (ms : List (Nat × Nat)) : Nat :=
  if !measured then gmax
  else ((List.range gmax).map (fun k => k + 1)).find? (fun g => ms.all (fun m => decide (cdiv n g * m.1 ≤ n * m.2))) |>.getD gmax

/-- The median of a list of figures: of an even count, the lower middle one (log entry 18). -/
def insNat (x : Nat) : List Nat → List Nat
  | [] => [x]
  | y :: t => if x ≤ y then x :: y :: t else y :: insNat x t
def medianOf (l : List Nat) : Nat := let s := l.foldl (fun a x => insNat x a) []; s.getD ((s.length - 1) / 2) 0

/-- The straggler plan (R322): devices with (u, h), stragglers taken by descending u, ties to the lower number. Each move is
(source, target). -/
def stragPlan (max' : Nat) (uh : List (Nat × Nat × Nat)) (strag : Nat → Bool) : Nat → List Nat → List (Nat × Nat) →
    List (Nat × Nat)
  | 0, _, done => done
  | k + 1, seen, done =>
    let cand := (uh.filter (fun x => strag x.1 && !seen.contains x.1)).map (fun x => (x.1, 2 ^ 64 - x.2.1))
    if max' ≤ done.length then done
    else match leastOf cand with
      | none => done
      | some c =>
        let me := uh.find? (fun x => decide (x.1 = c.1))
        let u := (me.map (fun (x : Nat × Nat × Nat) => x.2.1)).getD 0
        let h := (me.map (fun (x : Nat × Nat × Nat) => x.2.2)).getD 0
        let tg := (uh.filter (fun x => !strag x.1 && !done.any (fun d => decide (d.2 = x.1)))).map
          (fun (x : Nat × Nat × Nat) => (x.1, x.2.1 * (x.2.2 + 1)))
        match leastOf tg with
        | some t => if 2 ≤ h ∧ t.2 < u * h then stragPlan max' uh strag k (c.1 :: seen) (done ++ [(c.1, t.1)])
          else stragPlan max' uh strag k (c.1 :: seen) done
        | none => stragPlan max' uh strag k (c.1 :: seen) done

end Sys2Proof.Machine
end

