-- ==== Sys2Proof/Machine/Protect.lean ====
section
/-! DEFINITION. Protection of lead state: reading tensors, parity sequences and deltas, replicas, the conditions of
arriving at a Curtain (R397-R412). Packet layouts are log entry 16. -/

namespace Sys2Proof.Machine

/-- A byte of device memory as it stands, cache included, with no effect of reading it. -/
def State.peek1 (s : State) (a : Nat) : Byte :=
  match s.place a with
  | .stack =>
    match s.mem.lines.find? (fun l => decide (l.line = a / 256)) with
    | some l => if l.valid.getLsbD (a / 64 % 4) then mget 0 l.data (a % 256) else mget 0 s.mem.stack (s.stackKey a)
    | none => mget 0 s.mem.stack (s.stackKey a)
  | .scratch o => mget 0 s.mem.scratch o
  | .apron n off => mget 0 (s.stage n).ap.bytes off
  | .unmapped => 0

def State.peek (s : State) (a len : Nat) : List Byte := (List.range len).map (fun j => s.peek1 (a + j))

/-- Where a tensor instance's bytes lie, or those of its shadow. -/
def Ctx.stateRuns (c : Ctx) (vr tensor off len : Nat) : Option (List (Nat × Nat)) :=
  if shadowBit ≤ tensor then c.resolveW vr (tensor - shadowBit) off len else c.resolve vr tensor off len

/-- Bytes of a lead tensor instance as they stand, with no effect of reading them: what a delta's exclusive or is formed from as a line is
written (R409), and whether an instance lies here at all. -/
def State.peekTensor (s : State) (vr tensor off len : Nat) : Option (List Byte) :=
  match s.leadCtx with
  | none => none
  | some c => match c.stateRuns vr tensor off len with
    | none => none
    | some ps => some (ps.flatMap (fun (p : Nat × Nat) => s.peek p.1 p.2))

/-- Bytes of a lead tensor instance read through the home slices (R206), errors corrected and counted on the way (R229, R248, R257); none
where it does not lie here, or where some of it is poisoned, since no consumer computes with poison (R232; log entry 27). -/
def State.fetchTensor (s : State) (vr tensor off len : Nat) : Option (List Byte) × State :=
  match s.leadCtx.bind (fun c => c.stateRuns vr tensor off len) with
  | none => (none, s)
  | some ps =>
    match forceReads (ps.flatMap (fun (p : Nat × Nat) => piecesOf p.1 p.2)) s with
    | (bs, bad, s) => (if bad.isEmpty then some bs else none, s)

/-- The same read for a background task that the system regulator is charged for (R224). -/
def State.fetchSys (s : State) (vr tensor off len : Nat) : Option (List Byte) × State :=
  match ({ s with mem := { s.mem with sys := true } } : State).fetchTensor vr tensor off len with
  | (r, t) => (r, { t with mem := { t.mem with sys := s.mem.sys } })

/-- Bytes that Prompt Book keeps for itself written to or read from stack memory (R257, R414); which stack holds them is a free value (log entry
12). -/
def State.ownTraffic (s : State) (write : Bool) (n : Nat) : State :=
  match s.free with
  | (k, s) => s.bump (if write then .hbmWrBytes else .hbmRdBytes) (k.toNat % Config.stackCount) n

/-- A payload's or row's packet kept in stack memory until the Curtain (R414). -/
def State.keep (s : State) (p : Pkt) : State :=
  (s.modPbk (fun x => { x with kept := x.kept ++ [p] })).ownTraffic true p.data.length

/-- Bytes put into a lead tensor instance; a place that cannot take them leaves the state. -/
def State.pokeTensor (s : State) (vr tensor off : Nat) (bs : List Byte) : State :=
  match s.leadCtx with
  | none => s
  | some c => match c.stateRuns vr tensor off bs.length with
    | none => s
    | some ps => match writeParts 4 ps bs s with
      | .inl s => s
      | .inr _ => s

/-- State tensors of a class on a device, in ascending identity (R408). -/
def State.tensorsIn (s : State) (r : Roster) (dev cls : Nat) : List Nat :=
  (s.pbk.classes.map (fun (x : Nat × Nat) => x.1)).filter (fun t => decide (s.classIn r dev t = cls))
def State.tensorsOf (s : State) (dev cls : Nat) : List Nat := match s.link.roster with
  | some r => s.tensorsIn r dev cls
  | none => []

/-- The virtual ranks a device hosts, and those this one does. -/
def State.hostedOn (s : State) (dev : Nat) : List Nat := match s.link.roster with
  | some r => r.hostedBy dev
  | none => []
def State.hosted (s : State) : List Nat := s.hostedOn s.link.me

/-- The tensor runs of a device's parity data sequence under a Roster, in order (R408): rank, tensor, bytes. -/
def State.parRunsIn (s : State) (r : Roster) (dev : Nat) : List (Nat × Nat × Nat) :=
  (r.hostedBy dev).flatMap (fun v => (s.tensorsIn r dev 3).map (fun t => (v, t, s.tensorBytes t)))
def State.parRuns (s : State) : List (Nat × Nat × Nat) := match s.link.roster with
  | some r => s.parRunsIn r s.link.me
  | none => []

/-- Where a tensor byte lies in a sequence of runs. -/
def seqPos (vr tensor off : Nat) : Nat → List (Nat × Nat × Nat) → Option Nat
  | _, [] => none
  | a, x :: t => if x.1 = vr ∧ x.2.1 = tensor then (if off < x.2.2 then some (a + off) else none)
      else seqPos vr tensor off (a + x.2.2) t

/-- What a working copy is read as when it counts for the next Curtain: its shadow, which a Curtain leaves equal to the current copy
(log entry 20). -/
def State.nextName (s : State) (tensor : Nat) : Nat :=
  match s.leadCtx.bind (fun c => c.decl tensor) with
  | some d => if d.working then tensor + shadowBit else tensor
  | none => tensor

/-- The data sequence (R408) as it will stand at the next Curtain. -/
def State.parSeq (s : State) : List Byte :=
  s.parRuns.flatMap (fun x => (s.peekTensor x.1 (s.nextName x.2.1) 0 x.2.2).getD (List.replicate x.2.2 0))

/-- Bytes put into a tensor instance and, for a working copy, into its shadow as well. -/
def State.pokeBoth (s : State) (vr tensor off : Nat) (bs : List Byte) : State :=
  let s' := s.pokeTensor vr tensor off bs
  if s.nextName tensor = tensor then s' else s'.pokeTensor vr (s.nextName tensor) off bs

/-- Where a unit's parity lies in a group of n (R408): the holder's position and block. -/
def parityPlace (n j i : Nat) : Nat × Nat := ((j + 1 + i % (n - 1)) % n, i / (n - 1))

/-- The bitwise exclusive or of two byte runs. -/
def xorBytes : List Byte → List Byte → List Byte
  | a :: x, b :: y => (a ^^^ b) :: xorBytes x y
  | _, _ => []

/-- This device's entry with its parity group in order, where it has a group of at least 3 (R403). -/
def State.groupIn (s : State) (r : Roster) : Option (DevEntry × List Nat) :=
  match r.entry s.link.me with
  | none => none
  | some e => if e.psize < 3 then none else some (e, (groupOf r.devs e.pgroup).map (fun (x : DevEntry) => x.number))
def State.myGroup (s : State) : Option (DevEntry × List Nat) := s.link.roster.bind s.groupIn

/-- The Roster under which the Curtain version of the parity is laid out. -/
def State.parityRoster (s : State) : Option Roster := match s.pbk.parRoster with
  | some r => some r
  | none => s.link.roster

/-- The parts of this device's tensor instances that a run of its sequence takes in (R408): rank, tensor, offset, length. -/
def seqParts : Nat → Nat → List (Nat × Nat × Nat) → List (Nat × Nat × Nat × Nat)
  | _, _, [] => []
  | a, len, x :: t =>
    if len = 0 then []
    else if x.2.2 ≤ a then seqParts (a - x.2.2) len t
    else
      let n := Nat.min len (x.2.2 - a)
      (x.1, x.2.1, a, n) :: seqParts 0 (len - n) t

/-- A run of this device's sequence as it stands, read through the home slices as every other read (R206, R232, R248, R250, R257); none where some
of it is poisoned. -/
def State.fetchSeq (s : State) (a len : Nat) : Option (List Byte) × State :=
  match (seqParts a len s.parRuns).foldl (fun (acc : Option (List Byte) × State) x =>
    match acc.2.fetchTensor x.1 (acc.2.nextName x.2.1) x.2.2.1 x.2.2.2 with
    | (some bs, t) => (acc.1.map (fun l => l ++ bs), t)
    | (none, t) => (none, t)) (some [], s) with
  | (r, t) => (r.map (fun l => l ++ List.replicate (len - l.length) 0), t)

/-- The end of what a map holds. -/
def mapEnd (m : SMap Byte) : Nat := (m.getLast?.map (fun (x : Nat × Byte) => x.1 + 1)).getD 0

/-- Deltas of the changed lines go to their parity holders (R409): none for a line whose exclusive or is zero, nor for one that is poisoned; lines
that the sequence has lost count as zero (R408). `both`: what the group must take up for a Curtain that has opened, into both versions of its
parity (R408, R433). The layout, with the version of the group's layout and the step, is log entry 16. -/
def State.sendDeltas (s : State) (both : Bool := false) : State :=
  match s.myGroup with
  | none => s
  | some (e, ms) =>
    let seq := s.parSeq
    (List.range (cdiv (Nat.max seq.length (mapEnd s.pbk.parSent)) 256)).foldl (fun s k =>
      let new := (seq.drop (256 * k)).take 256
      let new := new ++ List.replicate (256 - new.length) 0
      let old := mgetRun 0 s.pbk.parSent (256 * k) 256
      if new = old then s
      else
        match s.fetchSeq (256 * k) 256 with
        | (none, s) => s
        | (some new, s) =>
          let h := parityPlace ms.length e.ppos (k / 256)
          let s := (s.modPbk (fun p => { p with parSent := msetRun 0 p.parSent (256 * k) new })).bump .pbkDeltaBytes 0 256
          s.resil (ms.getD h.1 0) (0x04 + if both then 256 else 0) (w64 (256 * k))
            (leBytes 8 s.pbk.parSince ++ leBytes 8 s.sched.step ++ xorBytes old new)) s

/-- A replicated tensor's contents as the step leaves them, of a working copy its shadow, go to both replica partners (R412), in pieces of 4,000
bytes. -/
def State.sendReplicas (s : State) : State :=
  match s.link.roster with
  | none => s
  | some r =>
    match r.entry s.link.me with
    | none => s
    | some e =>
      let ps := [e.replA, e.replB].filter (fun d => decide (d ≠ noDev))
      (s.hosted.flatMap (fun v => (s.tensorsOf s.link.me 1).map (fun t => (v, t)))).foldl (fun s x =>
        let n := s.tensorBytes x.2
        (List.range (cdiv n 4000)).foldl (fun s k =>
          let len := Nat.min 4000 (n - 4000 * k)
          match s.fetchTensor x.1 (s.nextName x.2) (4000 * k) len with
          | (none, s) => s
          | (some bs, s) => ps.foldl (fun s d => s.resil d 0x06 (w64 x.2)
              (leBytes 4 x.1 ++ leBytes 4 x.2 ++ leBytes 8 (4000 * k) ++ bs)) s) s) s

/-- The device that hosts a virtual rank; without a Roster this one. -/
def State.hostOfRank (s : State) (v : Nat) : Nat := match s.link.roster with
  | some r => r.hostOf v
  | none => s.link.me

/-- The mirror of this device, where it has one. -/
def State.mirror (s : State) : Option Nat :=
  match s.link.roster with
  | none => none
  | some r => match r.entry s.link.me with
    | none => none
    | some e => if e.mirror = noDev then none else some e.mirror

/-- An entry for the input log on the mirror (R413): rank, micro-batch, tag and contents. -/
def State.logEntry (s : State) (vr mb tag : Nat) (bs : List Byte) : State :=
  match s.mirror with
  | some m => s.resil m 0x07 (w64 (vr + mb * 2 ^ 32)) (leBytes 8 s.sched.step ++ leBytes 1 tag ++ bs)
  | none => s

/-- Whether a payload's sender stands below its receiver in the pipeline: a forward one (R285). -/
def State.pipeForward (s : State) (src dst : Nat) : Bool :=
  match (s.leadCtx.bind (fun c => c.shape)) with
  | some h => decide (h.pOf src < h.pOf dst)
  | none => true

/-- The log entry of a payload (R413): sender's rank, direction, byte length. -/
def State.logPipe (s : State) (src dst mb total : Nat) : State :=
  s.logEntry dst mb 1 (leBytes 4 src ++ leBytes 1 (if s.pipeForward src dst then 0 else 1) ++ leBytes 8 total)

/-- The hosted expert that a reserved row of `len` bytes at an offset is for, or 0xFFFF in a tensor of no expert block (R281): the rows of each
source follow one another by the home's experts, a capacity each (DESIGN CHOICE, log entry 28). -/
def State.expertOf (s : State) (vr tensor off len : Nat) : Nat :=
  match s.leadCtx.bind (fun c => c.score), s.leadCtx.bind (fun c => c.shape) with
  | some sc, some h =>
    match sc.experts.zipIdx.find? (fun e => decide (e.1.rows = tensor)) with
    | none => 0xFFFF
    | some e =>
      let mine := (List.range e.1.experts).filter (fun k => Score.expertHome sc h vr (e.2, k))
      mine.getD (off / Nat.max 1 len / Nat.max 1 (h.capacity e.1 (h.tokens / Nat.max 1 h.sq)) % Nat.max 1 mine.length) 0xFFFF
  | _, _ => 0xFFFF

/-- The log entry of a dispatched row (R413): source rank, expert, a row count of 1; and what names it to a replay (R414). -/
def State.logRow (s : State) (src dst mb tensor off len : Nat) : State :=
  (s.modLink (fun k => { k with rowsTaken := if k.rowsTaken.contains (src, dst, mb) then k.rowsTaken else k.rowsTaken ++ [(src, dst, mb)] })).logEntry
    dst mb 2 (leBytes 4 src ++ leBytes 4 (s.expertOf dst tensor off len) ++ leBytes 4 1)

/-- What member `me` of a group contributes to byte `a` of the sequence of the member at position `j` (R408, R411): the byte of the
parity block it holds, or of its own unit, at the Curtain version. -/
def State.contribByte (s : State) (n j me a : Nat) : Byte :=
  let i := a / 65536
  let h := parityPlace n j i
  if me = h.1 then mget 0 s.pbk.parCur (h.2 * 65536 + a % 65536)
  else mget 0 s.pbk.parSelf (((n - 1) * h.2 + (h.1 + n - me - 1) % n) * 65536 + a % 65536)

def State.contribution (s : State) (n j me a len : Nat) : List Byte := (List.range len).map (fun k => s.contribByte n j me (a + k))

/-- What this device reads to give its contribution (R248, R250, R257, R411): its parity block, or its unit as it stands, from which its deltas of
the step are taken off again; none where the unit is poisoned. -/
def State.readContribution (s : State) (n j me a len : Nat) : Option (List Byte) × State :=
  let v := s.contribution n j me a len
  let h := parityPlace n j (a / 65536)
  if me = h.1 then (some v, s.ownTraffic false len)
  else match s.fetchSeq (((n - 1) * h.2 + (h.1 + n - me - 1) % n) * 65536 + a % 65536) len with
    | (r, s) => (r.map (fun _ => v), s)

/-- Bytes put together in rows of `len` at a stride. -/
def pickRows (len rows stride : Nat) (bs : List Byte) : List Byte := (List.range rows).flatMap (fun r => (bs.drop (r * stride)).take len)

/-- Shard bytes sent to a gatherer with their copy's stamp and their own CRC-64, in packets of at most 4,000 bytes (R127, R269; layout log
entry 16). -/
def State.sendShard (s : State) (fill : Bool) (dst stage id : Nat) (stamp : Nat × W64) (bs : List Byte) : State :=
  let c := (crc64 bs).toNat
  (List.range (cdiv bs.length 4000)).foldl (fun s k =>
    s.sendData fill dst 2 0x06 (id % 16) stage (w64 id)
      (leBytes 8 stamp.1 ++ leBytes 8 stamp.2.toNat ++ leBytes 8 c ++ leBytes 8 (4000 * k) ++ (bs.drop (4000 * k)).take 4000) .other) s

/-- Where a chain total goes, as one number: the DST word of its collective's record (R381). -/
abbrev totalKey (tensor off : Nat) : Nat := tensor * 2 ^ 40 + off

/-- Totals that a rank's shards have taken in the step on this device (R406). -/
def State.appliedOf (s : State) (vr : Nat) : List Nat :=
  (s.pbk.applied.filter (fun x => decide (x.1 = vr ∧ x.2.2 = s.sched.step))).map (fun (x : Nat × Nat × Nat) => x.2.1)

/-- The entries of the Cue Sheet of a rank's pipeline stage. -/
def State.cuesOf (s : State) (vr : Nat) : List Cue :=
  match s.leadCtx.bind (fun c => c.shape) with
  | none => []
  | some h => ((s.sched.sheets.find? (fun x => decide (x.1 = h.pOf vr))).map (fun (x : Nat × Sheet) => x.2.map cueOf)).getD []

/-- The totals that an entry waits on through its DEP fields (R277, R302). -/
def Score.waitsOf (sc : Score) (cs : List Cue) (x : Cue × Nat) : List Nat :=
  [x.1.dep0, x.1.dep1].filterMap (fun d => if d = 0 then none else match cs[x.2 - d]? with
    | some y => if y.kind = 4 then (sc.colls[y.kernel]?).map (fun (ws : List W64) => (ws.getD 2 0).toNat) else none
    | none => none)

/-- The update entries of a rank's sheet, each with the totals it waits on (R277). -/
def State.updateCues (s : State) (vr : Nat) : List ((Cue × Nat) × List Nat) :=
  match s.leadCtx.bind (fun c => c.score) with
  | none => []
  | some sc =>
    let cs := s.cuesOf vr
    (cs.zipIdx.filter (fun x => decide (x.1.op = 0 ∧ x.1.kind = 2))).map (fun x => (x, Score.waitsOf sc cs x))

/-- An update launch of a rank: it serves the rank, or with the whole sheet every rank of its stage (R304). -/
def Launch.updates (y : Launch) (vr : Nat) : Bool := decide (y.kind = 2 ∧ (y.vrank = vr ∨ y.serves = 0)) || (decide (y.kind = 2) && y.insts.any (fun i => decide (i.1 = vr)))

/-- The update of an entry has completed for a rank on this device. -/
def State.updateOver (s : State) (vr entry : Nat) : Bool :=
  s.sched.launches.any (fun y => y.updates vr && decide (y.entry = entry ∧ y.state = 2))

/-- A total's shard is protected (R397, R406): its tensor has a class, or an update of such shards waits on it. -/
def State.guarded (s : State) (vr tensor off : Nat) : Bool :=
  decide (mget 0 s.pbk.classes tensor ≠ 0) || (s.updateCues vr).any (fun u => u.2.contains (totalKey tensor off))

/-- Totals of the step that a rank's state on this device holds with every update that waits on them (R406). -/
def State.updatedOf (s : State) (vr : Nat) : List Nat :=
  (s.appliedOf vr).filter (fun k => (s.updateCues vr).all (fun u => !u.2.contains k || s.updateOver vr u.1.2))

/-- State bytes sent to a device that asked, in packets of at most 3,840 bytes (R416, R418), after the totals of the step that they hold, at most
480 a packet (layout log entry 16). -/
def State.sendState (s : State) (dst vr tensor off : Nat) (bs : List Byte) : State :=
  let ap := s.updatedOf vr
  let send (s : State) (at' : Nat) (ks : List Nat) (b : List Byte) : State :=
    s.resil dst 0x02 (w64 tensor) (leBytes 4 vr ++ leBytes 4 tensor ++ leBytes 8 at' ++ leBytes 8 (crc64 b).toNat
      ++ leBytes 2 ks.length ++ ks.flatMap (fun t => leBytes 8 t) ++ b)
  let s := (List.range (cdiv ap.length 480)).foldl (fun s k => send s off ((ap.drop (480 * k)).take 480) []) s
  (List.range (cdiv bs.length 3840)).foldl (fun s k => send s (off + 3840 * k) [] ((bs.drop (3840 * k)).take 3840)) s

/-- A rebuilt run goes to whoever asked for it (R411, R419); at home it is put in place. -/
def State.giveRebuilt (s : State) (b : Rebuild) : State :=
  match b.gather with
  | some (n, id, len, rows, stride) =>
    let bs := pickRows len rows stride b.value
    s.sendShard false b.forDev n id (s.sched.step, crc64 bs) bs
  | none => if b.forDev = s.link.me then s.pokeBoth b.vr b.tensor b.off b.value else s.sendState b.forDev b.vr b.tensor b.off b.value

/-- A run of a lost or corrupt member rebuilt (R408, R411, R419): every other member of the group is asked for its contribution.
Without a group, or for bytes outside its sequence, nothing can be rebuilt. -/
def State.startRebuild (s : State) (lost forDev vr tensor off len : Nat) (gather : Option (Nat × Nat × Nat × Nat × Nat)) : State :=
  match s.parityRoster, s.parityRoster.bind s.groupIn with
  | some r, some (e, ms) =>
    match r.entry lost, seqPos vr tensor off 0 (s.parRunsIn r lost) with
    | some x, some a =>
      if x.pgroup ≠ e.pgroup ∨ lost = s.link.me then s
      else
        let left := ms.filter (fun d => decide (d ≠ lost ∧ d ≠ s.link.me))
        match s.readContribution ms.length x.ppos e.ppos a len with
        | (none, s) => s
        | (some own, s) =>
          let b : Rebuild := ⟨s.pbk.nextRebuild, lost, forDev, vr, tensor, off, len, a, left, own, gather⟩
          let s := s.modPbk (fun p => { p with nextRebuild := p.nextRebuild + 1 })
          if left.isEmpty then s.giveRebuilt b
          else
            let s := s.modPbk (fun p => { p with rebuilds := p.rebuilds ++ [b] })
            left.foldl (fun s d => (List.range (cdiv len 4000)).foldl (fun s k =>
              s.resil d 0x05 (w64 b.id) (leBytes 2 lost ++ leBytes 8 (a + 4000 * k) ++ leBytes 8 (Nat.min 4000 (len - 4000 * k)) ++ leBytes 8 (4000 * k))) s) s
    | _, _ => s
  | _, _ => s

/-- Lead launches that are not complete. -/
def State.leadLeft (s : State) : Bool :=
  match s.leadCtx with
  | none => false
  | some c => s.sched.launches.any (fun x => decide (x.ctx = c.num ∧ x.state ≠ 2))

/-- An update of a rank's shards is under way on this device: one runs, or every total it waits on has come and it has not completed. -/
def State.updating (s : State) (vr : Nat) : Bool :=
  let ap := s.appliedOf vr
  s.sched.launches.any (fun x => x.updates vr && decide (x.state = 1))
    || (s.updateCues vr).any (fun u => !u.2.isEmpty && u.2.all ap.contains && !s.updateOver vr u.1.2)

/-- What a request for state is answered with: of a replicated tensor that this step has written a device that is not the rank's host
gets the contents before (R412; log entry 18). -/
def State.stateBytes (s : State) (dst : Nat) (q : StReq) : Option (List Byte) × State :=
  let now := s.fetchTensor q.vr q.tensor q.off q.len
  match s.pbk.replPrev.find? (fun x => decide (x.1 = q.vr ∧ x.2.1 = q.tensor % shadowBit)), s.link.roster with
  | some x, some r => if r.hostOf q.vr = dst ∧ s.pbk.newHosts.contains dst = false then now
      else (some ((x.2.2.drop q.off).take q.len), s)
  | _, _ => now

/-- A request for state answered with the bytes as they stand; while an update of the rank is under way it waits (R419, R428, R436). -/
def State.serveState (s : State) (dst : Nat) (q : StReq) : State :=
  if s.updating q.vr then s.modPbk (fun p => { p with waitReqs := p.waitReqs ++ [(dst, q)] })
  else
    match s.stateBytes dst q with
    | (some bs, s) => s.sendState dst q.vr q.tensor q.off bs
    | (none, s) => s

/-- Requests that waited for an update are looked at again. -/
def State.serveWaiting (s : State) : State :=
  let l := s.pbk.waitReqs
  l.foldl (fun s x => s.serveState x.1 x.2) (s.modPbk (fun p => { p with waitReqs := [] }))

/-- The stamp of a working copy written in the step, taken once no update of its rank is under way (R269): the step in which it will be
current and the CRC-64 of its bytes. -/
def State.stampShadows (s : State) : State :=
  match s.leadCtx with
  | none => s
  | some c =>
    (c.tensors.filter (fun t => !t.shadow.isEmpty && !(s.appliedOf t.vr).isEmpty && !s.updating t.vr)).foldl (fun s t =>
      if s.pbk.digests.any (fun d => decide (d.1 = t.vr ∧ d.2.1 = t.id ∧ d.2.2.1 = s.sched.step + 1)) then s
      else
        match s.fetchTensor t.vr (t.id + shadowBit) 0 (s.tensorBytes t.id) with
        | (some bs, s) => s.modPbk (fun p => { p with digests := p.digests ++ [(t.vr, t.id, s.sched.step + 1, crc64 bs)] })
        | (none, s) => s) s

/-- After a lead kernel completes: its deltas go out, and with the step's last kernel the replicated tensors (R409, R412). -/
def State.afterLead (s : State) : State :=
  if s.leadCtx.isNone || s.link.roster.isNone then s
  else
    let s := s.sendDeltas.serveWaiting.stampShadows
    if s.leadLeft then s else s.sendReplicas

/-- Teed totals, deltas and replicas this device sent are acknowledged (R407, R409, R412). -/
def State.protectionAcked (s : State) : Bool :=
  !s.link.tx.any (fun f => f.unacked.any (fun u => decide (u.pkt.ty = 0x07)
    && [0x03, 0x04, 0x06].contains (u.pkt.aux16 % 256)))

/-- At a Curtain the working parity becomes the Curtain's, this member's own sequence likewise, earlier replica contents, the
log records of steps before the one that opens and kept payloads go (R410-R415). -/
def State.turnProtection (s : State) (step : Nat) : State :=
  let seq := if s.myGroup.isSome then s.parSeq else []
  let r := s.link.roster
  s.modPbk (fun p =>
    { p with
      parCur := p.parWork
      parRoster := r
      parSelf := mlist 0 0 seq
      replPrev := []
      log := p.log.filter (fun x => decide (step ≤ x.step))
      kept := []
      begun := []
      replays := [] })

end Sys2Proof.Machine
end

