-- ==== Sys2Proof/Machine/Fault.lean ====
section
/-! DEFINITION. A kernel fault: what is recorded, the outcome class, and what the Stage Manager does (R89, R136-R142). -/

namespace Sys2Proof.Machine

/-- The fault causes of R136. -/
inductive Cause where
  | illegal | fetch | address | weightScale | slotClosed | slotOpen | slotShape | overcommit | descriptor | rollShape
  | poison | waitLimit | semaphore | leftOpen | tensor | version | trap | recastAbort | preempted
  deriving DecidableEq, Repr

/-- The code of R136. -/
def Cause.code : Cause → Nat
  | .illegal => 0x01 | .fetch => 0x02 | .address => 0x03 | .weightScale => 0x04 | .slotClosed => 0x05
  | .slotOpen => 0x06 | .slotShape => 0x07 | .overcommit => 0x08 | .descriptor => 0x09 | .rollShape => 0x0A
  | .poison => 0x0B | .waitLimit => 0x0C | .semaphore => 0x0D | .leftOpen => 0x0E | .tensor => 0x0F
  | .version => 0x10 | .trap => 0x11 | .recastAbort => 0x12 | .preempted => 0x13

/-- The outcome classes of R137. -/
inductive OutClass where
  | kernelError | replay | restart | report
  deriving DecidableEq, Repr

/-- The outcome of a cause in the lead or in a fill context (R136). -/
def Cause.outcome (c : Cause) (lead : Bool) : OutClass :=
  match c with
  | .poison | .version => if lead then .replay else .kernelError
  | .recastAbort => .replay
  | .preempted => .restart
  | .leftOpen => .report
  | _ => .kernelError

/-- A fault as a unit reports it: cause, the instruction it belongs to, STG_FAULT_INFO, and the tensor bytes whose loss
caused it, where it was lost data: virtual rank, tensor, offset, length (R136-R138, R142). -/
structure KFault where
  cause : Cause
  org : Origin
  info : W64
  item : Option (Nat × Nat × Nat × Nat)
  deriving DecidableEq, Repr

/-- STG_FAULT and its companions (R141, R142): the first fault is kept while VALID is set; OVERFLOW stays as it is until it is written
1 (R9). -/
def State.recordFault (s : State) (n : Nat) (i : Inst) (f : KFault) : State :=
  if s.fld .stgFault n 25 25 = 1 then s.setFld .stgFault n 26 26 1
  else
    ((s.wr .stgFault n (w64 (f.cause.code + f.org.cls * 2 ^ 8 + f.org.op * 2 ^ 12 + i.ctx * 2 ^ 20
      + (if i.lead then 2 ^ 24 else 0) + 2 ^ 25 + s.fld .stgFault n 26 26 * 2 ^ 26))).wr .stgFaultPc n (w64 (f.org.pc % 2 ^ 23))).wr .stgFaultInfo n f.info

/-- Event 0x0010 (R137, R487) with the fault registers as they stand. -/
def State.postFault (s : State) (n ctx : Nat) : State :=
  s.post 0x0010 2 (some ctx) [s.rd .stgFault n, s.rd .stgFaultPc n, s.rd .stgFaultInfo n, w64 n]

/-- The faulted Prompter shows STATE 7 until the next kernel starts on its Stage (R139). -/
def State.markFaulted (s : State) (n : Nat) : State :=
  s.modStage n (fun t => t.cleared .faulted)

/-- The key by which a replaying receiver names a payload or rows (R414; log entry 16): sender's and receiver's ranks, micro-batch. -/
def keptKey (k : Nat × Nat × Nat) : List Byte := leBytes 4 0 ++ leBytes 4 k.1 ++ leBytes 4 k.2.1 ++ leBytes 8 k.2.2

/-- Rows that this device's own ranks scattered put in their places again from what it kept (R414). -/
def State.giveRows (s : State) (k : Nat × Nat × Nat) : State :=
  match s.leadCtx with
  | none => s
  | some c =>
    (s.pbk.kept.filter (fun q => decide (q.ty = 4 ∧ q.num 4 4 = k.1 ∧ q.num 8 4 = k.2.1 ∧ q.num 12 8 = k.2.2))).foldl (fun s q =>
      match c.resolveW (c.keyOf (q.num 20 4) k.2.1 k.2.2) (q.num 20 4) (q.num 24 8) (q.data.drop 48).length with
      | some l => (s.ownTraffic false q.data.length).putRuns l (q.data.drop 48)
      | none => s) s

/-- The payloads and rows that a replaying item of the lead had taken in the step, requested again from their senders' devices (R414). -/
def State.askAgain (s : State) (x : Launch) : State :=
  let far := ((s.link.pipeTaken.filter (fun m => decide (m.ctx = x.ctx ∧ m.dev ≠ s.link.me) && x.of m.dstVr m.mb)).map
    (fun (m : PipeMsg) => (m.srcVr, m.dstVr, m.mb))).eraseDups
  let s := far.foldl (fun (s : State) k => s.inject (s.hostOfRank k.1) 0 0x03 0 1 0 (keptKey k) none .other) s
  (s.link.rowsTaken.filter (fun k => x.of k.2.1 k.2.2)).foldl (fun (s : State) k =>
    if s.hostOfRank k.1 = s.link.me then s.giveRows k else s.inject (s.hostOfRank k.1) 1 0x04 0 1 0 (keptKey k) none .other) s

/-- The replay of the item a launch serves (R137): lost lead state is restored first, and without a valid copy the event
is a double fault (R446). -/
def State.replayLaunch (s : State) (l : Nat) (item : Option (Nat × Nat × Nat × Nat)) : State :=
  match s.launch? l with
  | none => s
  | some x =>
    let s := ((s.askAgain x).replayItem x).dropPins (fun p => s.sched.launches.any (fun y => sameItem x y && decide (y.id = p.launch)))
    match item with
    | none => s
    | some (v, t, o, n) =>
      match s.restoreItem v x.mb t o n with
      | .rebuilt s => s
      | .asked s => s
      | .none => s.doubleFault []

/-- The item whose loss caused a fault (R137): lead data of a tensor as the unit names it; for poison in the Stage's own memories, which the replay
rebuilds, the Apron word of the kernel that it lay in, or the place of the instruction that met it where it lay in no Apron word (log
entry 27). -/
def State.faultItem (s : State) (n : Nat) (i : Inst) (f : KFault) : Option (Nat × Nat × Nat × Nat) :=
  match f.item with
  | some x => some x
  | none =>
    if f.cause ≠ .poison then none
    else
      some (i.vrank, 2 ^ 40 + 64 * i.kernel + i.index, match (s.stage n).ap.met with
        | some w => if i.dataBase ≤ 8 * w ∧ 8 * w < i.dataBase + i.dataSize then 8 * w - i.dataBase else 2 ^ 24 + 8 * w
        | none => 2 ^ 25 + f.org.pc, 8)

/-- A fault raised on Stage `n` (R137): recorded, logged, and followed by its outcome. -/
def State.kernelFault (s : State) (n : Nat) (f : KFault) : State :=
  match (s.stage n).inst with
  | none => s
  | some i =>
    let s := (s.recordFault n i f).postFault n i.ctx
    match f.cause.outcome i.lead with
    | .kernelError => ((s.endLaunch i.launch).suspend i.ctx 2).markFaulted n
    | .replay => ((s.endLaunch i.launch).replayLaunch i.launch (s.faultItem n i f)).markFaulted n
    | .restart => s.preempt i.launch
    | .report => s

end Sys2Proof.Machine
end

