-- ==== Sys2Proof/Machine/BoothOps.lean ====
section
/-! DEFINITION. Shared operations of the Booth: slots and completion entries, ends of deferred commands, configuration put in
force (R457-R468, R483-R485). -/

namespace Sys2Proof.Machine

/-- A slot's ring positions. -/
def State.slot (s : State) (k : Nat) : SlotSt := mget SlotSt.fresh s.booth.slots k
def State.setSlot (s : State) (k : Nat) (x : SlotSt) : State :=
  s.modBooth (fun b => { b with slots := mset SlotSt.fresh b.slots k x })

/-- Ring sizes of a slot (R457, R497). -/
def State.sqSize (s : State) (k : Nat) : Nat := 2 ^ (6 + s.fld .bthSlotCfg k 4 1)
def State.cqSize (s : State) (k : Nat) : Nat := 2 ^ (8 + s.fld .bthSlotCfg k 8 5)

/-- A slot stops with an error (R461). -/
def State.slotError (s : State) (k err : Nat) : State :=
  (s.setSlot k { s.slot k with err := err }).post 0x0008 2 none [w64 k, w64 err]

/-- A completion entry (R465) written to a slot's ring, and the vector raised once COAL_N entries wait (R489); a disabled
slot's entries are discarded (R461). -/
def State.slotEntry (s : State) (k opcode : Nat) (seq : W32) (tag : W64) (status : Nat) (deferred : Bool) (r0 r1 : W64) :
    State :=
  if s.fld .bthSlotCfg k 0 0 = 0 then s
  else
    let x := s.slot k
    let w0 := w64 (seq.toNat + status * 2 ^ 32 + opcode * 2 ^ 40 + k * 2 ^ 48 + (if deferred then 2 ^ 62 else 0)
      + (if x.phase then 2 ^ 63 else 0))
    match s.hostWrite ((s.rd .bthCqBase k).toNat / 4096 * 4096 + 32 * x.cqHead) (wordsLe [w0, tag, r0, r1]) with
    | none => s.slotError k 3
    | some s =>
      let head := (x.cqHead + 1) % s.cqSize k
      let n := x.unsignalled + 1
      let ring := decide (s.fld .bthCqIrq k 8 1 ≤ n ∧ s.fld .bthCqIrq k 0 0 = 1)
      let s := s.setSlot k { x with
        cqHead := head
        phase := if head = 0 then !x.phase else x.phase
        unsignalled := if ring then 0 else n }
      if ring then s.msi k else s

/-- A completion given to where the command came from: a slot's ring, or the answer of another port (R465, R472). -/
def State.complete (s : State) (src opcode : Nat) (seq : W32) (tag : W64) (status : Nat) (deferred : Bool) (r0 r1 : W64)
    (data : List Byte) : State :=
  if src < 64 then s.slotEntry src opcode seq tag status deferred r0 r1
  else s.modBooth (fun b => { b with answer := some ⟨status, r0, r1, data⟩ })

/-- A deferred command's last entry (R465, R466): it is no longer in flight. Over SMBus its end is only to be seen in IDENTIFY (R472). -/
def State.endCmd (s : State) (f : InFlight) (status : Nat) (r0 r1 : W64) : State :=
  let s := s.modBooth (fun b => { b with inflight := b.inflight.erase f })
  if f.src < 64 then s.complete f.src f.opcode f.seq f.tag status true r0 r1 [] else s

/-- Every command in flight that answers to a test ends. -/
def State.endCmds (s : State) (p : InFlight → Bool) (status : Nat) : State :=
  (s.booth.inflight.filter p).foldl (fun s f => s.endCmd f status 0 0) s

/-- A register's name and index at a BAR0 offset. -/
def findReg (off : Nat) : Option (Reg × Nat) :=
  match allRegs.find? (fun r => decide (r.desc.base ≤ off ∧ (off - r.desc.base) % r.desc.stride = 0
    ∧ (off - r.desc.base) / r.desc.stride < r.desc.count)) with
  | some r => some (r, (off - r.desc.base) / r.desc.stride)
  | none => none

/-- A word with the bits of a mask replaced. -/
def masked (old mask v : W64) : W64 := (old &&& ~~~mask) ||| (v &&& mask)

/-- The bucket whose settings a register holds (R225, R255). -/
def bucketReg (r : Reg) (i : Nat) : Option Nat :=
  match r with
  | .hbmRegRd => some i
  | .hbmRegWr => some (16 + i)
  | .hbmRegSys => some 32
  | _ => none

/-- A bucket keeps its tokens, clipped to its new burst (R227). -/
def State.clipBucket (s : State) (b tokens : Nat) : State :=
  { s with mem := { s.mem with tokens := mset 0 s.mem.tokens b (2048 * (s.bucket b).2 - tokens) } }

/-- One staged entry put in force; HEADROOM and PBK_POLICY wait for the next reset and the next LOAD_SCORE (R483). -/
def State.applyCfg (s : State) (e : StagedCfg) : State :=
  match findReg e.off with
  | none => s
  | some (r, i) =>
    if r = .hbmCapacity ∨ r = .pbkPolicy then s.modBooth (fun b => { b with autoStaged := b.autoStaged ++ [e] })
    else
      let t := s.wr r i (masked (s.rd r i) e.mask e.value)
      match bucketReg r i with
      | none => t
      | some b => t.clipBucket b (s.tokensOf b)

/-- The deferred values of one register put in force. -/
def State.applyAuto (s : State) (q : Reg) : State :=
  let mine (e : StagedCfg) : Bool := match findReg e.off with
    | some x => decide (x.1 = q)
    | none => false
  let s := (s.booth.autoStaged.filter mine).foldl (fun s e => match findReg e.off with
    | some (r, i) => s.wr r i (masked (s.rd r i) e.mask e.value)
    | none => s) s
  s.modBooth (fun b => { b with autoStaged := b.autoStaged.filter (fun e => !mine e) })

/-- Every staged entry committed in order, each packet's DEFERRED entry written (R484, R485). -/
def State.commitStaged (s : State) : State :=
  let s := s.booth.staged.foldl (fun s e => s.applyCfg e) s
  (s.modBooth (fun b => { b with staged := [] })).endCmds
    (fun f => decide (f.opcode = 0x03 ∨ f.opcode = 0x04) && f.curtain) 0

/-- A context leaves the device (R204, R294, R484): kernels stop, cache lines are dropped unwritten, pages and segments come
free; with the lead, the staged configuration commits. -/
def State.freeCtx (s : State) (c : Nat) : State :=
  match s.ctx? c with
  | none => s
  | some x =>
    let run := s.sched.launches.filter (fun y => decide (y.ctx = c ∧ y.state = 1))
    let s := (run.foldl (fun s y => s.endLaunch y.id) s).flushCtx c false
    let s := { s with
      stages := (s.stages.map (fun (e : Nat × Stage) => (e.1, { e.2 with
        rng := e.2.rng.filter (fun r => decide (r.1 ≠ c))
        ap := { e.2.ap with owner := e.2.ap.owner.filter (fun r => decide (r.1 ≠ c)) } }))).filter
        (fun (e : Nat × Stage) => decide (e.2 ≠ Stage.idle))
      mem := { s.mem with
        pages := s.mem.pages.filter (fun e => decide (e.2 ≠ c + 1))
        scratch := s.mem.scratch.filter (fun e => !x.scratchMask.getLsbD (e.1 / 2 ^ 28))
        seqs := if x.lead then [] else s.mem.seqs
        doneSeqs := if x.lead then [] else s.mem.doneSeqs } }
    let s := s.modSched (fun q =>
      { q with
        ctxs := q.ctxs.filter (fun y => decide (y.num ≠ c))
        launches := q.launches.filter (fun y => decide (y.ctx ≠ c))
        pins := q.pins.filter (fun y => decide (y.ctx ≠ c))
        refs := q.refs.filter (fun y => decide (y.1 ≠ c))
        swapIn := if q.swapIn = some c then none else q.swapIn })
    let s := s.modLink (fun k => { k with fillEns := k.fillEns.filter (fun y => decide (y.1 ≠ c)) })
    let s := (s.setFld .smgBlockGen 0 31 0 (s.fld .smgBlockGen 0 31 0 + 1)).setFld .smgBlockGen 0 34 32 5
    if x.lead then
      ((((s.modSched (fun q =>
        { q with
          testing := q.testing.filter (fun n => !q.backAtCurtain.contains n), backAtCurtain := []
          sheets := [], staged := [], shares := [], groups := [], step := 0, begun := false, leadStop := false, wants := []
          meas := [], busyNs := [], issueNs := 0, ahead := 0, hist := [], uh := [], nextExp := [], stepTally := tallyEmpty, jobTally := [], moves := [] })).modLink
        (fun k => { k with
                    roster := none, prevRoster := none, routes := [], nextRoutes := none, call := none, callDone := none
                    curtain := 0, curtMsg := none, curtFrom := [], record := none, colls := [], hops := []
                    pipeIn := k.pipeIn.filter (fun m => decide (m.ctx ≠ c)), pipeTaken := [], rowsTaken := [], pipeOut := k.pipeOut.filter (fun m => decide (m.1 ≠ c))
                    rows := k.rows.filter (fun r => decide (r.ctx ≠ c)) })).modPbk
        (fun p => { PbkSt.empty with saveBegan := p.saveBegan, region := p.region, savedIn := p.savedIn })).modPlat
        (fun p => { p with xfers := p.xfers.filter (fun x => decide (x.kind = 0)) })).setFld .pbkSaveState 0 50 50 0 |>.commitStaged
    else s

/-- The device leaves RUN when no context is left (R501). -/
def State.settle (s : State) : State :=
  if s.plat.dev = .run ∧ s.sched.ctxs.isEmpty = true then s.modPlat (fun p => { p with dev := .ready }) else s

end Sys2Proof.Machine
end

