-- ==== Sys2Proof/Machine/Operands.lean ====
section
/-! DEFINITION. Operands of Prompter instructions: scalar registers, predicates, immediates, data-region addresses, the
special values of RDSPEC (R94, R96, R99-R108). -/

namespace Sys2Proof.Machine

/-- A scalar register; s0 reads 0 (R96). -/
def Prm.reg (p : Prm) (r : BitVec 5) : W64 := if r = 0 then 0 else mget 0 p.regs r.toNat

/-- A scalar register written; s0 discards writes (R96). -/
def Prm.setReg (p : Prm) (r : BitVec 5) (v : W64) : Prm :=
  if r = 0 then p else { p with regs := mset 0 p.regs r.toNat v }

/-- A predicate. -/
def Prm.pred (p : Prm) (i : BitVec 3) : Bool := p.preds.getLsbD i.toNat

/-- A predicate written. -/
def Prm.setPred (p : Prm) (i : BitVec 3) (b : Bool) : Prm :=
  let m := 1#8 <<< i.toNat
  { p with preds := if b then p.preds ||| m else p.preds &&& ~~~m }

/-- An immediate sign-extended to 64 bits (R107). -/
def sext (imm : W32) : W64 := imm.signExtend 64

/-- The guard of R99, R100: whether the instruction executes. -/
def Prm.guarded (t : Prm) (p : Iss) : Bool := !p.gen || (t.pred p.gp != p.gneg)

/-- The special values RDSPEC reads (R108); `none` for a reserved SPEC. Code 0x13 counts CCLK, which the model leaves out:
its value is a free value (log entry 12). -/
def specValue (s : State) (n : Nat) (i : Inst) (spec : BitVec 8) : Option W64 :=
  match spec.toNat with
  | 0x00 => some (if i.lead then w64 i.vrank else 0)
  | 0x01 => some i.mb
  | 0x02 => some (if i.lead then w64 i.step else 0)
  | 0x03 => some (w64 i.index)
  | 0x04 => some (w64 i.count)
  | 0x05 => some (w64 i.ctx)
  | 0x06 => some (if i.lead then 1 else 0)
  | 0x10 => some (w64 n)
  | 0x11 => some (w64 s.link.me)
  | 0x12 => some s.now
  | 0x13 => some (Config.freeWord s.freeCtr)
  | _ => none

/-- A data-region extent is inside the instance's data region (R94). -/
def Inst.inData (i : Inst) (a : W64) (len : Nat) : Bool := decide (a.toNat + len ≤ i.dataSize)

/-- Apron address of a data-region offset (R94). -/
def Inst.dataAddr (i : Inst) (a : Nat) : Nat := i.dataBase + a

end Sys2Proof.Machine
end

