-- ==== Sys2Proof/Machine/Issue.lean ====
section
/-! DEFINITION. Issue of one Prompter instruction: readiness, decode faults, the guard, the program counter and the loop
stack, waits and full queues (R99-R103, R109-R111, R138-R144). -/

namespace Sys2Proof.Machine

/-- What an instruction's execution comes to: done in sequence, a branch, continuing after the instruction at an offset
(a skipped loop body), a wait that begins, a queue without room, or a fault. -/
inductive Did where
  | seq (s : State)
  | jump (s : State) (target : W64)
  | after (s : State) (off : W64)
  | wait (s : State) (w : PrmWait)
  | full
  | fault (s : State) (f : Cause) (info : W64)

/-- The next PC in sequence after the instruction at `pc`, and the loop stack (R111). -/
def nextPc (pc : Nat) : List LoopEnt → Nat × List LoopEnt
  | [] => (pc + 8, [])
  | e :: t =>
    if e.last = pc then
      if e.left > 1 then (e.first, { e with left := e.left - 1 } :: t) else nextPc pc t
    else (pc + 8, e :: t)

/-- The loop stack after a taken branch (R111): a target inside the innermost body pops nothing; otherwise that entry goes and every
enclosing one whose body does not contain the target. -/
def popLoops (target : Nat) (l : List LoopEnt) : List LoopEnt :=
  match l with
  | [] => []
  | e :: t =>
    if e.first ≤ target ∧ target ≤ e.last then e :: t
    else t.filter (fun x => decide (x.first ≤ target ∧ target ≤ x.last))

/-- The destination of a VRVGET that has not completed (R101's scoreboard). -/
def SnEntry.dest (e : SnEntry) : Option (BitVec 5) :=
  match e.ins with
  | .rvget _ rd => some rd
  | _ => none

/-- A register a queued VRVGET will still write. -/
def Stage.regBusy (t : Stage) (r : BitVec 5) : Bool :=
  t.sn.queue.any (fun e => !e.done && decide (e.dest = some r) && decide (r ≠ 0))

/-- The Prompter can issue: a kernel holds its Stage and it is not waiting, ending or faulted. -/
def Stage.canIssue (t : Stage) : Bool :=
  t.inst.isSome && (decide (t.prm.wait = .run) || decide (t.prm.wait = .queue))

/-- The instruction after the one at `pc` is fetched from `target`: outside the code region or misaligned, a fetch fault
that names the instruction at `pc` (R110). -/
def State.fetchAt (s : State) (n pc : Nat) (target : W64) (cls op : Nat) : State :=
  match (s.stage n).inst with
  | none => s
  | some i =>
    if target.toNat < i.codeSize ∧ target.toNat % 8 = 0 then s
    else s.kernelFault n ⟨.fetch, ⟨pc, cls, op⟩, target, none⟩

/-- PC and loop stack set; the Prompter runs. -/
def State.setPc (s : State) (n : Nat) (pc : Nat) (loops : List LoopEnt) : State :=
  s.modStage n (fun t => { t with prm := { t.prm with pc := pc, loops := loops, wait := .run } })

/-- Sequential flow after the instruction at `pc`. -/
def State.goSeq (s : State) (n pc cls op : Nat) : State :=
  let r := nextPc pc (s.stage n).prm.loops
  (s.setPc n r.1 r.2).fetchAt n pc (w64 r.1) cls op

/-- Issue of the instruction at the Prompter's PC (R99-R103, R138, R144): `bad` is an encoding illegal whatever the guard
(R101); `uses` the scalar registers it names; `body` its execution. DESIGN CHOICE (log entry 27): a taken branch that is a body's last
instruction wins over the back-edge, and no iteration is counted for it. -/
def issue (p : Iss) (cls op : Nat) (bad : Bool) (uses : List (BitVec 5)) (body : State → Stage → Inst → Did)
    (s : State) : Host.Outcome State Fault Refusal :=
  if p.stage < 144 then
    let n := p.stage
    let t := s.stage n
    match t.inst with
    | none => .next s
    | some i =>
      if !t.canIssue || uses.any t.regBusy then .next s
      else
        let pc := t.prm.pc
        let org : Origin := ⟨pc, cls, op⟩
        if bad then .next (s.kernelFault n ⟨.illegal, org, 0, none⟩)
        else
          let s1 := (s.modStage n (fun t => { t with prm := { t.prm with org := org } })).bump .stgPrmRetired n 1
          if t.prm.guarded p then
            match body s1 t i with
            | .seq s => .next (s.goSeq n pc cls op)
            | .jump s target =>
              .next ((s.setPc n target.toNat (popLoops target.toNat (s.stage n).prm.loops)).fetchAt n pc target cls op)
            | .after s off => .next (s.goSeq n off.toNat cls op)
            | .wait s w =>
              let r := nextPc pc (s.stage n).prm.loops
              .next ((s.setPc n r.1 r.2).modStage n (fun t => { t with prm := { t.prm with wait := w } }))
            | .full =>
              .next ((s.modStage n (fun t => { t with prm := { t.prm with wait := .queue, org := org } })).stall .stgPrmStallQ n)
            | .fault s f info => .next (s.kernelFault n ⟨f, org, info, none⟩)
          else .next (s1.goSeq n pc cls op)
  else .fault .noSuchUnit

/-- A wait of the Prompter ends: it runs on, and fetches its next instruction (R110). -/
def State.endWait (s : State) (n : Nat) : State :=
  let t := s.stage n
  (s.modStage n (fun t => { t with prm := { t.prm with wait := .run } })).fetchAt n t.prm.org.pc (w64 t.prm.pc)
    t.prm.org.cls t.prm.org.op

/-- A Stage's Prompter register written. -/
def State.setReg (s : State) (n : Nat) (r : BitVec 5) (v : W64) : State :=
  s.modStage n (fun t => { t with prm := t.prm.setReg r v })

/-- A Stage's predicate written. -/
def State.setPred (s : State) (n : Nat) (r : BitVec 3) (b : Bool) : State :=
  s.modStage n (fun t => { t with prm := t.prm.setPred r b })

/-- An instruction that writes one scalar register with a value of the Prompter's registers. -/
def issueRd (p : Iss) (cls op : Nat) (uses : List (BitVec 5)) (rd : BitVec 5) (f : Prm → W64) (s : State) :
    Host.Outcome State Fault Refusal :=
  issue p cls op false (rd :: uses) (fun s t _ => .seq (s.setReg p.stage rd (f t.prm))) s

/-- An instruction that writes one predicate. -/
def issuePd (p : Iss) (cls op : Nat) (uses : List (BitVec 5)) (pd : BitVec 3) (f : Prm → Bool) (s : State) :
    Host.Outcome State Fault Refusal :=
  issue p cls op false uses (fun s t _ => .seq (s.setPred p.stage pd (f t.prm))) s

end Sys2Proof.Machine
end

