-- ==== Sys2Proof/Machine/Control.lean ====
section
/-! DEFINITION. Class 0x2: branches, loops, END and TRAP, and the completion of END (R109-R112). -/

namespace Sys2Proof.Machine

/-- A branch target: PC + 8 × OFF (R109). -/
def target (pc : Nat) (off : W32) : W64 := w64 pc + 8 * sext off

/-- NOP: no effect but the next pc (R109). -/
def execNop (p : Iss) (s : State) : Host.Outcome State Fault Refusal :=
  issue p 2 0x00 false [] (fun s _ _ => .seq s) s

/-- BR: PC := PC + 8 × OFF (R109). -/
def execBr (p : Iss) (off : W32) (s : State) : Host.Outcome State Fault Refusal :=
  issue p 2 0x01 false [] (fun s t _ => .jump s (target t.prm.pc off)) s

/-- CALL: illegal inside the body of an active loop, when it executes (R111). -/
def execCall (p : Iss) (rd : BitVec 5) (off : W32) (s : State) : Host.Outcome State Fault Refusal :=
  issue p 2 0x02 false [rd]
    (fun s t _ =>
      if t.prm.loops.any (fun e => decide (e.first ≤ t.prm.pc ∧ t.prm.pc ≤ e.last)) then .fault s .illegal 0
      else .jump (s.setReg p.stage rd (w64 (t.prm.pc + 8))) (target t.prm.pc off)) s

/-- JR: PC := RA (R109). -/
def execJr (p : Iss) (ra : BitVec 5) (s : State) : Host.Outcome State Fault Refusal :=
  issue p 2 0x03 false [ra] (fun s t _ => .jump s (t.prm.reg ra)) s

/-- LOOP: a target not past the LOOP itself is illegal at decode; a count of 0 skips the body; a fifth entry is illegal
(R111). DESIGN CHOICE (log entry 27): a fifth nested LOOP with a count of 0 skips its body and raises no fault. -/
def execLoop (p : Iss) (ra : BitVec 5) (off : W32) (s : State) : Host.Outcome State Fault Refusal :=
  issue p 2 0x04 (decide (off.toInt ≤ 0)) [ra]
    (fun s t _ =>
      let last := target t.prm.pc off
      let n := (t.prm.reg ra).toNat
      if n = 0 then .after s last
      else if t.prm.loops.length ≥ 4 then .fault s .illegal 0
      else
        .seq (s.modStage p.stage (fun t =>
          { t with prm := { t.prm with loops := ⟨t.prm.pc + 8, last.toNat, n⟩ :: t.prm.loops } }))) s

/-- END: the Prompter waits for END_COMPLETE (R112). -/
def execEndK (p : Iss) (s : State) : Host.Outcome State Fault Refusal :=
  issue p 2 0x06 false [] (fun s _ _ => .wait s .ending) s

/-- TRAP: OFF[15:0] is the trap code. -/
def execTrap (p : Iss) (off : W32) (s : State) : Host.Outcome State Fault Refusal :=
  issue p 2 0x07 false [] (fun s _ _ => .fault s .trap (w64 (off.toNat % 65536))) s

/-- The feed queue and everything it started are done (R55, R134). -/
def Mxa.feedDone (m : Mxa) : Bool := m.feed.isEmpty && m.pend.isNone && m.port.isNone && m.mma.isNone && m.fly.isEmpty

/-- The service queue and everything it started are done, the Snare's receipt of every drained block included (R55, R80, R134). -/
def Mxa.svcDone (m : Mxa) : Bool := m.svc.isEmpty && m.svcRun.isNone && m.rollIns.isEmpty && m.ftq.isEmpty

/-- The conditions under which END completes (R112). -/
def Stage.endReady (t : Stage) : Bool :=
  t.inst.isSome && decide (t.prm.wait = .ending) && t.mx.feedDone && t.mx.svcDone && t.sn.queue.isEmpty
    && t.sh.ops.isEmpty && t.sh.remote.isEmpty

/-- A launch with its lead mark. -/
def State.leadOn (s : State) (n : Nat) : Bool := match (s.stage n).inst with
  | some i => i.lead
  | none => false

/-- END completes: a slot left open is discarded and reported with cause 0x0E; the instance is done (R112). -/
def execEndComplete (n : Nat) (s : State) : Host.Outcome State Fault Refusal :=
  if n < 144 then
    let t := s.stage n
    if t.endReady then
      let s := if t.mx.slots.any (fun e => e.2.opened) then s.kernelFault n ⟨.leftOpen, t.prm.org, 0, none⟩ else s
      .next (if s.leadOn n then (s.instDone n).afterLead else s.instDone n)
    else .next s
  else .fault .noSuchUnit

end Sys2Proof.Machine
end

