-- ==== Sys2Proof/Machine/MatrixOps.lean ====
section
/-! DEFINITION. Operations of the matrix arrays: format codes, element layouts, a pass of one row, accumulator memory and
slots (R29-R36, R53, R54, R67-R73, R87). -/

namespace Sys2Proof.Machine

/-- A matrix format code (R30): activation and weight elements, block scales, K per pass. -/
structure MmaFmt where
  a : Fmt
  w : Fmt
  mx : Bool
  k : Nat
  deriving DecidableEq, Repr

/-- The codes of R30. -/
def mmaFmt : Nat → Option MmaFmt
  | 0x0 => some ⟨.e4m3, .e4m3, false, 64⟩
  | 0x1 => some ⟨.e4m3, .e5m2, false, 64⟩
  | 0x2 => some ⟨.e5m2, .e4m3, false, 64⟩
  | 0x3 => some ⟨.e5m2, .e5m2, false, 64⟩
  | 0x4 => some ⟨.e4m3, .e4m3, true, 64⟩
  | 0x5 => some ⟨.e4m3, .e5m2, true, 64⟩
  | 0x6 => some ⟨.e5m2, .e4m3, true, 64⟩
  | 0x7 => some ⟨.e5m2, .e5m2, true, 64⟩
  | 0x8 => some ⟨.e2m3, .e2m3, true, 64⟩
  | 0x9 => some ⟨.e3m2, .e3m2, true, 64⟩
  | 0xA => some ⟨.e2m1, .e2m1, true, 128⟩
  | 0xB => some ⟨.bf16, .bf16, false, 32⟩
  | 0xC => some ⟨.fp16, .fp16, false, 32⟩
  | _ => none

/-- The element bits of a 64-byte K-vector (R29, R54). -/
def vecBits (f : Fmt) : List Byte → List Nat
  | [] => []
  | b :: t =>
    match f with
    | .e2m1 => b.toNat % 16 :: b.toNat / 16 :: vecBits f t
    | .e2m3 => b.toNat % 64 :: vecBits f t
    | .e3m2 => b.toNat % 64 :: vecBits f t
    | .bf16 => match t with
      | c :: t => (b.toNat + 256 * c.toNat) :: vecBits f t
      | [] => []
    | .fp16 => match t with
      | c :: t => (b.toNat + 256 * c.toNat) :: vecBits f t
      | [] => []
    | _ => b.toNat :: vecBits f t

/-- The values of a K-vector; `scales` holds one byte per 32 elements of an MX code (R28, R32). -/
def vecVals (f : Fmt) (mx : Bool) (scales : List Nat) (bs : List Byte) : List FV :=
  (vecBits f bs).zipIdx.map (fun p => if mx then scaleElem f p.1 (scales.getD (p.2 / 32) 0) else f.decode p.1)

/-- The products of a pass for one column (R32). -/
def products : List FV → List FV → List Term
  | a :: as, w :: ws => Term.prod a w 0 :: products as ws
  | _, _ => []

/-- One element of a pass (R32-R35): under ADD the accumulator's hi and (wide) lo are terms. -/
def passElem (wide : Bool) (acc : Option (W32 × W32)) (ts : List Term) : W32 × W32 :=
  match acc with
  | none => roundAcc wide (windowSum ts)
  | some (h, l) =>
    roundAcc wide (windowSum (Term.one (fv32 h) :: (if wide then Term.one (fv32 l) :: ts else ts)))

/-- A list cut into pieces of `k`. -/
def chunks {α : Type} (k : Nat) : Nat → List α → List (List α)
  | 0, _ => []
  | n + 1, l => l.take k :: chunks k n (l.drop k)

/-- The 256 weight columns of a register under a format (R54, R58). -/
def WtReg.cols (r : WtReg) (m : MmaFmt) : List (List FV) :=
  let nb := m.k / 32
  let sc := (mwalk 0 1024 0 r.plane).map (fun b => b.toNat)
  (chunks 64 256 (mwalk 0 16384 0 r.tile)).zipIdx.map (fun p =>
    vecVals m.w m.mx ((sc.drop (p.2 * nb)).take nb) p.1)

/-- Key of accumulator entry (row, column) of a block of an array. -/
def accKey (array block row col : Nat) : Nat := 65536 * array + 4096 * block + 256 * row + col

/-- Accumulator errors counted (R92): array and block of the row read. -/
def State.countAcc (s : State) (n array block : Nat) (sc : Scan) : State :=
  let s := if sc.ce = 0 then s else s.satBump .stgMxaEcc n 31 0 sc.ce
  if sc.ue.isEmpty then s
  else (((s.noteUes n sc.ue.length).satBump .stgMxaEcc n 47 32 sc.ue.length).setFld .stgMxaEcc n 49 48 array).setFld .stgMxaEcc n 53 50 block

/-- A row of an accumulator block read: its entries, whether it holds a poisoned word, errors counted (R87). -/
def State.accRow (s : State) (n array block row : Nat) : List W32 × Bool × State :=
  let t := s.stage n
  let k := accKey array block row 0
  let sc := eccScan t.mx.accEcc (k / 2) 128
  (mgetRun 0 t.mx.acc k 256, !sc.bad.isEmpty,
    (s.setStage n { t with mx := { t.mx with accEcc := sc.ecc } }).countAcc n array block sc)

/-- A row of an accumulator block written whole, which clears its errors (R87). -/
def Mxa.putRow (m : Mxa) (array block row : Nat) (vs : List W32) : Mxa :=
  let k := accKey array block row 0
  { m with acc := msetRun 0 m.acc k vs, accEcc := eccClear m.accEcc (k / 2) 128 }

/-- A slot by name. -/
def Mxa.slot (m : Mxa) (i : Nat) : Slot := mget Slot.closed m.slots i

def Mxa.setSlot (m : Mxa) (i : Nat) (x : Slot) : Mxa := { m with slots := mset Slot.closed m.slots i x }

/-- The physical block of a 16-row group of a slot, its hi or lo half (R67). -/
def Slot.blk (x : Slot) (g : Nat) (lo : Bool) : Nat :=
  if x.wide then x.blocks.getD (2 * g + (if lo then 1 else 0)) 0 else x.blocks.getD g 0

/-- Number of 16-row groups. -/
def Slot.groups (x : Slot) : Nat := cdiv x.m 16

/-- The fed bit of a row of an array's part. -/
def Slot.isFed (x : Slot) (array row : Nat) : Bool := mget false x.fed (256 * array + row)

/-- The blocks no open slot holds. -/
def Mxa.freeBlocks (m : Mxa) : List Nat :=
  let used := m.slots.flatMap (fun e => if e.2.opened then e.2.blocks else [])
  (List.range 16).filter (fun b => !used.contains b)

/-- A slot's row in both halves: hi entries, lo entries (empty in single format), poisoned or not. -/
def State.slotRow (s : State) (n : Nat) (x : Slot) (array row : Nat) : List W32 × List W32 × Bool × State :=
  let h := s.accRow n array (x.blk (row / 16) false) (row % 16)
  if x.wide then
    let l := h.2.2.accRow n array (x.blk (row / 16) true) (row % 16)
    (h.1, l.1, h.2.1 || l.2.1, l.2.2)
  else (h.1, [], h.2.1, h.2.2)

/-- A slot's row written in both halves, and its fed bit set. -/
def State.putSlotRow (s : State) (n slot array row : Nat) (res : List (W32 × W32)) : State :=
  s.modStage n (fun t =>
    let x := t.mx.slot slot
    let m := t.mx.putRow array (x.blk (row / 16) false) (row % 16) (res.map (fun p => p.1))
    let m := if x.wide then m.putRow array (x.blk (row / 16) true) (row % 16) (res.map (fun p => p.2)) else m
    { t with mx := m.setSlot slot { x with fed := mset false x.fed (256 * array + row) true } })

/-- A row's previous values as accumulator terms. -/
def accTerms (x : Slot) (h l : List W32) : List (W32 × W32) :=
  if x.wide then h.zip l else h.map (fun v => (v, 0))

/-- The results of one row (R53): activation values against the 256 columns. -/
def rowResults (wide : Bool) (act : List FV) : List (List FV) → List (Option (W32 × W32)) → List (W32 × W32)
  | [], _ => []
  | c :: cs, accs => passElem wide (accs.headD none) (products act c) :: rowResults wide act cs accs.tail

/-- A slot closed: its blocks are free (R71). -/
def State.closeSlot (s : State) (n i : Nat) : State :=
  s.modStage n (fun t => { t with mx := t.mx.setSlot i Slot.closed })

/-- The slot a feed operation names. -/
def FeedOp.slot? : FeedOp → Option Nat
  | .wld _ _ _ _ => none
  | .azero i _ _ => some i
  | .mma _ i _ _ _ _ _ _ => some i

/-- An earlier matrix operation into the slot is not complete: an AZERO or MMA waiting, streaming or in an adder tree, or a
Roll-in not wholly added (R73). -/
def Mxa.pendingInto (m : Mxa) (slot before : Nat) : Bool :=
  m.feed.any (fun e => decide (e.op.slot? = some slot ∧ e.seq < before))
    || (match m.mma with | some r => decide (r.slot = slot ∧ r.seq < before) | none => false)
    || m.fly.any (fun r => decide (r.slot = slot ∧ r.seq < before))
    || m.rollIns.any (fun r => decide (r.slot = slot ∧ r.seq < before))

/-- An earlier MMA into the slot has sums to write (R82). -/
def Mxa.mmaInto (m : Mxa) (slot before : Nat) : Bool :=
  m.feed.any (fun e => decide (e.op.slot? = some slot ∧ e.seq < before))
    || (match m.mma with | some r => decide (r.slot = slot ∧ r.seq < before) | none => false)
    || m.fly.any (fun r => decide (r.slot = slot ∧ r.seq < before))

/-- A readout or a block of a Roll-in may use the service port of array `a`: no other use of that port became ready before it
(R86). -/
def Mxa.mayUse (m : Mxa) (rin : Option Nat) (a : Nat) : Bool :=
  match m.uses.find? (fun (u : PortUse) => decide (u.array = a)) with
  | none => true
  | some u => decide (u.rin = rin)

/-- That use is served. -/
def Mxa.used (m : Mxa) (rin : Option Nat) (a : Nat) : Mxa := { m with uses := m.uses.erase ⟨rin, a⟩ }

/-- Uses of the service ports that have become ready since the last look join the order (R86): blocks of Roll-ins that have
arrived and whose slot has every earlier sum, in RACC order, then the readout at the head of the service queue, whose granted ROLL or
DRAIN with room in the finished-tile queue has a block to read. Of uses that become ready together this order is the model's (log
entry 26). -/
def Mxa.noteReady (m : Mxa) : Mxa :=
  let fresh := m.rollIns.flatMap (fun r =>
    if m.mmaInto r.slot r.seq then []
    else (r.arrived.map (fun b => (⟨some r.seq, b.array⟩ : PortUse))).drop (m.uses.filter (fun u => decide (u.rin = some r.seq))).length)
  let out : List PortUse := match m.svcRun with
    | some r =>
      if r.out.isSome || m.uses.any (fun u => u.rin.isNone) || (r.drain.isSome && decide (8 ≤ m.ftq.length)) then []
      else (r.left.take 1).map (fun x => ⟨none, x.1⟩)
    | none => []
  { m with uses := m.uses ++ fresh ++ out }

/-- The slot a service operation closes. -/
def SvcOp.closes : SvcOp → Option Nat
  | .drain i _ => some i
  | .roll i _ _ _ _ => some i
  | .racc _ _ _ _ => none

/-- A data-region record read for a unit: aligned and inside the region, or none (R66, R94). -/
def Inst.record? (i : Inst) (a : W64) (al len : Nat) : Option Nat :=
  if a.toNat % al = 0 ∧ i.inData a len = true then some (i.dataAddr a.toNat) else none

/-- The chain and segment a handle names (R118). -/
def hndChain (h : W64) : Nat := bitsOf h 31 0
def hndSeg (h : W64) : Nat := bitsOf h 47 32

/-- The grant that stands for a cross-device ROLL. -/
def rollGrantFor (i : Inst) (hnd : W64) (g : RollGrant) : Bool :=
  decide (g.chain = hndChain hnd ∧ g.seg = hndSeg hnd ∧ (g.fill = true ∨ g.vr = i.vrank) ∧ g.mb = i.mb.toNat) && (g.fill == !i.lead)

/-- The chain of a handle in the instance's Score. -/
def State.chainOf (s : State) (i : Inst) (h : W64) : Option ChainDecl :=
  match s.ctx? i.ctx with
  | none => none
  | some c => match c.score with
    | none => none
    | some sc => sc.chains.find? (fun x => decide (x.chain = hndChain h))

/-- A rank of the lead's job holds an instance of a tensor: an expert's state only at its home member (R264, R279). -/
def Ctx.ownsOf (c : Ctx) (d : TensorDecl) (v : Nat) : Bool :=
  match d.expert, c.score, c.shape with
  | some x, some sc, some h => Score.expertHome sc h v x
  | _, _, _ => true

/-- The virtual ranks of the Ensemble a role names for a virtual rank of the lead (R370): by the job shape, as the Score declares it, else by the
Roster's record. -/
def State.roleRanks (s : State) (r : Roster) (role v : Nat) : List Nat :=
  match s.leadCtx with
  | none => r.role role v
  | some c =>
    match c.shape.bind (fun h => h.ensemble role v), c.score.bind (fun sc => sc.ensembles.find? (fun e => decide (e.role = role) && e.members.contains v)) with
    | some l, _ => l
    | none, some e => e.members
    | none, none => r.role role v

/-- The members of the Ensemble a role names for an instance, each with its device: of the lead by virtual rank (R370), of a
fill context by device number (R372). -/
def State.membersOf (s : State) (lead : Bool) (ctx vr role : Nat) : List (Nat × Nat) :=
  if lead then
    match s.link.roster with
    | some r => (s.roleRanks r role vr).map (fun v => (v, r.hostOf v))
    | none => [(vr, s.link.me)]
  else
    match s.link.fillEns.find? (fun e => decide (e.1 = ctx ∧ e.2.role = role) && e.2.ranks.contains s.link.me) with
    | some e => e.2.ranks.map (fun d => (d, d))
    | none => [(s.link.me, s.link.me)]

/-- The instance of the issuing launch that runs a handle's segment (R119). -/
def State.segInst (s : State) (i : Inst) (h : W64) : Option Nat :=
  match s.chainOf i h with
  | none => none
  | some c => match c.segs[hndSeg h]? with
    | none => none
    | some g => if g.1 = i.kernel ∧ g.2 < i.count then some g.2 else none

/-- The member a handle names on a cross-device hop, with its device (R384). -/
def State.segMember (s : State) (i : Inst) (h : W64) : Option (Nat × Nat) :=
  match s.chainOf i h with
  | none => none
  | some c => (s.membersOf i.lead i.ctx i.vrank c.role)[hndSeg h]?

/-- A handle resolves (R119, R384). -/
def State.hndOk (s : State) (i : Inst) (h : W64) (xdev : Bool) : Bool :=
  if xdev then (s.segMember i h).isSome else (s.segInst i h).isSome

end Sys2Proof.Machine
end

