-- ==== Sys2Proof/Machine/Sync.lean ====
section
/-! DEFINITION. Class 0xA and its events: semaphores, remote signals, FENCE, CURTWAIT, the Stage's Bells (R131-R135). -/

namespace Sys2Proof.Machine

/-- A semaphore of the kernel on Stage `n` (R98). -/
def Stage.sem (t : Stage) (i : Nat) : BitVec 16 := mget 0 t.sh.sems i

/-- A semaphore set. -/
def State.setSem (s : State) (n i : Nat) (v : BitVec 16) : State :=
  s.modStage n (fun t => { t with sh := { t.sh with sems := mset 0 t.sh.sems i v } })

/-- An increment fits (R132). -/
def Stage.semFits (t : Stage) (i k : Nat) : Bool := decide ((t.sem i).toNat + k ≤ 65535)

/-- A semaphore raised by `k`; beyond 65,535 it keeps its value and a semaphore fault is raised (R132). -/
def State.semAdd (s : State) (n i k : Nat) (org : Origin) : State :=
  let t := s.stage n
  if t.semFits i k then s.setSem n i (BitVec.ofNat 16 ((t.sem i).toNat + k))
  else s.kernelFault n ⟨.semaphore, org, w64 i, none⟩

/-- SEMSIG, local or remote (R131-R133). -/
def execSemsig (p : Iss) (sem : BitVec 6) (ra : BitVec 5) (val : BitVec 16) (remote : Bool) (s : State) :
    Host.Outcome State Fault Refusal :=
  issue p 0xA 0x00 false (if remote then [ra] else [])
    (fun s t i =>
      if remote then
        let x := t.prm.reg ra
        if x.toNat < i.count then
          .seq (s.modStage p.stage (fun t =>
            { t with sh := { t.sh with remote := t.sh.remote ++ [⟨i.launch, x.toNat, sem.toNat, val.toNat⟩] } }))
        else .fault s .semaphore (w64 sem.toNat)
      else if t.semFits sem.toNat val.toNat then
        .seq (s.setSem p.stage sem.toNat (BitVec.ofNat 16 ((t.sem sem.toNat).toNat + val.toNat)))
      else .fault s .semaphore (w64 sem.toNat)) s

/-- The Stage that runs an instance of a launch. -/
def State.instStage (s : State) (launch index : Nat) : Option Nat :=
  (s.stages.find? (fun e => match e.2.inst with
    | some i => decide (i.launch = launch ∧ i.index = index)
    | none => false)).map (fun e => e.1)

/-- Signal `i` of sender `n` arrives (R133): not before an earlier one to the same semaphore; without effect where the
target instance has ended; a fault on the receiver where the semaphore would pass 65,535. DESIGN CHOICE (log entry 27): that fault records
as its instruction the one the receiver issued last. -/
def execRemoteSemsig (n i : Nat) (s : State) : Host.Outcome State Fault Refusal :=
  if n < 144 then
    let t := s.stage n
    match t.sh.remote[i]? with
    | none => .next s
    | some r =>
      if (t.sh.remote.take i).any (fun q => decide (q.launch = r.launch ∧ q.inst = r.inst ∧ q.sem = r.sem)) then .next s
      else
        let s := s.modStage n (fun t => { t with sh := { t.sh with remote := dropAt t.sh.remote i } })
        match s.instStage r.launch r.inst with
        | none => .next s
        | some m => .next (s.semAdd m r.sem r.n (s.stage m).prm.org)
  else .fault .noSuchUnit

/-- SEMWAIT: with SEM ≥ N it subtracts N at once, otherwise the Prompter waits (R131). -/
def execSemwait (p : Iss) (sem : BitVec 6) (val : BitVec 16) (s : State) : Host.Outcome State Fault Refusal :=
  issue p 0xA 0x01 false []
    (fun s t _ =>
      if val ≤ t.sem sem.toNat then .seq (s.setSem p.stage sem.toNat (t.sem sem.toNat - val))
      else .wait (s.stall .stgPrmStallSync p.stage) (.sem sem.toNat val.toNat)) s

/-- A waiting SEMWAIT finds SEM ≥ N. -/
def execSemwaitSatisfy (n : Nat) (s : State) : Host.Outcome State Fault Refusal :=
  if n < 144 then
    let t := s.stage n
    match t.inst, t.prm.wait with
    | some _, .sem i k =>
      if k ≤ (t.sem i).toNat then .next (((s.stall .stgPrmStallSync n).setSem n i (BitVec.ofNat 16 ((t.sem i).toNat - k))).endWait n) else .next s
    | _, _ => .next s
  else .fault .noSuchUnit

/-- SEMSET: SEM := N (R131). -/
def execSemset (p : Iss) (sem : BitVec 6) (val : BitVec 16) (s : State) : Host.Outcome State Fault Refusal :=
  issue p 0xA 0x02 false [] (fun s _ _ => .seq (s.setSem p.stage sem.toNat val)) s

/-- SEMRD: RD := SEM (R131). -/
def execSemrd (p : Iss) (sem : BitVec 6) (rd : BitVec 5) (s : State) : Host.Outcome State Fault Refusal :=
  issue p 0xA 0x03 false [rd] (fun s t _ => .seq (s.setReg p.stage rd ((t.sem sem.toNat).setWidth 64))) s

/-- Every kind of earlier work a FENCE mask names is complete (R134). -/
def Stage.fenceOk (t : Stage) (mask : BitVec 6) : Bool :=
  (!mask.getLsbD 0 || t.mx.feedDone) && (!mask.getLsbD 1 || t.mx.svcDone)
    && (!mask.getLsbD 2 || t.sn.queue.isEmpty) && (!mask.getLsbD 3 || t.sh.ops.isEmpty)
    && (!mask.getLsbD 4 || t.sh.remote.isEmpty)

/-- FENCE: waits until the earlier work that MASK names is complete (R134). -/
def execFence (p : Iss) (mask : BitVec 6) (s : State) : Host.Outcome State Fault Refusal :=
  issue p 0xA 0x08 false []
    (fun s t _ => if t.fenceOk mask then .seq s else .wait (s.stall .stgPrmStallSync p.stage) (.fence mask)) s

/-- A FENCE that waits is satisfied once the work it names is complete (R134). -/
def execFenceSatisfy (n : Nat) (s : State) : Host.Outcome State Fault Refusal :=
  if n < 144 then
    let t := s.stage n
    match t.inst, t.prm.wait with
    | some _, .fence mask => if t.fenceOk mask then .next ((s.stall .stgPrmStallSync n).endWait n) else .next s
    | _, _ => .next s
  else .fault .noSuchUnit

/-- CURTWAIT: illegal in a fill context (R135). -/
def execCurtwait (p : Iss) (rd : BitVec 5) (s : State) : Host.Outcome State Fault Refusal :=
  issue p 0xA 0x10 false [rd] (fun s _ i => if i.lead then .wait s (.curtain rd) else .fault s .illegal 0) s

/-- The lead's next Curtain has opened: RD := the new step number (R131). -/
def execCurtwaitResume (n : Nat) (s : State) : Host.Outcome State Fault Refusal :=
  if n < 144 then
    let t := s.stage n
    match t.inst, t.prm.wait with
    | some i, .curtain rd =>
      if i.step < s.sched.step then .next ((s.setReg n rd (w64 s.sched.step)).endWait n) else .next s
    | _, _ => .next s
  else .fault .noSuchUnit

/-- What a SEMWAIT or FENCE of the Stage waits for has not come (R131, R134). -/
def Stage.syncUnmet (t : Stage) : Bool :=
  match t.prm.wait with
  | .sem i k => decide ((t.sem i).toNat < k)
  | .fence mask => !t.fenceOk mask
  | _ => false

/-- A SEMWAIT or FENCE has stayed unsatisfied for 10 ms (R135). -/
def execSyncWaitLimit (n : Nat) (s : State) : Host.Outcome State Fault Refusal :=
  if n < 144 then
    let t := s.stage n
    if t.syncUnmet then .next ((s.stall .stgPrmStallSync n).kernelFault n ⟨.waitLimit, t.prm.org, 0, none⟩) else .next s
  else .fault .noSuchUnit

/-- A Bell written by its sender (R491): a full Bell keeps its word. -/
def ring (m : SMap Bell) (i : Nat) (w : W64) : SMap Bell :=
  if (mget Bell.clear m i).full then m else mset Bell.clear m i ⟨true, w⟩

/-- Bit `i` of an array of 64-bit flag registers set. -/
def State.setFlag (s : State) (r : Reg) (i : Nat) : State := s.setFld r (i / 64) (i % 64) (i % 64) 1

/-- BELW: the word goes to the Stage's Prompter-to-Booth Bell unless it is FULL, which sets its overrun flag (R131, R135). -/
def execBelw (p : Iss) (ra : BitVec 5) (pd : BitVec 3) (s : State) : Host.Outcome State Fault Refusal :=
  issue p 0xA 0x18 false [ra]
    (fun s t _ =>
      if (mget Bell.clear s.booth.bellP2F p.stage).full then
        .seq ((s.setFlag .belOvrP2f p.stage).setPred p.stage pd false)
      else
        .seq ({ s with
          booth := { s.booth with bellP2F := ring s.booth.bellP2F p.stage (t.prm.reg ra) } }.setPred p.stage pd true)) s

/-- BELR: a FULL Booth-to-Prompter Bell gives its word and clears (R131). -/
def execBelr (p : Iss) (rd : BitVec 5) (pd : BitVec 3) (s : State) : Host.Outcome State Fault Refusal :=
  issue p 0xA 0x19 false [rd]
    (fun s _ _ =>
      let b := mget Bell.clear s.booth.bellF2P p.stage
      if b.full then
        .seq (({ s with
          booth := { s.booth with bellF2P := mset Bell.clear s.booth.bellF2P p.stage Bell.clear } }.setReg p.stage rd
            b.word).setPred p.stage pd true)
      else .seq ((s.setReg p.stage rd 0).setPred p.stage pd false)) s

/-- BELT: PD := a FULL flag (R131). -/
def execBelt (p : Iss) (pd : BitVec 3) (dir : Bool) (s : State) : Host.Outcome State Fault Refusal :=
  issue p 0xA 0x1A false []
    (fun s _ _ =>
      .seq (s.setPred p.stage pd
        (if dir then (mget Bell.clear s.booth.bellF2P p.stage).full else (mget Bell.clear s.booth.bellP2F p.stage).full))) s

end Sys2Proof.Machine
end

