-- ==== Sys2Proof/Machine/Launch.lean ====
section
/-! DEFINITION. Launches on Stages: starting, wanting and taking Stages, swapping fill contexts, retiring a Stage (R94-R97,
R136, R170, R194, R204, R266, R277, R291-R318, R413, R492). -/

namespace Sys2Proof.Machine

/-- The Snare's queue is held by a VPOP that waits for a tile block. -/
def Stage.popHeld (t : Stage) : Bool :=
  (match t.sn.queue.head? with
    | some e => (match e.ins with
      | .pop _ _ => !e.done
      | .popw _ _ => !e.done
      | _ => false)
    | none => false) && t.mx.ftq.isEmpty

/-- The matrix arrays' work of a Stage is held by a ROLL to another device that the resend store has no room for: its credit has not come back
(R285, R355). -/
def State.rollHeld (s : State) (n : Nat) : Bool :=
  let t := s.stage n
  t.mx.mma.isNone && t.mx.port.isNone && t.mx.fly.isEmpty && t.mx.svcRun.isSome && (match t.inst, t.mx.svc with
    | some i, e :: _ => (match e.op with
      | .roll slot hnd _ true _ => (match s.link.grants.find? (fun q => rollGrantFor i hnd q && q.used) with
        | some q => decide (q.dev ≠ s.link.me) && !s.storeRoom (if (t.mx.slot slot).wide then 32768 else 16384)
        | none => false)
      | _ => false)
    | _, _ => false)

/-- An instance counts as waiting (R293): in SEMWAIT or FENCE, which is how a kernel waits for a DGATH or another transfer; at a full queue that a
transfer, a VPOP or a credit holds; or at END while nothing of the kernel runs but transfers and what waits for a tile block or a credit. -/
def State.waits (s : State) (n : Nat) : Bool :=
  let t := s.stage n
  match t.prm.wait with
  | .sem _ _ => true
  | .fence _ => true
  | .queue =>
    if t.prm.org.cls = 9 then !t.sh.ops.isEmpty
    else if t.prm.org.cls = 4 ∨ t.prm.org.cls = 5 then s.rollHeld n
    else t.popHeld
  | .ending =>
    let matrix := t.mx.feedDone && t.mx.svcDone || s.rollHeld n
    let vector := t.sn.queue.isEmpty || t.popHeld
    matrix && vector && (s.rollHeld n || t.popHeld || !t.sh.ops.isEmpty)
  | _ => false

/-- A launch's dependencies are complete (R305); an update of one rank waits of a collective only for its own total (R277). -/
def State.depsDone (s : State) (x : Launch) : Bool :=
  x.deps.all (fun d => match s.launch? d with
    | some y => decide (y.state = 2) || (decide (x.kind = 2 ∧ y.kind = 4 ∧ y.state = 1 ∧ x.serves = 1)
        && s.link.colls.any (fun k => decide (k.launch = y.id) && k.written.any (fun w =>
          decide (k.members[w.1]? = some x.vrank ∧ bitsOf (k.words.getD 0 0) 3 0 = 0))))
    | none => true)

/-- A fill context is runnable (R293). -/
def State.runnable (s : State) (c : Ctx) : Bool :=
  !c.suspended && s.sched.launches.any (fun x => decide (x.ctx = c.num) &&
    ((decide (x.state = 0) && s.depsDone x)
      || (decide (x.state = 1) && x.stages.any (fun n => !s.waits n))))

/-- The Blocking changed (R20, R328). -/
def State.blockGen (s : State) (cause : Nat) : State :=
  (s.setFld .smgBlockGen 0 31 0 (s.fld .smgBlockGen 0 31 0 + 1)).setFld .smgBlockGen 0 34 32 cause

/-- The Stages of a sheet's share; with no share assigned, every available Stage (R320). -/
def State.shareOf (s : State) (p : Nat) : List Nat :=
  match s.sched.shares.find? (fun x => decide (x.1 = p)) with
  | some x => x.2
  | none => (List.range 144).filter s.stageAvail

/-- The kernel a launch runs. -/
def State.kernelOf (s : State) (x : Launch) : Option KernelDecl :=
  match s.ctx? x.ctx with
  | some c => (match c.score with
    | some sc => sc.kernels[x.kernel]?
    | none => none)
  | none => none

/-- Layers of a sheet's compute entries in a direction's order (R266). -/
def State.layerOrder (s : State) (p : Nat) (backward : Bool) : List Nat :=
  let cs := ((s.sched.sheets.find? (fun x => decide (x.1 = p))).map (fun (x : Nat × Sheet) => x.2)).getD []
  let ls := (((cs.map cueOf).filter (fun c => decide (c.op = 0 ∧ c.kind = 0) && (c.dir == backward))).map
    (fun (c : Cue) => c.layer)).foldl (fun a x => if a.contains x then a else insNat x a) []
  if backward then ls.reverse else ls

/-- The oldest launch of a sheet not yet started that follows sequence order (R306, R332). -/
def State.headOf (s : State) (p : Nat) : Option Launch :=
  s.sched.launches.find? (fun x => decide (x.sheet = p ∧ x.state = 0 ∧ (x.kind = 0 ∨ x.kind = 3 ∨ x.kind = 4))
    && decide ((s.leadCtx.map (fun (c : Ctx) => c.num)) = some x.ctx))

/-- Two launches of a sheet serve instances in common, so that one belongs to the group of the other (R268); a launch outside every loop
serves all. -/
def sameGroup (a b : Launch) : Bool := decide (a.ctx = b.ctx ∧ a.sheet = b.sheet)
  && (a.insts.isEmpty || b.insts.isEmpty || a.insts.any (fun i => b.insts.contains i))

/-- The look-ahead in force (R267). -/
def State.lookAhead (s : State) (c : Ctx) : Nat :=
  if s.sched.ahead = 0 then (c.shape.map (fun (h : Shape) => h.ahead)).getD 2 else s.sched.ahead

/-- Compute launches of a gather launch's layer, direction and group that are not complete. -/
def State.toCompute (s : State) (x : Launch) : Bool :=
  s.sched.launches.any (fun y => decide (y.kind = 0 ∧ y.layer = x.layer ∧ y.state ≠ 2) && (y.backward == x.backward) && sameGroup x y)

/-- A gather launch's copy is needed (R266): the gather runs, or is complete and its compute launches are not. -/
def State.copyNeeded (s : State) (x : Launch) : Bool :=
  decide (x.kind = 1) && (decide (x.state = 1) || (decide (x.state = 2) && s.toCompute x))

/-- A complete gather launch's copy is pinned (R129, R271). -/
def State.copyPinned (s : State) (x : Launch) : Bool :=
  decide (x.kind = 1 ∧ x.state = 2) && s.sched.pins.any (fun p => decide (p.launch = x.id))

/-- A gather launch's copy is held (R267, R271): it is needed, or pinned. -/
def State.copyHeld (s : State) (x : Launch) : Bool := s.copyNeeded x || s.copyPinned x

/-- A copy that gather launch `x` may not displace (R267, R271): one that is needed; for a backward gather also a forward copy still pinned whose
backward compute launches are not complete. -/
def State.copyKept (s : State) (x y : Launch) : Bool :=
  s.copyNeeded y || (x.backward && !y.backward && s.copyPinned y && s.toCompute { y with backward := true })

/-- Layers, other than its own, of which a gather launch's group holds copies that are needed, or at all. -/
def State.otherCopies (s : State) (x : Launch) (held : Launch → Bool) : List Nat :=
  ((s.sched.launches.filter (fun y => decide (y.layer ≠ x.layer) && sameGroup x y && held y)).map (fun (y : Launch) => y.layer)).eraseDups

/-- A gather launch may start (R266, R267): its layer is among the first A of its direction and the group has entered it, or the first
compute kernel of the layer A positions before has started in that group; the gathers of layers before it have started; and the group
holds no more than A copies that are needed, a forward copy that its backward kernels have yet to read being one (R271). -/
def State.gatherDue (s : State) (c : Ctx) (x : Launch) : Bool :=
  let order := s.layerOrder x.sheet x.backward
  let a := s.lookAhead c
  let comp := s.sched.launches.filter (fun y => decide (y.kind = 0) && (y.backward == x.backward) && sameGroup x y)
  let turn := match order.idxOf? x.layer with
    | none => true
    | some k =>
      (if k < a then
        comp.any (fun y => decide (1 ≤ y.state)) || (match comp.head?, s.headOf x.sheet with
          | some y, some h => decide (y.id = h.id)
          | _, _ => false)
      else comp.any (fun y => decide (y.layer = order.getD (k - a) 0 ∧ 1 ≤ y.state)))
      && !s.sched.launches.any (fun y => decide (y.kind = 1 ∧ y.state = 0) && (y.backward == x.backward) && sameGroup x y
        && (order.take k).contains y.layer && s.toCompute y)
  turn && decide ((s.otherCopies x (s.copyKept x)).length ≤ a)

/-- A compute launch waits until its layer's gathered copy is complete (R266). -/
def State.copyReady (s : State) (x : Launch) : Bool :=
  decide (x.kind ≠ 0) || !s.sched.launches.any (fun y => decide (y.kind = 1 ∧ y.layer = x.layer ∧ y.state ≠ 2) && (y.backward == x.backward)
    && sameGroup x y)

/-- A lead launch could start but for the copy it waits for and its Stages (R306, R266, R277, R413, R428): order, dependencies, the entry's
cap, launches in flight, its ranks' state and logged inputs loaded, no retained copy looked for, its log records acknowledged. -/
def State.leadReady (s : State) (c : Ctx) (x : Launch) (insts : Nat) : Bool :=
  let lead := s.sched.launches.filter (fun y => decide (y.ctx = x.ctx))
  let ordered := decide (x.kind = 0 ∨ x.kind = 3 ∨ x.kind = 4)
  let first := !ordered || decide ((s.headOf x.sheet).map (fun (y : Launch) => y.id) = some x.id)
  let held := ((lead.filter (fun y => decide (y.sheet = x.sheet ∧ y.entry = x.entry ∧ y.state = 1))).map
    (fun (y : Launch) => y.stages.length)).sum
  let mine (v : Nat) : Bool := decide (v = x.vrank) || x.insts.any (fun i => decide (i.1 = v))
  decide (x.state = 0) && !c.suspended && s.sched.begun && s.depsDone x && first
    && decide (held + insts ≤ Nat.max insts (cdiv (x.cap * (s.shareOf x.sheet).length) 256))
    && decide ((s.sched.launches.filter (fun y => decide (y.state = 1))).length < 64)
    && !s.pbk.reqs.any (fun q => mine q.vr) && !s.pbk.logAsked.any mine && s.pbk.redirects.all (fun r => r.found)
    && !s.link.tx.any (fun f => f.unacked.any (fun u => decide (u.pkt.ty = 0x07 ∧ u.pkt.aux16 % 256 = 0x07)
      && x.insts.any (fun i => decide (u.pkt.aux64 = w64 (i.1 + i.2 * 2 ^ 32)))))

/-- A lead launch may start but for its Stages. -/
def State.leadMay (s : State) (c : Ctx) (x : Launch) (insts : Nat) : Bool :=
  s.leadReady c x insts && s.copyReady x && (decide (x.kind ≠ 1) || s.gatherDue c x)

/-- Stages that lead compute launches would hold but for gathered copies that are not complete (R266, R335): the instances of every launch
that only such a copy holds back. -/
def State.gatherHeld (s : State) (c : Ctx) : Nat :=
  ((s.sched.launches.filter (fun x => decide (x.ctx = c.num ∧ x.kind = 0 ∧ x.state = 0))).map (fun x =>
    let n := ((s.kernelOf x).map (fun (k : KernelDecl) => k.instances)).getD 0
    if s.leadReady c x n && !s.copyReady x then n else 0)).sum

/-- A run of addresses cut out of an owner list (R94). -/
def cutOwner (lo hi : Nat) (l : List (Nat × Nat × Nat)) : List (Nat × Nat × Nat) :=
  l.flatMap (fun x =>
    if x.2.2 ≤ lo ∨ hi ≤ x.2.1 then [x]
    else (if x.2.1 < lo then [(x.1, x.2.1, lo)] else []) ++ (if hi < x.2.2 then [(x.1, hi, x.2.2)] else []))

/-- An Apron region given to a context (R94): bytes its own kernels left stay, every other byte becomes zero. -/
def Apr.give (a : Apr) (c lo len : Nat) : Apr :=
  let hi := lo + len
  let own (k : Nat) : Bool := a.owner.any (fun x => decide (x.1 = c ∧ x.2.1 ≤ k ∧ k < x.2.2))
  { a with
    bytes := a.bytes.filter (fun e => decide (e.1 < lo ∨ hi ≤ e.1) || own e.1)
    ecc := a.ecc.filter (fun e => decide (8 * e.1 + 8 ≤ lo ∨ hi ≤ 8 * e.1) || own (8 * e.1))
    owner := cutOwner lo hi a.owner ++ [(c, lo, hi)] }

/-- The exponents a kernel latches at its start (R48, R278): for a weight-stream tag in an update kernel the one chosen last. -/
def State.latch (s : State) (sc : Score) (update : Bool) : List (Nat × Int) :=
  sc.tags.map (fun (d : TagDecl) =>
    let e := if update && decide (s.fld .tlyScale d.tag 25 24 = 1) then
        mget (s.fld .tlyScale d.tag 15 8) s.sched.nextExp d.tag
      else s.fld .tlyScale d.tag 7 0
    (d.tag, (BitVec.ofNat 8 e).toInt))

/-- An instance started on its Stage (R94, R96, R110, R194, R492): the code and the first bytes of the data region come from the Score, so their
words are clean whatever errors they held, and the other bytes of such a word that had been lost are zero (DESIGN CHOICE, log entry 27). An
entry offset that is misaligned or outside the code region is taken as it is: the first fetch meets it (DESIGN CHOICE, log entry 27). -/
def State.seatInst (s : State) (c : Ctx) (sc : Score) (k : KernelDecl) (x : Launch) (step : Nat) (p : Seat × Nat) : State :=
  let seat := p.1
  let size := 8 * k.code.length
  let i : Inst :=
    { ctx := c.num, lead := c.lead, launch := x.id, kernel := x.kernel, index := p.2, count := k.instances
      vrank := if c.lead then x.vrank else 0, mb := w64 x.mb, step := step, codeBase := seat.code, codeSize := size
      dataBase := seat.data, dataSize := 1024 * k.dataKib
      exps := if c.lead then s.latch sc k.update else [], update := k.update, noTally := x.noTally }
  let s := s.modBooth (fun b => { b with bellF2P := mset Bell.clear b.bellF2P seat.stage Bell.clear })
  s.modStage seat.stage (fun t =>
    let t := t.cleared .run
    let ap := (t.ap.give c.num seat.code size).give c.num seat.data (1024 * k.dataKib)
    let bytes := msetRun 0 ap.bytes seat.code (wordsLe k.code)
    let fresh (w : Nat) : Bool := k.init.any (fun b => decide ((seat.data + b.1) / 8 = w))
    let bytes := bytes.filter (fun e => !(fresh (e.1 / 8) && decide (mget 0 ap.ecc (e.1 / 8) = eccBad ∨ mget 0 ap.ecc (e.1 / 8) = eccUe)))
    let bytes := k.init.foldl (fun m (b : Nat × Byte) => mset 0 m (seat.data + b.1) b.2) bytes
    { t with
      inst := some i
      prm := { Prm.idle with
        pc := k.entry
        regs := [(1, w64 k.args), (2, w64 i.vrank), (3, i.mb), (4, w64 p.2), (5, w64 k.instances)].filter
          (fun e => decide (e.2 ≠ 0)) }
      sn := Snr.empty
      ap := { ap with bytes := bytes, met := none, ecc := (eccClear ap.ecc (seat.code / 8) k.code.length).filter (fun e => !fresh e.1) } })

/-- Apron bytes of a Stage that some tensor of a context lies in (R201). -/
def State.apronTaken (s : State) (n lo hi : Nat) : Bool :=
  let a := apronBase + n * 2 ^ 23
  s.sched.ctxs.any (fun c => c.tensors.any (fun t => (t.ranges ++ t.shadow).any (fun r => decide (r.pa < a + hi ∧ a + lo < r.pa + r.len))))

/-- Seats that can take a kernel: distinct available free Stages, regions inside the Apron that meet neither one another nor a tensor
(R201, R297). -/
def State.seatsOk (s : State) (k : KernelDecl) (seats : List Seat) : Bool :=
  decide (seats.length = k.instances) && decide ((seats.map (fun (x : Seat) => x.stage)).Nodup)
    && seats.all (fun x => s.stageAvail x.stage && (s.stage x.stage).inst.isNone
      && decide (x.code % 64 = 0 ∧ x.data % 64 = 0 ∧ x.code + 8 * k.code.length ≤ 2 ^ 23 ∧ x.data + 1024 * k.dataKib ≤ 2 ^ 23)
      && decide (x.code + 8 * k.code.length ≤ x.data ∨ x.data + 1024 * k.dataKib ≤ x.code)
      && !s.apronTaken x.stage x.code (x.code + 8 * k.code.length) && !s.apronTaken x.stage x.data (x.data + 1024 * k.dataKib))

/-- Two Stages are adjacent in one field: neighbours in number among the 36 of a field (R81; log entry 29). -/
def adjacent (a b : Nat) : Bool := decide (a / 36 = b / 36 ∧ (a + 1 = b ∨ b + 1 = a))

/-- Pairs of instances of a kernel that run consecutive segments of some Roll chain (R81). -/
def chainPairs (sc : Score) (k : Nat) : List (Nat × Nat) :=
  sc.chains.flatMap (fun c => (c.segs.zip c.segs.tail).filterMap (fun g =>
    if g.1.1 = k ∧ g.2.1 = k then some (g.1.2, g.2.2) else none))

/-- Rows of instances of a kernel that run consecutive segments of one Roll chain. -/
def chainRuns (sc : Score) (k : Nat) : List (List Nat) :=
  sc.chains.flatMap (fun c => (List.range c.segs.length).flatMap (fun i => (List.range (c.segs.length - i)).filterMap (fun j =>
    let r := (c.segs.drop i).take (j + 1)
    let l := r.map (fun (g : Nat × Nat) => g.2)
    if r.all (fun g => decide (g.1 = k)) && decide l.Nodup then some l else none)))

/-- How many of the pairs lie on adjacent Stages. -/
def adjCount (pairs : List (Nat × Nat)) (at' : Nat → Nat) : Nat := (pairs.filter (fun p => adjacent (at' p.1) (at' p.2))).length

/-- Consecutive segments of Roll chains that one launch runs lie on adjacent Stages of one field where the share's free Stages allow it (R81; what
that asks of several chains and of short rows is log entry 29): no row of consecutive segments can move to a row of free Stages, up or down,
such that more pairs come to be adjacent. -/
def State.adjOk (s : State) (sc : Score) (x : Launch) (share : List Nat) (seats : List Seat) : Bool :=
  let st := seats.map (fun (y : Seat) => y.stage)
  let at' (g : Nat) : Nat := st.getD g 0
  let pairs := chainPairs sc x.kernel
  decide (adjCount pairs at' = pairs.length) || (chainRuns sc x.kernel).all (fun r =>
    let others := ((List.range st.length).filter (fun g => !r.contains g)).map at'
    (List.range 144).all (fun n =>
      let row := (List.range r.length).map (fun j => n + j)
      !(decide (n / 36 = (n + r.length - 1) / 36) && row.all (fun m => share.contains m && s.stageAvail m && (s.stage m).inst.isNone && !others.contains m))
        || [row, row.reverse].all (fun q => decide (adjCount pairs (fun g => match r.idxOf? g with
          | some j => q.getD j 0
          | none => at' g) ≤ adjCount pairs at'))))

/-- The end of a Recast's last phase on this device, with its event and duration (R425, R426, R431). -/
def State.endRecast (s : State) : State :=
  match s.pbk.recast with
  | none => s
  | some r =>
    let ns := (s.now - r.since).toNat
    let s := ((s.setFld .pbkRecastPhase 4 31 0 (Nat.min ns 0xFFFFFFFF)).post 0x0002 0 none [Config.phaseCode 4, w64 ns]).modPbk
      (fun p => { p with recast := none })
    if s.plat.dev = .recast then s.modPlat (fun p => { p with dev := .run }) else s

/-- The data-map index of a rank's micro-batch in the step, and the object it names (R261). -/
def State.dataIndex (s : State) (h : Shape) (v m : Nat) : Nat := (s.sched.step * h.dp + v / (h.pp * h.sq)) * h.mb + m
def scoreObject (sc : Score) (n : Nat) : W64 := sc.dataMap.getD (n % Nat.max 1 sc.dataMap.length) 0

/-- The input of a micro-batch at pipeline stage 0 (R261, R430): as logged where a mirror's log has given it, else the bytes of its object; none
at other stages, or where the Score declares no input tensor. -/
def State.inputOf (s : State) (c : Ctx) (v m : Nat) : Option (Nat × List Byte) :=
  match c.shape, c.score with
  | some h, some sc =>
    if h.pOf v ≠ 0 then none
    else
      match sc.input.bind c.decl with
      | none => none
      | some d =>
        match s.pbk.inputs.find? (fun x => decide (x.1 = v ∧ x.2.1 = m)) with
        | some x => some (d.id, x.2.2)
        | none => some (d.id, (List.range (c.instBytes d)).map (Config.objectByte (scoreObject sc (s.dataIndex h v m))))
  | _, _ => none

/-- The log record of a micro-batch instance that begins (R413): AUX64 names rank and micro-batch, the payload step, data-map index and at
pipeline stage 0 the input (layout log entry 16). -/
def State.logBegin (s : State) (c : Ctx) (i : Nat × Nat) : State :=
  let s1 := s.modPbk (fun p => { p with begun := p.begun ++ [i] })
  match s.mirror, c.shape with
  | some m, some h =>
    let bs := ((s.inputOf c i.1 i.2).map (fun (x : Nat × List Byte) => x.2)).getD []
    (List.range (Nat.max 1 (cdiv bs.length 3900))).foldl (fun (s : State) k =>
      s.resil m 0x07 (w64 (i.1 + i.2 * 2 ^ 32)) (leBytes 8 s.sched.step ++ [0] ++ leBytes 8 (s.dataIndex h i.1 i.2) ++ leBytes 8 bs.length
        ++ leBytes 8 (3900 * k) ++ (bs.drop (3900 * k)).take 3900)) s1
  | _, _ => s1

/-- A tensor run laid over whole spare pages (log entry 19). -/
def layRanges : Nat → Nat → List Nat → List Range
  | off, len, g :: t => if len = 0 then [] else
      ⟨off, Nat.min len pageBytes, g * pageBytes⟩ :: layRanges (off + pageBytes) (len - pageBytes) t
  | _, _, [] => []

/-- A run taken out of a list of free runs (address, length). -/
def cutFree (a n : Nat) (l : List (Nat × Nat)) : List (Nat × Nat) :=
  l.flatMap (fun r =>
    if a + n ≤ r.1 ∨ r.1 + r.2 ≤ a then [r]
    else (if r.1 < a then [(r.1, a - r.1)] else []) ++ (if a + n < r.1 + r.2 then [(a + n, r.1 + r.2 - (a + n))] else []))

/-- Segment indices set in a mask, ascending. -/
def segs (m : BitVec 16) : List Nat := (List.range 16).filter (fun i => m.getLsbD i)

/-- The free runs of a context's scratch segments (R202, R295). -/
def Ctx.scratchSpare (c : Ctx) : List (Nat × Nat) :=
  (c.tensors.flatMap (fun t => t.ranges ++ t.shadow)).foldl (fun l (r : Range) => cutFree r.pa r.len l)
    ((segs c.scratchMask).map (fun i => (scratchBase + i * 2 ^ 28, 2 ^ 28)))

/-- A run of bytes laid in free runs at line starts, first fit; none where they do not hold it. -/
def layIn : Nat → Nat → List (Nat × Nat) → Option (List Range)
  | _, len, [] => if len = 0 then some [] else none
  | off, len, r :: t =>
    if len = 0 then some []
    else
      let a := cdiv r.1 256 * 256
      let room := r.1 + r.2 - a
      let n := if len ≤ room then len else room / 256 * 256
      if n = 0 then layIn off len t else (layIn (off + n) (len - n) t).map (fun l => ⟨off, n, a⟩ :: l)

/-- Pages of a context that no tensor place covers, for places the Blocking chooses (R202, R295; log entry 19). -/
def State.sparePages (s : State) (c : Ctx) : List Nat :=
  (s.mem.pages.filter (fun e => decide (e.2 = c.num + 1))).map (fun (e : Nat × Nat) => e.1) |>.filter (fun g =>
    !c.tensors.any (fun t => (t.ranges ++ t.shadow).any (fun r =>
      decide (r.pa < (g + 1) * pageBytes ∧ g * pageBytes < r.pa + r.len))))

/-- The padding of a rank's shard (R264): what of it lies past the tensor's end. -/
def Ctx.padOf (c : Ctx) (d : TensorDecl) (vr : Nat) : Nat × Nat :=
  match c.shape with
  | none => (0, 0)
  | some h =>
    let n := c.instBytes d
    let used := Nat.min n (d.bytes - vr / Nat.max 1 (h.pp * h.sq) * n)
    if c.lead && d.sharded then (used, n - used) else (0, 0)

/-- The padding of a shard at its place, current copy and shadow, is +0 (R264). -/
def State.padPlace (s : State) (x : Ctx) (d : TensorDecl) (t : TensorPlace) : State :=
  let pad := x.padOf d t.vr
  if pad.2 = 0 then s
  else
    let zeros (s : State) (rs : List Range) : State := match resolveGo rs (rs.length + 1) pad.1 pad.2 with
      | none => s
      | some ps => ps.foldl (fun (s : State) (p : Nat × Nat) => forceStores (piecesOf p.1 p.2) (List.replicate p.2 0) s) s
    zeros (zeros s t.ranges) t.shadow

/-- A place for an instance of a tensor (log entry 19): a gathered copy in the free scratch where it fits (R265, R267), everything else in the
context's spare pages; a shard's padding is +0 (R264). -/
def State.placeTensor (s : State) (c : Nat) (vr : Nat) (d : TensorDecl) : State :=
  match s.ctx? c with
  | none => s
  | some x =>
    if x.tensors.any (fun t => decide (t.id = d.id ∧ t.vr = vr)) then s
    else
      let g := s.sparePages x
      let len := x.instBytes d
      let n := cdiv len pageBytes
      let here := (if d.gathered.isSome then layIn 0 len x.scratchSpare else none).getD (layRanges 0 len (g.take n))
      let sh := if d.working then layRanges 0 len ((g.drop n).take n) else []
      (s.modCtx c (fun y => { y with tensors := y.tensors ++ [⟨d.id, vr, here, sh⟩] })).padPlace x d ⟨d.id, vr, here, sh⟩

/-- A gathered copy is in use (R265, R267): a launch of its layer for its (p, q) runs, or holds it for launches to come or by a pin. -/
def State.copyLive (s : State) (c : Ctx) (d : TensorDecl) (key : Nat) : Bool :=
  s.sched.launches.any (fun y => decide (y.ctx = c.num ∧ some y.layer = d.gathered ∧ c.keyOf d.id y.vrank y.mb = key)
    && (s.copyHeld y || decide (y.state = 1 ∧ (y.kind = 0 ∨ y.kind = 3))))

/-- The copies of a gather launch's group beyond A go, those that are no longer needed, the one gathered first in front (R267, R271). -/
def State.dropSurplus (s : State) (c : Ctx) (x : Launch) : State :=
  let extra := (s.otherCopies x s.copyHeld).length - s.lookAhead c
  let idle := (s.otherCopies x s.copyHeld).filter (fun l => !(s.otherCopies x (s.copyKept x)).contains l)
  let gone := idle.take extra
  s.dropPins (fun p => match s.launch? p.launch with
    | some y => decide (y.kind = 1) && sameGroup x y && gone.contains y.layer
    | none => false)

/-- Places for what a lead launch works on that the Blocking gives only while it is used: its layer's gathered copies (R265, R267), and the
activations of the micro-batches it serves (R268). Copies out of use give up their places first. -/
def State.placeWork (s : State) (c : Ctx) (sc : Score) (x : Launch) : State :=
  let s := if x.kind = 1 then s.dropSurplus c x else s
  let s := s.modCtx c.num (fun y => { y with tensors := y.tensors.filter (fun t => match c.decl t.id with
    | some d => d.gathered.isNone || decide (d.gathered = some x.layer ∧ t.vr = c.keyOf d.id x.vrank x.mb) || s.copyLive c d t.vr
    | none => true) })
  let s := if x.kind = 0 ∨ x.kind = 1 then
      (sc.tensors.filter (fun d => decide (d.gathered = some x.layer))).foldl (fun (s : State) d =>
        s.placeTensor c.num (c.keyOf d.id x.vrank x.mb) d) s
    else s
  if x.kind = 0 ∨ x.kind = 3 then
    (sc.tensors.filter (fun d => d.act && d.gathered.isNone)).foldl (fun (s : State) d => x.insts.foldl (fun (s : State) i =>
      s.placeTensor c.num (c.keyOf d.id i.1 i.2) d) s) s
  else s

/-- The inputs of the micro-batches put in place that a compute launch serves, where that has not been done (R261); a gather has no place for them
yet. -/
def State.supply (s : State) (c : Ctx) (x : Launch) : State :=
  ((if x.kind = 0 ∨ x.kind = 3 then x.insts else []).filter (fun i => !s.pbk.supplied.contains i)).foldl (fun (s : State) i =>
    let s1 := s.modPbk (fun p => { p with supplied := p.supplied ++ [i] })
    match s.inputOf c i.1 i.2, s.ctx? c.num with
    | some (t, bs), some y => (match y.resolveW (y.keyOf t i.1 i.2) t 0 bs.length with
      | some ps => (ps.foldl (fun (a : State × List Byte) (p : Nat × Nat) =>
          (forceStores (piecesOf p.1 p.2) (a.2.take p.2) a.1, a.2.drop p.2)) (s1, bs)).1
      | none => s1)
    | _, _ => s1) s

/-- A fill micro-batch that begins takes a reference to the current weight set (R287). -/
def State.takeWset (s : State) (c : Ctx) (x : Launch) : State :=
  if c.lead || s.sched.refs.any (fun r => decide (r.1 = x.ctx ∧ r.2.1 = x.mb)) then s
  else
    match c.wsets.find? (fun w => w.current) with
    | none => s
    | some w =>
      (s.modSched (fun q => { q with refs := q.refs ++ [(x.ctx, x.mb, w.num)] })).modCtx c.num (fun y =>
        { y with wsets := y.wsets.map (fun v => if v.num = w.num then { v with refs := v.refs + 1 } else v) })

/-- A launch starts on its seats (R96, R296): its instances, its wait for Stages counted (R312). -/
def State.seatLaunch (s : State) (c : Ctx) (sc : Score) (k : KernelDecl) (x : Launch) (seats : List Seat) : State :=
  let s := seats.zipIdx.foldl (fun s p => s.seatInst c sc k x s.sched.step p) s
  let s := match s.sched.wants.find? (fun w => decide (w.1 = x.id)) with
    | some w => (s.modSched (fun q => { q with wants := q.wants.erase w })).bump .smgLeadWait 0 (s.now.toNat - w.2.1)
    | none => s
  s.modLaunch x.id (fun y =>
    { y with
      state := 1, stages := seats.map (fun (z : Seat) => z.stage), left := k.instances
      started := s.now.toNat, tally := tallyEmpty, tags := [] })

/-- Micro-batches that a lead launch begins (R413). -/
def State.begins (s : State) (x : Launch) : List (Nat × Nat) :=
  if x.kind = 0 ∨ x.kind = 3 then x.insts.filter (fun i => !s.pbk.begun.contains i) else []

/-- LAUNCH_START (R296, R306): the dispatcher starts every instance of a launch at once. A micro-batch that begins first logs
its inputs and starts once the mirror has acknowledged them (R413). -/
def execLaunchStart (launch : Nat) (seats : List Seat) (s : State) : Host.Outcome State Fault Refusal :=
  match s.launch? launch with
  | none => .next s
  | some x =>
    match s.ctx? x.ctx, s.kernelOf x with
    | some c, some k =>
      match c.score with
      | none => .next s
      | some sc =>
        let wanted := s.sched.wants.flatMap (fun w => if w.1 = launch then [] else w.2.2)
        let share := if c.lead then s.shareOf x.sheet else (List.range 144).filter s.stageAvail
        let free := s.seatsOk k seats && s.adjOk sc x share seats && !seats.any (fun y => wanted.contains y.stage)
          && decide (s.plat.dev = .run ∨ s.plat.dev = .recast)
        let may := if c.lead then s.leadMay c x k.instances && decide (x.kind ≠ 4)
            && seats.all (fun y => share.contains y.stage)
          else decide (x.state = 0) && !c.suspended && c.resident && s.depsDone x && decide (s.sched.swapIn ≠ some c.num)
            && decide ((s.sched.launches.filter (fun y => decide (y.state = 1))).length < 64)
        if free && may then
          if c.lead then
            let s1 := (s.begins x).foldl (fun (s : State) i => s.logBegin c i) s
            if !(s.begins x).isEmpty && s.mirror.isSome then .next s1
            else .next (((s1.placeWork c sc x).supply c x).seatLaunch c sc k x seats).endRecast
          else .next ((s.takeWset c x).seatLaunch c sc k x seats)
        else .next s
    | _, _ => .next s

/-- The Stages the dispatcher chooses for a lead launch after the free ones of its share: whole fill launches that hold Stages of it,
latest-started first, ties to the lower context (R311). -/
def pickFill (share : List Nat) : Nat → Nat → List Launch → List Nat
  | 0, _, _ => []
  | k + 1, need, ls =>
    if need = 0 then []
    else
      let latest := (ls.map (fun (x : Launch) => x.started)).foldl Nat.max 0
      match leastOf ((ls.filter (fun x => decide (x.started = latest))).map (fun (x : Launch) => (x.id, x.ctx))) with
      | none => []
      | some y =>
        match ls.find? (fun x => decide (x.id = y.1)) with
        | none => []
        | some x =>
          let got := (x.stages.filter (fun n => share.contains n)).length
          (if got = 0 then [] else x.stages)
            ++ pickFill share k (if got = 0 then need else need - got) (ls.filter (fun z => decide (z.id ≠ x.id)))

/-- The Stages chosen for a lead launch (R311): free Stages of its share, then those of whole fill launches; none that another launch's
choice holds. -/
def State.choose (s : State) (c : Ctx) (x : Launch) (need : Nat) : List Nat × List Nat :=
  let taken := s.sched.wants.flatMap (fun w => if w.1 = x.id then [] else w.2.2)
  let share := (s.shareOf x.sheet).filter (fun n => s.stageAvail n && !taken.contains n)
  let free := (share.filter (fun n => (s.stage n).inst.isNone)).take need
  let fills := s.sched.launches.filter (fun y => decide (y.state = 1 ∧ y.ctx ≠ c.num) && !y.stages.any (fun n => taken.contains n))
  (free, pickFill share fills.length (need - free.length) fills)

/-- LEAD_WANTS_STAGE (R311, R312, R494): a lead launch short of Stages claims free ones of its share and those of fill launches, which are
told through their F2P Bells; no fill launch starts on the Stages chosen. -/
def execLeadWantsStage (launch : Nat) (stages : List Nat) (s : State) : Host.Outcome State Fault Refusal :=
  match s.launch? launch with
  | none => .next s
  | some x =>
    match s.ctx? x.ctx, s.kernelOf x with
    | some c, some k =>
      let pick := s.choose c x k.instances
      let all := pick.1 ++ pick.2
      if c.lead && s.leadMay c x k.instances && decide (pick.1.length < k.instances) && !s.sched.wants.any (fun w => decide (w.1 = launch))
          && all.all (fun n => stages.contains n) && stages.all (fun n => all.contains n) && !pick.2.isEmpty then
        let s := s.modSched (fun q => { q with wants := q.wants ++ [(launch, s.now.toNat, all)] })
        .next (s.modBooth (fun b => { b with bellF2P := pick.2.foldl (fun m n => ring m n 1) b.bellF2P }))
      else .next s
    | _, _ => .next s

/-- A packet of this device that no port has sent yet. -/
def State.queued (s : State) (p : Pkt) : Bool :=
  (List.range 24).any (fun n => (s.port n).outq.any (fun q => q.2.isNone && decide (q.1 = p)))

/-- The packets of Stages' transfers that one flow still has (R312, R313): those not sent yet are dropped, and with them their use of the flow's
numbers; those on their way are acknowledged for no one. -/
def State.cancelFlow (s : State) (ns : List Nat) (f : TxFlow) : State :=
  let mine (u : TxPkt) : Bool := match u.req with
    | .transfer n _ => ns.contains n
    | _ => false
  let gone := if f.tries = 0 then (f.unacked.filter (fun u => mine u && s.queued u.pkt)).map (fun (u : TxPkt) => u.pkt.e2e) else []
  let fix (p : Pkt) : Pkt := { p with e2e := p.e2e - (gone.filter (fun e => decide (e < p.e2e))).length }
  let ours (q : Pkt × Option Nat) : Bool := q.2.isNone && decide (q.1.dst = f.dst ∧ q.1.vc = f.vc ∧ q.1.flow = f.flow ∧ q.1.ty ≠ 0x11)
  let s := s.putTx { f with
    next := f.next - gone.length
    unacked := (f.unacked.filter (fun u => !gone.contains u.pkt.e2e)).map (fun u =>
      { u with pkt := fix u.pkt, req := if mine u then Requester.other else u.req }) }
  if gone.isEmpty then s
  else (List.range 24).foldl (fun (s : State) n => s.modPort n (fun p =>
    { p with outq := (p.outq.filter (fun q => !(ours q && gone.contains q.1.e2e))).map (fun q => if ours q then (fix q.1, q.2) else q) })) s

/-- Transfers of Stages cancelled: what they still had under way on the links is given up (R312, R313). -/
def State.cancelTransfers (s : State) (ns : List Nat) : State :=
  s.link.tx.foldl (fun (s : State) f => s.cancelFlow ns f) s

/-- A fill launch stopped on all its Stages, cause 0x13 recorded for each (R90, R136, R312, R313). -/
def State.stopFill (s : State) (x : Launch) : State :=
  let s := x.stages.foldl (fun s n =>
    match (s.stage n).inst with
    | some i => (s.recordFault n i ⟨.preempted, (s.stage n).prm.org, 0, none⟩).postFault n i.ctx
    | none => s) s
  (s.cancelTransfers x.stages).preempt x.id

/-- HARD_PREEMPT (R312): 60 µs after the lead wanted its Stages, the fill launch still running is stopped. -/
def execHardPreempt (launch : Nat) (s : State) : Host.Outcome State Fault Refusal :=
  match s.launch? launch with
  | none => .next s
  | some x =>
    let lead := s.leadCtx.map (fun (c : Ctx) => c.num)
    if x.state = 1 ∧ lead ≠ some x.ctx ∧ (s.sched.wants.any (fun w => w.2.2.any (fun n => x.stages.contains n))) = true then
      .next (s.stopFill x)
    else .next s

/-- A fill context's running launches stopped as hard preemptions (R294, R317). -/
def State.stopCtx (s : State) (c : Nat) : State :=
  (s.sched.launches.filter (fun x => decide (x.ctx = c ∧ x.state = 1))).foldl State.stopFill s

/-- A run laid over spare pages from a place in the first of them on, at the same byte of a line as where it lies now: the parts (old
address, new address, length), and the pages and place left; none where they do not hold it (log entry 19). -/
def fitRun : Nat → Nat → Nat → List Nat × Nat → Option (List (Nat × Nat × Nat) × (List Nat × Nat))
  | 0, _, _, _ => none
  | k + 1, pa, len, (g, used) =>
    if len = 0 then some ([], (g, used))
    else
      match g with
      | [] => none
      | p :: t =>
        let st := cdiv used 256 * 256 + pa % 256
        if pageBytes ≤ st then fitRun k pa len (t, 0)
        else
          let n := Nat.min len (pageBytes - st)
          (fitRun k (pa + n) (len - n) (p :: t, st + n)).map (fun r => ((pa, p * pageBytes + st, n) :: r.1, r.2))

/-- Runs laid over spare pages one after another. -/
def fitRuns : List (Nat × Nat) → List Nat × Nat → Option (List (Nat × Nat × Nat))
  | [], _ => some []
  | r :: t, g =>
    match fitRun (2 * g.1.length + r.2 / pageBytes + 4) r.1 r.2 g with
    | none => none
    | some (l, g') => (fitRuns t g').map (fun m => l ++ m)

/-- A range lies in the Wings scratch region (R196). -/
def inScratch (r : Range) : Bool := decide (scratchBase ≤ r.pa ∧ r.pa < scratchBase + 2 ^ 32)

/-- The scratch runs of a context that the tensor table names. -/
def Ctx.scratchRuns (c : Ctx) : List (Nat × Nat) :=
  ((c.tensors.flatMap (fun t => t.ranges ++ t.shadow)).filter inScratch).map (fun (r : Range) => (r.pa, r.len))

/-- A range where runs have moved: `mv` lists old address, new address, length. -/
def followRange (mv : List (Nat × Nat × Nat)) (r : Range) : List Range :=
  match mv.filter (fun m => decide (r.pa ≤ m.1 ∧ m.1 + m.2.2 ≤ r.pa + r.len)) with
  | [] => [r]
  | l => l.map (fun m => ⟨r.off + (m.1 - r.pa), m.2.2, m.2.1⟩)

/-- Ranges that continue one another put together. -/
def joinRanges : List Range → List Range
  | [] => []
  | r :: t =>
    match joinRanges t with
    | [] => [r]
    | q :: l => if r.off + r.len = q.off ∧ r.pa + r.len = q.pa ∧ (q.pa < scratchBase ∨ q.pa % 2 ^ 28 ≠ 0) then ⟨r.off, r.len + q.len, r.pa⟩ :: l
        else r :: q :: l

/-- The tensor table follows moved runs (R203, R204). -/
def TensorPlace.follow (mv : List (Nat × Nat × Nat)) (t : TensorPlace) : TensorPlace :=
  { t with ranges := joinRanges (t.ranges.flatMap (followRange mv)), shadow := joinRanges (t.shadow.flatMap (followRange mv)) }

/-- Position of a scratch address among the segments of a mask, and back (R204, R205). -/
def packPos (m : BitVec 16) (pa : Nat) : Nat :=
  ((segs m).idxOf ((pa - scratchBase) / 2 ^ 28)) * 2 ^ 28 + (pa - scratchBase) % 2 ^ 28
def unpackPos (m : BitVec 16) (pos : Nat) : Nat := scratchBase + (segs m).getD (pos / 2 ^ 28) 0 * 2 ^ 28 + pos % 2 ^ 28

/-- Scratch segments freed: their bytes and error states go (R204, R205). -/
def State.freeScratch (s : State) (m : BitVec 16) : State :=
  { s with
    mem := { s.mem with
      scratch := s.mem.scratch.filter (fun e => !m.getLsbD (e.1 / 2 ^ 28))
      scratchEcc := s.mem.scratchEcc.filter (fun e => !m.getLsbD (e.1 / 2 ^ 24)) } }

/-- Runs moved one after another by the Stage Manager. -/
def State.moveRuns (s : State) (mv : List (Nat × Nat × Nat)) : State := mv.foldl (fun s m => s.moveRun m.1 m.2.1 m.2.2) s

/-- Fill contexts resident now (R291). -/
def State.fillResident (s : State) : List Ctx := s.sched.ctxs.filter (fun c => !c.lead && c.resident)

/-- Swapped-out contexts that could run (R316). -/
def State.swapWanted (s : State) : List Ctx := s.sched.ctxs.filter (fun c => !c.lead && !c.resident && s.runnable c)

/-- The resident fill context a swap takes out (R316): eligible after MIN_RES; a suspended one first, else the blocked one of
lowest priority, the earliest swapped in first. -/
def State.swapVictim (s : State) : Option Nat :=
  let ok := s.fillResident.filter (fun c => !s.runnable c
    && decide (1000 * s.fld .smgCfg 0 47 32 ≤ s.now.toNat - c.since) && decide (s.sched.swapIn ≠ some c.num))
  let key (c : Ctx) : Nat := (if c.suspended then 0 else 1 + c.prio) * 2 ^ 64 + c.since % 2 ^ 64
  (leastOf (ok.map (fun c => (c.num, key c)))).map (fun (x : Nat × Nat) => x.1)

/-- The context a swap brings in (R316): highest priority, then the one swapped out longest. -/
def State.swapNext (s : State) : Option Nat :=
  (leastOf (s.swapWanted.map (fun c => (c.num, (7 - c.prio) * 2 ^ 64 + c.since % 2 ^ 64)))).map (fun (x : Nat × Nat) => x.1)

/-- Segments in no partition (R316, R476). -/
def State.freeSegs (s : State) : Nat :=
  16 - (s.sched.ctxs.map (fun (c : Ctx) => popMask c.cacheMask + popMask c.scratchMask)).sum

/-- Where the scratch contents of a context go at a swap-out (R204): its spare stack pages; none where they do not hold them (log entry
19). -/
def State.swapRoom (s : State) (c : Ctx) : Option (List (Nat × Nat × Nat)) := fitRuns c.scratchRuns (s.sparePages c, 0)

/-- A fill context leaves residence (R204, R317): kernels stopped, dirty lines written back, the scratch contents copied into its stack
pages with the tensor table after them, generators saved, segments freed. The system regulator is charged (R224). -/
def State.swapOutNow (s : State) (c : Ctx) : State :=
  match s.swapRoom c with
  | none => s
  | some mv =>
    let ctx := c.num
    let s := (s.stopCtx ctx).system (fun s => s.flushCtx ctx true)
    let rng := (s.stages.filter (fun e => e.2.rng.any (fun r => decide (r.1 = ctx)))).map
      (fun e => (e.1, e.2.rng.filter (fun r => decide (r.1 = ctx))))
    let s := { s with
      stages := s.stages.map (fun (e : Nat × Stage) => (e.1, { e.2 with rng := e.2.rng.filter (fun r => decide (r.1 ≠ ctx)) })) }
    let s := { s with stages := s.stages.filter (fun (e : Nat × Stage) => decide (e.2 ≠ Stage.idle)) }
    let s := ((s.modCtx ctx (fun y => { y with cacheMask := 0 })).moveRuns mv).freeScratch c.scratchMask
    ((s.modCtx ctx (fun y =>
      { y with
        resident := false, saved := mv.map (fun m => (packPos c.scratchMask m.1, m.2.1, m.2.2)), savedRng := rng, scratchMask := 0
        tensors := y.tensors.map (TensorPlace.follow mv), since := s.now.toNat })).modSched (fun q =>
      { q with swapOut := q.swapOut.filter (fun k => decide (k ≠ ctx)) ++ [ctx] })).blockGen 5

/-- SWAP_OUT (R316): it happens when a swapped-out context needs the place or the segments. -/
def execSwapOut (ctx : Nat) (s : State) : Host.Outcome State Fault Refusal :=
  match s.ctx? ctx, s.swapNext with
  | some c, some nx =>
    let full := decide (3 ≤ s.fillResident.length) && s.fillResident.all (fun y => !s.runnable y)
    let tight := match s.ctx? nx with
      | some y => decide (s.freeSegs < y.cacheSegs + y.scratchSegs)
      | none => false
    if (full || (decide (s.fillResident.length < 3) && tight)) && decide (s.swapVictim = some ctx) && (s.swapRoom c).isSome then
      .next (s.swapOutNow c)
    else .next s
  | _, _ => .next s

/-- SWAP_IN (R204, R316, R317): the chosen context gets segments of the masks given, its scratch contents back from its stack pages, with
the tensor table after them, and its generators; its cache partition starts empty. -/
def execSwapIn (ctx : Nat) (cache scratch : BitVec 16) (s : State) : Host.Outcome State Fault Refusal :=
  match s.ctx? ctx with
  | none => .next s
  | some c =>
    let used := s.sched.ctxs.foldl (fun m (y : Ctx) => m ||| y.cacheMask ||| y.scratchMask) (0 : BitVec 16)
    if s.swapNext = some ctx ∧ s.fillResident.length < 3 ∧ s.sched.swapIn = none ∧ popMask cache = c.cacheSegs
        ∧ popMask scratch = c.scratchSegs ∧ cache &&& scratch = 0 ∧ (cache ||| scratch) &&& used = 0 then
      let s := c.savedRng.foldl (fun s x => s.modStage x.1 (fun t =>
        { t with rng := x.2.foldl (fun m (e : Nat × BitVec 128) => mset 0 m e.1 e.2) t.rng })) s
      let mv := c.saved.map (fun x => (x.2.1, unpackPos scratch x.1, x.2.2))
      let s := (s.modCtx ctx (fun y => { y with scratchMask := scratch })).moveRuns mv
      .next (((s.modCtx ctx (fun y =>
        { y with
          resident := true, saved := [], savedRng := [], cacheMask := cache
          tensors := y.tensors.map (TensorPlace.follow mv), since := s.now.toNat })).modSched
            (fun q => { q with swapIn := some ctx, swapOut := [] })).blockGen 5)
    else .next s

/-- SWAP_COMPLETE (R318, R335): the data has moved and the context may launch. -/
def execSwapComplete (ctx : Nat) (ns : Nat) (s : State) : Host.Outcome State Fault Refusal :=
  if s.sched.swapIn = some ctx then
    let s := (s.modSched (fun q => { q with swapIn := none })).bump .smgSwap 0 1
    .next (s.setFld .smgSwapMax 0 63 0 (Nat.max (s.fld .smgSwapMax 0 63 0) ns))
  else .next s

/-- A kernel Bell taken by Uzokel (R494): an event with the word, Stage, context, kernel and instance. -/
def State.takeP2f (s : State) (n : Nat) : State :=
  let b := mget Bell.clear s.booth.bellP2F n
  if b.full then
    let d := match (s.stage n).inst with
      | some i => [w64 i.ctx, w64 i.kernel, w64 i.index]
      | none => [0, 0, 0]
    (s.modBooth (fun x => { x with bellP2F := mset Bell.clear x.bellP2F n Bell.clear })).post 0x0070 0
      ((s.stage n).inst.map (fun (i : Inst) => i.ctx))
      [b.word, w64 (n + ((d.getD 1 0).toNat * 2 ^ 16) + ((d.getD 2 0).toNat * 2 ^ 32)), d.getD 0 0, d.getD 1 0]
  else s

/-- Launches that hold a Stage end: the lead's by replay with cause 0x12, a fill's by restart (R298). -/
def State.vacate (s : State) (n : Nat) : State :=
  match (s.stage n).inst with
  | none => s
  | some i =>
    if i.lead then s.kernelFault n ⟨.recastAbort, (s.stage n).prm.org, 0, none⟩
    else match s.launch? i.launch with
      | some x => s.stopFill x
      | none => s

/-- What few available Stages bring (R300): FAULT with fewer than 32, an event with fewer than LOW_STAGES. -/
def State.checkStages (s : State) : State :=
  if s.availCount < 32 then s.enterFault 3
  else if s.availCount < s.fld .smgCfg 0 55 48 then s.post 0x0015 1 none [w64 (s.availCount + s.sched.retired.length * 2 ^ 8)]
  else s

/-- A Stage out of the Blocking for good (R298-R300, R492, R514): `quiet` at boot, where no event of a Blocking change comes. -/
def State.retire (s : State) (n cause : Nat) : State :=
  if Config.stageFused n = false ∨ (s.sched.retired.any (fun r => decide (r.1 = n))) = true then s
  else
    let s := ((s.vacate n).takeP2f n).modBooth (fun b => { b with bellF2P := mset Bell.clear b.bellF2P n Bell.clear })
    let s := s.modSched (fun q =>
      { q with
        retired := q.retired ++ [(n, cause)]
        testing := q.testing.filter (fun k => decide (k ≠ n))
        outAtCurtain := q.outAtCurtain.filter (fun k => decide (k ≠ n))
        shares := q.shares.map (fun x => (x.1, x.2.filter (fun k => decide (k ≠ n)))) })
    ((s.blockGen 3).post 0x0016 2 none [w64 n, w64 cause]).checkStages

/-- Lead data that was lost where a rank's instance lies is asked for again (R298): of state from a holder of it, without one a double fault;
everything else the replays rebuild. -/
def State.refetch (s : State) (vr tensor off len : Nat) : State :=
  if mget 0 s.pbk.classes (tensor % shadowBit) = 0 then s
  else
    match s.link.roster with
    | none => s.doubleFault []
    | some r => match s.sources r (r.hostOf vr) (tensor % shadowBit) with
      | [] => s.doubleFault []
      | d :: _ => s.askState vr tensor off len d

/-- A lost range's new places in the context's spare pages, at the same bytes of the tensor. -/
def State.relay (s : State) (c : Nat) (r : Range) : List Range :=
  match s.ctx? c with
  | none => []
  | some x => layRanges r.off r.len ((s.sparePages x).take (cdiv r.len pageBytes))

/-- One lead tensor whose ranges lay partly in a retired Stage's Apron (R298): those ranges get new places and their bytes are restored, of the
copy and its shadow; a gathered copy, the one of a gather that still runs among them, is gathered again, and micro-batches whose activations are lost are replayed. -/
def State.rescueTensor (s : State) (c : Nat) (d : TensorDecl) (lost : Range → Bool) (t : TensorPlace) : State :=
  let put (f : TensorPlace → TensorPlace) (s : State) : State :=
    s.modCtx c (fun y => { y with tensors := y.tensors.map (fun (z : TensorPlace) => if z.id = t.id ∧ z.vr = t.vr then f z else z) })
  let s := (t.ranges.filter lost).foldl (fun (s : State) r =>
    let l := s.relay c r
    (put (fun z => { z with ranges := z.ranges.flatMap (fun q => if q = r then l else [q]) }) s).refetch t.vr t.id r.off r.len) s
  let s := (t.shadow.filter lost).foldl (fun (s : State) r =>
    let l := s.relay c r
    (put (fun z => { z with shadow := z.shadow.flatMap (fun q => if q = r then l else [q]) }) s).refetch t.vr (t.id + shadowBit) r.off r.len) s
  let x? := s.ctx? c
  if d.gathered.isSome then
    let again (y : Launch) : Bool := decide (y.ctx = c ∧ y.kind = 1 ∧ y.state ≠ 0 ∧ some y.layer = d.gathered)
      && (match x? with
        | some x => decide (x.keyOf d.id y.vrank y.mb = t.vr)
        | none => false)
    let ids := (s.sched.launches.filter again).map (fun (y : Launch) => y.id)
    let s := (s.sched.launches.filter (fun y => again y && decide (y.state = 1))).foldl (fun (s : State) y => s.endLaunch y.id) s
    (s.dropPins (fun p => ids.contains p.launch)).modSched (fun q =>
      { q with launches := q.launches.map (fun (y : Launch) => if ids.contains y.id then { y with state := 0 } else y) })
  else if d.act then
    match s.sched.launches.find? (fun y => decide (y.ctx = c ∧ y.group = none) && y.insts.any (fun i => decide (t.vr = 2 ^ 20 * (i.2 + 1) + i.1))) with
    | some y => s.replayLaunch y.id none
    | none => s
  else s

/-- What lay in a retired Stage's Apron is lost (R298): parts of lead tensors get new places and are restored from their redundancy, working copies
are gathered again; parts of a fill context's tensors have no place any more. -/
def State.rescueApron (s : State) (n : Nat) : State :=
  let lost (r : Range) : Bool := decide (apronBase + n * 2 ^ 23 ≤ r.pa ∧ r.pa < apronBase + (n + 1) * 2 ^ 23)
  let s := s.modSched (fun q => { q with ctxs := q.ctxs.map (fun (c : Ctx) =>
    if c.lead then c
    else { c with tensors := c.tensors.map (fun (t : TensorPlace) =>
      { t with ranges := t.ranges.filter (fun r => !lost r), shadow := t.shadow.filter (fun r => !lost r) }) }) })
  match s.leadCtx with
  | none => s
  | some c =>
    (c.tensors.filter (fun t => t.ranges.any lost || t.shadow.any lost)).foldl (fun (s : State) t =>
      match c.decl t.id with
      | some d => s.rescueTensor c.num d lost t
      | none => s) s

/-- A Stage out of the Blocking for a test (R298-R300, R328, R513), as for a retirement: a fill launch that holds it restarts; a lead instance
on it is waited for; what its Apron held is restored elsewhere. -/
def State.takeOut (s : State) (n : Nat) : State :=
  let s := match (s.stage n).inst with
    | some i => if i.lead then s else (match s.launch? i.launch with
      | some x => s.stopFill x
      | none => s)
    | none => s
  (((s.modSched (fun q =>
    { q with
      testing := q.testing.filter (fun k => decide (k ≠ n)) ++ [n]
      shares := q.shares.map (fun x => (x.1, x.2.filter (fun k => decide (k ≠ n)))) })).blockGen 4).checkStages).rescueApron n

/-- STAGE_RETIRE (R298, R514): Uzokel declares a Stage failed, for uncorrectable errors only with four of them within 24 hours. -/
def execStageRetire (n : Nat) (cause : Nat) (s : State) : Host.Outcome State Fault Refusal :=
  if n < 144 then
    if 1 ≤ cause ∧ cause ≤ 4 ∧ (cause = 2 → s.fourUes n = true) then .next ((s.retire n cause).rescueApron n) else .next s
  else .fault .noSuchUnit

end Sys2Proof.Machine
end

