-- ==== Sys2Proof/Machine/MemRed.lean ====
section
/-! DEFINITION. Reduce on write: the element updates and the ordered sequences of the lead context (R50, R209-R216, R231). -/

namespace Sys2Proof.Machine

/-- Bytes of an element of a RED format (R209). -/
def redBytes (red : Nat) : Nat := if red = 2 then 8 else if red = 3 then 2 else 4

/-- One element updated (R209). -/
def redElem (red old new : Nat) : Nat :=
  if red = 2 then
    let w (x : Nat) : List Term := [Term.one (fv32 (BitVec.ofNat 32 x)), Term.one (fv32 (BitVec.ofNat 32 (x / 2 ^ 32)))]
    let r := roundAcc true (windowSum (w old ++ w new))
    r.1.toNat + r.2.toNat * 2 ^ 32
  else if red = 3 then Fmt.bf16.conv .rne false 0 ((Fmt.bf16.decode old).add (Fmt.bf16.decode new))
  else (f32add (BitVec.ofNat 32 old) (BitVec.ofNat 32 new)).toNat

/-- A run of elements updated. -/
def redRun (red : Nat) : Nat → List Byte → List Byte → List Byte
  | 0, _, _ => []
  | k + 1, old, new =>
    let n := redBytes red
    leBytes n (redElem red (ofLe (old.take n)) (ofLe (new.take n))) ++ redRun red k (old.drop n) (new.drop n)

/-- A reduce write applied inside one line: poisoned elements stay poisoned, and poisoned incoming data poisons its
destination (R231). A cached update is one access of its partition, counted once (R250). -/
def State.redApply (s : State) (a red : Nat) (data : List Byte) (poison : Bool) : State ⊕ MStop :=
  match s.pieceRead 4 false a data.length with
  | .inr e => .inr e
  | .inl (old, bad, s) =>
    match s.pieceStore 4 a (redRun red (data.length / redBytes red) old data) with
    | .inr e => .inr e
    | .inl s2 =>
      let s := (s2.wr .wngHit 0 (s.rd .wngHit 0)).wr .wngMiss 0 (s.rd .wngMiss 0)
      let s := bad.foldl (fun s b => s.piecePoison b 1) s
      let s := if poison then s.piecePoison a data.length else s
      .inl (s.bump .wngRedApplied 0 1)

/-- What becomes of a reduce write (R212, R213). -/
inductive RedOut where
  | taken (s : State)
  | refused (s : State)
  | stop (e : MStop)

/-- The slice of a line (R205, R206). -/
def State.lineSlice (s : State) (line : Nat) : Nat :=
  if 256 * line < scratchBase then (s.sliceSet line).1 else line % 64

/-- Sequence entries and held writes of a slice (R213); a line whose list has one key takes no entry. -/
def State.seqCount (s : State) (slice : Nat) : Nat :=
  (s.mem.seqs.filter (fun q => decide (s.lineSlice q.line = slice) && !q.single)).length
def State.holdCount (s : State) (slice : Nat) : Nat :=
  ((s.mem.seqs.filter (fun q => decide (s.lineSlice q.line = slice))).map (fun q => q.held.length)).sum

/-- A line that a reduction has overrun: poisoned, with an event (R214). -/
def State.overrun (s : State) (line : Nat) : State :=
  (s.memPoison (256 * line) 256).post 0x0021 2 (if s.pageOwner (256 * line) < 16 then some (s.pageOwner (256 * line))
    else none) [w64 (256 * line)]

/-- The sequence at a line stored. -/
def State.putSeq (s : State) (q : SeqLine) : State :=
  { s with mem := { s.mem with seqs := q :: s.mem.seqs.filter (fun x => decide (x.line ≠ q.line)) } }

/-- A sequence that has reached L: the writes still held are duplicates or overruns, its entry is freed (R214). -/
def State.endSeq (s : State) (q : SeqLine) (last : Nat) : State :=
  let dup := q.held.filter (fun h => decide (h.key ≤ last))
  let late := q.held.filter (fun h => decide (last < h.key))
  let s := ({ s with
    mem := { s.mem with
      seqs := s.mem.seqs.filter (fun x => decide (x.line ≠ q.line))
      doneSeqs := (q.line, q.tensor) :: s.mem.doneSeqs.filter (fun x => decide (x.1 ≠ q.line)) } }).bump .wngRedDup 0
    dup.length
  late.foldl (fun s _ => s.overrun q.line) s

/-- Position `p` has advanced: passed held writes are discarded, the next one in order applied, and so on (R212). -/
def State.drainSeq (keys : List Nat) : Nat → SeqLine → State → State
  | 0, q, s => s.putSeq q
  | k + 1, q, s =>
    if q.pos ≥ keys.length then s.endSeq q (keys.getLast?.getD 0)
    else
      let e := keys.getD q.pos 0
      let gone := q.held.filter (fun h => decide (h.key < e))
      let s := s.bump .wngRedDup 0 gone.length
      let held := q.held.filter (fun h => decide (e ≤ h.key))
      match held.find? (fun h => decide (h.key = e)) with
      | none => s.putSeq { q with held := held }
      | some h =>
        match s.redApply (256 * q.line) h.red h.data h.poison with
        | .inr _ => s.putSeq { q with held := held }
        | .inl s => State.drainSeq keys k { q with pos := q.pos + 1, held := held.erase h } s

/-- A lead reduce write of a whole line (R212-R214). -/
def State.redOrdered (s : State) (tensor a red key : Nat) (keys : List Nat) (data : List Byte) (poison : Bool) : RedOut :=
  let line := a / 256
  let slice := s.lineSlice line
  if s.mem.doneSeqs.any (fun x => decide (x.1 = line)) then
    if key ≤ keys.getLast?.getD 0 then .taken (s.bump .wngRedDup 0 1) else .taken (s.overrun line)
  else
    let old := s.mem.seqs.find? (fun q => decide (q.line = line))
    let q : SeqLine := old.getD ⟨line, tensor, 0, [], decide (keys.length = 1)⟩
    let e := keys.getD q.pos 0
    if key < e then .taken (s.bump .wngRedDup 0 1)
    else if old.isNone && !q.single && decide (s.seqCount slice ≥ 16384) then .refused (s.bump .wngRedRefused 0 1)
    else if key = e then
      match s.redApply a red data poison with
      | .inr x => .stop x
      | .inl s => .taken (State.drainSeq keys (keys.length + 1) { q with pos := q.pos + 1 } s)
    else if s.holdCount slice ≥ 512 then .refused (s.bump .wngRedRefused 0 1)
    else
      let s := (s.putSeq { q with held := q.held ++ [⟨key, red, data, poison⟩] }).bump .wngRedHeld 0 1
      .taken (s.setFld .wngSeq 0 41 32 (Nat.max (s.fld .wngSeq 0 41 32) (s.holdCount slice)))

/-- A reduce write of a context inside one line of a tensor (R211-R216). -/
def State.reduce (s : State) (lead : Bool) (d : TensorDecl) (a red key : Nat) (data : List Byte) (poison : Bool) : RedOut :=
  if lead then s.redOrdered d.id a red key d.keys data poison
  else
    match s.redApply a red data poison with
    | .inr x => .stop x
    | .inl s => .taken s

/-- The Curtain's reset of the per-step tensors of a context (R215). -/
def State.resetPerStep (s : State) (c : Ctx) : State :=
  let per (t : Nat) : Bool := match c.decl t with
    | some d => d.perStep
    | none => false
  let ls := (s.mem.seqs.filter (fun q => per q.tensor)).map (fun q => q.line)
    ++ (s.mem.doneSeqs.filter (fun q => per q.2)).map (fun (q : Nat × Nat) => q.1)
  ls.foldl (fun s l => s.resetSeq l) s

end Sys2Proof.Machine
end

