-- ==== Sys2Proof/Machine/MemCmds.lean ====
section
/-! DEFINITION. Memory commands: the BAR2 aperture, accesses at home slices, regulators, waits, the scrubber (R197,
R206-R208, R225, R226, R232, R234, R243, R244). -/

namespace Sys2Proof.Machine

/-- Device physical address of a BAR2 offset (R243). -/
def State.bar2Addr (s : State) (off : Nat) : Nat := s.fld .pciBar2Base 0 47 30 * 2 ^ 30 + off

/-- The completion a host read gets: 0 success, 1 Unsupported Request, 2 success with the EP bit (R197, R232). -/
def State.hostAnswer (s : State) (status : Nat) (bs : List Byte) : State :=
  { s with booth := { s.booth with answer := some ⟨status, 0, 0, bs⟩ } }

/-- An access that found every way of its set pinned waits (R208). -/
def State.addWaiter (s : State) (r : MemReq) : State :=
  if s.mem.waiters.contains r then s else { s with mem := { s.mem with waiters := s.mem.waiters ++ [r] } }

/-- A waiting host or RDMA access made (R208). -/
def State.serveWaiter (s : State) (r : MemReq) : State :=
  match r.data with
  | none =>
    match forceReads (piecesOf r.pa r.bytes) s with
    | (bs, bad, s) => s.hostAnswer (if bad.isEmpty then 0 else 2) bs
  | some bs => forceStores (piecesOf r.pa bs.length) bs s

/-- Some line of an access finds every way of its set pinned (R208). -/
def State.blocked (s : State) (r : MemReq) : Bool :=
  (piecesOf r.pa r.bytes).any (fun p => decide (s.place p.1 = .stack) && (match s.cacheOwner p.1 with
    | some c => (s.allocLine c (p.1 / 256)).isNone
    | none => false))

/-- Waiting accesses whose sets have a free way again are made, in the order they came; a kernel's is tried again with its transfer (R208). -/
def State.settleWaiters (s : State) : State :=
  s.mem.waiters.foldl (fun (s : State) r =>
    if s.blocked r then s
    else
      let s := { s with mem := { s.mem with waiters := s.mem.waiters.erase r } }
      if r.kernel.isSome then s else s.serveWaiter r) s

/-- Host writes that still wait for a way are made before anything later is answered (R244): through a way where one is free, else
uncached, as after the 10 ms of R208. -/
def State.settleHost (s : State) : State :=
  (s.mem.waiters.filter (fun (r : MemReq) => r.kernel.isNone && r.data.isSome)).foldl (fun (s : State) r =>
    ({ s with mem := { s.mem with waiters := s.mem.waiters.erase r } }).serveWaiter r) s

/-- A host read through BAR2: unmapped bytes give Unsupported Request, poison the EP bit (R197, R232, R243). -/
def execBar2Read (off len : Nat) (s : State) : Host.Outcome State Fault Refusal :=
  if s.barLive = true ∧ 0 < len ∧ off + len ≤ 2 ^ 36 then
    let s := s.settleHost
    let a := s.bar2Addr off
    match s.memRead 4 false a len with
    | .inl (bs, bad, s) => .next (s.hostAnswer (if bad.isEmpty then 0 else 2) bs)
    | .inr .unmapped => .next (s.hostAnswer 1 [])
    | .inr _ => .next (s.addWaiter ⟨s.pageOwner a, a, len, none, none⟩)
  else .next s

/-- One piece of a host write: discarded where unmapped (R197). -/
def State.hostPiece (s : State) (a : Nat) (bs : List Byte) : State :=
  match s.pieceWrite 4 a bs with
  | .inl s => s
  | .inr .unmapped => s
  | .inr _ => s.addWaiter ⟨s.pageOwner a, a, bs.length, some bs, none⟩

def hostPieces : List (Nat × Nat) → List Byte → State → State
  | [], _, s => s
  | p :: t, bs, s => hostPieces t (bs.drop p.2) (s.hostPiece p.1 (bs.take p.2))

/-- A host posted write through BAR2 (R197, R243, R244). -/
def execBar2Write (off : Nat) (data : List Byte) (s : State) : Host.Outcome State Fault Refusal :=
  if s.barLive = true ∧ off + data.length ≤ 2 ^ 36 then
    .next (hostPieces (piecesOf (s.bar2Addr off) data.length) data s)
  else .next s

/-- The stack bytes an access at a home slice needs, and in which direction: none where the cache partition serves it
(R206, R207, R224). -/
def State.stackNeed (s : State) (pa : Nat) (write : Option (List Byte)) : Option (Bool × Nat) :=
  match s.cacheOwner pa with
  | none => some (write.isSome, 64)
  | some _ =>
    match write with
    | some _ => none
    | none =>
      match s.mem.lines.find? (fun l => decide (l.line = pa / 256)) with
      | some l => if l.valid.getLsbD (pa / 64 % 4) then none else some (false, 64)
      | none => some (false, 64)

/-- The access made: the sector's bytes answer a read; a write of a whole line resets its sequence (R215). -/
def State.sliceServe (s : State) (pa : Nat) (write : Option (List Byte)) : State :=
  match write with
  | none =>
    match s.lineRead (pa / 64 * 64) 64 with
    | .inl (bs, bad, s) => s.hostAnswer (if bad.isEmpty then 0 else 2) bs
    | .inr _ => s.addWaiter ⟨s.pageOwner pa, pa, 64, none, none⟩
  | some bs => s.hostPiece pa bs

/-- The request is admissible now (R225). -/
def State.admissible (s : State) (ctx : Nat) (write : Bool) (bytes : Nat) : Bool :=
  decide (s.waitFclk (bucketOf ctx write) bytes = 0)

/-- The stack controller that serves an address. -/
def State.ctrlOf (s : State) (pa : Nat) : Nat := let p := s.hash pa; (s.relocate p.1 p.2).1 / 64

/-- A lead request that the lead's regulator and the guarantee bucket both admit (R226, step 1). -/
def State.firstClass (s : State) (r : MemReq) : Bool :=
  (match s.ctx? r.ctx with | some c => c.lead | none => false)
    && s.admissible r.ctx r.data.isSome r.bytes && s.guaranteed r.bytes

/-- A request is the next its stack controller serves (R226): one of step 1; or, with none of those there, an admissible one whose
context comes first after the one served last, with the system class as one more context. -/
def State.isNext (s : State) (r : MemReq) : Bool :=
  let k := s.ctrlOf r.pa
  let here := s.mem.queue.filter (fun (y : MemReq) => decide (s.ctrlOf y.pa = k))
  let dist (y : MemReq) : Nat := (y.ctx + 16 - mget 16 s.mem.turns k) % 17
  s.admissible r.ctx r.data.isSome r.bytes && (s.firstClass r || (!here.any s.firstClass
    && (here.filter (fun y => s.admissible y.ctx y.data.isSome y.bytes)).all (fun y => decide (dist r ≤ dist y))))

/-- A request served, and the round-robin turn of its controller noted (R226). -/
def State.serveReq (s : State) (r : MemReq) : State :=
  (if s.firstClass r then s else { s with mem := { s.mem with turns := mset 16 s.mem.turns (s.ctrlOf r.pa) r.ctx } }).sliceServe r.pa r.data

/-- An access to a stack address at its home slice: a 64-byte sector read, or a write inside one line. It waits there while
its regulator does not admit it or its controller serves others first (R206, R207, R225, R226); a line in the middle of its ordered
sequence holds a read (R214). -/
def execCacheAccess (pa : Nat) (write : Option (List Byte)) (s : State) : Host.Outcome State Fault Refusal :=
  let len := match write with
    | some bs => bs.length
    | none => 64 - pa % 64
  if s.place pa = .stack ∧ 0 < len ∧ pa % 256 + len ≤ 256 then
    if write = none ∧ s.midSeq (pa / 256) = true then .next s
    else
      let own := s.pageOwner pa
      match s.stackNeed pa write with
      | none => .next (s.sliceServe pa write)
      | some (w, n) =>
        let r : MemReq := ⟨own, pa, len, write, none⟩
        if s.admissible own w n && s.isNext r then .next (s.serveReq r)
        else .next { s with mem := { s.mem with queue := s.mem.queue ++ [r] } }
  else .next s

/-- Waiting request `i` becomes admissible, after the least number of FCLK that makes it so (log entry 8), and is served; it does not
come about while its stack controller has another request to serve first (R225, R226). -/
def execRequestAdmit (i : Nat) (s : State) : Host.Outcome State Fault Refusal :=
  match s.mem.queue[i]? with
  | none => .next s
  | some r =>
    let s1 := s.passFclk (s.waitFclk (bucketOf r.ctx r.data.isSome) r.bytes)
    if s1.isNext r then .next (({ s1 with mem := { s1.mem with queue := dropAt s1.mem.queue i } }).serveReq r)
    else .next s

/-- Waiting access `i` has waited 10 ms for a way: a kernel's faults, a host or RDMA access is forwarded uncached; one that is no longer
held up is made (R208). -/
def execCacheSetWaitLimit (i : Nat) (s : State) : Host.Outcome State Fault Refusal :=
  match s.mem.waiters[i]? with
  | none => .next s
  | some r =>
    let held := s.blocked r
    let s := { s with mem := { s.mem with waiters := dropAt s.mem.waiters i } }
    match r.kernel with
    | some (n, pc, cls, op) => if held then .next (s.kernelFault n ⟨.waitLimit, ⟨pc, cls, op⟩, 0, none⟩) else .next s
    | none => .next (s.serveWaiter r)

/-- A newly found uncorrectable error is reported by the scrubber (R234). -/
def State.scrubEvent (s : State) (found : Bool) (level addr : Nat) : State :=
  if found then s.post 0x0020 2 none [w64 level, w64 addr] else s

/-- A stack granule's blocks scrubbed one after another: whether an error not met before was found. -/
def scrubBlocks : List Nat → State → Bool × State
  | [], s => (false, s)
  | b :: t, s =>
    let fresh := decide (mget stkOk s.mem.stackEcc (s.stackKey b / 64) = stkUe)
    match s.stackBlock b with
    | (_, s) =>
      match scrubBlocks t s with
      | (f, s) => (fresh || f, s)

/-- The scrubber reads the next Apron word (level 0), Wings line (1) or stack granule (2) at a device physical address
(R234). -/
def execScrubRead (level : Nat) (addr : Nat) (s : State) : Host.Outcome State Fault Refusal :=
  match level, s.place addr with
  | 0, .apron n off =>
    let sc := eccScan (s.stage n).ap.ecc (off / 8) 1
    match s.apRead n (off / 8 * 8) 8 5 with
    | (_, _, s) => .next (s.scrubEvent (!sc.ue.isEmpty) 0 (addr / 8 * 8))
  | 1, .scratch o =>
    if s.fld .wngScrub 0 12 12 = 0 then .next s
    else
      let sc := eccScan s.mem.scratchEcc (o / 256 * 16) 16
      match s.scratchRead (o / 256 * 256) 256 with
      | (_, _, s) => .next (s.scrubEvent (!sc.ue.isEmpty) 1 (addr / 256 * 256))
  | 1, .stack =>
    if s.fld .wngScrub 0 12 12 = 0 then .next s
    else
      match s.mem.lines.find? (fun l => decide (l.line = addr / 256)) with
      | none => .next s
      | some l =>
        let sc := l.scan 0 256
        let s := { s with
          mem := { s.mem with
            lines := s.mem.lines.map (fun (x : CLine) => if x.line = l.line then { x with ecc := sc.ecc } else x) } }
        .next ((s.countWings (s.sliceSet l.line).1 (256 * l.line) true sc).scrubEvent (!sc.ue.isEmpty) 1
          (addr / 256 * 256))
  | 2, .stack =>
    if s.fld .hbmScrub 0 8 8 = 0 then .next s
    else
      let g := addr / 256 * 256
      match scrubBlocks [g, g + 64, g + 128, g + 192] ((s.charge 16 false 256).stackMoved g 256 false) with
      | (f, s) => .next (s.scrubEvent f 2 g)
  | _, _ => .next s

end Sys2Proof.Machine
end

