-- ==== Sys2Proof/Machine/Draw.lean ====
section
/-! DEFINITION. Random draws: the keyed coordinates and the extraction (R167-R170). -/

namespace Sys2Proof.Machine

/-- The seed of an instance's context (R168). -/
def State.seedOf (s : State) (i : Inst) : W64 := match s.ctx? i.ctx with
  | some c => c.seed
  | none => 0

/-- x0 of the keyed draw for logical row `row` and column `c` (R168). -/
def keyedDraw (seed : W64) (i : Inst) (tensor tileRow tileCol draw row c : Nat) : W32 :=
  let stp := if i.lead then i.step else 0
  let vr := if i.lead then i.vrank else 0
  let k0 := BitVec.ofNat 32 seed.toNat ^^^ BitVec.ofNat 32 stp
  let k1 := BitVec.ofNat 32 (seed.toNat / 2 ^ 32) ^^^ BitVec.ofNat 32 (vr % 65536 * 65536)
    ^^^ BitVec.ofNat 32 (i.mb.toNat % 65536)
  (philox (BitVec.ofNat 32 tensor) (BitVec.ofNat 32 tileRow) (BitVec.ofNat 32 tileCol)
    (BitVec.ofNat 32 (draw % 2 ^ 14 * 2 ^ 18 + row % 2 ^ 10 * 2 ^ 8 + c % 256)) k0 k1).1

/-- x0 of a free-mode draw of lane `c` on Stage `n` at a counter value (R170). -/
def freeDraw (seed : W64) (n c : Nat) (ctr : BitVec 128) : W32 :=
  let w (k : Nat) : W32 := BitVec.ofNat 32 (ctr.toNat / 2 ^ (32 * k))
  (philox (w 0) (w 1) (w 2) (w 3) (BitVec.ofNat 32 seed.toNat ^^^ BitVec.ofNat 32 (n % 256 * 256 + c % 256))
    (BitVec.ofNat 32 (seed.toNat / 2 ^ 32))).1

/-- r16 and the 24 bits of u (R169). -/
def draw16 (x : W32) : Nat := x.toNat / 65536
def draw24 (x : W32) : Nat := x.toNat / 256

end Sys2Proof.Machine
end

