-- ==== Sys2Proof/Machine/Convert.lean ====
section
/-! DEFINITION. Output conversion shared by drains and vector stores: format codes, roundings, one row of 256 elements, and
a row's bytes in Apron (R28-R31, R38-R43, R54, R75-R77, R162-R164). -/

namespace Sys2Proof.Machine

/-- An 8-bit two's-complement field. -/
def int8 (x : Nat) : Int := (BitVec.ofNat 8 x).toInt

/-- A tag's exponent as the kernel latched it (R48). -/
def Inst.tagExp (i : Inst) (tag : Nat) : Int := mget 0 i.exps tag

/-- The clamp of scale exponents. -/
def clampK (k : Int) : Int := max (-127) (min 127 k)

/-- The element format and MX property of an output code (R75, R162). -/
def outFmt : Nat → Fmt × Bool
  | 0x2 => (.bf16, false) | 0x3 => (.fp16, false) | 0x4 => (.e4m3, false) | 0x5 => (.e5m2, false)
  | 0x6 => (.e4m3, true) | 0x7 => (.e5m2, true) | 0x8 => (.e2m3, true) | 0x9 => (.e3m2, true)
  | 0xA => (.e2m1, true) | _ => (.b32, false)

/-- The rounding of a code (R75, R162) with the element's r16. -/
def rndOf (rnd r16 : Nat) : Rnd := if rnd = 0 then .rne else if rnd = 1 then .rtz else .sto r16

/-- A value scaled by 2^k. -/
def FV.scale (k : Int) : FV → FV
  | .fin n m e => .fin n m (e + k)
  | x => x

/-- One row converted to a code other than wide (R39-R43, R76, R77): element bits and scale bytes. -/
def convRow (code : Nat) (rnd : Nat) (sat : Bool) (k : Int) (r16 : Nat → Nat) (xs : List FV) : List Nat × List Nat :=
  match outFmt code with
  | (f, true) =>
    let bl := (chunks 32 8 xs).zipIdx.map (fun p => convBlock f (fun j => rndOf rnd (r16 (32 * p.2 + j))) k p.1)
    (bl.flatMap (fun b => b.2), bl.map (fun b => b.1))
  | (f, false) => (xs.zipIdx.map (fun p => f.conv (rndOf rnd (r16 p.2)) sat k p.1), [])

/-- Bits per element of a memory row of an output code; FP6 elements take a byte each (R29, R54). -/
def codeBits : Nat → Nat
  | 0x0 => 32 | 0x1 => 64 | 0x2 => 16 | 0x3 => 16 | 0xA => 4 | 0xB => 32 | _ => 8

/-- Bytes of a memory row of 256 elements. -/
def rowBytes (code : Nat) : Nat := 32 * codeBits code

/-- Elements of `w` bits packed upward from bit 0. -/
def packNat (w : Nat) : List Nat → Nat
  | [] => 0
  | x :: t => x % 2 ^ w + 2 ^ w * packNat w t

/-- The bytes of a row. -/
def packRow (code : Nat) (xs : List Nat) : List Byte := leBytes (rowBytes code) (packNat (codeBits code) xs)

/-- The `n` elements of `w` bits in a number. -/
def unpackNat (w : Nat) : Nat → Nat → List Nat
  | 0, _ => []
  | n + 1, x => x % 2 ^ w :: unpackNat w n (x / 2 ^ w)

/-- The elements of a row of bytes; bits above an FP6 element are ignored (R29). -/
def unpackRow (code : Nat) (bs : List Byte) : List Nat :=
  (unpackNat (codeBits code) 256 (ofLe bs)).map (fun x => if code = 0x8 ∨ code = 0x9 then x % 64 else x)

/-- An element widened to binary32 (R38, R149, R163); a NaN becomes the canonical one (R25). -/
def widen (code bits scale : Nat) : W32 :=
  match outFmt code with
  | (f, true) => rne32 (scaleElem f bits scale)
  | (.b32, false) => f32cpy (BitVec.ofNat 32 bits)
  | (f, false) => rne32 (f.decode bits)

end Sys2Proof.Machine
end

