-- ==== Sys2Proof/Machine/VecOps.lean ====
section
/-! DEFINITION. Operations of the Snare's storage: operand sources, tile-buffer and broadcast rows with their errors,
row-valid bits, Apron accesses in program order, the vector access descriptor, draws and Tally contributions (R145-R152,
R162, R167-R170, R176-R179). -/

namespace Sys2Proof.Machine

/-- What a vector instruction comes to: done, with the Apron writes it makes; a fault, with the rows it has started, the faulting one
included; or a pop that waits for an entry. -/
inductive VOut where
  | ok (s : State) (w : List (Nat × List Byte))
  | fault (s : State) (w : List (Nat × List Byte)) (c : Cause) (info : W64) (rows : Nat := 0)
  | hold

/-- Rows worked off in ascending order (R152); the first fault stops the rest (R151, R163). -/
def vrows (f : State → Nat → VOut) : List Nat → State → List (Nat × List Byte) → VOut
  | [], s, w => .ok s w
  | j :: t, s, w =>
    match f s j with
    | .ok s w1 => match vrows f t s (w ++ w1) with
      | .fault s w c x k => .fault s w c x (k + 1)
      | o => o
    | .fault s w1 c x k => .fault s (w ++ w1) c x (k + 1)
    | .hold => .hold

/-- The rows of an instruction. -/
def vrange (row0 nr : Nat) : List Nat := (List.range (nr + 1)).map (fun j => row0 + j)

/-- ROW0 + NR above 63 (R156). -/
def rowsBad (row0 nr : BitVec 6) : Bool := decide (row0.toNat + nr.toNat > 63)

/-- A source code names a tile buffer (R147). -/
abbrev isTile (code : Nat) : Bool := decide (code ≤ 5)

/-- A row-valid bit; broadcast and scalar sources carry none and count as valid (R148, R159). -/
def Snr.rowValid (sn : Snr) (code r : Nat) : Bool := !isTile code || (mget 0 sn.valid code).getLsbD r

/-- A row-valid bit set or cleared. -/
def State.setValid (s : State) (n buf r : Nat) (b : Bool) : State :=
  s.modStage n (fun t =>
    let v := mget 0 t.sn.valid buf
    { t with sn := { t.sn with valid := mset 0 t.sn.valid buf (setBits v r r (if b then 1 else 0)) } })

/-- First element and count of a broadcast register: bvr0, bvr1, bvc0, bvc1 (R97, R145). -/
def bvBase (code : Nat) : Nat := if code < 8 then 256 * (code - 6) else 512 + 64 * (code - 8)
def bvLen (code : Nat) : Nat := if code < 8 then 256 else 64

/-- Snare errors counted (R192): place of the last double-bit error. -/
def State.countSnr (s : State) (n wh row : Nat) (sc : Scan) : State :=
  let s := if sc.ce = 0 then s else s.satBump .stgSnrEcc n 31 0 sc.ce
  if sc.ue.isEmpty then s
  else (((s.noteUes n sc.ue.length).satBump .stgSnrEcc n 47 32 sc.ue.length).setFld .stgSnrEcc n 50 48 wh).setFld .stgSnrEcc n 56 51 row

/-- Elements `k` to `k + len − 1` of the broadcast registers read with their errors (R151). -/
def State.bvRead (s : State) (n code k len : Nat) : List W32 × Bool × State :=
  let t := s.stage n
  let u := unitsOf 2 k len
  let sc := eccScan t.sn.bvEcc u.1 u.2
  (mgetRun 0 t.sn.bv k len, !sc.bad.isEmpty,
    (s.setStage n { t with sn := { t.sn with bvEcc := sc.ecc } }).countSnr n 6 (code - 6) sc)

/-- Elements of the broadcast registers written; one half of a poisoned word is discarded (R233). -/
def State.bvWrite (s : State) (n code k : Nat) (vs : List W32) : State :=
  let t := s.stage n
  let whole := wholeOf 2 k vs.length
  let u := unitsOf 2 k vs.length
  let sc := eccScan (eccClear t.sn.bvEcc whole.1 whole.2) u.1 u.2
  let bv := if sc.bad.isEmpty then msetRun 0 t.sn.bv k vs else t.sn.bv
  (s.setStage n { t with sn := { t.sn with bv := bv, bvEcc := sc.ecc } }).countSnr n 6 (code - 6) sc

/-- The 256 elements an operand gives to buffer row `r` (R146, R147), and whether a word of them is poisoned (R151). -/
def State.vsrc (s : State) (n code r : Nat) (sr : W64) : List W32 × Bool × State :=
  if code ≤ 5 then
    let t := s.stage n
    let k := 16384 * code + 256 * r
    let sc := eccScan t.sn.vbEcc (k / 2) 128
    (mgetRun 0 t.sn.vb k 256, !sc.bad.isEmpty,
      (s.setStage n { t with sn := { t.sn with vbEcc := sc.ecc } }).countSnr n code r sc)
  else if code ≤ 7 then s.bvRead n code (bvBase code) 256
  else if code ≤ 9 then
    match s.bvRead n code (bvBase code + r) 1 with
    | (vs, bad, s) => (List.replicate 256 (vs.headD 0), bad, s)
  else (List.replicate 256 (sr.setWidth 32), false, s)

/-- A tile-buffer row written whole: its errors clear (R233). -/
def State.vdst (s : State) (n buf r : Nat) (vs : List W32) : State :=
  s.modStage n (fun t =>
    let k := 16384 * buf + 256 * r
    { t with sn := { t.sn with vb := msetRun 0 t.sn.vb k vs, vbEcc := eccClear t.sn.vbEcc (k / 2) 128 } })

/-- Sources read one after another. -/
def State.vsrcs (n r : Nat) (sr : W64) : List Nat → State → List (List W32) × Bool × State
  | [], s => ([], false, s)
  | c :: t, s =>
    match s.vsrc n c r sr with
    | (x, bad, s) =>
      match State.vsrcs n r sr t s with
      | (xs, bad', s) => (x :: xs, bad || bad', s)

/-- Apron writes the Snare has worked off and not completed, in order. -/
def Snr.pendingWrites (sn : Snr) : List (Nat × List Byte) :=
  sn.queue.flatMap (fun e => if e.done then e.writes else [])

/-- One write laid over the bytes of a run at `a`. -/
def overlay (a : Nat) (bs : List Byte) (w : Nat × List Byte) : List Byte :=
  bs.zipIdx.map (fun p => if w.1 ≤ a + p.2 ∧ a + p.2 < w.1 + w.2.length then w.2.getD (a + p.2 - w.1) p.1 else p.1)

/-- An Apron read of the Snare (R155, R163): Apron, with the Snare's own earlier stores over it; poison counts unless such
a store covers its word. -/
def State.vread (s : State) (n a len : Nat) : List Byte × Bool × State :=
  let ws := (s.stage n).sn.pendingWrites.filter (fun w => decide (w.1 < a + len ∧ a < w.1 + w.2.length))
  match s.apRead n a len 2 with
  | (bs, bad, s) =>
    if ws.isEmpty then (bs, bad, s)
    else
      let u := unitsOf 8 a len
      let left := ((s.stage n).ap.ecc.filter (fun e => decide (u.1 ≤ e.1 ∧ e.1 < u.1 + u.2 ∧ e.2 = eccBad))).filter
        (fun e => !ws.any (fun w => decide (w.1 ≤ 8 * e.1 ∧ 8 * e.1 + 8 ≤ w.1 + w.2.length)))
      (ws.foldl (overlay a) bs, !left.isEmpty, s)

/-- Stores that reach Apron (R154). DESIGN CHOICE (log entry 27): a reader that does not wait (R104) finds the old bytes until the
instruction completes and the new ones from then on. -/
def State.landWrites (s : State) (n : Nat) (ws : List (Nat × List Byte)) : State :=
  ws.foldl (fun s w => s.apWrite n w.1 2 w.2) s

/-- A 64-byte record in the data region: its eight words, or the fault (R162, R173, R195). -/
def State.vrecord (s : State) (n : Nat) (i : Inst) (a : W64) : (List W64 ⊕ (Cause × W64)) × State :=
  match i.record? a 64 64 with
  | none => (.inr (.address, a), s)
  | some pa =>
    match s.vread n pa 64 with
    | (bs, bad, s) => if bad then (.inr (.poison, 0), s) else (.inl (leWords 8 bs), s)

/-- The vector access descriptor (R162). -/
structure Vad where
  base : Nat
  stride : Nat
  fmt : Nat
  rnd : Nat
  sat : Bool
  fromTag : Bool
  kexp : Int
  tag : Nat
  stream : Nat
  tally : Bool
  freeMode : Bool
  draw : Nat
  tensor : Nat
  lrow : Nat
  tileRow : Nat
  tileCol : Nat
  sbase : Nat
  sstride : Nat
  deriving DecidableEq, Repr

def vad (w : List W64) : Vad :=
  let b (k hi lo : Nat) : Nat := bitsOf (w.getD k 0) hi lo
  { base := b 0 22 0, stride := b 0 47 32, fmt := b 1 3 0, rnd := b 1 5 4, sat := decide (b 1 6 6 = 1)
    fromTag := decide (b 1 7 7 = 1), kexp := int8 (b 1 15 8), tag := b 1 27 16, stream := b 1 29 28
    tally := decide (b 1 30 30 = 1), freeMode := decide (b 1 31 31 = 1), draw := b 1 45 32, tensor := b 2 31 0
    lrow := b 2 41 32, tileRow := b 3 31 0, tileCol := b 3 63 32, sbase := b 4 22 0, sstride := b 4 47 32 }

/-- The descriptor faults of a load or store (R162). -/
def Vad.bad (d : Vad) (wide isLoad : Bool) (nr : Nat) : Bool :=
  decide (d.fmt > 0xB) || decide (d.rnd = 3) || decide (d.kexp = -128) || (decide (d.fmt = 1) != wide)
    || (decide (d.fmt = 0xB) && isLoad) || decide (d.lrow + nr > 1023)

/-- Row `j`'s bytes and, for MX formats, its scale record, as data-region offsets. -/
def Vad.rowOff (d : Vad) (j : Nat) : Nat := d.base + j * d.stride
def Vad.sclOff (d : Vad) (j : Nat) : Nat := d.sbase + j * d.sstride

/-- The address R66 refuses among the rows moved, if any: misaligned, outside the region, or strides too small. -/
def Vad.badAddr (d : Vad) (i : Inst) (js : List Nat) : Option Nat :=
  let mx := (outFmt d.fmt).2
  if d.stride % 64 ≠ 0 ∨ d.stride < rowBytes d.fmt ∨ (mx = true ∧ d.sstride < 8) then some d.base
  else
    js.findSome? (fun j =>
      if d.rowOff j % 64 ≠ 0 ∨ i.inData (w64 (d.rowOff j)) (rowBytes d.fmt) = false then some (d.rowOff j)
      else if mx = true ∧ i.inData (w64 (d.sclOff j)) 8 = false then some (d.sclOff j)
      else none)

/-- x0 of the draws of every lane for row `j` of an instruction (R167-R170); in free mode the counter has advanced by an
amount the model leaves free (log entry 12). -/
def State.vdraws (s : State) (n : Nat) (i : Inst) (d : Vad) (j : Nat) : List W32 × State :=
  let seed := s.seedOf i
  if d.freeMode then
    match s.free with
    | (w, s) =>
      let ctr := mget 0 (s.stage n).rng i.ctx + w.setWidth 128
      ((List.range 256).map (fun c => freeDraw seed n c ctr),
        s.modStage n (fun t => { t with rng := mset 0 t.rng i.ctx ctr }))
  else ((List.range 256).map (fun c => keyedDraw seed i d.tensor d.tileRow d.tileCol d.draw (d.lrow + j) c), s)

/-- Whether the instance's contributions count (R178). -/
def Inst.tallies (i : Inst) : Bool := i.lead && !i.noTally

/-- The distinct tags the kernel of a launch has named so far, on the Stages that run its instances and by instances that have ended. -/
def State.kernelTags (s : State) (l : Nat) : List Nat :=
  (s.stages.flatMap (fun e => match e.2.inst with
    | some j => if j.launch = l then e.2.tags else []
    | none => []) ++ (match s.launch? l with | some x => x.tags | none => [])).eraseDups

/-- A contribution under a tag: a 17th distinct tag of the kernel is refused (R177). -/
def State.tagTally (s : State) (n : Nat) (i : Inst) (tag : Nat) : Option State :=
  let t := s.stage n
  if !i.tallies || t.tags.contains tag then some s
  else
    let ks := s.kernelTags i.launch
    if !ks.contains tag && decide (16 ≤ ks.length) then none
    else some (s.setStage n { t with tags := tag :: t.tags })

/-- Values tallied under a tag and stream (R176, R178). -/
def State.tallyVals (s : State) (n : Nat) (i : Inst) (tag stream : Nat) (xs : List W32) : State :=
  if i.tallies then
    s.modStage n (fun t => { t with tally := xs.foldl (fun y x => y.see tag stream x) t.tally })
  else s

end Sys2Proof.Machine
end

