-- ==== Sys2Proof/Machine/Snare.lean ====
section
/-! DEFINITION. What the Snare does with each vector instruction, in program order, and its completion (R148-R154,
R157-R166, R171-R179, R194, R195). -/

namespace Sys2Proof.Machine

/-- Sources of an elementwise operation (R157). -/
def EwOp.arity : EwOp → Nat
  | .abs => 1 | .neg => 1 | .cpy => 1 | .cnan => 1 | .exp => 1 | .rcp => 1 | .rsq => 1
  | .fma => 3 | .fms => 3 | .fnma => 3 | .sel => 3
  | _ => 2

/-- Result per element (R157, R158). The approximations draw on a free candidate within their bounds (log entry 10). -/
def EwOp.eval (f : EwOp) (a b c : W32) : W32 :=
  match f with
  | .add => f32add a b
  | .sub => f32sub a b
  | .mul => f32mul a b
  | .fma => f32fma a b c
  | .fms => f32fms a b c
  | .fnma => f32fnma a b c
  | .min => f32min a b
  | .max => f32max a b
  | .abs => f32abs a
  | .neg => f32neg a
  | .cpy => f32cpy a
  | .ceq => f32bool (f32eq a b)
  | .cne => f32bool (!f32eq a b)
  | .clt => f32bool (f32lt a b)
  | .cle => f32bool (f32le a b)
  | .cnan => f32bool (isNan32 a)
  | .sel => f32cpy (if (fv32 c).isZero then b else a)
  | .exp => exp32 (Config.approxBits 0 a) a
  | .rcp => rcp32 (Config.approxBits 1 a) a
  | .rsq => rsq32 (Config.approxBits 2 a) a

/-- The source codes an operation uses. -/
def EwOp.srcs (f : EwOp) (o : VOp) : List Nat := [o.sa.toNat, o.sb.toNat, o.sc.toNat].take f.arity

/-- Three operand rows combined element by element. -/
def zip3 (f : W32 → W32 → W32 → W32) (xs : List (List W32)) : List W32 :=
  let a := xs.getD 0 []
  let b := xs.getD 1 []
  let c := xs.getD 2 []
  a.zipIdx.map (fun p => f p.1 (b.getD p.2 0) (c.getD p.2 0))

/-- Row `r` of an elementwise instruction (R148, R151). -/
def ewRow (n : Nat) (f : EwOp) (vd : Nat) (srcs : List Nat) (sr : W64) (s : State) (r : Nat) : VOut :=
  let ok := srcs.all (fun c => (s.stage n).sn.rowValid c r)
  if ok then
    match State.vsrcs n r sr srcs s with
    | (xs, bad, s) =>
      if bad then .fault s [] .poison 0
      else .ok ((s.vdst n vd r (zip3 f.eval xs)).setValid n vd r true) []
  else .ok (s.setValid n vd r false) []

/-- Reductions: the combination, the value of an excluded position, what is reduced (R45, R159). -/
def RedOp.comb : RedOp → W32 → W32 → W32
  | .rsum => f32add | .csum => f32add | _ => f32max
def RedOp.zero : RedOp → W32
  | .rmax => ninf32 | .cmax => ninf32 | _ => 0
def RedOp.pre : RedOp → W32 → W32
  | .ramax => f32abs | .camax => f32abs | _ => fun x => x
def RedOp.byRow : RedOp → Bool
  | .rsum => true | .rmax => true | .ramax => true | _ => false

/-- Row `r` of a row reduction, into element r of a column vector (R159). -/
def rredRow (n : Nat) (f : RedOp) (o : VOp) (sr : W64) (s : State) (r : Nat) : VOut :=
  let vd := o.vd.toNat
  let k := bvBase vd + r
  let fin (s : State) (res : W32) : VOut :=
    if o.acc then
      match s.bvRead n vd k 1 with
      | (p, bad, s) =>
        if bad then .fault s [] .poison 0 else .ok (s.bvWrite n vd k [f.comb (p.headD 0) res]) []
    else .ok (s.bvWrite n vd k [res]) []
  if (s.stage n).sn.rowValid o.sa.toNat r then
    match s.vsrc n o.sa.toNat r sr with
    | (x, bad, s) => if bad then .fault s [] .poison 0 else fin s (pairTree f.comb f.zero 8 (x.map f.pre))
  else fin s f.zero

/-- The rows of a column reduction collected: (row, elements); where a row is poisoned, how many come before it. -/
def collect (n code : Nat) (sr : W64) : List Nat → State → List (Nat × List W32) × Option Nat × State
  | [], s => ([], none, s)
  | r :: t, s =>
    if (s.stage n).sn.rowValid code r then
      match s.vsrc n code r sr with
      | (x, bad, s) =>
        if bad then ([], some 0, s)
        else
          match collect n code sr t s with
          | (xs, k, s) => ((r, x) :: xs, k.map (fun k => k + 1), s)
    else
      match collect n code sr t s with
      | (xs, k, s) => (xs, k.map (fun k => k + 1), s)

/-- A column reduction over buffer rows 0-63 (R159). A fault tells the rows begun, of a poisoned ACC operand all of them and one more (R193). -/
def cred (n : Nat) (f : RedOp) (o : VOp) (sr : W64) (s : State) : VOut :=
  let vd := o.vd.toNat
  match collect n o.sa.toNat sr (vrange o.row0.toNat o.nr.toNat) s with
  | (_, some k, s) => .fault s [] .poison 0 (k + 1)
  | (rows, none, s) =>
    let at64 (c : Nat) : List W32 := (List.range 64).map (fun r =>
      match rows.find? (fun p => decide (p.1 = r)) with
      | some p => f.pre (p.2.getD c 0)
      | none => f.zero)
    let res := (List.range 256).map (fun c => pairTree f.comb f.zero 6 (at64 c))
    if o.acc then
      match s.bvRead n vd (bvBase vd) 256 with
      | (p, bad, s) =>
        if bad then .fault s [] .poison 0 (o.nr.toNat + 2)
        else .ok (s.bvWrite n vd (bvBase vd) ((p.zip res).map (fun q => f.comb q.1 q.2))) []
    else .ok (s.bvWrite n vd (bvBase vd) res) []

/-- Errors of a finished-tile queue entry met when it is taken (R151, R192). -/
def State.takeFtq (s : State) (n : Nat) (k : Nat) : Bool × State :=
  let t := s.stage n
  let sc := t.mx.ftq.take k |>.map (fun e => (e, eccScan e.ecc 0 4096))
  let bad := sc.any (fun p => p.1.poison || !p.2.bad.isEmpty)
  let s := s.modStage n (fun t => { t with mx := Mxa.noteReady { t.mx with ftq := t.mx.ftq.drop k } })
  (bad, sc.foldl (fun s p => s.countSnr n 7 (p.2.ue.getLast?.getD 0 / 128) p.2) s)

/-- An entry's row widened to binary32 (R149). -/
def FtqEnt.row (e : FtqEnt) (r : Nat) : List W32 :=
  (mgetRun 0 e.vals (256 * r) 256).zipIdx.map (fun p =>
    if e.fmt ≤ 1 then p.1 else widen e.fmt p.1.toNat (mget 0 e.scales (8 * r + p.2 / 32)).toNat)

/-- An entry's 16 rows and valid bits copied into a buffer (R149, R150). -/
def State.putEnt (s : State) (n buf blk : Nat) (e : FtqEnt) : State :=
  (List.range 16).foldl (fun s r =>
    (s.vdst n buf (16 * blk + r) (e.row r)).setValid n buf (16 * blk + r) (e.valid.getLsbD r)) s

/-- VPOP (R149). -/
def vpop (n vd blk : Nat) (s : State) : VOut :=
  match (s.stage n).mx.ftq with
  | [] => .hold
  | e :: _ =>
    if e.fmt = 1 then .fault s [] .descriptor 0
    else
      match s.takeFtq n 1 with
      | (bad, s) => if bad then .fault s [] .poison 0 else .ok (s.putEnt n vd blk e) []

/-- VPOPW (R150). -/
def vpopw (n vd blk : Nat) (s : State) : VOut :=
  match (s.stage n).mx.ftq with
  | [] => .hold
  | e :: t =>
    if e.fmt ≠ 1 ∨ e.lo = true then .fault s [] .descriptor 0
    else
      match t with
      | [] => .hold
      | f :: _ =>
        if f.fmt ≠ 1 ∨ f.lo = false then .fault s [] .descriptor 0
        else
          match s.takeFtq n 2 with
          | (bad, s) =>
            if bad then .fault s [] .poison 0 else .ok ((s.putEnt n vd blk e).putEnt n (vd + 1) blk f) []

/-- The instance's exponent or the descriptor's, which is what a fill context uses (R48, R162). -/
def Vad.k (d : Vad) (i : Inst) : Int := if d.fromTag && i.lead then i.tagExp d.tag else d.kexp

/-- A wide element as VLDW takes it (R24, R25, R164): a NaN becomes the canonical one. -/
def wideHi (x : Nat) : W32 := f32cpy (BitVec.ofNat 32 x)
def wideLo (x : Nat) : W32 := if isNan32 (BitVec.ofNat 32 x) then 0 else f32cpy (BitVec.ofNat 32 (x / 2 ^ 32))

/-- Row `j` of VLD or VLDW (R163, R164). -/
def ldRow (n : Nat) (i : Inst) (d : Vad) (vd row0 : Nat) (wide : Bool) (s : State) (j : Nat) : VOut :=
  let r := row0 + j
  match s.vread n (i.dataAddr (d.rowOff j)) (rowBytes d.fmt) with
  | (bs, bad, s) =>
    match (if (outFmt d.fmt).2 then s.vread n (i.dataAddr (d.sclOff j)) 8 else ([], false, s)) with
    | (ss, sbad, s) =>
      if bad || sbad then .fault s [] .poison 0
      else
        let xs := unpackRow d.fmt bs
        if wide then
          .ok ((((s.vdst n vd r (xs.map wideHi)).vdst n (vd + 1) r (xs.map wideLo)).setValid n vd r true).setValid n (vd + 1) r true) []
        else
          .ok ((s.vdst n vd r (xs.zipIdx.map (fun p => widen d.fmt p.1 (ss.getD (p.2 / 32) 0).toNat))).setValid n vd r
            true) []

/-- The bytes a stored row takes: elements and scale record (R164). -/
def stBytes (i : Inst) (d : Vad) (xs : List W32) (x0 : List W32) : List Byte × List Byte :=
  let r16 (c : Nat) : Nat := draw16 (x0.getD c 0)
  if d.fmt = 0xB then
    (packRow 0xB (xs.zipIdx.map (fun p => (toInt32 (rndOf d.rnd (r16 p.2)) (d.k i) (fv32 p.1)).toNat)), [])
  else
    let c := convRow d.fmt d.rnd d.sat (d.k i) r16 (xs.map fv32)
    (packRow d.fmt c.1, c.2.map (fun b => BitVec.ofNat 8 b))

/-- A wide element as VSTW writes it (R24, R25, R164): the two buffers' exact sum in the form of R24, which a pair that has it keeps. -/
def wideOut (h l : W32) : W32 × W32 := if (fv32 h).isZero && (fv32 l).isZero then (f32cpy h, 0) else wideOf (fvWide h l)

/-- Row `j` of VST or VSTW (R164, R176): an invalid row stores nothing. DESIGN CHOICE (log entry 17): of a pair it is the hi buffer's
row-valid bit that counts. -/
def stRow (n : Nat) (i : Inst) (d : Vad) (vs row0 : Nat) (wide : Bool) (s : State) (j : Nat) : VOut :=
  let r := row0 + j
  if (s.stage n).sn.rowValid vs r then
    match s.vsrc n vs r 0 with
    | (xs, bad, s) =>
      match (if wide then s.vsrc n (vs + 1) r 0 else ([], false, s)) with
      | (ls, lbad, s) =>
        if bad || lbad then .fault s [] .poison 0
        else
          let s := if d.tally then s.tallyVals n i d.tag d.stream xs else s
          let a := i.dataAddr (d.rowOff j)
          if wide then .ok s [(a, packRow 1 ((xs.zip ls).map (fun p => let w := wideOut p.1 p.2; w.1.toNat + w.2.toNat * 2 ^ 32)))]
          else
            match (if d.rnd = 2 then s.vdraws n i d j else ([], s)) with
            | (x0, s) =>
              let b := stBytes i d xs x0
              .ok s ((a, b.1) :: (if b.2.isEmpty then [] else [(i.dataAddr (d.sclOff j), b.2)]))
  else .ok s []

/-- VLD, VLDW, VST, VSTW: the descriptor read and checked when the instruction starts, then its rows (R162-R164). -/
def vmove (n : Nat) (i : Inst) (o : VMem) (ra : W64) (wide isLoad : Bool) (s : State) : VOut :=
  match s.vrecord n i ra with
  | (.inr f, s) => .fault s [] f.1 f.2
  | (.inl ws, s) =>
    let d := vad ws
    let js := List.range (o.nr.toNat + 1)
    let row0 := o.row0.toNat
    let buf := o.vd.toNat
    if d.bad wide isLoad o.nr.toNat then .fault s [] .descriptor 0
    else
      match d.badAddr i (if isLoad then js else js.filter (fun j => (s.stage n).sn.rowValid buf (row0 + j))) with
      | some a => .fault s [] .address (w64 a)
      | none =>
        if isLoad then vrows (ldRow n i d buf row0 wide) js s []
        else
          match (if d.tally then s.tagTally n i d.tag else some s) with
          | none => .fault s [] .descriptor 0
          | some s => vrows (stRow n i d buf row0 wide) js s []

/-- VBLD and VBST (R160). -/
def vbld (n : Nat) (i : Inst) (b : Nat) (ra : W64) (s : State) : VOut :=
  match i.record? ra 64 (4 * bvLen b) with
  | none => .fault s [] .address ra
  | some a =>
    match s.vread n a (4 * bvLen b) with
    | (bs, bad, s) =>
      if bad then .fault s [] .poison 0
      else .ok (s.bvWrite n b (bvBase b) ((unpackNat 32 (bvLen b) (ofLe bs)).map (fun x => f32cpy (BitVec.ofNat 32 x)))) []

def vbst (n : Nat) (i : Inst) (b : Nat) (ra : W64) (s : State) : VOut :=
  match i.record? ra 64 (4 * bvLen b) with
  | none => .fault s [] .address ra
  | some a =>
    match s.bvRead n b (bvBase b) (bvLen b) with
    | (xs, bad, s) =>
      if bad then .fault s [] .poison 0
      else .ok s [(a, leBytes (4 * bvLen b) (packNat 32 (xs.map (fun x => x.toNat))))]

/-- VBROW: row ROW of SA (R160). -/
def vbrow (n b sa row : Nat) (s : State) : VOut :=
  match s.vsrc n sa row 0 with
  | (xs, bad, s) => if bad then .fault s [] .poison 0 else .ok (s.bvWrite n b (bvBase b) xs) []

/-- Element `col` of rows 0-63 of a source (VBCOL). -/
def vbcolVals (n sa col : Nat) : List Nat → State → List W32 × Bool × State
  | [], s => ([], false, s)
  | r :: t, s =>
    match s.vsrc n sa r 0 with
    | (xs, bad, s) =>
      match vbcolVals n sa col t s with
      | (ys, bad', s) => (xs.getD col 0 :: ys, bad || bad', s)

def vbcol (n b sa col : Nat) (s : State) : VOut :=
  match vbcolVals n sa col (List.range 64) s with
  | (xs, bad, s) => if bad then .fault s [] .poison 0 else .ok (s.bvWrite n b (bvBase b) xs) []

/-- The descriptor of VRNG or VDROP: only LROW + NR is checked (R162). -/
def vdrawDesc (n : Nat) (i : Inst) (ra : W64) (nr : Nat) (s : State) : (Vad ⊕ (Cause × W64)) × State :=
  match s.vrecord n i ra with
  | (.inr f, s) => (.inr f, s)
  | (.inl ws, s) => if (vad ws).lrow + nr > 1023 then (.inr (.descriptor, 0), s) else (.inl (vad ws), s)

/-- u of R169 in binary32. -/
def uniform (x : W32) : W32 := rne32 (.fin false (draw24 x) (-24))

/-- VRNG (R171). -/
def vrng (n : Nat) (i : Inst) (o : VMem) (ra : W64) (s : State) : VOut :=
  match vdrawDesc n i ra o.nr.toNat s with
  | (.inr f, s) => .fault s [] f.1 f.2
  | (.inl d, s) =>
    vrows (fun s j =>
      match s.vdraws n i d j with
      | (x0, s) => .ok ((s.vdst n o.vd.toNat (o.row0.toNat + j) (x0.map uniform)).setValid n o.vd.toNat
          (o.row0.toNat + j) true) []) (List.range (o.nr.toNat + 1)) s []

/-- VDROP (R172). -/
def vdrop (n : Nat) (i : Inst) (o : VMem) (sa : Nat) (ra sr : W64) (s : State) : VOut :=
  match vdrawDesc n i ra o.nr.toNat s with
  | (.inr f, s) => .fault s [] f.1 f.2
  | (.inl d, s) =>
    let p := sr.toNat % 2 ^ 24
    let factor : W32 := BitVec.ofNat 32 (sr.toNat / 2 ^ 32)
    vrows (fun s j =>
      let r := o.row0.toNat + j
      if (s.stage n).sn.rowValid sa r then
        match s.vsrc n sa r 0 with
        | (xs, bad, s) =>
          if bad then .fault s [] .poison 0
          else
            match s.vdraws n i d j with
            | (x0, s) =>
              .ok ((s.vdst n o.vd.toNat r ((xs.zip x0).map (fun q =>
                if p ≤ draw24 q.2 then f32mul q.1 factor else 0))).setValid n o.vd.toNat r true) []
      else .ok (s.setValid n o.vd.toNat r false) []) (List.range (o.nr.toNat + 1)) s []

/-- The order of R165: larger first, a NaN below −∞, equal values by column. -/
def rankBefore (a b : W32) : Bool :=
  if isNan32 a then false else if isNan32 b then true else decide (0 < (fv32 a).cmp (fv32 b))

/-- The value and column placed among ranked ones, after those that rank no lower. -/
def rankIns (x : W32 × Nat) : List (W32 × Nat) → List (W32 × Nat)
  | [] => [x]
  | y :: t => if rankBefore x.1 y.1 then x :: y :: t else y :: rankIns x t

/-- A row of VTOPK's result (R165). -/
def topkRow (ncol k : Nat) (row : List W32) : List W32 :=
  let best := ((row.take ncol).zipIdx.foldl (fun acc p => rankIns p acc) []).take k
  let vals := best.map (fun p => if isNan32 p.1 then nan32 else p.1)
  let idx := best.map (fun p => rne32 (.fin false p.2 0))
  vals ++ List.replicate (8 - vals.length) ninf32 ++ idx ++ List.replicate (8 - idx.length) 0xBF800000
    ++ List.replicate 240 0

/-- VTOPK (R165). -/
def vtopk (n vd sa row0 nr ncol k : Nat) (s : State) : VOut :=
  vrows (fun s r =>
    if (s.stage n).sn.rowValid sa r then
      match s.vsrc n sa r 0 with
      | (xs, bad, s) =>
        if bad then .fault s [] .poison 0 else .ok ((s.vdst n vd r (topkRow ncol k xs)).setValid n vd r true) []
    else .ok (s.setValid n vd r false) []) (vrange row0 nr) s []

/-- The two binary32 fields of a record word. -/
def recLo (ws : List W64) (k : Nat) : W32 := (ws.getD k 0).setWidth 32
def recHi (ws : List W64) (k : Nat) : W32 := BitVec.ofNat 32 ((ws.getD k 0).toNat / 2 ^ 32)

/-- m' of R174. -/
def momM (ws : List W64) (g m : W32) : W32 := f32fma (recLo ws 0) m (f32mul (recHi ws 0) g)

/-- v' of R174. -/
def momV (ws : List W64) (g v : W32) : W32 :=
  f32fma (f32mul (recHi ws 1) g) g (f32mul (recLo ws 1) v)

/-- VMOM (R174). -/
def vmom (n : Nat) (i : Inst) (vm vg vv row0 nr : Nat) (sr : W64) (s : State) : VOut :=
  match s.vrecord n i sr with
  | (.inr f, s) => .fault s [] f.1 f.2
  | (.inl ws, s) =>
    vrows (fun s r =>
      if [vg, vm, vv].all (fun c => (s.stage n).sn.rowValid c r) then
        match State.vsrcs n r 0 [vg, vm, vv] s with
        | (xs, bad, s) =>
          if bad then .fault s [] .poison 0
          else
            .ok ((((s.vdst n vm r (zip3 (fun g m _ => momM ws g m) xs)).vdst n vv r
              (zip3 (fun g _ v => momV ws g v) xs)).setValid n vm r true).setValid n vv r true) []
      else .ok ((s.setValid n vm r false).setValid n vv r false) []) (vrange row0 nr) s []

/-- w' of R175. -/
def updW (ws : List W64) (w m v : W32) : W32 :=
  let x := f32add (f32mul v (recHi ws 2)) (recLo ws 3)
  let r := rsq32 (Config.approxBits 2 x) x
  f32sub (f32sub w (f32mul w (recHi ws 3))) (f32mul (f32mul m (recLo ws 2)) r)

/-- VUPD (R175). -/
def vupd (n : Nat) (i : Inst) (vw vm vv vg row0 nr : Nat) (sr : W64) (s : State) : VOut :=
  match s.vrecord n i sr with
  | (.inr f, s) => .fault s [] f.1 f.2
  | (.inl ws, s) =>
    let w4 := (ws.getD 4 0).toNat
    let tag := w4 % 4096
    let en := w4.testBit 12
    match (if en then s.tagTally n i tag else some s) with
    | none => .fault s [] .descriptor 0
    | some s =>
      vrows (fun s r =>
        if [vw, vm, vv, vg].all (fun c => (s.stage n).sn.rowValid c r) then
          match State.vsrcs n r 0 [vw, vm, vv, vg] s with
          | (xs, bad, s) =>
            if bad then .fault s [] .poison 0
            else
              let out := zip3 (updW ws) xs
              let s := if en then
                  ((s.tallyVals n i tag 1 out).tallyVals n i tag 2 (xs.getD 3 [])).tallyVals n i tag 3
                    ((out.zip (xs.getD 0 [])).map (fun p => f32sub p.1 p.2))
                else s
              .ok ((s.vdst n vw r out).setValid n vw r true) []
        else .ok (s.setValid n vw r false) []) (vrange row0 nr) s []

/-- VTLY (R179). -/
def vtly (n : Nat) (i : Inst) (sa row0 nr : Nat) (sr : W64) (s : State) : VOut :=
  let tag := sr.toNat % 4096
  match s.tagTally n i tag with
  | none => .fault s [] .descriptor 0
  | some s =>
    vrows (fun s r =>
      if (s.stage n).sn.rowValid sa r then
        match s.vsrc n sa r 0 with
        | (xs, bad, s) =>
          if bad then .fault s [] .poison 0 else .ok (s.tallyVals n i tag (sr.toNat / 2 ^ 12 % 4) xs) []
      else .ok s []) (vrange row0 nr) s []

/-- VTLYC (R179). -/
def vtlyc (n : Nat) (i : Inst) (sr rc : W64) (s : State) : VOut :=
  let tag := sr.toNat % 4096
  match s.tagTally n i tag with
  | none => .fault s [] .descriptor 0
  | some s =>
    .ok (if i.tallies then s.modStage n (fun t => { t with tally := t.tally.addOvf tag (rc.toNat % 2 ^ 32) }) else s) []

/-- Rows an instruction processes (R153, R193). -/
def VInst.rows : VInst → Nat
  | .ew _ o _ => o.nr.toNat + 1
  | .red _ o _ => o.nr.toNat + 1
  | .pop _ _ => 16
  | .popw _ _ => 16
  | .ld o _ => o.nr.toNat + 1
  | .st o _ => o.nr.toNat + 1
  | .ldw o _ => o.nr.toNat + 1
  | .stw o _ => o.nr.toNat + 1
  | .rng o _ => o.nr.toNat + 1
  | .drop o _ _ _ => o.nr.toNat + 1
  | .topk _ _ _ nr _ _ => nr + 1
  | .mom _ _ _ _ nr _ => nr + 1
  | .upd _ _ _ _ _ nr _ => nr + 1
  | .tly _ _ nr _ => nr + 1
  | _ => 0

/-- One vector instruction worked off. -/
def VInst.run (v : VInst) (n : Nat) (i : Inst) (s : State) : VOut :=
  match v with
  | .ew f o sr => vrows (ewRow n f o.vd.toNat (f.srcs o) sr) (vrange o.row0.toNat o.nr.toNat) s []
  | .red f o sr =>
    if f.byRow then vrows (rredRow n f o sr) (vrange o.row0.toNat o.nr.toNat) s [] else cred n f o sr s
  | .pop vd blk => vpop n vd blk s
  | .popw vd blk => vpopw n vd blk s
  | .ld o ra => vmove n i o ra false true s
  | .st o ra => vmove n i o ra false false s
  | .ldw o ra => vmove n i o ra true true s
  | .stw o ra => vmove n i o ra true false s
  | .bld b ra => vbld n i b ra s
  | .bst b ra => vbst n i b ra s
  | .brow b sa row => vbrow n b sa row s
  | .bcol b sa col => vbcol n b sa col s
  | .rvset vd ra => .ok (s.modStage n (fun t => { t with sn := { t.sn with valid := mset 0 t.sn.valid vd ra } })) []
  | .rvget va rd => .ok (s.setReg n rd (mget 0 (s.stage n).sn.valid va)) []
  | .sig _ _ => .ok s []
  | .rng o ra => vrng n i o ra s
  | .drop o sa ra sr => vdrop n i o sa ra sr s
  | .topk vd sa row0 nr ncol k => vtopk n vd sa row0 nr ncol k s
  | .mom vm vg vv row0 nr sr => vmom n i vm vg vv row0 nr sr s
  | .upd vw vm vv vg row0 nr sr => vupd n i vw vm vv vg row0 nr sr s
  | .tly sa row0 nr sr => vtly n i sa row0 nr sr s
  | .tlyc sr rc => vtlyc n i sr rc s

/-- Entry `k` of the Snare queue marked worked off. -/
def State.snareMark (s : State) (n k : Nat) (ws : List (Nat × List Byte)) : State :=
  s.modStage n (fun t =>
    { t with
      sn := { t.sn with
        queue := t.sn.queue.zipIdx.map (fun p => if p.2 = k then { p.1 with done := true, writes := ws } else p.1) } })

/-- The tile-buffer rows an instruction writes and reads, as (buffer, first row, count), and the broadcast registers (R152). -/
def VInst.dstRows : VInst → List (Nat × Nat × Nat)
  | .ew _ o _ => [(o.vd.toNat, o.row0.toNat, o.nr.toNat + 1)]
  | .pop vd blk => [(vd, 16 * blk, 16)]
  | .popw vd blk => [(vd, 16 * blk, 16), (vd + 1, 16 * blk, 16)]
  | .ld o _ => [(o.vd.toNat, o.row0.toNat, o.nr.toNat + 1)]
  | .ldw o _ => [(o.vd.toNat, o.row0.toNat, o.nr.toNat + 1), (o.vd.toNat + 1, o.row0.toNat, o.nr.toNat + 1)]
  | .rng o _ => [(o.vd.toNat, o.row0.toNat, o.nr.toNat + 1)]
  | .drop o _ _ _ => [(o.vd.toNat, o.row0.toNat, o.nr.toNat + 1)]
  | .topk vd _ row0 nr _ _ => [(vd, row0, nr + 1)]
  | .mom vm _ vv row0 nr _ => [(vm, row0, nr + 1), (vv, row0, nr + 1)]
  | .upd vw _ _ _ row0 nr _ => [(vw, row0, nr + 1)]
  | _ => []
def VInst.srcRows : VInst → List (Nat × Nat × Nat)
  | .ew f o _ => (f.srcs o).map (fun c => (c, o.row0.toNat, o.nr.toNat + 1))
  | .red _ o _ => [(o.sa.toNat, o.row0.toNat, o.nr.toNat + 1)]
  | .st o _ => [(o.vd.toNat, o.row0.toNat, o.nr.toNat + 1)]
  | .stw o _ => [(o.vd.toNat, o.row0.toNat, o.nr.toNat + 1), (o.vd.toNat + 1, o.row0.toNat, o.nr.toNat + 1)]
  | .brow _ sa row => [(sa, row, 1)]
  | .bcol _ sa _ => [(sa, 0, 64)]
  | .drop o sa _ _ => [(sa, o.row0.toNat, o.nr.toNat + 1)]
  | .topk _ sa row0 nr _ _ => [(sa, row0, nr + 1)]
  | .mom _ vg _ row0 nr _ => [(vg, row0, nr + 1)]
  | .upd _ vm vv vg row0 nr _ => [(vm, row0, nr + 1), (vv, row0, nr + 1), (vg, row0, nr + 1)]
  | .tly sa row0 nr _ => [(sa, row0, nr + 1)]
  | _ => []
def VInst.dstB : VInst → List Nat
  | .red _ o _ => [o.vd.toNat]
  | .bld b _ => [b]
  | .brow b _ _ => [b]
  | .bcol b _ _ => [b]
  | _ => []
def VInst.srcB : VInst → List Nat
  | .bst b _ => [b]
  | .red f o sr => if o.acc then o.vd.toNat :: (VInst.srcRows (.red f o sr)).map (fun x => x.1)
      else (VInst.srcRows (.red f o sr)).map (fun x => x.1)
  | v => v.srcRows.map (fun x => x.1)

/-- A row of `w` is held by the earlier instruction `v` until that has written it (R152). -/
def VInst.holds (v w : VInst) : Bool :=
  v.dstRows.any (fun a => (w.srcRows ++ w.dstRows).any (fun b =>
    decide (a.1 = b.1 ∧ a.2.1 < b.2.1 + b.2.2 ∧ b.2.1 < a.2.1 + a.2.2))) || v.dstB.any (fun a => w.srcB.contains a)

/-- An instruction that uses the Apron ports (R155). -/
def VInst.usesApron : VInst → Bool
  | .ld _ _ => true | .st _ _ => true | .ldw _ _ => true | .stw _ _ => true | .bld _ _ => true | .bst _ _ => true
  | .rng _ _ => true | .drop _ _ _ _ => true | .mom _ _ _ _ _ _ => true | .upd _ _ _ _ _ _ _ => true
  | _ => false

/-- The counters of R193 for an instruction worked off: `rows` processed and `starts` rows begun. How many CCLK its rows were held
under R152, or its accesses waited for an Apron port, are free values (log entry 10). -/
def State.snareCount (s : State) (n : Nat) (q : List SnEntry) (v : VInst) (rows starts : Nat) : State :=
  let s := (s.bump .stgSnrRows n rows).bump .stgSnrBusy n starts
  let s := if q.any (fun e => e.done && e.ins.holds v) then s.stall .stgSnrStallDep n else s
  if v.usesApron then s.stall .stgSnrStallApr n else s

/-- The Snare works off its queue in program order until a pop waits for an entry (R152, R195): `k` counts the
instructions left to look at. A fault leaves the rows before it written. -/
def State.snareGo (n : Nat) (i : Inst) : Nat → State → State
  | 0, s => s
  | k + 1, s =>
    let q := (s.stage n).sn.queue
    let p := (q.takeWhile (fun e => e.done)).length
    match q[p]? with
    | none => s
    | some e =>
      match e.ins.run n i s with
      | .hold => s.stall .stgSnrStallPop n
      | .ok s ws => State.snareGo n i k ((s.snareMark n p ws).snareCount n q e.ins e.ins.rows e.ins.rows)
      | .fault s ws c x started =>
        (((s.landWrites n (s.stage n).sn.pendingWrites).landWrites n ws).snareCount n q e.ins (started - 1) (Nat.min started e.ins.rows)).kernelFault n
          ⟨c, e.org, x, none⟩

/-- The Snare of Stage `n` runs on. -/
def State.snareRun (s : State) (n : Nat) : State :=
  match (s.stage n).inst with
  | none => s
  | some i => State.snareGo n i (s.stage n).sn.queue.length s

/-- The oldest instruction completes (R154): its Apron writes are made; a VSIG raises its semaphore (R132, R166). -/
def execSnareInstructionComplete (n : Nat) (s : State) : Host.Outcome State Fault Refusal :=
  if n < 144 then
    match (s.stage n).sn.queue with
    | [] => .next s
    | e :: t =>
      if e.done then
        let s := (s.modStage n (fun x => { x with sn := { x.sn with queue := t } })).landWrites n e.writes
        match e.ins with
        | .sig sem k => .next (s.semAdd n sem k e.org)
        | _ => .next s
      else .next s
  else .fault .noSuchUnit

/-- A pop at the head of the Snare queue has waited 10 ms for an entry (R195). -/
def execSnarePopWaitLimit (n : Nat) (s : State) : Host.Outcome State Fault Refusal :=
  if n < 144 then
    match (s.stage n).sn.queue.find? (fun e => !e.done) with
    | none => .next s
    | some e =>
      match e.ins with
      | .pop _ _ => .next (s.kernelFault n ⟨.waitLimit, e.org, 0, none⟩)
      | .popw _ _ => .next (s.kernelFault n ⟨.waitLimit, e.org, 0, none⟩)
      | _ => .next s
  else .fault .noSuchUnit

end Sys2Proof.Machine
end

