-- ==== Sys2Proof/Machine/Drain.lean ====
section
/-! DEFINITION. The service queue: issue of DRAIN, ROLL and RACC, and draining into the finished-tile queue (R55, R71-R80,
R117). -/

namespace Sys2Proof.Machine

/-- Issue into the service queue, which stalls the Prompter while it holds 8 operations (R55). A ROLL or RACC whose handle
resolves to no segment raises a Roll-shape fault (R119). -/
def issueSvc (p : Iss) (op : Nat) (uses : List (BitVec 5)) (mk : Prm → SvcOp) (s : State) :
    Host.Outcome State Fault Refusal :=
  issue p 5 op false uses
    (fun s t i =>
      if t.mx.svc.length ≥ 8 then .full
      else if (match mk t.prm with
          | .drain _ _ => false
          | .roll _ h _ x _ => !s.hndOk i h x
          | .racc _ h x _ => !s.hndOk i h x) then .fault s .rollShape 0
      else
        .seq (s.modStage p.stage (fun x =>
          { x with
            prm := { x.prm with seq := x.prm.seq + 1 }
            mx := { x.mx with svc := x.mx.svc ++ [⟨⟨t.prm.pc, 5, op⟩, t.prm.seq, mk t.prm⟩] } }))) s

/-- DRAIN: SLOT and the descriptor address in DESC are read at issue (R73, R117). -/
def execDrain (p : Iss) (slot : BitVec 4) (desc : BitVec 5) (s : State) : Host.Outcome State Fault Refusal :=
  issueSvc p 0x00 [desc] (fun t => .drain slot.toNat (t.reg desc)) s

/-- ROLL: slot SLOT of the arrays in AMASK goes to DSLOT of the segment that HND names (R81, R82, R117, R118). -/
def execRoll (p : Iss) (slot : BitVec 4) (hnd : BitVec 5) (dslot : BitVec 4) (xdev : Bool) (amask : BitVec 4)
    (s : State) : Host.Outcome State Fault Refusal :=
  issueSvc p 0x01 [hnd] (fun t => .roll slot.toNat (t.reg hnd) dslot.toNat xdev amask.toNat) s

/-- RACC: slot SLOT of the arrays in AMASK takes what the segment that HND names rolls to it (R81, R83, R117, R118). -/
def execRacc (p : Iss) (slot : BitVec 4) (hnd : BitVec 5) (xdev : Bool) (amask : BitVec 4) (s : State) :
    Host.Outcome State Fault Refusal :=
  issueSvc p 0x02 [hnd] (fun t => .racc slot.toNat (t.reg hnd) xdev amask.toNat) s

/-- The head of the service queue leaves it. -/
def State.popSvc (s : State) (n : Nat) : State :=
  s.modStage n (fun t => { t with mx := { t.mx with svc := t.mx.svc.drop 1, svcRun := none } })

/-- A fault of the service operation at the head. -/
def State.svcFault (s : State) (n : Nat) (e : SvcEnt) (c : Cause) (info : W64) : State :=
  s.kernelFault n ⟨c, e.org, info, none⟩

/-- A drain descriptor (R75, R76); `none` where a field's value is refused. A fill context's k is the one its descriptor writes
(R48). -/
def drainDesc (i : Inst) (wide : Bool) (bs : List Byte) : Option DrainDesc :=
  let w0 := ofLe (bs.take 8)
  let outFmt := w0 % 16
  let rnd := w0 / 2 ^ 4 % 4
  let kexp := int8 (w0 / 2 ^ 16 % 256)
  let w1 := ofLe ((bs.drop 8).take 8)
  let w2 := ofLe ((bs.drop 16).take 8)
  if outFmt > 0xA ∨ rnd = 3 ∨ kexp = -128 ∨ (outFmt = 1 ∧ wide = false) then none
  else
    some
      { outFmt := outFmt, rnd := rnd, sat := w0.testBit 6, maskedZero := w0.testBit 7, arrays := w0 / 2 ^ 12 % 16
        k := if w0.testBit 8 && i.lead then clampK (-(i.tagExp (w0 / 2 ^ 24 % 4096) + i.tagExp (w0 / 2 ^ 36 % 4096))) else kexp
        tensor := w1 % 2 ^ 32, tileRow := w2 % 2 ^ 32, tileCol := w2 / 2 ^ 32 }

/-- Readout order (R74): arrays ascending, row groups ascending, hi before lo where each is an entry of its own. -/
def readoutOrder (arrays : Nat) (groups : Nat) (split : Bool) : List (Nat × Nat × Bool) :=
  ([0, 1, 2, 3].filter (fun a => arrays.testBit a)).flatMap (fun a =>
    (List.range groups).flatMap (fun g => if split then [(a, g, false), (a, g, true)] else [(a, g, false)]))

/-- The DRAIN at the head of the service queue starts once every earlier operation into its slot is done (R66, R70, R73,
R75, R87). DESIGN CHOICE (log entry 26): a DRAIN whose ARRAYS field names no array closes its slot at once, with no entry, and one
that names a closed slot raises that fault whatever its descriptor. -/
def execDrainStart (n : Nat) (s : State) : Host.Outcome State Fault Refusal :=
  if n < 144 then
    let t := s.stage n
    match t.inst, t.mx.svc with
    | some i, e :: _ =>
      match e.op with
      | .drain slot desc =>
        let x := t.mx.slot slot
        if t.mx.svcRun.isSome || t.mx.pendingInto slot e.seq then .next s
        else if !x.opened then .next (s.svcFault n e .slotClosed (w64 slot))
        else
          match i.record? desc 32 32 with
          | none => .next (s.svcFault n e .address desc)
          | some a =>
            match s.apRead n a 32 0 with
            | (bs, bad, s) =>
              if bad then .next (s.svcFault n e .poison 0)
              else
                match drainDesc i x.wide bs with
                | none => .next (s.svcFault n e .descriptor 0)
                | some d =>
                  let left := readoutOrder d.arrays x.groups (decide (d.outFmt = 1))
                  if left.isEmpty then .next ((s.closeSlot n slot).popSvc n)
                  else
                    .next (s.modStage n (fun t =>
                      { t with mx := Mxa.noteReady { t.mx with svcRun := some ⟨some d, left, none, true⟩ } }))
      | _ => .next s
    | _, _ => .next s
  else .fault .noSuchUnit

/-- A 16-row group read out (R74, R82). -/
def State.readBlock (s : State) (n : Nat) (x : Slot) (array group : Nat) (lo : Bool) : Nat → Block × State
  | 0 => (⟨array, group, lo, [], [], [], []⟩, s)
  | k + 1 =>
    match s.readBlock n x array group lo k with
    | (b, s) =>
      match s.slotRow n x array (16 * group + k) with
      | (h, l, bad, s) =>
        (⟨array, group, lo, b.vals ++ h, b.los ++ l, if bad then b.poison ++ [k] else b.poison,
          b.fed ++ [x.isFed array (16 * group + k)]⟩, s)

/-- A block of the DRAIN at the head is read out when the finished-tile queue has room and the array's service port has served the
uses that became ready before it (R74, R79, R86). -/
def execDrainBlockReadout (n : Nat) (s : State) : Host.Outcome State Fault Refusal :=
  if n < 144 then
    let t := s.stage n
    match t.mx.svcRun, t.mx.svc with
    | some r, e :: _ =>
      match r.drain, r.out, r.left with
      | some _, none, (a, g, lo) :: _ =>
        if t.mx.ftq.length ≥ 8 then .next (s.stall .stgMxaStallQfull n)
        else if !t.mx.mayUse none a then .next s
        else
          match s.readBlock n (t.mx.slot (e.op.closes.getD 0)) a g lo 16 with
          | (b, s) =>
            .next (s.modStage n (fun t => { t with mx := Mxa.used { t.mx with svcRun := some { r with out := some b } } none a }))
      | _, _, _ => .next s
    | _, _ => .next s
  else .fault .noSuchUnit

/-- A block converted into its finished-tile queue entry (R76-R79). -/
def ftqEntry (seed : W64) (i : Inst) (d : DrainDesc) (wide : Bool) (b : Block) : FtqEnt :=
  let mx := (outFmt d.outFmt).2
  let rows := (List.range 16).map (fun r =>
    let h := (b.vals.drop (256 * r)).take 256
    let l := (b.los.drop (256 * r)).take 256
    let xs := if wide then (h.zip l).map (fun p => fvWide p.1 p.2) else h.map fv32
    if b.fed.getD r false then
      if d.outFmt = 1 then
        (xs.map (fun x => let p := wideOf (x.scale d.k); (if b.lo then p.2 else p.1).toNat), [])
      else
        convRow d.outFmt d.rnd d.sat d.k
          (fun c => draw16 (keyedDraw seed i d.tensor d.tileRow d.tileCol 0 (256 * b.array + 16 * b.group + r) c)) xs
    else (List.replicate 256 0, if mx then List.replicate 8 0x7F else []))
  { fmt := d.outFmt, lo := b.lo
    vals := mlist 0 0 ((rows.flatMap (fun q => q.1)).map (fun v => BitVec.ofNat 32 v))
    scales := mlist 0 0 ((rows.flatMap (fun q => q.2)).map (fun v => BitVec.ofNat 8 v))
    valid := BitVec.ofNat 16 (((List.range 16).map (fun r =>
      if b.fed.getD r false || d.maskedZero then 2 ^ r else 0)).sum)
    poison := !b.poison.isEmpty, ecc := [] }

/-- The block that was read out enters the finished-tile queue, converted; after the last one the slot closes (R71,
R76-R79). -/
def execDrainBlockEnqueue (n : Nat) (s : State) : Host.Outcome State Fault Refusal :=
  if n < 144 then
    let t := s.stage n
    match t.inst, t.mx.svcRun, t.mx.svc with
    | some i, some r, e :: _ =>
      match r.drain, r.out with
      | some d, some b =>
        let slot := e.op.closes.getD 0
        let ent := ftqEntry (s.seedOf i) i d (t.mx.slot slot).wide b
        let left := r.left.drop 1
        let s := s.modStage n (fun t =>
          { t with
            mx := Mxa.noteReady { t.mx with
              ftq := t.mx.ftq ++ [ent]
              svcRun := some { r with out := none, left := left } } })
        let s := if left.isEmpty then (s.closeSlot n slot).popSvc n else s
        .next (s.snareRun n)
      | _, _ => .next s
    | _, _, _ => .next s
  else .fault .noSuchUnit

end Sys2Proof.Machine
end

