-- ==== Sys2Proof/Machine/LinkCmds.lean ====
section
/-! DEFINITION. Link commands: flits and their records, timers, lanes, optics, retraining, forwarding, end-to-end
acknowledgements, link Bells, heartbeats and Gongs (R340-R365, R388, R493, R557). -/

namespace Sys2Proof.Machine

/-- A command that names port `n`: a port past 23 does not exist; otherwise the state, with unreachable destinations reported. -/
def onPort (n : Nat) (s : State) (f : State → State) : Host.Outcome State Fault Refusal :=
  if n < 24 then .next (f s).reportUnreachable else .fault .noSuchUnit

/-- The CREDIT record's cumulative counts applied to the credit in use (R348). -/
def creditVcs : List VcUse → List Nat → List VcUse
  | u :: us, c :: cs => { u.refund ((c + 4096 - u.freed) % 4096) with freed := c % 4096 } :: creditVcs us cs
  | us, _ => us

/-- CREDIT (R348): freed flits come back, waiting packets start. -/
def execCredit (port : Nat) (counts : List Nat) (s : State) : Host.Outcome State Fault Refusal :=
  onPort port s (fun s =>
    if s.portUp port then (s.modPort port (fun p => { p with cred := creditVcs p.cred counts })).pump port else s)

/-- The flits from `seq` on are sent again, each counted; the sixteenth time of one SEQ takes the port down (R342, R343). -/
def State.resendFrom (s : State) (n seq : Nat) : State :=
  let p := s.port n
  let again := p.kept.dropWhile (fun k => decide (k.1 ≠ seq))
  if again.isEmpty then s
  else
    let counts := again.foldl (fun (m : SMap Nat) k => mset 0 m k.1 (mget 0 m k.1 + 1)) p.resends
    let s := (s.modPort n (fun p => { p with resends := counts })).bump .lnkReplay n again.length
    if again.any (fun k => decide (16 ≤ mget 0 counts k.1)) then s.portDown n else s

/-- NAK (R342). -/
def execNak (port : Nat) (seq : Nat) (s : State) : Host.Outcome State Fault Refusal :=
  onPort port s (fun s => if s.portUp port then s.resendFrom port seq else s)

/-- ACK has not advanced for 4 µs: the sender resends from the oldest unacknowledged flit (R342). -/
def execLinkResendTimeout (port : Nat) (s : State) : Host.Outcome State Fault Refusal :=
  onPort port s (fun s =>
    match (s.port port).kept with
    | [] => s
    | k :: _ => if s.portUp port then s.resendFrom port k.1 else s)

/-- The flits an ACK covers are let go, and the counts of their resends with them (R342, R343). -/
def PortLink.acked (p : PortLink) (ack : Nat) : PortLink :=
  if p.kept.any (fun k => decide (k.1 = ack)) then
    let left := (p.kept.dropWhile (fun k => decide (k.1 ≠ ack))).drop 1
    { p with kept := left, resends := p.resends.filter (fun x => left.any (fun k => decide (k.1 = x.1))) }
  else p

/-- A flit not accepted: the first one after an accepted flit is answered with a NAK that names the SEQ expected (R342). -/
def State.discardFlit (s : State) (n : Nat) : State :=
  if (s.port n).naked then s
  else
    let seq := (s.port n).rxSeq
    (s.modPort n (fun p => { p with naked := true })).sendCtl n (recNak seq)

/-- A change of width agreed for the flit that comes next takes effect (R359). -/
def State.switchWidth (s : State) (n : Nat) : State :=
  let p := s.port n
  match p.switchAt, p.width with
  | some q, some m => if q = p.rxSeq then (s.applyWidth n m).reWidth n else s
  | _, _ => s

/-- FLIT (R340-R342): accepted when no codeword it overlaps is beyond correction, its CRC is good and its SEQ is the one expected; its ACK is
applied. Such a codeword is counted with the first flit it overlaps (`first`). A flit's records and packets take effect by their own commands
(log entry 16). -/
def execFlit (port : Nat) (bytes : FlitIn) (s : State) : Host.Outcome State Fault Refusal :=
  onPort port s (fun s =>
    if !s.portUp port then s
    else
    let s := s.bump .lnkFecUncorr port (if bytes.first then 1 else 0)
    let bs := bytes.bytes
    if bytes.bad ∨ bs.length ≠ 256 ∨ ofLe (bs.drop 252) ≠ (crc32 (bs.take 252)).toNat then s.discardFlit port
    else
      let h := ofLe (bs.take 4)
      let ftype := h / 2 ^ 30
      let seq := h / 2 ^ 16 % 2048
      if ftype = 3 then s.discardFlit port
      else if ftype ≠ 2 ∧ seq ≠ (s.port port).rxSeq then s.discardFlit port
      else
        let s := s.modPort port (fun p =>
          let p := p.acked (h / 32 % 2048)
          if ftype = 2 then p else { p with rxSeq := (p.rxSeq + 1) % 2048, naked := false })
        (s.switchWidth port).pump port)

/-- The code of a device state (R500). -/
def devCode : DevState → Nat
  | .off => 0 | .boot => 1 | .test => 2 | .ready => 3 | .run => 4 | .quiesced => 5 | .recast => 6 | .safe => 7 | .fault => 8

/-- HEARTBEAT (R364): the partner lives. -/
def execHeartbeat (port : Nat) (state _dev _ver _step : Nat) (s : State) : Host.Outcome State Fault Refusal :=
  onPort port s (fun s =>
    if s.portUp port then
      s.modPort port (fun p => { p with heard := true, missed := 0, beat := some s.now, lastState := state })
    else s)

/-- Every 10 µs each active port sends a HEARTBEAT (R364). -/
def execHeartbeatSend (s : State) : Host.Outcome State Fault Refusal :=
  let rec' := recHeartbeat (devCode s.plat.dev) s.link.me s.rosterVersion s.sched.step
  .next ((List.range 24).foldl (fun s n => s.sendCtl n rec') s)

/-- One 10 µs interval on one port (R364): no heartbeat, or a port that is down or in training, is a miss. -/
def State.beatInterval (s : State) (n : Nat) : State :=
  let st := s.fld .lnkPort n 2 0
  if st < 1 then s
  else if (s.port n).heard && s.portUp n then s.modPort n (fun p => { p with heard := false, missed := 0 })
  else (s.modPort n (fun p => { p with missed := p.missed + 1, heard := false })).bump .lnkHbMiss n 1

/-- HEARTBEAT_INTERVAL (R364): a partner whose every port has missed 8 in a row is reported as missing. -/
def execHeartbeatInterval (s : State) : Host.Outcome State Fault Refusal :=
  let s := (List.range 24).foldl State.beatInterval s
  let devs := ((List.range 24).filterMap s.partnerDev).eraseDups
  .next (devs.foldl (fun s d =>
    let ps := (List.range 24).filter (fun n => decide (s.partnerDev n = some d))
    if ps.all (fun n => decide (8 ≤ (s.port n).missed)) && ps.any (fun n => decide ((s.port n).missed = 8)) then
      s.reportSuspect d 0
    else s) s)

/-- No good flit for 5 µs (R360). -/
def execPortSilenceTimeout (port : Nat) (s : State) : Host.Outcome State Fault Refusal :=
  onPort port s (fun s => s.portDown port)

/-- A lane's receiver loses lock or signal (R357). -/
def execLaneLockLoss (port lane : Nat) (s : State) : Host.Outcome State Fault Refusal :=
  if lane < 8 then onPort port s (fun s => (s.setFld .lnkLane (8 * port + lane) 42 42 0).retireLane port lane)
  else .fault .noSuchUnit

/-- One lane's 1 ms window (R357, R361, R395). -/
def State.laneWindow (s : State) (n : Nat) (x : Nat × Nat) : State :=
  let l := x.2
  if l ≥ 8 ∨ (s.port n).trained.getLsbD l = false then s
  else
    let i := 8 * n + l
    let s := s.setFld .lnkLane i 23 0 (Nat.min x.1 0xFFFFFF)
    let trend := if s.fld .lnkThresh 0 47 24 < x.1 then Nat.min (s.fld .lnkLane i 39 24 + 1) 0xFFFF else 0
    let s := s.setFld .lnkLane i 39 24 trend
    if s.fld .lnkThresh 0 23 0 < x.1 then s.retireLane n l
    else if s.fld .lnkThresh 0 63 48 ≤ trend then s.pendLane n l
    else s

/-- LANE_WINDOW_END (R357, R361): the corrected symbols of each lane in the window that ended. -/
def execLaneWindowEnd (port : Nat) (syms : List Nat) (s : State) : Host.Outcome State Fault Refusal :=
  onPort port s (fun s => (syms.zipIdx).foldl (fun s x => s.laneWindow port x) (s.bump .lnkFecCorr port syms.sum))

/-- E2E_TIMEOUT (R354): the flow's unacknowledged packets go again; the sixteenth timeout in a row ends its transfers and
reports the destination. -/
def execE2eTimeout (dst vc flow : Nat) (s : State) : Host.Outcome State Fault Refusal :=
  let f := s.txFlow dst vc flow
  if f.unacked.isEmpty then .next s
  else if f.tries + 1 ≥ 16 then .next ((s.endFlow f).unreach dst).reportUnreachable
  else .next ((s.putTx { f with tries := f.tries + 1 }).resendFlow f).reportUnreachable

/-- E2E_ACK_TIMER (R354): delivered packets not yet acknowledged are acknowledged. -/
def execE2eAckTimer (src vc flow : Nat) (s : State) : Host.Outcome State Fault Refusal :=
  let x := s.rxFlow src vc flow
  if x.owed = 0 then .next s else .next ((s.putRx { x with owed := 0 }).sendAck src vc flow x.next false).reportUnreachable

/-- A number comes before another in a flow's sequence, modulo 2^32. -/
def seqBefore (a b : Nat) : Bool := decide (0 < (b + 2 ^ 32 - a % 2 ^ 32) % 2 ^ 32 ∧ (b + 2 ^ 32 - a % 2 ^ 32) % 2 ^ 32 < 2 ^ 31)

/-- E2E_ACK (R354, R356; layout log entry 16): what it covers is let go; a stale mark ends the transfer of the packet it names. -/
def execE2eAck (port : Nat) (p : Pkt) (s : State) : Host.Outcome State Fault Refusal :=
  onPort port s (fun s => s.receive port p 0x11 (fun s =>
    let f := s.txFlow p.src (p.aux16 / 16 % 8) (p.aux16 % 16)
    let n := p.aux64.toNat % 2 ^ 32
    if p.aux16 ≥ 2 ^ 15 then
      let hit (u : TxPkt) : Bool := decide (u.pkt.e2e = n)
      (s.putTx { f with unacked := f.unacked.filter (fun u => !hit u) }).killTransfers
        ((f.unacked.filter hit).map (fun u => u.req))
    else if f.unacked.any (fun u => seqBefore u.pkt.e2e n) then
      s.putTx { f with unacked := f.unacked.filter (fun u => !seqBefore u.pkt.e2e n), tries := 0 }
    else s))

/-- PACKET_FORWARD (R339, R345, R348, R352, R353): a packet for another device goes on with HOP one higher, or is discarded; so is one, here too,
whose TYPE is reserved. -/
def execPacketForward (port : Nat) (p : Pkt) (s : State) : Host.Outcome State Fault Refusal :=
  onPort port s (fun s =>
    if !s.portUp port || !p.wire || (decide (p.dst = s.link.me) && (typeVc p.ty).isSome) then s
    else
      let s := s.bump .lnkRxBytes port p.data.length
      if p.dst = s.link.me ∨ p.hop = 7 ∨ typeVc p.ty ≠ some p.vc then (s.bump .lnkDiscard 0 1).freeCredit port p.vc p.flits
      else s.routeOut { p with hop := p.hop + 1 } (some port))

/-- GONG (R365): a Gong not seen before is forwarded once and reported. -/
def execGong (port : Nat) (cause dev ver : Nat) (s : State) : Host.Outcome State Fault Refusal :=
  onPort port s (fun s =>
    match s.link.roster with
    | none => s
    | some r =>
      if !s.portUp port || (r.entry dev).isNone || s.link.gongs.contains (dev, ver) then s
      else ((s.modLink (fun k => { k with gongs := k.gongs ++ [(dev, ver)] })).gong cause dev ver port).reportSuspect dev 2)

/-- The lanes a new set leaves out although they were active and lie below others of it: the partner has retired them (R357). -/
def State.partnerRetired (s : State) (n : Nat) (m : BitVec 8) : List Nat :=
  (List.range 8).filter (fun l => decide (s.fld .lnkPort n (7 + l) (7 + l) = 1) && !m.getLsbD l
    && (List.range 8).any (fun k => decide (l < k) && m.getLsbD k))

/-- WIDTH (R357-R359): an agreement to this end's proposal takes effect at the flit it names. A proposal retires here the lanes it shows that the
partner has retired; it is agreed to where its lanes are good here too, from the flit after the record; a lane retired meanwhile starts a second
change. -/
def execWidth (port : Nat) (agree : Bool) (lanes : BitVec 8) (seq : Nat) (s : State) : Host.Outcome State Fault Refusal :=
  onPort port s (fun s =>
    if !s.portUp port then s
    else if agree then
      if (s.port port).width = some lanes then (s.modPort port (fun p => { p with switchAt := some seq })).switchWidth port else s
    else if popLanes lanes ≠ 8 ∧ popLanes lanes ≠ 6 ∧ popLanes lanes ≠ 4 then s
    else
      let s := (s.partnerRetired port lanes).foldl (fun s l => s.markRetired port l) s
      if (List.range 8).all (fun l => !lanes.getLsbD l || (s.goodLanes port).contains l) then
        let p := s.port port
        let s := s.sendCtl port (recWidth true lanes ((p.txSeq + p.ctlq.length / 15 + 1) % 2048))
        (s.applyWidth port lanes).reWidth port
      else s.reWidth port)

/-- OPTICS_POLL (R357, R361, R363, R394, R395): a module answers with its temperature, warnings and alarms, and shows that it is present (log entry
21); ten polls in a row without an answer make 1 s. -/
def execOpticsPoll (port : Nat) (ok : Bool) (temp warn alarm : BitVec 8) (s : State) : Host.Outcome State Fault Refusal :=
  onPort port s (fun s =>
    if ok then
      let retired := BitVec.ofNat 8 (s.fld .lnkPort port 22 15)
      let s := if s.fld .lnkOptics port 24 24 = 1 then s
        else ((s.setFld .lnkOptics port 24 24 1).setFld .lnkPort port 31 31 1).modPort port (fun p => { p with txOff := retired })
      let s := ((((s.setFld .lnkOptics port 7 0 temp.toNat).setFld .lnkOptics port 15 8 warn.toNat).setFld .lnkOptics port
        23 16 alarm.toNat).setFld .lnkOptics port 25 25 0).modPort port (fun p => { p with readErr := 0 })
      (List.range 8).foldl (fun s l =>
        if alarm.getLsbD l then s.retireLane port l else if warn.getLsbD l then s.pendLane port l else s) s
    else if s.fld .lnkOptics port 24 24 = 0 then s
    else
      let s := (s.setFld .lnkOptics port 25 25 1).modPort port (fun p => { p with readErr := p.readErr + 1 })
      if 10 ≤ (s.port port).readErr then s.portDown port else s)

/-- CMIS_PRS_N rises: the module is gone and the port goes down (R363, R557). -/
def execModuleRemoved (port : Nat) (s : State) : Host.Outcome State Fault Refusal :=
  onPort port s (fun s =>
    if s.fld .lnkOptics port 24 24 = 0 then s
    else (((s.setFld .lnkOptics port 24 24 0).setFld .lnkPort port 31 31 0).modPort port (fun p => { p with txOff := 0 })).portDown port)

/-- Lanes of a port put on the list of lanes to retrain, one at a time; the first shows state 3, transmits and sends its training record (R338,
R362, R395). Mark 0 is an automatic retrain. -/
def State.startRetrain (s : State) (n : Nat) (lanes : List Nat) (auto : Bool) : State :=
  let new := (lanes.filter (fun l => !s.link.retrain.any (fun x => decide (x.1 = 8 * n + l)))).map
    (fun l => (8 * n + l, if auto then 0 else 1))
  let s := s.modLink (fun k => { k with retrain := k.retrain ++ new })
  match s.link.retrain.find? (fun x => decide (x.1 / 8 = n)) with
  | some x =>
    (s.setFld .lnkLane x.1 41 40 3).modPort n (fun p =>
      { p with
        recOut := some (s.rd .idnDevid 0, n, x.1 % 8)
        txOff := p.txOff &&& ~~~(1#8 <<< (x.1 % 8)) })
  | none => s

/-- Lanes automatic retraining takes up on a port (R362). -/
def State.autoLanes (s : State) (n : Nat) : List Nat :=
  if s.fld .capLinks 0 n n = 0 ∨ s.fld .lnkPort n 2 0 < 2 then []
  else (List.range 8).filter (fun l =>
    (decide (s.fld .lnkPort n (15 + l) (15 + l) = 1) || decide (s.fld .lnkPort n 2 0 = 4))
      && decide (s.readmitCount (8 * n + l) < 3))

/-- AUTO_RETRAIN (R362). -/
def execAutoRetrain (s : State) : Host.Outcome State Fault Refusal :=
  if s.fld .lnkCfg 0 20 20 = 1 then
    .next ((List.range 24).foldl (fun s n => s.startRetrain n (s.autoLanes n) true) s)
  else .next s

/-- The Bells waiting on a port that has returned are sent again (R388). -/
def State.resendBells (s : State) (n : Nat) : State :=
  (List.range 4).foldl (fun s b =>
    let x := mget Bell.clear s.booth.bellLO (4 * n + b)
    if x.full then s.sendCtl n (recBell b ((s.port n).loGen.getLsbD b) x.word) else s) s

/-- A port whose lanes have been retrained (R338, R360, R362): one that is up takes up its lanes, or goes down where they name another partner; one
that is down becomes active with at least 4 that name one partner. -/
def State.raisePort (s : State) (n : Nat) : State :=
  let post (s : State) : State := s.post 0x0032 0 none [w64 n, w64 (laneMap (s.goodLanes n)).toNat]
  if s.portUp n then
    if s.agreedPartner n = some ((s.port n).partner, (s.port n).partnerPort) then post (s.reWidth n) else s.portDown n
  else if s.wantLanes n = 0 then s
  else
    match s.agreedPartner n with
    | none => s
    | some x =>
      let s := (s.applyWidth n (s.wantLanes n)).setPartner n x
      post ((s.modLink (fun k => { k with linkChanged := true })).resendBells n)

/-- Lanes that passed become good, now or at the Curtain, and their ports follow (R362, R395). -/
def State.lanesPass (s : State) (l : List (Nat × Nat)) : State :=
  let s := l.foldl (fun (s : State) x =>
    let s := s.markGood (x.1 / 8) (x.1 % 8)
    if x.2 = 0 then s.modLink (fun k => { k with readmits := k.readmits ++ [(x.1, s.now.toNat)] }) else s) s
  (l.map (fun x => x.1 / 8)).eraseDups.foldl State.raisePort s

/-- RETRAIN_TEST_END (R338, R362): the lane in retraining has brought the partner's training record (identity, port) and its 100 ms PRBS31 test
ends. -/
def execRetrainTestEnd (port lane : Nat) (pass : LaneTest) (s : State) : Host.Outcome State Fault Refusal :=
  if lane < 8 then
    onPort port s (fun s =>
      match s.link.retrain.find? (fun x => decide (x.1 / 8 = port)) with
      | none => s
      | some x =>
        if x.1 ≠ 8 * port + lane then s
        else
          let s := (s.modLink (fun k => { k with retrain := k.retrain.erase x })).modPort port (fun p =>
            { p with recs := p.recs.filter (fun r => decide (r.1 ≠ lane)) ++ [(lane, pass.ident, pass.peer)] })
          let s := if !pass.pass then s.markRetired port lane
            else if s.leadCtx.isNone then s.lanesPass [x]
            else s.modLink (fun k => { k with passedLanes := k.passedLanes ++ [x] })
          s.startRetrain port [] true)
  else .fault .noSuchUnit

/-- ROUTE_TABLE_READY (R351): the table computed in the background, of the Roster last committed, waits for the next Curtain. -/
def execRouteTableReady (s : State) : Host.Outcome State Fault Refusal :=
  match s.link.roster with
  | none => .next s
  | some r =>
    let next := (s.link.callDone.map (fun (x : Proposal × Roster) => x.2)).getD r
    .next (s.modLink (fun k => { k with nextRoutes := some (next.routeTable k.me) }))

/-- LINK_BELL_WRITE (R388, R491): a full outbound Bell keeps its word and sets its overrun flag; otherwise a BELL record goes out
with the generation inverted. -/
def execLinkBellWrite (port : Nat) (b : BitVec 2) (word : W64) (s : State) : Host.Outcome State Fault Refusal :=
  onPort port s (fun s =>
    let i := 4 * port + b.toNat
    if (mget Bell.clear s.booth.bellLO i).full then s.setFlag .belOvrLo i
    else
      let g := !(s.port port).loGen.getLsbD b.toNat
      let s := (s.modBooth (fun x => { x with bellLO := ring x.bellLO i word })).modPort port (fun p =>
        { p with loGen := p.loGen ^^^ (1#4 <<< b.toNat) })
      s.sendCtl port (recBell b.toNat g word))

/-- BELL (R388, R493): the inbound Bell takes the word unless the record repeats the generation last accepted, which is
answered once the Bell has been read. -/
def execBell (port : Nat) (b : BitVec 2) (gen : Bool) (word : W64) (s : State) : Host.Outcome State Fault Refusal :=
  onPort port s (fun s =>
    if !s.portUp port then s
    else
      let i := 4 * port + b.toNat
      if (s.port port).liGen.getD b.toNat none = some gen then
        if (mget Bell.clear s.booth.bellLI i).full then s else s.sendCtl port (recBellTaken b.toNat gen)
      else
        (s.modPort port (fun p => { p with liGen := setAt p.liGen b.toNat (some gen) })).modBooth (fun x =>
          { x with bellLI := ring x.bellLI i word }))

/-- BELL_TAKEN (R388): the outbound Bell clears when the record names its generation. -/
def execBellTaken (port : Nat) (b : BitVec 2) (gen : Bool) (s : State) : Host.Outcome State Fault Refusal :=
  onPort port s (fun s =>
    if s.portUp port && (s.port port).loGen.getLsbD b.toNat == gen then
      s.modBooth (fun x => { x with bellLO := mset Bell.clear x.bellLO (4 * port + b.toNat) Bell.clear })
    else s)

/-- LINK_BELL_READ (R388, R491): the Booth takes an inbound word, and the partner is told. -/
def execLinkBellRead (port : Nat) (b : BitVec 2) (s : State) : Host.Outcome State Fault Refusal :=
  onPort port s (fun s =>
    let i := 4 * port + b.toNat
    let x := mget Bell.clear s.booth.bellLI i
    let s := s.modBooth (fun y => { y with readData := [x.word], bellLI := mset Bell.clear y.bellLI i Bell.clear })
    if x.full then s.sendCtl port (recBellTaken b.toNat (((s.port port).liGen.getD b.toNat none).getD false)) else s)

end Sys2Proof.Machine
end

