-- ==== Sys2Proof/Machine/Roll.lean ====
section
/-! DEFINITION. Rolls: the receiver's RACC, the grant, readout, Roll-in, hops across devices, and the wait limit of the matrix
queues (R81-R89, R118, R119, R384). The contents of a GRANT are log entry 16. -/

namespace Sys2Proof.Machine

/-- A Roll-in of Stage `n` changed, the first that answers to a test. -/
def updFirst {α : Type} (p : α → Bool) (f : α → α) : List α → List α
  | [] => []
  | x :: t => if p x then f x :: t else x :: updFirst p f t

def State.modRollIn (s : State) (n : Nat) (p : RollIn → Bool) (f : RollIn → RollIn) : State :=
  s.modStage n (fun t => { t with mx := { t.mx with rollIns := updFirst p f t.mx.rollIns } })

/-- A Roll-in with no block left is done. -/
def State.tidyRollIns (s : State) (n : Nat) : State :=
  s.modStage n (fun t => { t with mx := { t.mx with rollIns := t.mx.rollIns.filter (fun r => decide (0 < r.left) || !r.granted) } })

/-- The contents of a roll GRANT: sending member, micro-batch, the receiving slot and its shape (log entry 16). -/
def grantBytes (h : XHop) : List Byte :=
  leBytes 4 h.vr ++ leBytes 8 h.mb ++ leBytes 1 h.slot ++ leBytes 1 (if h.wide then 1 else 0) ++ leBytes 1 h.amask ++ leBytes 2 h.m

def grantOf (dev : Nat) (fill : Bool) (p : Pkt) : RollGrant :=
  let f (o n : Nat) : Nat := ofLe ((p.data.drop o).take n)
  ⟨dev, bitsOf p.aux64 31 0, bitsOf p.aux64 47 32, f 0 4, f 4 8, f 12 1, decide (f 13 1 = 1), f 15 2, f 14 1, fill, false⟩

/-- The Roll-in of a hop still stands on its Stage. -/
def State.hopLive (s : State) (h : XHop) : Bool :=
  (s.stage h.stage).mx.rollIns.any (fun r => decide (r.seq = h.seq) && r.xdev)

/-- Hops of one sender, chain and segment are granted one at a time, in order (log entry 18): the GRANT of each that has become
the first goes out, on this device without a link (R384). -/
def State.grantHops (s : State) : State :=
  let hs := s.link.hops.filter s.hopLive
  let same (a b : XHop) : Bool := decide (a.src = b.src ∧ a.chain = b.chain ∧ a.seg = b.seg)
  let due := hs.filter (fun h => !h.granted && decide (hs.find? (fun x => same x h) = some h))
  let s := s.modLink (fun k => { k with hops := hs.map (fun (h : XHop) => if due.contains h then { h with granted := true } else h) })
  due.foldl (fun s h =>
    let s := s.modRollIn h.stage (fun r => decide (r.seq = h.seq)) (fun r => { r with granted := true })
    if h.src = s.link.me then
      s.modLink (fun k => { k with grants := k.grants ++ [⟨h.src, h.chain, h.seg, h.vr, h.mb, h.slot, h.wide, h.m, h.amask, h.fill, false⟩] })
    else s.sendData h.fill h.src 4 0x10 (h.chain % 16) 1 (w64 (h.chain + h.seg * 2 ^ 32)) (grantBytes h) .other) s

/-- RACC_START (R70, R82, R118, R384): the RACC at the head leaves the service queue and its Roll-in stands open once an earlier
AZERO of its slot is done; the sender may be granted. With XDEV the engine sends the GRANT. -/
def execRaccStart (n : Nat) (s : State) : Host.Outcome State Fault Refusal :=
  if n < 144 then
    let t := s.stage n
    match t.inst, t.mx.svc with
    | some i, e :: _ =>
      match e.op with
      | .racc slot hnd xdev amask =>
        let x := t.mx.slot slot
        let opening := t.mx.feed.any (fun q => decide (q.seq < e.seq) && (match q.op with
          | .azero k _ _ => decide (k = slot)
          | _ => false))
        if t.mx.svcRun.isSome || opening then .next s
        else if !x.opened then .next (s.svcFault n e .slotClosed (w64 slot))
        else
          let left := (readoutOrder amask x.groups false).length
          let r : RollIn := ⟨e.org, e.seq, slot, hnd, xdev, amask, false, [], left⟩
          let s := (s.popSvc n).modStage n (fun t => { t with mx := { t.mx with rollIns := t.mx.rollIns ++ [r] } })
          if xdev then
            match s.segMember i hnd with
            | none => .next (s.kernelFault n ⟨.rollShape, e.org, 0, none⟩)
            | some m =>
              let h : XHop := ⟨m.2, hndChain hnd, hndSeg hnd + 1, m.1, i.mb.toNat, n, e.seq, slot, x.wide, x.m, amask, !i.lead, false, 0,
                []⟩
              .next ((s.modLink (fun k => { k with hops := k.hops ++ [h] })).grantHops.tidyRollIns n)
          else .next s
      | _ => .next s
    | _, _ => .next s
  else .fault .noSuchUnit

/-- The Roll-in a local ROLL pairs with (R118): the same chain, one segment lower. -/
def rollPair (hnd : W64) (r : RollIn) : Bool :=
  !r.xdev && decide (hndChain r.hnd = hndChain hnd ∧ hndSeg r.hnd + 1 = hndSeg hnd)

/-- The readout of the ROLL at the head begins (R82); one that names no array closes its slot at once. -/
def State.rollBegin (s : State) (n : Nat) (slot amask : Nat) (groups : Nat) : State :=
  let left := readoutOrder amask groups false
  if left.isEmpty then (s.closeSlot n slot).popSvc n
  else s.modStage n (fun t => { t with mx := Mxa.noteReady { t.mx with svcRun := some ⟨none, left, none, true⟩ } })

/-- ROLL_GRANT (R70, R82, R84, R118, R384): the ROLL at the head takes the grant of the RACC it pairs with; a slot of another shape,
another destination slot or other arrays raise a Roll-shape fault on both Stages. -/
def execRollGrant (n : Nat) (s : State) : Host.Outcome State Fault Refusal :=
  if n < 144 then
    let t := s.stage n
    match t.inst, t.mx.svc with
    | some i, e :: _ =>
      match e.op with
      | .roll slot hnd dslot xdev amask =>
        let x := t.mx.slot slot
        if t.mx.svcRun.isSome || t.mx.pendingInto slot e.seq then .next s
        else if !x.opened then .next (s.svcFault n e .slotClosed (w64 slot))
        else if xdev then
          match s.link.grants.find? (fun g => rollGrantFor i hnd g && !g.used) with
          | none => .next s
          | some g =>
            if g.slot = dslot ∧ g.wide = x.wide ∧ g.m = x.m ∧ g.amask = amask then
              .next ((s.modLink (fun k => { k with grants := updFirst (fun q => decide (q = g)) (fun q => { q with used := true }) k.grants })).rollBegin
                n slot amask x.groups)
            else
              let s := s.modLink (fun k => { k with grants := k.grants.erase g })
              let s := s.svcFault n e .rollShape 0
              if g.dev = s.link.me then
                match s.link.hops.find? (fun h => decide (h.chain = g.chain ∧ h.seg = g.seg ∧ h.src = s.link.me) && h.granted) with
                | some h => match (s.stage h.stage).mx.rollIns.find? (fun r => decide (r.seq = h.seq)) with
                  | some r => .next (s.kernelFault h.stage ⟨.rollShape, r.org, 0, none⟩)
                  | none => .next s
                | none => .next s
              else .next (s.sendData g.fill g.dev 4 0x10 (g.chain % 16) 4 (w64 (g.chain + g.seg * 2 ^ 32)) [0] .other)
        else
          match (s.segInst i hnd).bind (fun k => s.instStage i.launch k) with
          | none => .next s
          | some m =>
            match (s.stage m).mx.rollIns.find? (fun r => rollPair hnd r && !r.granted) with
            | none => .next s
            | some r =>
              let y := (s.stage m).mx.slot r.slot
              if r.slot = dslot ∧ y.wide = x.wide ∧ y.m = x.m ∧ r.amask = amask then
                .next (((s.modRollIn m (fun q => rollPair hnd q && !q.granted) (fun q => { q with granted := true })).tidyRollIns
                  m).rollBegin n slot amask x.groups)
              else .next ((s.recordFault m ((s.stage m).inst.getD i) ⟨.rollShape, r.org, 0, none⟩).postFault m i.ctx
                |>.svcFault n e .rollShape 0 |>.markFaulted m)
      | _ => .next s
    | _, _ => .next s
  else .fault .noSuchUnit

/-- The four quarters of one half of a block as ROLL_BLOCK packets (R345, R384). -/
def quarterPackets (chain seg blk : Nat) (half : Bool) (vals : List W32) (b : Block) : List (Nat × W64 × List Byte) :=
  let fed := ((List.range 16).map (fun r => if b.fed.getD r false then 2 ^ r else 0)).sum
  (List.range 4).map (fun q =>
    let bad := ((List.range 4).map (fun i => if b.poison.contains (4 * q + i) then 2 ^ i else 0)).sum
    (fed, w64 (chain + seg * 2 ^ 32 + blk * 2 ^ 48 + q * 2 ^ 56 + (if half then 2 ^ 58 else 0) + bad * 2 ^ 59),
      ((vals.drop (1024 * q)).take 1024).flatMap (fun v => leBytes 4 v.toNat)))

/-- A block delivered to a Roll-in of this device. -/
def State.deliverBlock (s : State) (m : Nat) (p : RollIn → Bool) (b : Block) : State :=
  (s.modRollIn m (fun r => p r && r.granted && decide (r.arrived.length < r.left)) (fun r => { r with arrived := r.arrived ++ [b] })).modStage
    m (fun t => { t with mx := t.mx.noteReady })

/-- A hop that has delivered its last block is over, and the next in order is granted. -/
def State.hopStep (s : State) (h : XHop) (b : Block) : State :=
  let s := s.deliverBlock h.stage (fun r => r.xdev && decide (r.seq = h.seq)) b
  let total := (readoutOrder h.amask (cdiv h.m 16) false).length
  let h' := { h with next := h.next + 1, quarters := [] }
  (s.modLink (fun k =>
    { k with hops := if h'.next = total then k.hops.erase h else k.hops.map (fun x => if x = h then h' else x) })).grantHops

/-- A block of a ROLL leaves for another device, or over the engine to a Stage of this one (R355, R384). -/
def State.sendBlock (s : State) (n : Nat) (g : RollGrant) (blk : Nat) (b : Block) : State :=
  if g.dev = s.link.me then
    match s.link.hops.find? (fun h => decide (h.chain = g.chain ∧ h.seg = g.seg ∧ h.src = g.dev) && h.granted) with
    | some h => s.hopStep h b
    | none => s
  else
    let ps := quarterPackets g.chain g.seg blk false b.vals b ++ (if g.wide then quarterPackets g.chain g.seg blk true b.los b else [])
    ps.foldl (fun s p => s.sendData g.fill g.dev 0 0x01 (g.chain % 16) p.1 p.2.1 p.2.2 (.roll n)) s

/-- ROLL_READOUT (R71, R74, R82-R84, R87, R355, R384): the granted ROLL at the head reads out its next block, unconverted, once every
sum into its slot is written and the array's service port has served the uses that became ready before it (R86); the slot closes when
the last block has left. Across devices the resend store must have room. -/
def execRollReadout (n : Nat) (s : State) : Host.Outcome State Fault Refusal :=
  if n < 144 then
    let t := s.stage n
    match t.inst, t.mx.svcRun, t.mx.svc with
    | some i, some r, e :: _ =>
      match e.op, r.left with
      | .roll slot hnd _ xdev amask, (a, g, lo) :: rest =>
        let x := t.mx.slot slot
        let total := (readoutOrder amask x.groups false).length
        let gr := s.link.grants.find? (fun q => rollGrantFor i hnd q && q.used)
        let room := match gr with
          | some q => decide (q.dev = s.link.me) || s.storeRoom (if x.wide then 32768 else 16384)
          | none => true
        if (xdev && !room) || !t.mx.mayUse none a then .next s
        else
          match s.readBlock n x a g lo 16 with
          | (b, s) =>
            let s := if xdev then
                match gr with
                | some q => s.sendBlock n q (total - r.left.length) b
                | none => s
              else
                match (s.segInst i hnd).bind (fun k => s.instStage i.launch k) with
                | some m => s.deliverBlock m (rollPair hnd) b
                | none => s
            let s := s.modStage n (fun t => { t with mx := (Mxa.used { t.mx with svcRun := some { r with left := rest } } none a).noteReady })
            if rest.isEmpty then
              let s := match gr with
                | some q => if xdev then s.modLink (fun k => { k with grants := k.grants.erase q }) else s
                | none => s
              .next ((s.closeSlot n slot).popSvc n)
            else .next s
      | _, _ => .next s
    | _, _, _ => .next s
  else .fault .noSuchUnit

/-- Rows of an arriving block added one after another (R83, R87): `false` is a row that met poison, whether it is marked fed or not. -/
def State.addRows (n : Nat) (x : Slot) (slot : Nat) (b : Block) : List Nat → State → Bool × State
  | [], s => (true, s)
  | r :: t, s =>
    if b.poison.contains r then (false, s)
    else if b.fed.getD r false = false then State.addRows n x slot b t s
    else
      match s.slotRow n x b.array (16 * b.group + r) with
      | (h, l, bad, s) =>
        if bad then (false, s)
        else
          let vh := (b.vals.drop (256 * r)).take 256
          let vl := if x.wide then (b.los.drop (256 * r)).take 256 else List.replicate 256 0
          let res := ((accTerms x h l).zip (vh.zip vl)).map (fun p =>
            passElem x.wide (some p.1) (Term.one (fv32 p.2.1) :: (if x.wide then [Term.one (fv32 p.2.2)] else [])))
          State.addRows n x slot b t (s.putSlotRow n slot b.array (16 * b.group + r) res)

/-- A row of the block's group is still in the adder tree of its array (R62, R83). -/
def Mxa.heldIn (m : Mxa) (slot : Nat) (b : Block) : Bool :=
  m.fly.any (fun y => decide (y.slot = slot ∧ y.array = b.array ∧ y.row / 16 = b.group) && b.fed.getD (y.row % 16) false)

/-- Blocks of Roll-ins whose turn on their array's service port it is, in the order they became ready (R86). -/
def Mxa.rollTurn (m : Mxa) : List (RollIn × Block) :=
  m.uses.filterMap (fun u =>
    if u.rin.isSome && m.mayUse u.rin u.array then
      match m.rollIns.find? (fun r => decide (some r.seq = u.rin)) with
      | some r => match r.arrived.head? with
        | some b => if b.array = u.array then some (r, b) else none
        | none => none
      | none => none
    else none)

/-- The rows a block adds to. -/
def RollIn.rows (r : RollIn) (b : Block) : List (Nat × Nat × Nat) :=
  ((List.range 16).filter (fun k => b.fed.getD k false)).map (fun k => (r.slot, b.array, 16 * b.group + k))

/-- A block's turn on its port is taken, and its rows are marked for the pass that follows (R62, R86). -/
def Mxa.rollUsed (m : Mxa) (r : RollIn) (b : Block) : Mxa :=
  { m.used (some r.seq) b.array with rolled := m.rolled.filter (fun x => !(r.rows b).contains x) ++ r.rows b }

/-- STALL_DEP of the blocks whose turn it is (R62, R93): of those that an earlier pass holds, and of rows that an earlier Roll-in added to. -/
def State.rollStalls (s : State) (n : Nat) (m : Mxa) (turn : List (RollIn × Block)) : State :=
  if turn.any (fun p => m.heldIn p.1.slot p.2 || (p.1.rows p.2).any m.rolled.contains) then s.stall .stgMxaStallDep n else s

/-- ROLL_IN (R62, R82, R83, R85-R87): of the blocks that have arrived and may use their array's port the one that became ready first is
added into its slot; one whose rows an earlier pass has not written yet is held, which counts also while another one goes; for how long
rows that a Roll-in added to hold the next one is a free value (log entry 10). -/
def execRollIn (n : Nat) (s : State) : Host.Outcome State Fault Refusal :=
  if n < 144 then
    let m := (s.stage n).mx.noteReady
    let turn := m.rollTurn
    let s := s.rollStalls n m turn
    match turn.find? (fun p => !m.heldIn p.1.slot p.2) with
    | none => .next s
    | some (r, b) =>
      match State.addRows n (m.slot r.slot) r.slot b (List.range 16) (s.modStage n (fun t => { t with mx := m.rollUsed r b })) with
      | (false, s) => .next (s.kernelFault n ⟨.poison, r.org, 0, none⟩)
      | (true, s) =>
        .next ((s.modRollIn n (fun q => decide (q.seq = r.seq)) (fun q =>
          { q with arrived := q.arrived.drop 1, left := q.left - 1 })).tidyRollIns n)
  else .fault .noSuchUnit

/-- MATRIX_WAIT_LIMIT (R88, R89): a matrix operation has waited 10 ms: the head of the feed queue, a Roll-in or the head of the service
queue, or an instruction that finds its queue full; of two, the earlier in program order (R138). DESIGN CHOICE (log entry 26): for an END
that waits on blocks left in the finished-tile queue it is the END that is recorded. -/
def execMatrixWaitLimit (n : Nat) (service : Bool) (s : State) : Host.Outcome State Fault Refusal :=
  if n < 144 then
    let t := s.stage n
    let org : Option Origin :=
      if t.inst.isNone then none
      else if service then
        match t.mx.rollIns, t.mx.svc with
        | r :: _, _ => some r.org
        | [], e :: _ => some e.org
        | [], [] => if decide (t.prm.wait = .ending) && !t.mx.ftq.isEmpty then some t.prm.org else none
      else
        match t.mx.pend, t.mx.feed with
        | some e, _ => some e.org
        | none, e :: _ => some e.org
        | none, [] => none
    match org with
    | some o => .next (s.kernelFault n ⟨.waitLimit, o, 0, none⟩)
    | none => .next s
  else .fault .noSuchUnit

/-- A quarter received for a granted hop (R384): the block is delivered when all its quarters are there. -/
def State.onRollBlock (s : State) (p : Pkt) : State :=
  let chain := bitsOf p.aux64 31 0
  let seg := bitsOf p.aux64 47 32
  match s.link.hops.find? (fun h => decide (h.src = p.src ∧ h.chain = chain ∧ h.seg = seg) && h.granted && s.hopLive h) with
  | none => s
  | some h =>
    let q : Quarter := ⟨bitsOf p.aux64 55 48, decide (bitsOf p.aux64 58 58 = 1), bitsOf p.aux64 57 56,
      (chunks 4 1024 p.data).map (fun b => BitVec.ofNat 32 (ofLe b)), BitVec.ofNat 16 p.aux16,
      (List.range 4).filter (fun i => p.aux64.getLsbD (59 + i))⟩
    if q.block ≠ h.next ∨ p.data.length ≠ 4096 then s
    else
      let qs := h.quarters.filter (fun y => !decide (y.lo = q.lo ∧ y.part = q.part)) ++ [q]
      let half (b : Bool) : List W32 := (List.range 4).flatMap (fun k =>
        ((qs.find? (fun y => decide (y.lo = b ∧ y.part = k))).map (fun (y : Quarter) => y.vals)).getD [])
      if qs.length < (if h.wide then 8 else 4) then
        s.modLink (fun k => { k with hops := k.hops.map (fun x => if x = h then { h with quarters := qs } else x) })
      else
        let at' := (readoutOrder h.amask (cdiv h.m 16) false).getD h.next (0, 0, false)
        let b : Block := ⟨at'.1, at'.2.1, false, half false, if h.wide then half true else [],
          (qs.flatMap (fun y => y.poison.map (fun i => 4 * y.part + i))).eraseDups, (List.range 16).map (fun r => q.fed.getLsbD r)⟩
        s.hopStep h b

/-- ROLL_BLOCK (R345, R384). -/
def execRollBlock (port : Nat) (p : Pkt) (s : State) : Host.Outcome State Fault Refusal :=
  onPort port s (fun s => s.receive port p 0x01 (fun s => s.onRollBlock p))

/-- A roll GRANT arrives, or the sender's refusal of one, which is a Roll-shape fault at the receiver (R84, R384). -/
def State.onRollGrant (s : State) (p : Pkt) (fill : Bool) (kind : Nat) : State :=
  if kind = 1 then
    let g := grantOf p.src fill p
    s.modLink (fun k => { k with grants := k.grants.filter (fun q => decide (q ≠ g)) ++ [g] })
  else
    match s.link.hops.find? (fun h => decide (h.src = p.src ∧ h.chain = bitsOf p.aux64 31 0 ∧ h.seg = bitsOf p.aux64 47 32) && h.granted) with
    | none => s
    | some h =>
      let s' := s.modLink (fun k => { k with hops := k.hops.erase h })
      match (s.stage h.stage).mx.rollIns.find? (fun r => decide (r.seq = h.seq) && r.xdev) with
      | some r => s'.kernelFault h.stage ⟨.rollShape, r.org, 0, none⟩
      | none => s'

end Sys2Proof.Machine
end

