-- ==== Sys2Proof/Machine/Stagehand.lean ====
section
/-! DEFINITION. The Stagehand: class 0x9, transfers on the device and over the links, gathers and their retries, reduce writes
(R120-R130, R209-R216, R232, R265, R269-R272, R285, R419). Packet layouts are log entry 16, the ENSEMBLE space of DMOV log entry 18. -/

namespace Sys2Proof.Machine

/-- A descriptor's fields (R123, R124). -/
structure ShD where
  kind : Nat
  srcSp : Nat
  dstSp : Nat
  red : Nat
  pin : Bool
  matching : Bool
  wb : Bool
  src : W64
  dst : W64
  len : Nat
  rows : Nat
  sstride : Nat
  dstride : Nat
  key : Nat
  ens : Nat
  member : Nat
  verStep : Nat
  verCrc : W64
  deriving DecidableEq, Repr

def shDesc (ws : List W64) : ShD :=
  let w (k : Nat) : W64 := ws.getD k 0
  { kind := bitsOf (w 0) 3 0, srcSp := bitsOf (w 0) 7 4, dstSp := bitsOf (w 0) 11 8, red := bitsOf (w 0) 13 12
    pin := (w 0).getLsbD 14, matching := (w 0).getLsbD 15, wb := (w 0).getLsbD 16, src := w 1, dst := w 2
    len := bitsOf (w 3) 31 0, rows := Nat.max 1 (bitsOf (w 3) 47 32), sstride := bitsOf (w 4) 31 0, dstride := bitsOf (w 4) 63 32
    key := bitsOf (w 5) 15 0 * 2 ^ 48 + bitsOf (w 5) 31 16 * 2 ^ 32 + bitsOf (w 5) 63 32
    ens := bitsOf (w 6) 5 0, member := bitsOf (w 6) 31 16, verStep := bitsOf (w 6) 63 32, verCrc := w 7 }

/-- Tensor identity and offset of an address in TENSOR form, offset of one in APRON form (R124). -/
def tenOf (a : W64) : Nat := bitsOf a 63 40
def offOf (a : W64) : Nat := bitsOf a 39 0
def aprOf (a : W64) : Nat := bitsOf a 22 0

/-- The descriptor conditions of R125 that need no state. Fields that a kind does not use, RED of a gather, DST and the strides of a release,
spaces that a kind does not have, are checked like the others: the spec calls them reserved and does not say whether they are looked at
(DESIGN CHOICE, log entry 27). -/
def ShD.wellFormed (d : ShD) (op : Nat) : Bool :=
  let al (sp : Nat) (a : W64) : Bool := decide ((if sp = 0 then aprOf a else offOf a) % 64 = 0)
  let common := decide (d.kind = op ∧ d.srcSp < 3 ∧ d.dstSp < 3 ∧ 0 < d.len ∧ d.len % 64 = 0 ∧ d.sstride % 64 = 0
    ∧ d.dstride % 64 = 0) && al d.srcSp d.src && al d.dstSp d.dst
  common && (match op with
    | 0 => decide (d.red = 0 ∨ d.dstSp = 1) && decide (d.srcSp ≠ 2 ∨ d.dstSp ≠ 2)
    | 1 => decide (d.srcSp = 2 ∧ d.dstSp ≠ 2 ∧ d.red = 0)
    | 2 => decide (d.srcSp ≠ 2) && decide (d.red = 0 ∨ d.dstSp = 1)
    | _ => decide (d.srcSp ≠ 0))

/-- The instance key of the weight set that a fill context's micro-batch refers to (R287). -/
def State.fillKey (s : State) (c : Ctx) (mb : Nat) : Option Nat :=
  (s.sched.refs.find? (fun r => decide (r.1 = c.num ∧ r.2.1 = mb))).map (fun (r : Nat × Nat × Nat) => 65537 + r.2.2)

/-- The instance of a tensor that a kernel instance works on: of the lead its virtual rank's (R264, R265), of a fill context that of the
weight set its micro-batch holds (R287). -/
def State.instKey (s : State) (i : Inst) (tensor : Nat) : Nat :=
  match s.ctx? i.ctx with
  | none => i.vrank
  | some c => if i.lead then c.keyOf tensor i.vrank i.mb.toNat else (s.fillKey c i.mb.toNat).getD 65536

/-- The instance a remote request means: of the lead the rank's, of a fill context that of the set its micro-batch refers to here, and
where it has not begun here of the current set (R287; log entry 27). -/
def State.remoteKey (s : State) (c : Ctx) (tensor vr mb : Nat) : Nat :=
  if c.lead then c.keyOf tensor vr mb
  else (s.fillKey c mb).getD (match c.wsets.find? (fun w => w.current) with
    | some w => 65537 + w.num
    | none => 65536)

/-- The UE_SRC code of a Stagehand reader (R230). -/
def shSrc (n a : Nat) : Nat := if apronBase + n * 2 ^ 23 ≤ a ∧ a < apronBase + (n + 1) * 2 ^ 23 then 3 else 4

def readRuns (n : Nat) (hold : Bool) : List (Nat × Nat) → State → (List Byte × Bool × State) ⊕ MStop
  | [], s => .inl ([], false, s)
  | p :: t, s =>
    match s.memRead (shSrc n p.1) hold p.1 p.2 with
    | .inr e => .inr e
    | .inl (bs, bad, s) =>
      match readRuns n hold t s with
      | .inr e => .inr e
      | .inl (cs, bad', s) => .inl (bs ++ cs, !bad.isEmpty || bad', s)

def writeRuns (n : Nat) : List (Nat × Nat) → List Byte → State → State ⊕ MStop
  | [], _, s => .inl s
  | p :: t, bs, s =>
    match s.memWrite (shSrc n p.1) p.1 (bs.take p.2) with
    | .inr e => .inr e
    | .inl s => writeRuns n t (bs.drop p.2) s

/-- Where a row of a transfer lies, or the fault it meets: an address fault outside the data region or at an unmapped address, a tensor fault
outside the tensor table or the tensor's length (R125, R197). -/
def State.rowRuns (s : State) (n : Nat) (i : Inst) (sp : Nat) (a : W64) (delta len : Nat) (write : Bool) : List (Nat × Nat) ⊕ Cause :=
  if sp = 0 then
    if aprOf a + delta + len ≤ i.dataSize then .inl [(apronBase + n * 2 ^ 23 + i.dataAddr (aprOf a + delta), len)] else .inr .address
  else
    match s.ctx? i.ctx with
    | none => .inr .tensor
    | some c =>
      let key := s.instKey i (tenOf a)
      match (if write then c.resolveW key (tenOf a) (offOf a + delta) len else c.resolve key (tenOf a) (offOf a + delta) len) with
      | some l => if l.all (fun p => s.mapped p.1 p.2) then .inl l else .inr .address
      | none => .inr .tensor

/-- The runs of a row that lies somewhere. -/
def State.rowRuns? (s : State) (n : Nat) (i : Inst) (sp : Nat) (a : W64) (delta len : Nat) (write : Bool) : List (Nat × Nat) :=
  match s.rowRuns n i sp a delta len write with
  | .inl l => l
  | .inr _ => []

/-- A part of a list of runs: from a place on, a length. -/
def cutRuns : List (Nat × Nat) → Nat → Nat → List (Nat × Nat)
  | [], _, _ => []
  | x :: t, pos, len =>
    if len = 0 then []
    else if x.2 ≤ pos then cutRuns t (pos - x.2) len
    else
      let n := Nat.min len (x.2 - pos)
      (x.1 + pos, n) :: cutRuns t 0 (len - n)

/-- The index list's place (R130): its offset is 8-byte aligned and its entries lie in the data region. -/
def ShD.listOff (d : ShD) : Nat := bitsOf d.verCrc 22 0
def ShD.listOk (d : ShD) (i : Inst) : Bool := decide (d.listOff % 8 = 0 ∧ d.listOff + 8 * d.rows ≤ i.dataSize)

/-- The rows a scatter's index list sends: source row, destination row, member (R130). -/
def listRows (ws : List W64) : List (Nat × Nat × Nat) :=
  (ws.zipIdx.filter (fun e => !e.1.getLsbD 63)).map (fun e => (e.2, bitsOf e.1 31 0, bitsOf e.1 47 32))

/-- A row put in its place in the order of source address for one destination address (R122). -/
def ShD.insRow (d : ShD) (x : Nat × Nat × Nat) : List (Nat × Nat × Nat) → List (Nat × Nat × Nat)
  | [] => [x]
  | y :: t => if x.1 * d.sstride + y.2.1 < y.1 * d.sstride + x.2.1 then x :: y :: t else y :: d.insRow x t

/-- Two rows write some byte both. -/
def ShD.meet (d : ShD) (l : List (Nat × Nat × Nat)) : Bool :=
  l.any (fun x => l.any (fun y => decide (x ≠ y ∧ x.2.2 = y.2.2 ∧ x.2.1 < y.2.1 + d.len ∧ y.2.1 < x.2.1 + d.len)))

/-- Rows in the order their writes are applied in: where some of them meet, that of increasing source address for each destination
address (R122). -/
def ShD.inOrder (d : ShD) (l : List (Nat × Nat × Nat)) : List (Nat × Nat × Nat) :=
  if d.meet l then l.foldl (fun acc x => d.insRow x acc) [] else l

/-- The rows a transfer writes, in the order of their writes: source row, offset from DST, member (R122, R123, R130); a scatter's by the
index list as it was read at its start (R102). -/
def ShD.rowsOf (d : ShD) (list : Option (List W64 × Bool)) : List (Nat × Nat × Nat) :=
  d.inOrder (if d.kind = 2 then
      (match list with
      | some (ws, _) => (listRows ws).map (fun e => (e.1, e.2.1 * d.dstride, e.2.2))
      | none => [])
    else (List.range d.rows).map (fun r => (r, r * d.dstride, d.member)))

/-- The device of a member of the descriptor's Ensemble. -/
def State.peerOf (s : State) (i : Inst) (d : ShD) (member : Nat) : Option Nat :=
  ((s.membersOf i.lead i.ctx i.vrank d.ens).find? (fun m => decide (m.1 = member))).map (fun (m : Nat × Nat) => m.2)

/-- A tensor's length where it is named as the logical whole (R124, R264): of a sharded one its shards together. -/
def State.wholeLen (s : State) (ctx tensor : Nat) : Option Nat :=
  match s.ctx? ctx with
  | none => none
  | some c => (c.decl tensor).map (fun (t : TensorDecl) =>
      if t.sharded then c.instBytes t * ((c.shape.map (fun (h : Shape) => h.dp)).getD 1) else t.bytes)

/-- Offset in a member's instance of an offset in the logical whole tensor (R124, R264); none where a run of `len` bytes does not lie in
that member's part. -/
def State.memberOff (s : State) (i : Inst) (ens tensor member off len : Nat) : Option Nat :=
  match s.ctx? i.ctx with
  | none => none
  | some c =>
    match c.decl tensor with
    | none => none
    | some t =>
      let k := ((s.membersOf i.lead i.ctx i.vrank ens).map (fun (m : Nat × Nat) => m.1)).idxOf member
      let size := c.instBytes t
      let base := if t.sharded && i.lead then k * size else 0
      if base ≤ off ∧ off - base + len ≤ size then some (off - base) else none

/-- Bytes from the first row's start to the last row's end at the source. -/
def ShD.extent (d : ShD) : Nat := (d.rows - 1) * d.sstride + d.len

/-- A gather's offset in its member's shard. -/
def State.shardOff (s : State) (i : Inst) (d : ShD) : Option Nat := s.memberOff i d.ens (tenOf d.src) d.member (offOf d.src) d.extent

/-- A tensor of the lead's that no transfer may read in the given way: a sharded working copy in place, which is read only through a
gathered copy (R265), and in a gather a master, a moment or an expert's state (R276, R279). The tensor fault is the model's reading (log
entry 27). -/
def State.unreadable (s : State) (i : Inst) (op tensor : Nat) : Bool :=
  match (s.ctx? i.ctx).bind (fun c => c.decl tensor) with
  | none => false
  | some t => i.lead && (if op = 1 then (t.isState && t.sharded && !t.working) || t.expert.isSome else t.sharded && t.working)

/-- The fault a transfer meets, if any, with STG_FAULT_INFO (R125, R130, R142, R197, R210, R211); `list` the index list as it was read. A
poisoned index list is a poison fault (R232; log entry 27). -/
def State.shCheck (s : State) (n : Nat) (i : Inst) (op : Nat) (d : ShD) (list : Option (List W64 × Bool)) : Option (Cause × W64) :=
  if !d.wellFormed op then some (.descriptor, 0)
  else if op = 3 then none
  else
    let extent (sp : Nat) (a : W64) (rs : List Nat) (w : Bool) : Option (Cause × W64) :=
      rs.findSome? (fun x => match s.rowRuns n i sp a x d.len w with
        | .inl _ => none
        | .inr c => some (c, a))
    let within (a : W64) (len : Nat) : Bool := match s.wholeLen i.ctx (tenOf a) with
      | some b => decide (offOf a + len ≤ b)
      | none => false
    let srcBad := if op = 1 then
        if (s.peerOf i d d.member).isNone || (s.shardOff i d).isNone || s.unreadable i op (tenOf d.src) then some (Cause.tensor, d.src) else none
      else if d.srcSp = 2 then (if (s.peerOf i d d.member).isSome && within d.src d.extent then none else some (Cause.tensor, d.src))
      else if d.srcSp = 1 && s.unreadable i op (tenOf d.src) then some (Cause.tensor, d.src)
      else extent d.srcSp d.src ((List.range d.rows).map (fun r => r * d.sstride)) false
    match srcBad with
    | some f => some f
    | none =>
      if op = 2 ∧ d.listOk i = false then some (.address, w64 d.listOff)
      else if op = 2 ∧ (list.map (fun x => x.2)).getD false = true then some (.poison, 0)
      else
        let rows := d.rowsOf list
        let dstBad := if d.dstSp = 2 then
            if rows.all (fun x => (s.peerOf i d x.2.2).isSome && (if op = 0 then within d.dst (x.2.1 + d.len)
              else (s.memberOff i d.ens (tenOf d.dst) x.2.2 (offOf d.dst + x.2.1) d.len).isSome)) then none else some (Cause.tensor, d.dst)
          else extent d.dstSp d.dst (rows.map (fun (x : Nat × Nat × Nat) => x.2.1)) true
        match dstBad with
        | some f => some f
        | none =>
          if d.red = 0 then none
          else
            match (s.ctx? i.ctx).bind (fun c => c.decl (tenOf d.dst)) with
            | none => some (.tensor, d.dst)
            | some t =>
              if i.lead then
                if t.keys.isEmpty then some (.tensor, d.dst)
                else if offOf d.dst % 256 ≠ 0 ∨ d.len % 256 ≠ 0 ∨ d.dstride % 256 ≠ 0 then some (.descriptor, 0)
                else none
              else if t.redDest then none else some (.tensor, d.dst)

/-- The record of a fill context's Ensemble identity, or 0 for the lead: how packets name the context (log entry 16). -/
def State.ensIdOf (s : State) (i : Inst) (role : Nat) : Nat :=
  if i.lead then 0
  else match s.link.fillEns.find? (fun e => decide (e.1 = i.ctx ∧ e.2.role = role) && e.2.ranks.contains s.link.me) with
    | some e => e.2.ensId
    | none => 0

/-- The context a packet's Ensemble identity names. -/
def State.ctxOfEns (s : State) (fill : Bool) (ensId : Nat) : Option Ctx :=
  if fill then (s.link.fillEns.find? (fun e => decide (e.2.ensId = ensId) && e.2.ranks.contains s.link.me)).bind (fun e => s.ctx? e.1)
  else s.leadCtx

/-- A transfer of a Stage changed. -/
def State.modOp (s : State) (n id : Nat) (f : ShOp → ShOp) : State :=
  s.modStage n (fun t => { t with sh := { t.sh with ops := t.sh.ops.map (fun o => if o.id = id then f o else o) } })

/-- The source row read; poisoned or not. -/
def State.readRow (s : State) (n : Nat) (i : Inst) (d : ShD) (r : Nat) : (List Byte × Bool × State) ⊕ MStop :=
  match s.rowRuns n i d.srcSp d.src (r * d.sstride) d.len false with
  | .inl l => readRuns n true l s
  | .inr _ => .inr .unmapped

/-- Source rows read one after another until one is poisoned: each row's bytes; whether all were clean. -/
def State.readRows (n : Nat) (i : Inst) (d : ShD) : List Nat → State → (List (List Byte) × Bool × State) ⊕ MStop
  | [], s => .inl ([], true, s)
  | r :: t, s =>
    match s.readRow n i d r with
    | .inr e => .inr e
    | .inl (bs, bad, s) =>
      if bad then .inl ([], false, s)
      else
        match State.readRows n i d t s with
        | .inr e => .inr e
        | .inl (l, ok, s) => .inl (bs :: l, ok, s)

/-- The bytes of a shard request (log entry 16): Ensemble, member, tensor, offset in the shard, row length, rows, stride, who asks, micro-batch,
and for a retained copy 1, the stamp wanted and the offset in the logical whole. -/
def gatherReqBytes (ens member tensor off len rows stride who mb : Nat) (want : Option (Nat × W64)) (whole : Nat) : List Byte :=
  leBytes 4 ens ++ leBytes 4 member ++ leBytes 4 tensor ++ leBytes 8 off ++ leBytes 8 len ++ leBytes 4 rows ++ leBytes 8 stride
    ++ leBytes 2 who ++ leBytes 8 mb ++ leBytes 1 (if want.isSome then 1 else 0) ++ leBytes 8 ((want.map (fun x => x.1)).getD 0)
    ++ leBytes 8 ((want.map (fun x => x.2.toNat)).getD 0) ++ leBytes 8 whole

/-- Rows of a copy of which rows of `len0` at a stride were taken at an offset: where each lies in those bytes, place and length; none where they
do not hold them. -/
def rowsIn (off0 len0 rows0 stride0 off len rows stride : Nat) : Option (List (Nat × Nat)) :=
  if off = off0 ∧ len = len0 ∧ rows = rows0 ∧ (stride = stride0 ∨ rows ≤ 1) then some ((List.range rows).map (fun r => (r * len, len)))
  else if (rows0 ≤ 1 ∨ stride0 = len0) ∧ off0 ≤ off ∧ off - off0 + (rows - 1) * stride + len ≤ len0 * rows0 then
    some ((List.range rows).map (fun r => (off - off0 + r * stride, len)))
  else none

/-- The retained copy that serves a gather of a member's shard in this step (R272). -/
def State.redirectOf (s : State) (i : Inst) (d : ShD) : Option (Redirect × List (Nat × Nat)) :=
  if i.lead then
    s.pbk.redirects.findSome? (fun x => if x.member = d.member ∧ x.tensor = tenOf d.src then
      (rowsIn x.off x.len x.rows x.stride (offOf d.src) d.len d.rows d.sstride).map (fun l => (x, l)) else none)
  else none

/-- Where a gather of a member's shard goes (R127, R272): to the member's host, unless a retained copy fetched to this device replaced it, which
is waited for until it has come. -/
def State.gatherFrom (s : State) (i : Inst) (d : ShD) : Option Nat :=
  match s.redirectOf i d with
  | some x => if x.1.found then some s.link.me else none
  | none => s.peerOf i d d.member

/-- A shard request goes to a device (R127); its launch has fetched over the links (R268). -/
def State.askShard (s : State) (n : Nat) (i : Inst) (o : ShOp) (d : ShD) (dev : Nat) : State :=
  match s.shardOff i d with
  | none => s
  | some off =>
    (s.modLaunch i.launch (fun y => { y with fetched := true })).sendData (!i.lead) dev 2 0x05 (o.slot + 8 * (n % 2)) n (w64 o.id)
      (gatherReqBytes (s.ensIdOf i d.ens) d.member (tenOf d.src) off d.len d.rows d.sstride s.link.me i.mb.toNat none (offOf d.src)) .other

/-- Micro-batches whose payloads wait in the queue between two ranks, another one than `mb` (R285). -/
def State.pipeHeld (s : State) (ctx src dst mb : Nat) : Nat :=
  ((s.link.pipeOut.filter (fun x => decide (x.1 = ctx ∧ x.2.1 = src ∧ x.2.2.1 = dst ∧ x.2.2.2 ≠ mb))).map
    (fun (x : Nat × Nat × Nat × Nat) => x.2.2.2)).eraseDups.length

def State.stageQueue (s : State) (ctx : Nat) : Nat :=
  match (s.ctx? ctx).bind (fun c => c.shape) with
  | some h => h.stageQueue
  | none => 2

/-- The whole payload that a DMOV from the ENSEMBLE space takes, if it has come (R285). -/
def State.payloadFor (s : State) (x : Inst) (d : ShD) : Option PipeMsg :=
  s.link.pipeIn.find? (fun m => decide (m.ctx = x.ctx ∧ m.srcVr = d.member ∧ (x.lead = false ∨ m.dstVr = x.vrank)
    ∧ m.mb = x.mb.toNat ∧ m.tensor = tenOf d.src ∧ m.off = offOf d.src ∧ m.data.length = m.total))

/-- An instance has a payload to send for which its queue has no credit (R285, R319). -/
def State.sendHeld (s : State) (i : Inst) (ops : List ShOp) : Bool :=
  ops.any (fun o => let d := shDesc o.desc
    decide (o.org.op = 0 ∧ d.dstSp = 2) && !o.sent && decide (s.stageQueue i.ctx ≤ s.pipeHeld i.ctx i.vrank d.member i.mb.toNat))

/-- An instance waits for a payload that has not come (R285, R319). -/
def State.takeHeld (s : State) (i : Inst) (ops : List ShOp) : Bool :=
  ops.any (fun o => let d := shDesc o.desc
    decide (o.org.op = 0 ∧ d.srcSp = 2) && (s.payloadFor i d).isNone)

/-- The packet contents of a payload (R285; layout log entry 16). -/
def State.pipePieces (s : State) (i : Inst) (d : ShD) (bs : List Byte) : List (List Byte) :=
  (List.range (cdiv bs.length 4000)).map (fun k =>
    leBytes 4 (s.ensIdOf i d.ens) ++ leBytes 4 i.vrank ++ leBytes 4 d.member ++ leBytes 8 i.mb.toNat
      ++ leBytes 4 (tenOf d.dst) ++ leBytes 8 (offOf d.dst) ++ leBytes 8 (d.len * d.rows) ++ leBytes 8 (4000 * k) ++ (bs.drop (4000 * k)).take 4000)

/-- The packet contents of a scattered row, to an offset in the member's instance (R124, R130; layout log entry 16). -/
def State.rowPieces (s : State) (i : Inst) (d : ShD) (member off : Nat) (bs : List Byte) : List (List Byte) :=
  (List.range (cdiv bs.length 4000)).map (fun k =>
    leBytes 4 (s.ensIdOf i d.ens) ++ leBytes 4 i.vrank ++ leBytes 4 member ++ leBytes 8 i.mb.toNat
      ++ leBytes 4 (tenOf d.dst) ++ leBytes 8 (off + 4000 * k) ++ leBytes 8 bs.length ++ leBytes 8 (4000 * k) ++ (bs.drop (4000 * k)).take 4000)

/-- A payload or row of the lead kept until the Curtain (R414). -/
def State.keepPieces (s : State) (i : Inst) (o : ShOp) (dev vc ty : Nat) (l : List (List Byte)) : State :=
  if i.lead then l.foldl (fun s data => s.keep ⟨dev, s.link.me, vc, 0, ty, 0, 0, 0, 0, w64 o.id, data⟩) s else s

/-- A transfer's packets go out, each with the source that its bytes come from (R344, R355). -/
def State.sendPieces (s : State) (n : Nat) (i : Inst) (o : ShOp) (dev vc ty : Nat) (runs : List (Nat × Nat)) (l : List (List Byte)) : State :=
  l.zipIdx.foldl (fun s x =>
    s.sendData (!i.lead) dev vc ty (o.slot + 8 * (n % 2)) 0 (w64 o.id) x.1 (.transfer n o.id) (cutRuns runs (4000 * x.2) 4000)) s

/-- A payload's packets (R285), kept until the Curtain (R414); `bs` falls short of the payload where a row is poisoned (R232). -/
def State.sendPipe (s : State) (n : Nat) (i : Inst) (o : ShOp) (d : ShD) (dev : Nat) (bs : List Byte) : State :=
  let l := s.pipePieces i d bs
  let runs := (List.range d.rows).flatMap (fun r => s.rowRuns? n i d.srcSp d.src (r * d.sstride) d.len false)
  (s.sendPieces n i o dev 0 0x03 runs l).keepPieces i o dev 0 3 l

/-- The packets of a scattered row, source row `r` (R130), kept until the Curtain (R414). -/
def State.sendRow (s : State) (n : Nat) (i : Inst) (o : ShOp) (d : ShD) (dev member off r : Nat) (bs : List Byte) : State :=
  let l := s.rowPieces i d member off bs
  (s.sendPieces n i o dev 1 0x04 (s.rowRuns? n i d.srcSp d.src (r * d.sstride) d.len false) l).keepPieces i o dev 1 4 l

/-- A payload to a rank on this device, a local copy (R285): into the receiver's queue, kept and entered in the log as one that comes over the links
(R413, R414); one that the receiver has taken in the step comes from a replaying sender and goes no further (R275). -/
def State.givePipe (s : State) (i : Inst) (o : ShOp) (d : ShD) (bs : List Byte) : State :=
  let m : PipeMsg := ⟨i.ctx, i.vrank, d.member, i.mb.toNat, tenOf d.dst, offOf d.dst, d.len * d.rows, s.link.me, bs⟩
  let same (x : PipeMsg) : Bool := decide ({ x with data := [] } = { m with data := [] })
  if s.link.pipeTaken.any same then s
  else
    let s := s.modLink (fun k =>
      { k with
        pipeOut := k.pipeOut ++ [(i.ctx, i.vrank, d.member, i.mb.toNat)]
        pipeIn := k.pipeIn.filter (fun x => !same x) ++ [m] })
    if i.lead then (s.keepPieces i o s.link.me 0 3 (s.pipePieces i d bs)).logPipe m.srcVr m.dstVr m.mb m.total else s

/-- The rows of a scatter to the ENSEMBLE space with their members' offsets (R124, R130): source row, offset, member. -/
def State.rowsTo (s : State) (i : Inst) (d : ShD) (list : Option (List W64 × Bool)) : List (Nat × Nat × Nat) :=
  (d.rowsOf list).filterMap (fun x => (s.memberOff i d.ens (tenOf d.dst) x.2.2 (offOf d.dst + x.2.1) d.len).map (fun o => (x.1, o, x.2.2)))

/-- Rows that a scatter's own members have taken, kept and entered in the log like those that come over the links (R413, R414). -/
def State.noteRows (s : State) (i : Inst) (o : ShOp) (d : ShD) (rows : List (List Byte)) : State :=
  if !i.lead then s
  else
    ((s.rowsTo i d o.list).filter (fun y => decide (y.1 < rows.length ∧ s.peerOf i d y.2.2 = some s.link.me))).foldl (fun s y =>
      let bs := rows.getD y.1 []
      (s.keepPieces i o s.link.me 1 4 (s.rowPieces i d y.2.2 y.2.1 bs)).logRow i.vrank y.2.2 i.mb.toNat (tenOf d.dst) y.2.1 bs.length) s

/-- A scatter's index list is read as it starts (R102, R130). -/
def State.takeList (s : State) (n : Nat) (i : Inst) (o : ShOp) : ShOp × State :=
  let d := shDesc o.desc
  if o.org.op ≠ 2 ∨ o.list.isSome = true ∨ o.dead = true ∨ d.wellFormed 2 = false ∨ d.listOk i = false then (o, s)
  else
    match s.apRead n (i.dataAddr d.listOff) (8 * d.rows) 3 with
    | (bs, bad, s) =>
      let o := { o with list := some (leWords d.rows bs, bad) }
      (o, s.modOp n o.id (fun _ => o))

/-- What of a transfer goes over the links is handed over, once it is among the eight being worked on (R122, R127, R130, R285): a
shard request; a payload that its queue has room for; the scattered rows of other devices, up to a poisoned one (R232). -/
def State.startOp (s : State) (n : Nat) (o : ShOp) : State :=
  match (s.stage n).inst with
  | none => s
  | some i =>
    let d := shDesc o.desc
    let op := o.org.op
    match s.takeList n i o with
    | (o, s) =>
      if o.sent || o.dead || (s.shCheck n i op d o.list).isSome then s
      else if op = 1 then
        match s.gatherFrom i d with
        | some dev => if dev = s.link.me then s
            else (s.modOp n o.id (fun o => { o with sent := true })).askShard n i o d dev
        | none => s
      else if d.dstSp ≠ 2 ∨ op = 3 then s
      else
        match State.readRows n i d (List.range d.rows) s with
        | .inr _ => s
        | .inl (rows, ok, s1) =>
          if op = 0 then
            match s.peerOf i d d.member with
            | none => s
            | some dev =>
              if s.stageQueue i.ctx ≤ s.pipeHeld i.ctx i.vrank d.member i.mb.toNat then s
              else
                let bs := rows.flatten
                let s := s1.modOp n o.id (fun o => { o with sent := true })
                if dev = s.link.me then (if ok then s.givePipe i o d bs else s)
                else
                  let s := if ok then s.modLink (fun k => { k with pipeOut := k.pipeOut ++ [(i.ctx, i.vrank, d.member, i.mb.toNat)] }) else s
                  s.sendPipe n i o d dev bs
          else
            let go := (s.rowsTo i d o.list).filter (fun x => decide (x.1 < rows.length))
            go.foldl (fun s x => match s.peerOf i d x.2.2 with
              | some dev => if dev = s.link.me then s else s.sendRow n i o d dev x.2.2 x.2.1 x.1 (rows.getD x.1 [])
              | none => s) (s1.modOp n o.id (fun o => { o with sent := true }))

/-- An active transfer without a slot takes the lowest free one of the eight (R102, R344). -/
def giveSlot (ops : List ShOp) (k : Nat) : List ShOp :=
  match ops[k]? with
  | some o =>
    if o.slot < 8 then ops
    else ops.set k { o with slot := ((List.range 8).find? (fun x => !ops.any (fun y => decide (y.slot = x)))).getD 0 }
  | none => ops

/-- Transfers among the first eight started, in issue order (R102, R122). -/
def State.kick (s : State) (n : Nat) : State :=
  let s := s.modStage n (fun t => { t with sh := { t.sh with ops := (List.range 8).foldl giveSlot t.sh.ops } })
  ((s.stage n).sh.ops.take 8).foldl (fun s o => s.startOp n o) s

/-- Class 0x9 issue: the descriptor is copied from the data region (R120, R121); with 32 outstanding the Prompter stalls (R101). A DESC that
is misaligned or reaches outside the data region is an address fault at issue: the spec gives neither its kind nor its time (DESIGN
CHOICE, log entry 27). -/
def issueSh (p : Iss) (op : Nat) (f : ShFields) (s : State) : Host.Outcome State Fault Refusal :=
  match issue p 9 op false [f.desc]
    (fun s t i =>
      if 32 ≤ t.sh.ops.length then .full
      else
        match i.record? (t.prm.reg f.desc) 64 64 with
        | none => .fault s .address (t.prm.reg f.desc)
        | some a =>
          match s.apRead p.stage a 64 3 with
          | (bs, bad, s) =>
            if bad then .fault s .poison 0
            else
              .seq (s.modStage p.stage (fun t =>
                { t with
                  prm := { t.prm with seq := t.prm.seq + 1 }
                  sh := { t.sh with
                    ops := t.sh.ops ++ [⟨⟨t.prm.pc, 9, op⟩, leWords 8 bs, a, f.sem.toNat, f.nosig, 0, none, none, 0, false, t.prm.seq,
                      false, 8⟩] } }))) s with
  | .next s => .next (s.kick p.stage)
  | x => x

/-- DMOV (R120). -/
def execDmov (p : Iss) (f : ShFields) (s : State) : Host.Outcome State Fault Refusal := issueSh p 0 f s
/-- DGATH (R120, R127). -/
def execDgath (p : Iss) (f : ShFields) (s : State) : Host.Outcome State Fault Refusal := issueSh p 1 f s
/-- DSCAT (R120, R130). -/
def execDscat (p : Iss) (f : ShFields) (s : State) : Host.Outcome State Fault Refusal := issueSh p 2 f s
/-- DREL (R120, R129). -/
def execDrel (p : Iss) (f : ShFields) (s : State) : Host.Outcome State Fault Refusal := issueSh p 3 f s

/-- What an attempt to make a transfer's effect comes to. -/
inductive ShOut where
  | done (s : State)
  | poison (s : State)
  | wait (s : State)

/-- Rows written one after another. -/
def State.writeRows (n : Nat) (i : Inst) (d : ShD) : List (Nat × List Byte) → State → State ⊕ MStop
  | [], s => .inl s
  | x :: t, s =>
    match s.rowRuns n i d.dstSp d.dst x.1 d.len true with
    | .inr _ => .inr .unmapped
    | .inl l => match writeRuns n l x.2 s with
      | .inr e => .inr e
      | .inl s => State.writeRows n i d t s

/-- The piece list of a reducing transfer, in the order of its writes: source row, offset in the row, tensor offset, device address, length
(R122, R126, R211). -/
def State.redPieces (s : State) (n : Nat) (i : Inst) (o : ShOp) (d : ShD) : List (Nat × Nat × Nat × Nat × Nat) :=
  (d.rowsOf o.list).flatMap (fun x =>
    let ps := (s.rowRuns? n i 1 d.dst x.2.1 d.len true).flatMap (fun p => piecesOf p.1 p.2)
    (ps.foldl (fun (acc : List (Nat × Nat × Nat × Nat × Nat) × Nat) p =>
      (acc.1 ++ [(x.1, acc.2, offOf d.dst + x.2.1 + acc.2, p.1, p.2)], acc.2 + p.2)) ([], 0)).1)

/-- The stamp of the copy of a shard held here: a lead working copy's own (R269). -/
def State.stampOf (s : State) (c : Ctx) (vr tensor : Nat) : Option (Nat × W64) :=
  if !c.lead then none
  else (s.pbk.digests.find? (fun x => decide (x.1 = vr ∧ x.2.1 = tensor ∧ x.2.2.1 = s.sched.step))).map
    (fun (x : Nat × Nat × Nat × W64) => (x.2.2.1, x.2.2.2))

/-- What this device can give of a shard (R265, R270, R272): for each row the runs of the current copy; where a stamp is `want`ed, of a copy that
has it, the current one or a pinned one (`whole` is the offset in the logical whole); and the copy's stamp. -/
def State.shardRuns (s : State) (c : Ctx) (vr tensor mb off len rows stride : Nat) (want : Option (Nat × W64)) (whole : Nat) :
    Option (List (List (Nat × Nat)) × Option (Nat × W64)) :=
  let cur := ((List.range rows).map (fun r => c.resolve (s.remoteKey c tensor vr mb) tensor (off + r * stride) len)).foldr
    (fun x acc => match x, acc with
      | some l, some m => some (l :: m)
      | _, _ => none) (some [])
  let st := s.stampOf c vr tensor
  match want with
  | none => cur.map (fun l => (l, st))
  | some w =>
    match cur, decide (st = some w) with
    | some l, true => some (l, st)
    | _, _ => (s.sched.pins.findSome? (fun p => if p.ctx = c.num ∧ p.member = vr ∧ p.tensor = tensor ∧ p.step = w.1 ∧ p.crc = w.2 then
        rowsIn p.off p.row (p.len / Nat.max 1 p.row) p.stride whole len rows stride |>.map (fun l => l.map (fun x => cutRuns p.runs x.1 x.2))
        else none)).map (fun l => (l, some w))

/-- Rows of runs read one after another until one is poisoned; whether all were clean. -/
def readShard (n : Nat) : List (List (Nat × Nat)) → State → (List Byte × Bool × State) ⊕ MStop
  | [], s => .inl ([], true, s)
  | l :: t, s =>
    match readRuns n true l s with
    | .inr e => .inr e
    | .inl (bs, bad, s) =>
      if bad then .inl ([], false, s)
      else
        match readShard n t s with
        | .inr e => .inr e
        | .inl (cs, ok, s) => .inl (bs ++ cs, ok, s)

/-- A stamp for shard bytes that carry none of their own (log entry 16). -/
def State.stampFor (s : State) (lead : Bool) (st : Option (Nat × W64)) (bs : List Byte) : Nat × W64 :=
  st.getD (if lead then s.sched.step else 0, crc64 bs)

/-- Where a shard that this device gives its own gather lies (R127): none where it cannot be found here, or where a copy fetched for the step
replaces it (R272). -/
def State.localShard (s : State) (i : Inst) (d : ShD) : Option (List (List (Nat × Nat)) × Option (Nat × W64)) :=
  match s.ctx? i.ctx, s.shardOff i d with
  | some c, some off => if (s.redirectOf i d).isSome then none
      else s.shardRuns c d.member (tenOf d.src) i.mb.toNat off d.len d.rows d.sstride none (offOf d.src)
  | _, _ => none

/-- A gathered shard is in: bytes, whether they are all, and stamp, from this device or as they arrived (R127, R265, R270, R272). -/
def State.shardHere (s : State) (n : Nat) (i : Inst) (o : ShOp) (d : ShD) : (List Byte × Bool × Nat × W64 × State) ⊕ MStop :=
  match o.arrived with
  | some (bs, st, c, _) => if bs.length = d.len * d.rows then .inl (bs, true, st, c, s) else .inr .ordered
  | none =>
    if s.gatherFrom i d ≠ some s.link.me then .inr .ordered
    else
      match s.redirectOf i d, s.localShard i d with
      | some (x, l), _ => .inl (l.flatMap (fun p => (x.data.drop p.1).take p.2), true, x.step, x.crc, s)
      | none, none => .inr .ordered
      | none, some (l, st) =>
        if l.all (fun r => r.all (fun p => s.mapped p.1 p.2)) then
          match readShard n l s with
          | .inr e => .inr e
          | .inl (bs, ok, s) => let v := s.stampFor i.lead st bs; .inl (bs, ok, v.1, v.2, s)
        else .inr .unmapped

/-- Fields written back into the descriptor (R123, R127): status and retries with WB, the stamp of a gather without MATCH. -/
def State.writeBackSh (s : State) (n : Nat) (o : ShOp) (d : ShD) (status : Nat) (stamp : Option (Nat × W64)) : State :=
  let s := if d.wb then s.apWrite n (o.daddr + 6) 3 [BitVec.ofNat 8 (Nat.min o.retries 255), BitVec.ofNat 8 status] else s
  match stamp with
  | some (st, c) => s.apWrite n (o.daddr + 52) 3 (leBytes 4 st ++ leBytes 8 c.toNat)
  | none => s

/-- The rows of a scatter that this device's own members take, with where they go (R124, R287). -/
def State.ownRuns (s : State) (x : Inst) (o : ShOp) (d : ShD) : List (Nat × List (Nat × Nat)) :=
  ((s.rowsTo x d o.list).filter (fun y => decide (s.peerOf x d y.2.2 = some s.link.me))).filterMap (fun y =>
    ((s.ctx? x.ctx).bind (fun c => c.resolveW (s.remoteKey c (tenOf d.dst) y.2.2 x.mb.toNat) (tenOf d.dst) y.2.1 d.len)).map
      (fun l => (y.1, l)))

/-- The device runs a transfer reads and writes here: of a gather from this device its member's shard, of a scatter its own members' rows
(R208). -/
def State.shRuns (s : State) (n : Nat) (i : Inst) (o : ShOp) (d : ShD) : List (Nat × Nat) :=
  (if d.srcSp = 2 then (if d.kind = 1 && o.arrived.isNone && decide (s.gatherFrom i d = some s.link.me) then
        (((s.localShard i d).map (fun (x : List (List (Nat × Nat)) × Option (Nat × W64)) => x.1)).getD []).flatten else [])
    else (List.range d.rows).flatMap (fun r => s.rowRuns? n i d.srcSp d.src (r * d.sstride) d.len false))
    ++ (if d.dstSp = 2 then (if d.kind = 2 then (s.ownRuns i o d).flatMap (fun (x : Nat × List (Nat × Nat)) => x.2) else [])
      else (d.rowsOf o.list).flatMap (fun x => s.rowRuns? n i d.dstSp d.dst x.2.1 d.len true))

/-- A stop of a memory access: an ordered line makes the transfer wait (R214), a set without a free way as well (R208). -/
def State.shStop (s : State) (n : Nat) (i : Inst) (o : ShOp) (d : ShD) (e : MStop) : ShOut :=
  match e with
  | .pinned =>
    match (s.shRuns n i o d).find? (fun p => s.blocked ⟨i.ctx, p.1, p.2, none, none⟩) with
    | some p => .wait (s.addWaiter ⟨i.ctx, p.1, p.2, none, some (n, o.org.pc, o.org.cls, o.org.op)⟩)
    | none => .wait s
  | _ => .wait s

/-- The rows of a transfer within the device copied, up to the first poisoned one (R122, R232). Every row of the block is read, those
that a list skips too, so that a poisoned one stops the transfer (DESIGN CHOICE, log entry 27). -/
def State.copyRows (s : State) (n : Nat) (i : Inst) (o : ShOp) (d : ShD) (rows : List (Nat × Nat × Nat)) : ShOut :=
  match State.readRows n i d (List.range d.rows) s with
  | .inr e => s.shStop n i o d e
  | .inl (bs, ok, s1) =>
    match State.writeRows n i d ((rows.filter (fun x => decide (x.1 < bs.length))).map (fun x => (x.2.1, bs.getD x.1 []))) s1 with
    | .inr e => s.shStop n i o d e
    | .inl s2 => if ok then .done s2 else .poison s2

/-- A transfer ends with a fault (R125, R137): the status is written back first. -/
def State.shFault (s : State) (n : Nat) (o : ShOp) (d : ShD) (c : Cause) (info : W64) (item : Option (Nat × Nat × Nat × Nat)) : State :=
  (s.writeBackSh n o d c.code none).kernelFault n ⟨c, o.org, info, item⟩

/-- A transfer is complete (R121): status, then the semaphore; the next transfers start. -/
def State.shDone (s : State) (n : Nat) (o : ShOp) (d : ShD) (stamp : Option (Nat × W64)) : State :=
  let s := s.writeBackSh n o d 0 stamp
  let s := s.modStage n (fun t => { t with sh := { t.sh with ops := t.sh.ops.filter (fun x => decide (x.id ≠ o.id)) } })
  (if o.nosig then s else s.semAdd n o.sem 1 o.org).kick n

/-- The tensor bytes whose loss a poisoned source is (R137): of a gather the member's, in its shard. -/
def State.shItem (s : State) (i : Inst) (d : ShD) : Option (Nat × Nat × Nat × Nat) :=
  if d.srcSp = 0 then none
  else if d.kind = 1 then (s.shardOff i d).map (fun o => (d.member, tenOf d.src, o, d.extent))
  else some (i.vrank, tenOf d.src, offOf d.src, d.extent)

/-- Searches are one by their member, tensor and rows. -/
def Redirect.same (x y : Redirect) : Bool :=
  decide (x.member = y.member ∧ x.tensor = y.tensor ∧ x.off = y.off ∧ x.len = y.len ∧ x.rows = y.rows ∧ x.stride = y.stride)

def State.dropRedirect (s : State) (x : Redirect) : State :=
  s.modPbk (fun p => { p with redirects := p.redirects.filter (fun y => !x.same y) })
def State.putRedirect (s : State) (x : Redirect) : State :=
  (s.dropRedirect x).modPbk (fun p => { p with redirects := p.redirects ++ [x] })

/-- A search's offset in the member's instance. -/
def State.redirectOff (s : State) (x : Redirect) : Nat :=
  match s.leadCtx.bind (fun c => (c.decl x.tensor).map (fun t => (c, t))) with
  | some (c, t) => x.off - (if t.sharded then x.off / Nat.max 1 (c.instBytes t) * c.instBytes t else 0)
  | none => x.off

/-- The retained copy looked for, where this device holds it and can read it. -/
def State.readRetained (s : State) (x : Redirect) : Option (List Byte × State) :=
  match s.leadCtx.bind (fun c => s.shardRuns c x.member x.tensor 0 (s.redirectOff x) x.len x.rows x.stride (some (x.step, x.crc)) x.off) with
  | none => none
  | some (l, _) => match readShard 4 l s with
    | .inl (bs, true, s) => some (bs, s)
    | _ => none

/-- The fetch of a retained copy goes on at the next device (R272): here the copy is read at once, elsewhere it is asked for; with none left the
event is a double fault. -/
def State.seekRetained (s : State) (x : Redirect) : List Nat → State
  | [] => (s.dropRedirect x).doubleFault []
  | dev :: t =>
    let y := { x with devs := dev :: t, found := false, data := [] }
    if dev = s.link.me then
      match s.readRetained y with
      | some (bs, s) => s.putRedirect { y with found := true, data := bs }
      | none => State.seekRetained s x t
    else
      (s.putRedirect y).sendData false dev 2 0x05 0 144 (w64 (x.member + x.tensor * 2 ^ 32))
        (gatherReqBytes 0 x.member x.tensor (s.redirectOff x) x.len x.rows x.stride s.link.me 0 (some (x.step, x.crc)) x.off) .other

/-- A version fault in the lead (R272): the copy with the stamp of the forward gather is fetched from the mirror, from the pins here, or from those
of the other devices of the Ensemble; until it has come the gathers of the item's replay wait. -/
def State.redirect (s : State) (i : Inst) (d : ShD) : State :=
  match s.link.roster with
  | none => s.doubleFault []
  | some r =>
    let m := match r.entry (r.hostOf d.member) with
      | some e => [e.mirror]
      | none => []
    let devs := (m ++ [s.link.me] ++ (s.membersOf i.lead i.ctx i.vrank d.ens).map (fun (x : Nat × Nat) => x.2)).eraseDups.filter
      (fun x => decide (x ≠ noDev) && !s.pbk.failed.contains x)
    s.seekRetained ⟨d.member, tenOf d.src, offOf d.src, d.len, d.rows, d.sstride, d.ens, d.verStep, d.verCrc, devs, false, []⟩ devs

/-- A payload taken out of its queue, and its sender told (R285, R349); one of the lead's is kept for a replay in the step (R137). -/
def State.takePipe (s : State) (m : PipeMsg) (fill : Bool) (ensId : Nat) : State :=
  let s := s.modLink (fun k => { k with pipeIn := k.pipeIn.erase m, pipeTaken := if fill then k.pipeTaken else k.pipeTaken ++ [m] })
  if m.dev = s.link.me then s.modLink (fun k => { k with pipeOut := k.pipeOut.erase (m.ctx, m.srcVr, m.dstVr, m.mb) })
  else s.sendData fill m.dev 4 0x10 0 3 (w64 m.mb) (leBytes 4 ensId ++ leBytes 4 m.srcVr ++ leBytes 4 m.dstVr) .other

/-- A DREL completes (R129): the pin of its tensor, offset and length goes, the kernel's own item's first; one that names no pin has no
effect. -/
def State.unpin (s : State) (x : Inst) (d : ShD) : State :=
  let hit (p : Pin) : Bool := decide (p.ctx = x.ctx ∧ p.tensor = tenOf d.src ∧ p.off = offOf d.src ∧ p.len = d.len * d.rows)
  s.modSched (fun q =>
    { q with
      pins := match q.pins.find? (fun p => hit p && decide (p.vrank = x.vrank ∧ p.mb = x.mb.toNat)), q.pins.find? hit with
        | some p, _ => q.pins.erase p
        | none, some p => q.pins.erase p
        | none, none => q.pins })

/-- A gathered copy put in place under its stamp, pinned where the descriptor says so (R127, R129). -/
def State.landShard (s : State) (n : Nat) (x : Inst) (d : ShD) (bs : List Byte) (st : Nat) (c : W64) : State ⊕ MStop :=
  let rows := (List.range (bs.length / d.len)).map (fun r => (r * d.dstride, (bs.drop (r * d.len)).take d.len))
  match State.writeRows n x d rows s with
  | .inr e => .inr e
  | .inl s =>
    let runs := (List.range d.rows).flatMap (fun r => s.rowRuns? n x d.dstSp d.dst (r * d.dstride) d.len true)
    .inl (if d.pin && decide (bs.length = d.len * d.rows) then
        s.modSched (fun q => { q with pins := q.pins ++ [⟨x.ctx, x.launch, x.vrank, x.mb.toNat,
          ((s.launch? x.launch).map (fun (y : Launch) => y.insts)).getD [], tenOf d.src, offOf d.src, d.len * d.rows, d.len, d.sstride, d.member, st, c, runs⟩] })
      else s)

/-- An attempt's stop carried out. -/
def State.shWait (s : State) (n : Nat) (x : Inst) (o : ShOp) (d : ShD) (e : MStop) : State :=
  match s.shStop n x o d e with
  | .wait s => s
  | _ => s

/-- DGATH completes (R127, R129, R232, R271, R272): the version checked, the copy put in place; a local source that turns out poisoned leaves the
rows before it, and a version fault in the lead starts the search for a retained copy. -/
def State.completeGather (s : State) (n : Nat) (x : Inst) (o : ShOp) (d : ShD) : State :=
  match s.shardHere n x o d with
  | .inr .unmapped => s.shFault n o d .address d.src none
  | .inr .pinned => s.shWait n x o d .pinned
  | .inr .ordered => s
  | .inl (bs, ok, st, c, s1) =>
    if ok && d.matching && !decide (st % 2 ^ 32 = d.verStep ∧ c = d.verCrc) then
      (if x.lead then s1.redirect x d else s1).shFault n o d .version 0 none
    else
      match s1.landShard n x d bs st c with
      | .inr e => s.shWait n x o d e
      | .inl s => if ok then s.shDone n o d (if d.matching then none else some (st, c)) else s.shFault n o d .poison 0 (s.shItem x d)

/-- A payload from the ENSEMBLE space completes a DMOV (R285). -/
def State.completePipe (s : State) (n : Nat) (x : Inst) (o : ShOp) (d : ShD) : State :=
  match s.payloadFor x d with
  | none => s
  | some m =>
    if m.total ≠ d.len * d.rows then s.shFault n o d .tensor d.src none
    else
      match State.writeRows n x d ((List.range d.rows).map (fun r => (r * d.dstride, (m.data.drop (r * d.len)).take d.len))) s with
      | .inr e => s.shWait n x o d e
      | .inl s => (s.takePipe m (!x.lead) (s.ensIdOf x d.ens)).shDone n o d none

/-- The rows of a scatter that this device's own members take (R124, R287). -/
def State.ownRows (s : State) (n : Nat) (x : Inst) (o : ShOp) (d : ShD) (rows : List (List Byte)) : State ⊕ MStop :=
  ((s.ownRuns x o d).filter (fun y => decide (y.1 < rows.length))).foldl
    (fun (acc : State ⊕ MStop) y => match acc with
      | .inr e => .inr e
      | .inl s => writeRuns n y.2 (rows.getD y.1 []) s) (.inl s)

/-- A DMOV or DSCAT to the ENSEMBLE space completes (R130, R232, R285): once what it sent is acknowledged; a scatter's own members take their
rows. A poisoned row stops it, and the rows before it stay sent and written. -/
def State.completeSend (s : State) (n : Nat) (x : Inst) (o : ShOp) (d : ShD) : State :=
  match State.readRows n x d (List.range d.rows) s with
  | .inr e => s.shWait n x o d e
  | .inl (rows, ok, s1) =>
    if o.org.op = 0 then
      if !ok then s1.shFault n o d .poison 0 (s1.shItem x d)
      else if !o.sent || s.inFlight (fun q => decide (q = .transfer n o.id)) then s
      else s.shDone n o d none
    else if ok && (!o.sent || s.inFlight (fun q => decide (q = .transfer n o.id))) then s
    else
      match s1.ownRows n x o d rows with
      | .inr e => s.shWait n x o d e
      | .inl s =>
        let s := s.noteRows x o d rows
        if ok then s.shDone n o d none else s.shFault n o d .poison 0 (s.shItem x d)

/-- STAGEHAND_COMPLETE (R121, R122, R125-R130, R232, R354, R372): transfer `i` of the eight being worked on completes, with every check at that
moment. It does not come about while a source line is ordered and incomplete, while packets are unacknowledged, while reduce writes
are outstanding, or while a shard or payload has not arrived. -/
def execStagehandComplete (n : Nat) (i : Nat) (s : State) : Host.Outcome State Fault Refusal :=
  if n < 144 then
    let s := s.kick n
    match (s.stage n).inst, ((s.stage n).sh.ops.take 8)[i]? with
    | some x, some o =>
      let d := shDesc o.desc
      let op := o.org.op
      if o.dead then (if x.lead then .next s else .next (s.shFault n o d .tensor d.dst none))
      else
        match s.shCheck n x op d o.list with
        | some (c, info) => .next (s.shFault n o d c info none)
        | none =>
          if op = 3 then .next ((s.unpin x d).shDone n o d none)
          else if op = 1 then .next (s.completeGather n x o d)
          else if d.red ≠ 0 then
            if o.lines < (s.redPieces n x o d).length then .next s else .next (s.shDone n o d none)
          else if op = 0 ∧ d.srcSp = 2 then .next (s.completePipe n x o d)
          else if d.dstSp = 2 then .next (s.completeSend n x o d)
          else
            match s.copyRows n x o d (d.rowsOf o.list) with
            | .done s => .next (s.shDone n o d none)
            | .poison s => .next (s.shFault n o d .poison 0 (s.shItem x d))
            | .wait s => .next s
    | _, _ => .next s
  else .fault .noSuchUnit

/-- The next reduce write of a transfer (R126, R211): the write and its device address, and the state after its source is read; `none`
in the first place where no write is due. -/
def State.nextRed (s : State) (n i : Nat) : Option (Inst × ShOp × ShD × RedWrite × Nat × Bool × State) :=
  match (s.stage n).inst, ((s.stage n).sh.ops.take 8)[i]? with
  | some x, some o =>
    let d := shDesc o.desc
    if d.red = 0 ∨ o.dead = true ∨ (s.shCheck n x o.org.op d o.list).isSome = true then none
    else
      match (s.redPieces n x o d)[o.lines]? with
      | none => none
      | some p =>
        match s.readRow n x d p.1 with
        | .inr _ => none
        | .inl (bs, bad, s1) =>
          some (x, o, d, ⟨x.ctx, tenOf d.dst, p.2.2.1, d.red, if x.lead then d.key else 0, (bs.drop p.2.1).take p.2.2.2.2, false⟩,
            p.2.2.2.1, bad, s1)
  | _, _ => none

/-- The declaration a reduce write obeys: keys given by rank alone take the instance's own rank (R211, R273). -/
def State.redDecl (s : State) (i : Inst) (tensor : Nat) : Option TensorDecl :=
  match (s.ctx? i.ctx).bind (fun c => c.decl tensor) with
  | none => none
  | some t => some (if t.byRank then { t with keys := t.keys.map (fun k => i.vrank * 2 ^ 48 + k % 2 ^ 48) } else t)

/-- REDUCE_WRITE (R126, R209-R216, R231, R232): the next write of transfer `i` reaches its line: applied, held, discarded or refused. The
operand must be that write; its poison mark says whether the data took poison on the way. A poisoned source row raises a poison
fault. -/
def execReduceWrite (w : RedWrite) (n : Nat) (i : Nat) (s : State) : Host.Outcome State Fault Refusal :=
  if n < 144 then
    match s.nextRed n i with
    | none => .next s
    | some (x, o, d, w', a, bad, s1) =>
      if bad then .next (s1.shFault n o d .poison 0 (s1.shItem x d))
      else if { w with poison := false } ≠ w' then .next s
      else
        match s1.redDecl x w.tensor with
        | none => .next s
        | some t =>
          match s1.reduce x.lead t a w.red w.key w.data w.poison with
          | .taken s2 => .next (s2.modOp n o.id (fun o => { o with lines := o.lines + 1 }))
          | .refused s2 => .next s2
          | .stop .pinned => .next (s.addWaiter ⟨x.ctx, a, w.data.length, some w.data, some (n, o.org.pc, o.org.cls, o.org.op)⟩)
          | .stop _ => .next s
  else .fault .noSuchUnit

/-- REDUCE_REFUSE_LIMIT (R213): a write that stays refused for 10 ms. -/
def execReduceRefuseLimit (n : Nat) (i : Nat) (s : State) : Host.Outcome State Fault Refusal :=
  if n < 144 then
    match s.nextRed n i with
    | none => .next s
    | some (x, o, d, w, a, _, s1) =>
      match s1.redDecl x w.tensor with
      | none => .next s
      | some t =>
        match s1.reduce x.lead t a w.red w.key w.data w.poison with
        | .refused _ => .next (s.shFault n o d .waitLimit 0 none)
        | _ => .next s
  else .fault .noSuchUnit

/-- A transfer's source read is held by a line in the middle of its sequence (R214), a local gather's too. -/
def State.heldByOrder (s : State) (n : Nat) (x : Inst) (d : ShD) : Bool :=
  let mid (l : List (Nat × Nat)) : Bool := l.any (fun p => (piecesOf p.1 p.2).any (fun q => s.midSeq (q.1 / 256) && decide (q.1 < apronBase)))
  if d.kind = 1 then
    decide (s.gatherFrom x d = some s.link.me) && (match s.localShard x d with
      | some (l, _) => l.any mid
      | none => false)
  else decide (d.srcSp ≠ 2) && (List.range d.rows).any (fun r => mid (s.rowRuns? n x d.srcSp d.src (r * d.sstride) d.len false))

/-- ORDERED_READ_WAIT_LIMIT (R214): transfer `i` has waited 10 ms for an ordered line. -/
def execOrderedReadWaitLimit (n i : Nat) (s : State) : Host.Outcome State Fault Refusal :=
  if n < 144 then
    match (s.stage n).inst, ((s.stage n).sh.ops.take 8)[i]? with
    | some x, some o =>
      let d := shDesc o.desc
      if (s.shCheck n x o.org.op d o.list).isNone && s.heldByOrder n x d then .next (s.shFault n o d .waitLimit 0 none) else .next s
    | _, _ => .next s
  else .fault .noSuchUnit

/-- The device a retry goes to (R419): the source twice, then the other holders in turn. -/
def retryDev (src : Nat) (others : List Nat) (k : Nat) : Nat :=
  if k < 2 ∨ others.isEmpty = true then src else others.getD ((k - 2) % others.length) src

/-- The holders besides its owner that a shard is asked of in turn under a Roster (R419): of a parity-class unit its parity holder. -/
def State.retryHolders (s : State) (r : Roster) (owner vr tensor off : Nat) : List Nat :=
  if s.classIn r owner tensor = 3 then
    match r.entry owner, seqPos vr tensor off 0 (s.parRunsIn r owner) with
    | some x, some a =>
      let ms := (groupOf r.devs x.pgroup).map (fun (e : DevEntry) => e.number)
      ((ms[(parityPlace ms.length x.ppos (a / 65536)).1]?).toList).filter (fun h => decide (h ≠ owner) && !s.pbk.failed.contains h)
    | _, _ => []
  else s.sources r owner tensor

/-- A gather asked for again (R128, R419). -/
def State.regather (s : State) (n : Nat) (i : Inst) (o : ShOp) (d : ShD) : State :=
  match s.gatherFrom i d, s.link.roster with
  | some src, r =>
    let k := o.retries + 1
    let others := match r with
      | some r => if i.lead then s.retryHolders r (r.hostOf d.member) d.member (tenOf d.src) ((s.shardOff i d).getD 0) else []
      | none => []
    ((s.modOp n o.id (fun o => { o with retries := k, arrived := none, sent := true })).bump .pbkShardRetry 0 1).askShard n i o d
      (retryDev src others k)
  | none, _ => s

/-- A request for state asked again (R419, R428): of a rank that moved here the holders are those of the device that hosted it. -/
def State.reask (s : State) (q : StReq) : State :=
  match s.link.roster with
  | none => s
  | some r =>
    let r := if r.hostOf q.vr = s.link.me then s.link.prevRoster.getD r else r
    let others := (s.retryHolders r (r.hostOf q.vr) q.vr (q.tensor % shadowBit) q.off).filter (fun d => decide (d ≠ q.src ∧ d ≠ s.link.me))
    let dev := retryDev q.src others q.tries
    let s := (s.modPbk (fun p => { p with reqs := p.reqs.map (fun x => if x = q then { q with tries := q.tries + 1 } else x) })).bump
      .pbkShardRetry 0 1
    s.sendStateReq dev q

/-- SHARD_RETRY_TIMEOUT (R419): RETRY_US without data: gather `i` of Stage `n`, or with `n` = 144 request `i` for state, goes out
again. -/
def execShardRetryTimeout (n i : Nat) (s : State) : Host.Outcome State Fault Refusal :=
  if n = 144 then
    match s.pbk.reqs[i]? with
    | some q => .next (s.reask q)
    | none => .next s
  else if n < 144 then
    match (s.stage n).inst, ((s.stage n).sh.ops.take 8)[i]? with
    | some x, some o =>
      let d := shDesc o.desc
      if o.org.op = 1 ∧ o.sent = true ∧ o.dead = false ∧ (match o.arrived with
          | some a => decide (a.1.length ≠ d.len * d.rows)
          | none => true) = true then .next (s.regather n x o d) else .next s
    | _, _ => .next s
  else .fault .noSuchUnit

/-- SHARD_DECLARE_TIMEOUT (R419, R422): 400 µs after the first request the source is declared failed. -/
def execShardDeclareTimeout (n i : Nat) (s : State) : Host.Outcome State Fault Refusal :=
  if n = 144 then
    match s.pbk.reqs[i]? with
    | some q => .next ((s.bump .pbkShardDeclare 0 1).reportSuspect q.src 3)
    | none => .next s
  else if n < 144 then
    match (s.stage n).inst, ((s.stage n).sh.ops.take 8)[i]? with
    | some x, some o =>
      let d := shDesc o.desc
      if o.org.op = 1 ∧ o.sent = true ∧ o.dead = false ∧ (match o.arrived with
          | some a => decide (a.1.length ≠ d.len * d.rows)
          | none => true) = true then
        match s.peerOf x d d.member with
        | some dev => .next ((s.bump .pbkShardDeclare 0 1).reportSuspect dev 3)
        | none => .next s
      else .next s
    | _, _ => .next s
  else .fault .noSuchUnit

end Sys2Proof.Machine
end

