-- ==== Sys2Proof/Machine/Engine.lean ====
section
/-! DEFINITION. The collectives engine: reduce-scatter chains, all-gather, all-to-all, broadcast, totals and their tees (R274, R277,
R381-R387, R404-R407, R430, R433, R436). Packet layouts are log entry 16. -/

namespace Sys2Proof.Machine

/-- Fields of a collective record (R381). -/
def Coll.op (k : Coll) : Nat := bitsOf (k.words.getD 0 0) 3 0
def Coll.red (k : Coll) : Nat := bitsOf (k.words.getD 0 0) 11 10
def Coll.tee (k : Coll) : Bool := (k.words.getD 0 0).getLsbD 12
def Coll.root (k : Coll) : Nat := bitsOf (k.words.getD 0 0) 24 13
def Coll.src (k : Coll) : W64 := k.words.getD 1 0
def Coll.dst (k : Coll) : W64 := k.words.getD 2 0
def Coll.chunk (k : Coll) : Nat := bitsOf (k.words.getD 3 0) 31 0

/-- The rank and the host of a member. -/
def Coll.vr (k : Coll) (m : Nat) : Nat := k.members.getD m 0
def State.collHost (s : State) (k : Coll) (m : Nat) : Nat := s.hostOfRank (k.vr m)

/-- Members hosted on this device. -/
def State.collMine (s : State) (k : Coll) : List Nat :=
  (List.range k.members.length).filter (fun m => decide (s.collHost k m = s.link.me))

/-- A collective is one by its launch and its members. -/
def Coll.same (a b : Coll) : Bool := decide (a.launch = b.launch ∧ a.members = b.members)
def State.putColl (s : State) (k : Coll) : State :=
  s.modLink (fun l => { l with colls := l.colls.map (fun x => if x.same k then k else x) })

/-- A total has been applied where a rank's instance lies (R406): the step is noted by its DST word. -/
def State.applied (s : State) (vr key : Nat) : Bool := s.pbk.applied.contains (vr, key, s.sched.step)
def State.markApplied (s : State) (vr key : Nat) : State :=
  s.modPbk (fun p => { p with applied := p.applied.filter (fun x => !decide (x.1 = vr ∧ x.2.1 = key)) ++ [(vr, key, s.sched.step)] })

/-- A total that a protected shard has taken in the step already: a later one is discarded (R406). -/
def State.settled (s : State) (vr tensor off : Nat) : Bool := s.applied vr (totalKey tensor off) && s.guarded vr tensor off

/-- Totals to a rank's tensor go to its mirror as well (R381, R382, R403): the record's TEE asks for it, or a parity group of fewer than 3 members
has the tensor protected as mirrored. -/
def State.teed (s : State) (r : Roster) (vr tensor : Nat) (tee : Bool) : Bool := tee || decide (s.classIn r (r.hostOf vr) tensor = 2)

/-- A total on VC3 to a mirror, a handover's target or an old holder (R407, R416, R433, R436; layout log entry 16). -/
def State.sendTotal (s : State) (dst vr tensor off : Nat) (bs : List Byte) : State :=
  (List.range (cdiv bs.length 3900)).foldl (fun s k =>
    s.resil dst 0x03 (w64 tensor) (leBytes 4 vr ++ leBytes 4 tensor ++ leBytes 8 s.sched.step ++ leBytes 8 off ++ leBytes 8 bs.length
      ++ leBytes 8 (3900 * k) ++ (bs.drop (3900 * k)).take 3900)) s

/-- What an update entry of a rank waits on here, of one entry of its sheet (R277, R302, R405): none while it is not to be had yet; a total that has
come is no further condition; of another update for the rank its launch on this device; of anything else the launches of this device. -/
def State.depHere (s : State) (sc : Score) (cs : List Cue) (p vr : Nat) (x : Cue × Nat) (d : Nat) : Option (List Nat) :=
  if d = 0 then some []
  else
    match cs[x.2 - d]? with
    | none => some []
    | some y =>
      let at' (l : Launch) : Bool := decide (l.sheet = p ∧ l.entry = x.2 - d)
      if y.kind = 4 then
        (match sc.colls[y.kernel]? with
        | some ws => if s.applied vr (ws.getD 2 0).toNat then some [] else none
        | none => some [])
      else if y.kind = 2 then (s.sched.launches.find? (fun l => at' l && decide (l.kind = 2 ∧ l.vrank = vr))).map (fun (l : Launch) => [l.id])
      else some ((s.sched.launches.filter (fun l => at' l && (decide (l.serves = 0 ∨ l.vrank = vr)))).map (fun (l : Launch) => l.id))

/-- One update entry of a rank launched on a holder that is not its host, outside the Tally (R178, R405): once, with every total it waits on there. -/
def State.addUpdate (s : State) (c : Ctx) (sc : Score) (p vr : Nat) (cs : List Cue) (x : Cue × Nat) : State :=
  if s.sched.launches.any (fun y => decide (y.kind = 2 ∧ y.sheet = p ∧ y.entry = x.2 ∧ y.vrank = vr)) ∨ (x.1.dep0 = 0 ∧ x.1.dep1 = 0) then s
  else
    match s.depHere sc cs p vr x x.1.dep0, s.depHere sc cs p vr x x.1.dep1 with
    | some a, some b =>
      let l : Launch :=
        { id := s.sched.nextLaunch, ctx := c.num, sheet := p, entry := x.2, kind := 2, backward := x.1.dir, kernel := x.1.kernel
          layer := x.1.layer, vrank := vr, mb := 0, group := none, deps := a ++ b, cap := x.1.share, state := 0, stages := [], left := 0
          serves := 1, insts := [(vr, 0)], fetched := false, started := 0, preempts := 0, noTally := true, tally := tallyEmpty, tallied := false, tags := [] }
      s.modSched (fun q => { q with launches := q.launches ++ [l], nextLaunch := q.nextLaunch + 1 })
    | _, _ => s

/-- The update launches that a total for a rank makes due on a holder that is not its host (R277, R405), in the order of the rank's sheet. -/
def State.addUpdates (s : State) (vr : Nat) : State :=
  match s.leadCtx, s.leadCtx.bind (fun c => c.score), s.leadCtx.bind (fun c => c.shape) with
  | some c, some sc, some h => (s.updateCues vr).foldl (fun s u => s.addUpdate c sc (h.pOf vr) vr (s.cuesOf vr) u.1) s
  | _, _, _ => s

/-- A total, or its last piece from `pos` on, written where a rank's instance lies on this device; `elsewhere` says this device does not host the
rank. -/
def State.takeTotal (s : State) (vr tensor off pos : Nat) (bs : List Byte) (elsewhere : Bool) : State :=
  if s.settled vr tensor off then s
  else
    let s := match s.leadCtx with
      | some c => (match c.placeOf vr tensor, c.decl tensor with
        | none, some d => s.placeTensor c.num vr d
        | _, _ => s)
      | none => s
    let s := (s.pokeTensor vr tensor (off + pos) bs).markApplied vr (totalKey tensor off)
    if elsewhere then s.addUpdates vr else s

/-- Where an owner's total also goes (R433, R436): the targets of open handovers and the old sources of open loads. -/
def State.forwardTotal (s : State) (vr tensor off : Nat) (bs : List Byte) : State :=
  let ds := ((s.pbk.handovers.filter (fun h => decide (h.vr = vr ∧ h.src = s.link.me))).map (fun (h : Handover) => h.tgt)
    ++ (s.pbk.refill.filter (fun r => decide (r.kind = 0 ∧ r.vr = vr ∧ r.src ≠ s.link.me))).map (fun (r : Refill) => r.src)).eraseDups
  ds.foldl (fun s d => s.sendTotal d vr tensor off bs) s

/-- A copy's place in DST (R385). -/
def Coll.copyOff (k : Coll) (chain : Nat) : Nat := if k.op = 3 then 0 else chain * k.chunk

/-- Children of a member in a broadcast (R385). -/
def Coll.kids (k : Coll) (m : Nat) : List Nat :=
  let n := k.members.length
  let pos := (m + n - k.root) % n
  ((List.range 8).map (fun j => 8 * pos + 1 + j)).filter (fun x => decide (x < n)) |>.map (fun x => (x + k.root) % n)

/-- A chunk for a member: put in place on this device, or on its way out. A broadcast goes on to the member's children. `fuel` bounds the
members it passes. -/
def State.giveChunk : Nat → State → Coll → Nat → Nat → Nat → List Byte → State × Coll
  | 0, s, k, _, _, _, _ => (s, k)
  | f + 1, s, k, kind, chain, m, bs =>
    if s.collHost k m ≠ s.link.me then (s, { k with outs := k.outs ++ [⟨kind, chain, m, 0, false, bs⟩] })
    else if kind = 0 then (s, { k with ready := k.ready ++ [(m, chain, bs)] })
    else if kind = 1 then
      let t := tenOf k.dst
      let fresh := !s.settled (k.vr m) t (offOf k.dst)
      let s := s.takeTotal (k.vr m) t (offOf k.dst) 0 bs false
      (if fresh then s.forwardTotal (k.vr m) t (offOf k.dst) bs else s, { k with written := k.written ++ [(m, chain)] })
    else
      let s := s.pokeTensor (k.vr m) (tenOf k.dst) (offOf k.dst + k.copyOff chain) bs
      let k := { k with written := k.written ++ [(m, chain)] }
      if k.op = 3 then (k.kids m).foldl (fun (a : State × Coll) c => State.giveChunk f a.1 a.2 2 chain c bs) (s, k) else (s, k)

/-- Room granted to the device that will send a chunk for a member (R349, R382; layout log entry 16). -/
def State.grantChunk (s : State) (k : Coll) (dev kind chain m : Nat) : State :=
  if dev = s.link.me then s
  else s.sendData false dev 4 0x10 (chain % 16) 2 (w64 (k.inst + chain * 2 ^ 32)) (leBytes 1 kind ++ leBytes 4 (k.vr m)) .other

/-- The chain values a hosted member expects next, granted to the device of the member before it (R382, R383). -/
def State.grantChain (s : State) (k : Coll) (m chain : Nat) : State :=
  if m = 0 ∨ k.members.length ≤ chain then s else s.grantChunk k (s.collHost k (m - 1)) 0 chain m

/-- The room a collective grants when it starts. -/
def State.grantStart (s : State) (k : Coll) : State :=
  let n := k.members.length
  (s.collMine k).foldl (fun s m =>
    if k.op = 0 then (s.grantChain k m 0).grantChunk k (s.collHost k (n - 1)) 1 m m
    else if k.op = 3 then
      if m = k.root then s
      else
        let pos := (m + n - k.root) % n
        s.grantChunk k (s.collHost k (((pos - 1) / 8 + k.root) % n)) 2 k.root m
    else (List.range n).foldl (fun s a => s.grantChunk k (s.collHost k a) 2 a m) s) s

/-- Packets of one outgoing chunk that the resend store has room for (R355). -/
def sendOut (k : Coll) : Nat → State → Nat → ChunkOut → State × ChunkOut
  | 0, s, _, o => (s, o)
  | f + 1, s, dev, o =>
    if o.data.length ≤ o.pos ∨ s.storeRoom 4005 = false then (s, o)
    else
      let a2a := decide (k.op = 2)
      let s := s.sendData false dev (if a2a then 1 else 0) (if a2a then 0x04 else 0x02) (o.chain % 16) (if a2a then 2 ^ 15 else 0)
        (w64 (k.inst + o.chain * 2 ^ 32 + o.pos / 4000 % 2 ^ 16 * 2 ^ 48)) (leBytes 1 o.kind ++ leBytes 4 (k.vr o.dest) ++ (o.data.drop o.pos).take 4000)
        (.engine k.inst)
      sendOut k f s dev { o with pos := o.pos + 4000 }

/-- What a collective may send now goes out: chunks with room granted (R382, R355). -/
def State.pumpColl (s : State) (k : Coll) : State :=
  let r := k.outs.foldl (fun (a : State × List ChunkOut) o =>
    let g := (k.inst, o.kind, o.chain, k.vr o.dest)
    let ok := o.granted || a.1.link.chunkGrants.contains g
    if !ok then (a.1, a.2 ++ [o])
    else
      let s := a.1.modLink (fun l => { l with chunkGrants := l.chunkGrants.erase g })
      match sendOut k (cdiv o.data.length 4000 + 1) s (s.collHost k o.dest) { o with granted := true } with
      | (s, o) => (s, if o.data.length ≤ o.pos then a.2 else a.2 ++ [o])) (s, [])
  r.1.putColl { k with outs := r.2 }

/-- Everything R386 asks has been done by one collective. -/
def State.collOver (s : State) (k : Coll) : Bool :=
  let n := k.members.length
  let mine := s.collMine k
  k.outs.isEmpty && !s.inFlight (fun q => decide (q = .engine k.inst))
    && (match k.op with
      | 0 => k.next.all (fun x => decide (n ≤ x.2)) && mine.all (fun m => k.written.contains (m, m))
        && (!(List.range n).any (fun m => s.link.roster.any (fun r => s.teed r (k.vr m) (tenOf k.dst) k.tee))
          || !s.link.tx.any (fun f => f.unacked.any (fun u => decide (u.pkt.ty = 0x07 ∧ u.pkt.aux16 % 256 = 0x03))))
      | 3 => mine.all (fun m => k.written.contains (m, k.root))
      | _ => k.next.all (fun x => decide (1 ≤ x.2)) && mine.all (fun m => (List.range n).all (fun a => k.written.contains (m, a))))

/-- A launch whose collectives are all over completes (R386). -/
def State.endColls (s : State) (launch : Nat) : State :=
  let ks := s.link.colls.filter (fun k => decide (k.launch = launch))
  if ks.isEmpty || !ks.all s.collOver then s
  else
    let s := s.modLink (fun l => { l with colls := l.colls.filter (fun k => decide (k.launch ≠ launch)) })
    match s.launch? launch with
    | some x => (s.launchDone x).afterLead
    | none => s

/-- A collective launch ends with a fault (R387): event 0x0010 with the registers' layout, whose Stage and PC a collective does not have
(free value, log entry 12), and the outcome of R137. -/
def State.collFault (s : State) (launch : Nat) (c : Cause) (item : Option (Nat × Nat × Nat × Nat)) : State :=
  match s.launch? launch with
  | none => s
  | some x =>
    let s := s.modLink (fun l => { l with colls := l.colls.filter (fun k => decide (k.launch ≠ launch)) })
    let s := (s.modLaunch launch (fun y => { y with state := 0, stages := [], left := 0 }))
    match s.free with
    | (v, s) =>
      let s := s.post 0x0010 2 (some x.ctx) [w64 (c.code + x.ctx * 2 ^ 20 + 2 ^ 24 + 2 ^ 25), 0, 0, v]
      match c.outcome true with
      | .replay => s.replayLaunch launch item
      | .kernelError => s.suspend x.ctx 2
      | _ => s

/-- The ranks whose Ensembles a collective launch engages (R304, log entry 18): a RUN outside every loop those of every hosted rank of its
sheet. -/
def State.collRanks (s : State) (c : Ctx) (x : Launch) : List Nat :=
  if x.serves = 0 then
    match c.shape with
    | some h => s.hosted.filter (fun v => decide (h.pOf v = x.sheet))
    | none => [x.vrank]
  else [x.vrank]

/-- COLLECTIVE_START (R306, R307, R381): the dispatcher hands the record of the launch to the engine, which runs up to 16 at once. -/
def execCollectiveStart (launch : Nat) (s : State) : Host.Outcome State Fault Refusal :=
  match s.launch? launch with
  | none => .next s
  | some x =>
    match s.ctx? x.ctx with
    | none => .next s
    | some c =>
      match c.score.bind (fun sc => sc.colls[x.kernel]?) with
      | none => .next s
      | some ws =>
        if c.lead && decide (x.kind = 4) && s.leadMay c x 0 && decide (s.plat.dev = .run ∨ s.plat.dev = .recast)
            && decide (((s.link.colls.map (fun (k : Coll) => k.launch)).eraseDups).length < 16) then
          let role := bitsOf (ws.getD 0 0) 9 4
          let sets := ((s.collRanks c x).map (fun v => (s.membersOf true c.num v role).map (fun (m : Nat × Nat) => m.1))).eraseDups
          let s := s.modLaunch launch (fun y => { y with state := 1, started := s.now.toNat })
          let s := s.endRecast
          if 3 < bitsOf (ws.getD 0 0) 3 0 ∨ bitsOf (ws.getD 3 0) 31 0 % 256 ≠ 0 ∨ bitsOf (ws.getD 3 0) 31 0 = 0
              ∨ (bitsOf (ws.getD 0 0) 3 0 = 0 ∧ bitsOf (ws.getD 0 0) 11 10 = 0) then .next (s.collFault launch .descriptor none)
          else
            let ks : List Coll := sets.map (fun ms =>
              ⟨x.kernel % 65536 + s.sched.step % 65536 * 65536, launch, ws, ms, [], [], [], [], []⟩)
            let ks := ks.map (fun k => { k with next := (s.collMine k).map (fun m => (m, 0)) })
            let s := s.modLink (fun l => { l with colls := l.colls ++ ks })
            .next ((ks.foldl (fun s k => s.grantStart k) s).endColls launch)
        else .next s

/-- A member's source chunk (R382, R383, R214). -/
def State.collRead (s : State) (k : Coll) (m idx : Nat) : (List Byte × List Nat × State) ⊕ MStop :=
  match s.leadCtx with
  | none => .inr .unmapped
  | some c => match c.resolve (k.vr m) (tenOf k.src) (offOf k.src + idx * k.chunk) k.chunk with
    | none => .inr .unmapped
    | some l => readParts 4 true l s

/-- A total complete at the last member: to its owner, and to the owner's mirror (R274, R382, R403). -/
def State.finishTotal (s : State) (k : Coll) (i : Nat) (t : List Byte) : State × Coll :=
  let fuel := k.members.length + 1
  match State.giveChunk fuel s k 1 i i t with
  | (s, k) =>
    match s.link.roster with
    | none => (s, k)
    | some r =>
      if !s.teed r (k.vr i) (tenOf k.dst) k.tee then (s, k)
      else
        match r.entry (s.collHost k i) with
        | none => (s, k)
        | some e =>
          if e.mirror = noDev then (s, k)
          else if e.mirror = s.link.me then (s.takeTotal (k.vr i) (tenOf k.dst) (offOf k.dst) 0 t true, k)
          else (s.sendTotal e.mirror (k.vr i) (tenOf k.dst) (offOf k.dst) t, k)

/-- The next hosted member at which chain `i` can run (R383). -/
def State.chainAt (s : State) (k : Coll) (i : Nat) : Option Nat :=
  (s.collMine k).find? (fun m => k.next.contains (m, i) && (decide (m = 0) || k.ready.any (fun x => decide (x.1 = m ∧ x.2.1 = i))))

/-- One step of a collective: chain `i` folded at a member, rank after rank in ascending order (R49, R382, R383), or the chunk of member `i` sent to every member (R385). `none`
where nothing can be done now. -/
def State.collStep (s : State) (k : Coll) (i : Nat) : Option State :=
  let n := k.members.length
  let fuel := n + 1
  if k.op = 0 then
    if n ≤ i then none
    else
      match s.chainAt k i with
      | none => none
      | some m =>
        match s.collRead k m i with
        | .inr .unmapped => some (s.collFault k.launch .tensor none)
        | .inr _ => none
        | .inl (c, bad, s) =>
          if !bad.isEmpty then some (s.collFault k.launch .poison (some (k.vr m, tenOf k.src, offOf k.src + i * k.chunk, k.chunk)))
          else
            let t := match k.ready.find? (fun x => decide (x.1 = m ∧ x.2.1 = i)) with
              | some v => redRun k.red (c.length / redBytes k.red) v.2.2 c
              | none => c
            let k := { k with
              next := k.next.map (fun x => if x.1 = m then (m, i + 1) else x)
              ready := k.ready.filter (fun x => !decide (x.1 = m ∧ x.2.1 = i)) }
            let s := s.grantChain k m (i + 1)
            let r := if m + 1 = n then s.finishTotal k i t else State.giveChunk fuel s k 0 i (m + 1) t
            some ((r.1.putColl r.2).pumpColl r.2)
  else if !k.next.contains (i, 0) ∨ (k.op = 3 ∧ i ≠ k.root) then none
  else
    let idxs := if k.op = 2 then List.range n else [0]
    let got := idxs.foldl (fun (a : (List (List Byte) × Bool × State) ⊕ MStop) j => match a with
      | .inr e => .inr e
      | .inl (l, ok, s) => match s.collRead k i j with
        | .inr e => .inr e
        | .inl (bs, bad, s) => .inl (l ++ [bs], ok && bad.isEmpty, s)) (.inl ([], true, s))
    match got with
    | .inr .unmapped => some (s.collFault k.launch .tensor none)
    | .inr _ => none
    | .inl (l, ok, s) =>
      if !ok then some (s.collFault k.launch .poison (some (k.vr i, tenOf k.src, offOf k.src, k.chunk * idxs.length)))
      else
        let k := { k with next := k.next.map (fun x => if x.1 = i then (i, 1) else x) }
        let r := if k.op = 3 then State.giveChunk fuel s k 2 i i (l.getD 0 [])
          else (List.range n).foldl (fun (a : State × Coll) b => State.giveChunk fuel a.1 a.2 2 i b (if k.op = 2 then l.getD b [] else l.getD 0 []))
            (s, k)
        some ((r.1.putColl r.2).pumpColl r.2)

/-- A broadcast's members other than the root have nothing to take up. -/
def Coll.idle (k : Coll) : Coll :=
  if k.op = 3 then { k with next := k.next.map (fun x => if x.1 = k.root then x else (x.1, 1)) } else k

/-- ENGINE_CHAIN_STEP (R383, R385, R386): the engine takes chain (or source member) `chain` of a collective instance one member on; what
waits for room goes out, and a collective with everything done completes its launch. -/
def execEngineChainStep (inst chain : Nat) (s : State) : Host.Outcome State Fault Refusal :=
  let ks := s.link.colls.filter (fun k => decide (k.inst = inst))
  match ks.findSome? (fun k => (s.collStep k.idle chain).map (fun t => (k.launch, t))) with
  | some (l, t) => .next (t.endColls l)
  | none =>
    let s := ks.foldl (fun s k => s.pumpColl k) s
    .next (((ks.map (fun (k : Coll) => k.launch)).eraseDups).foldl (fun s l => s.endColls l) s)

/-- COLLECTIVE_WAIT_LIMIT (R387): a collective has waited 10 ms. -/
def execCollectiveWaitLimit (inst : Nat) (s : State) : Host.Outcome State Fault Refusal :=
  match s.link.colls.find? (fun k => decide (k.inst = inst)) with
  | some k => .next (s.collFault k.launch .waitLimit none)
  | none => .next s

/-- An engine packet's chunk bytes (R382, R385): put together in order, the packet index modulo 65,536 (R345); a whole chunk goes to its member. -/
def State.onChunk (s : State) (p : Pkt) : State :=
  let inst := bitsOf p.aux64 31 0
  let chain := bitsOf p.aux64 47 32
  let kind := ofLe (p.data.take 1)
  let vr := ofLe ((p.data.drop 1).take 4)
  match s.link.colls.find? (fun k => decide (k.inst = inst) && k.members.contains vr) with
  | none => s
  | some k =>
    let m := k.members.idxOf vr
    let key (x : Nat × Nat × Nat × List Byte) : Bool := decide (x.1 = kind ∧ x.2.1 = chain ∧ x.2.2.1 = m)
    let have' := ((k.parts.find? key).map (fun (x : Nat × Nat × Nat × List Byte) => x.2.2.2)).getD []
    if bitsOf p.aux64 63 48 ≠ have'.length / 4000 % 2 ^ 16 ∨ s.collHost k m ≠ s.link.me then s
    else
      let bs := have' ++ p.data.drop 5
      let rest := k.parts.filter (fun x => !key x)
      if bs.length < k.chunk then s.putColl { k with parts := rest ++ [(kind, chain, m, bs)] }
      else if k.written.contains (m, chain) then s.putColl { k with parts := rest }
      else
        let r := State.giveChunk (k.members.length + 1) s { k with parts := rest } kind chain m bs
        ((r.1.putColl r.2).pumpColl r.2).endColls k.launch

/-- CHUNK (R382, R385). -/
def execChunk (port : Nat) (p : Pkt) (s : State) : Host.Outcome State Fault Refusal :=
  onPort port s (fun s => s.receive port p 0x02 (fun s => s.onChunk p))

/-- Room for a chunk granted: it may go out (R382). -/
def State.onChunkGrant (s : State) (p : Pkt) : State :=
  let inst := bitsOf p.aux64 31 0
  let g := (inst, ofLe (p.data.take 1), bitsOf p.aux64 63 32, ofLe ((p.data.drop 1).take 4))
  let s := s.modLink (fun l => { l with chunkGrants := l.chunkGrants.filter (fun x => decide (x ≠ g)) ++ [g] })
  (s.link.colls.filter (fun k => decide (k.inst = inst))).foldl (fun s k => s.pumpColl k) s

end Sys2Proof.Machine
end

