-- ==== Sys2Proof/Machine/Packets.lean ====
section
/-! DEFINITION. Packets that carry a kernel's data: pipeline payloads, scattered rows, shard requests and answers, fill traffic, grants
(R127, R128, R130, R270, R281, R285, R345, R349, R372, R413, R414, R419, R428). Layouts are log entry 16. -/

namespace Sys2Proof.Machine

/-- Kept payloads or rows asked for again by a replaying receiver (R414). -/
def State.sendKept (s : State) (p : Pkt) (ty vc : Nat) : State :=
  (s.pbk.kept.filter (fun q => decide (q.ty = ty ∧ q.num 4 4 = p.num 4 4 ∧ q.num 8 4 = p.num 8 4 ∧ q.num 12 8 = p.num 12 8))).foldl
    (fun s q => (s.ownTraffic false q.data.length).inject p.src vc ty 0 0 q.aux64 q.data none .other) s

/-- A piece of a pipeline payload (R285): a payload with all its pieces can be taken, and enters the receiver's input log (R413). One that the
receiver has taken in this step comes from a replaying sender and is only granted again (R137, R275). -/
def State.onPipe (s : State) (p : Pkt) (fill : Bool) : State :=
  if p.aux16 = 1 then s.sendKept p 3 0
  else
    match s.ctxOfEns fill (p.num 0 4) with
    | none => s
    | some c =>
      let m : PipeMsg := ⟨c.num, p.num 4 4, p.num 8 4, p.num 12 8, p.num 20 4, p.num 24 8, p.num 32 8, p.src, []⟩
      let same (x : PipeMsg) : Bool := decide ({ x with data := [] } = m)
      let old := ((s.link.pipeIn.find? same).map (fun (x : PipeMsg) => x.data)).getD []
      let pos := p.num 40 8
      if s.link.pipeTaken.any (fun x => decide (x.ctx = m.ctx ∧ x.srcVr = m.srcVr ∧ x.dstVr = m.dstVr ∧ x.mb = m.mb ∧ x.tensor = m.tensor
          ∧ x.off = m.off)) then
        if pos + (p.data.length - 48) = m.total then
          s.sendData fill p.src 4 0x10 0 3 (w64 m.mb) (leBytes 4 (p.num 0 4) ++ leBytes 4 m.srcVr ++ leBytes 4 m.dstVr) .other
        else s
      else if pos ≠ 0 ∧ pos ≠ old.length then s
      else
        let bs := old.take pos ++ p.data.drop 48
        let s := s.modLink (fun k => { k with pipeIn := k.pipeIn.filter (fun x => !same x) ++ [{ m with data := bs }] })
        if bs.length = m.total ∧ fill = false then
          s.logPipe m.srcVr m.dstVr m.mb m.total
        else s

/-- A packet that carries a scattered row, with a FILL packet's type taken off it, and whether it is one (R130, R372). -/
def rowPkt (p : Pkt) : Option (Pkt × Bool) :=
  let q : Pkt := { p with aux16 := p.num 0 2, data := p.data.drop 2 }
  if p.ty = 4 then (if p.aux16 = 2 ^ 15 ∨ p.aux16 = 1 then none else some (p, false))
  else if p.aux16 = 4 ∧ p.aux64.getLsbD 63 = false ∧ q.aux16 ≠ 1 then some (q, true) else none

/-- The reserved row a scattered row is for (R281), where its tensor is one of an expert block's. -/
def State.rowRegion (s : State) (p : Pkt) (fill : Bool) : Option RowRegion :=
  match s.ctxOfEns fill (p.num 0 4) with
  | none => none
  | some c =>
    match c.score with
    | none => none
    | some sc =>
      if sc.experts.any (fun e => decide (e.rows = p.num 20 4)) then
        some ⟨c.num, p.num 20 4, s.remoteKey c (p.num 20 4) (p.num 8 4) (p.num 12 8), p.num 24 8 - p.num 40 8, p.num 8 4, p.num 4 4, p.num 12 8,
          p.src, p.aux64⟩
      else none

/-- A dispatch waits (R283): another one still occupies its reserved row, or an earlier packet of its flow waits. -/
def State.rowHeld (s : State) (p : Pkt) : Bool :=
  s.link.rowsWait.any (fun w => decide (w.2.src = p.src ∧ w.2.vc = p.vc ∧ w.2.flow = p.flow))
    || (match (rowPkt p).bind (fun q => s.rowRegion q.1 q.2) with
      | some r => s.link.rows.any (fun x => decide (x.ctx = r.ctx ∧ x.tensor = r.tensor ∧ x.inst = r.inst ∧ x.off = r.off)
          && !decide (x.dev = r.dev ∧ x.id = r.id))
      | none => false)

/-- A dispatch whose rows are occupied keeps the receiver space it came into, so that its sender has no credit for more (R283); everything
else is handled by `f`. -/
def State.orWait (s : State) (port : Nat) (p : Pkt) (f : State → State) : State :=
  if s.portUp port && p.wire && decide (p.dst = s.link.me) && s.rowHeld p then
    s.modLink (fun k => { k with rowsWait := k.rowsWait ++ [(port, p)] })
  else f s

/-- A piece of a scattered row (R130, R281): written into the reserved row, for which activations get their place as the first one comes
(R268); a row that is whole enters the home's log (R413). -/
def State.onDispatch (s : State) (p : Pkt) (fill : Bool) : State :=
  if p.aux16 = 2 ^ 15 ∧ fill = false then s.onChunk p
  else if p.aux16 = 1 then s.sendKept p 4 1
  else
    match s.ctxOfEns fill (p.num 0 4) with
    | none => s
    | some c =>
      let bs := p.data.drop 48
      let key := s.remoteKey c (p.num 20 4) (p.num 8 4) (p.num 12 8)
      let s := match c.decl (p.num 20 4) with
        | some d => if c.lead && d.act then s.placeTensor c.num key d else s
        | none => s
      match (s.ctx? c.num).bind (fun c => c.resolveW key (p.num 20 4) (p.num 24 8) bs.length) with
      | none => s
      | some l =>
        let s := s.putRuns l bs
        let s := match s.rowRegion p fill with
          | some r => if s.link.rows.contains r then s else s.modLink (fun k => { k with rows := k.rows ++ [r] })
          | none => s
        if fill = false ∧ p.num 40 8 + bs.length = p.num 32 8 then
          s.logRow (p.num 4 4) (p.num 8 4) (p.num 12 8) (p.num 20 4) (p.num 24 8 - p.num 40 8) (p.num 32 8)
        else s

/-- The step number that an answer to a shard request carries where there is no such copy (log entry 16). -/
abbrev noCopy : Nat := 2 ^ 64 - 1

/-- A shard request at a holder (R127, R265, R270, R272, R428): the owner, or a mirror, sends the current copy with its stamp, or the retained
one that is asked for, for Stage 144. A new host that has not loaded the shard yet passes the request to
the source of its load; a parity holder rebuilds (R419). Poisoned data is not sent. -/
def State.onGatherReq (s : State) (p : Pkt) (fill : Bool) : State :=
  match s.ctxOfEns fill (p.num 0 4) with
  | none => s
  | some c =>
    let vr := p.num 4 4
    let ten := p.num 8 4
    let off := p.num 12 8
    let len := p.num 20 8
    let rows := p.num 28 4
    let stride := p.num 32 8
    let who := p.num 40 2
    let want := if p.num 50 1 = 1 then some (p.num 51 8, w64 (p.num 59 8)) else none
    let answer (s : State) (step : Nat) (crc : W64) : State :=
      s.sendData fill who 2 0x06 (p.flow % 16) p.aux16 p.aux64 (leBytes 8 step ++ leBytes 8 crc.toNat ++ leBytes 8 0 ++ leBytes 8 0) .other
    match (if fill || want.isSome then none else s.pbk.reqs.find? (fun q => decide (q.vr = vr ∧ q.tensor = ten))) with
    | some q => s.sendData false q.src 2 0x05 p.flow p.aux16 p.aux64 p.data .other
    | none =>
      match s.shardRuns c vr ten (p.num 42 8) off len rows stride want (p.num 67 8) with
      | some (l, st) =>
        (match readShard 4 l s with
        | .inl (bs, ok, s) => if ok then s.sendShard fill who p.aux16 p.aux64.toNat (s.stampFor (!fill) st bs) bs
            else if want.isSome then answer s noCopy 0 else s
        | .inr _ => s)
      | none =>
        if want.isSome then answer s noCopy 0
        else if fill then s
        else s.startRebuild (s.hostOfRank vr) who vr ten off ((rows - 1) * stride + len) (some (p.aux16, p.aux64.toNat, len, rows, stride))

/-- Every Stage's Stagehand looks at its transfers again. -/
def State.kickAll (s : State) : State := (s.stages.map (fun (e : Nat × Stage) => e.1)).foldl (fun s n => s.kick n) s

/-- Bytes of a retained copy (R272), put together in order; whole, they are the source of the shard's gathers from now on. A device without the
copy is passed by; a corrupt arrival is asked for again. -/
def State.onRetained (s : State) (p : Pkt) : State :=
  match s.pbk.redirects.find? (fun x => decide (p.aux64 = w64 (x.member + x.tensor * 2 ^ 32) ∧ x.devs.head? = some p.src) && !x.found) with
  | none => s
  | some x =>
    if p.num 0 8 = noCopy then s.seekRetained x x.devs.tail
    else if p.num 24 8 ≠ x.data.length then s
    else
      let bs := x.data ++ p.data.drop 32
      if bs.length < x.len * x.rows then s.putRedirect { x with data := bs }
      else if crc64 bs ≠ w64 (p.num 16 8) then s.seekRetained x x.devs
      else (s.putRedirect { x with found := true, data := bs }).kickAll

/-- Shard bytes at the gatherer (R127, R128, R419): put together in order; a whole fetch whose CRC-64 differs from that sent with it, or one of
the whole copy from its stamp's, is asked for again at once. -/
def State.onGatherData (s : State) (p : Pkt) : State :=
  let n := p.aux16
  if n = 144 then s.onRetained p
  else if 144 < n then s
  else
    match (s.stage n).inst, (s.stage n).sh.ops.find? (fun o => decide (o.id = p.aux64.toNat ∧ o.org.op = 1)) with
    | some i, some o =>
      let d := shDesc o.desc
      let old := match o.arrived with
        | some a => a.1
        | none => []
      if p.num 24 8 ≠ old.length ∨ d.len * d.rows ≤ old.length then s
      else
        let bs := old ++ p.data.drop 32
        let stamp := w64 (p.num 8 8)
        let crc := w64 (p.num 16 8)
        let whole := match (s.ctx? i.ctx).bind (fun c => (c.decl (tenOf d.src)).map (fun t => c.instBytes t)) with
          | some b => decide (d.len * d.rows = b)
          | none => false
        if bs.length = d.len * d.rows ∧ (crc64 bs ≠ crc ∨ (whole = true ∧ crc64 bs ≠ stamp)) then s.regather n i o d
        else s.modOp n o.id (fun o => { o with arrived := some (bs, p.num 0 8, stamp, crc) })
    | _, _ => s

/-- A GRANT (R345, R349): 1 a roll, 4 its refusal, 2 room for a chunk, 3 a payload taken out of its queue. -/
def State.onGrant (s : State) (p : Pkt) (fill : Bool) : State :=
  if p.aux16 = 1 ∨ p.aux16 = 4 then s.onRollGrant p fill p.aux16
  else if p.aux16 = 2 then s.onChunkGrant p
  else if p.aux16 = 3 then
    match s.ctxOfEns fill (p.num 0 4) with
    | none => s
    | some c =>
      let s := s.modLink (fun k => { k with pipeOut := k.pipeOut.erase (c.num, p.num 4 4, p.num 8 4, p.aux64.toNat) })
      s.kickAll
  else s

/-- A FILL packet taken up as the type it names (R345, R372). -/
def State.onFill (s : State) (p : Pkt) : State :=
  if p.aux64.getLsbD 63 then s.onRollBlock { p with aux64 := p.aux64 &&& ~~~(w64 (2 ^ 63)) }
  else
    let q : Pkt := { p with aux16 := p.num 0 2, data := p.data.drop 2 }
    if p.aux16 = 0x03 then s.onPipe q true
    else if p.aux16 = 0x04 then s.onDispatch q true
    else if p.aux16 = 0x05 then s.onGatherReq q true
    else if p.aux16 = 0x06 then s.onGatherData q
    else if p.aux16 = 0x10 then s.onGrant q true
    else s

/-- A DISPATCH or FILL packet that arrives, or that has waited for its rows (R283). -/
def State.dispatchIn (s : State) (port : Nat) (p : Pkt) : State := s.orWait port p (fun s => s.receive port p 0x04 (fun s => s.onDispatch p false))
def State.fillIn (s : State) (port : Nat) (p : Pkt) : State := s.orWait port p (fun s => s.receive port p 0x08 (fun s => s.onFill p))

/-- Dispatches that waited are looked at again, in the order they came (R283). -/
def State.serveRows (s : State) : State :=
  s.link.rowsWait.foldl (fun (s : State) x => if x.2.ty = 4 then s.dispatchIn x.1 x.2 else s.fillIn x.1 x.2)
    (s.modLink (fun k => { k with rowsWait := [] }))

/-- PIPE (R285, R345). -/
def execPipe (port : Nat) (p : Pkt) (s : State) : Host.Outcome State Fault Refusal :=
  onPort port s (fun s => s.receive port p 0x03 (fun s => s.onPipe p false))

/-- DISPATCH (R130, R281, R283, R345, R385). -/
def execDispatch (port : Nat) (p : Pkt) (s : State) : Host.Outcome State Fault Refusal :=
  onPort port s (fun s => s.dispatchIn port p)

/-- GATHER_REQ (R127, R270). -/
def execGatherReq (port : Nat) (p : Pkt) (s : State) : Host.Outcome State Fault Refusal :=
  onPort port s (fun s => s.receive port p 0x05 (fun s => s.onGatherReq p false))

/-- GATHER_DATA (R127, R128). -/
def execGatherData (port : Nat) (p : Pkt) (s : State) : Host.Outcome State Fault Refusal :=
  onPort port s (fun s => s.receive port p 0x06 (fun s => s.onGatherData p))

/-- FILL (R283, R345, R372): a transfer of a fill context, handled as the type it names. -/
def execFill (port : Nat) (p : Pkt) (s : State) : Host.Outcome State Fault Refusal :=
  onPort port s (fun s => s.fillIn port p)

/-- GRANT (R345, R384). -/
def execGrant (port : Nat) (p : Pkt) (s : State) : Host.Outcome State Fault Refusal :=
  onPort port s (fun s => s.receive port p 0x10 (fun s => s.onGrant p false))

end Sys2Proof.Machine
end

