-- ==== Sys2Proof/Machine/Recast.lean ====
section
/-! DEFINITION. Shared operations of Recast and refill: phases, what a Recast begins with, the coordinator's choice of hosts, double
faults, what a Roster taking effect changes on this device (R371-R376, R400-R403, R425-R439, R446). -/

namespace Sys2Proof.Machine

/-- The TCLK of the last heartbeat that came from a device. -/
def State.lastBeat (s : State) (dev : Nat) : Option Nat :=
  (((List.range 24).filter (fun n => decide (s.partnerDev n = some dev))).filterMap (fun n => (s.port n).beat)).foldl
    (fun a b => match a with
      | none => some b.toNat
      | some x => some (Nat.max x b.toNat)) none

/-- The phase of the Recast in progress ends and, up to phase 4, the next begins: durations and events (R21, R431, R455). -/
def State.nextPhase (s : State) : State :=
  match s.pbk.recast with
  | none => s
  | some r =>
    let ns := Nat.min (s.now - r.since).toNat 0xFFFFFFFF
    let s := (s.setFld .pbkRecastPhase r.phase 31 0 ns).post 0x0002 0 none [Config.phaseCode r.phase, w64 ns]
    (s.modPbk (fun p => { p with recast := some { r with phase := r.phase + 1, since := s.now } })).post 0x0001 0 none
      [Config.phaseCode (r.phase + 1)]

/-- A save being written is abandoned and asked for again at the next Curtain; the third time, its command completes with BUSY (R443,
R473). -/
def State.abandonSave (s : State) : State :=
  match s.pbk.save with
  | none => s
  | some v =>
    let s := (s.setFld .pbkSaveState 0 50 50 0).modPbk (fun p => { p with save := none, saveAsked := some v.eval })
    let s := s.modPlat (fun p => { p with xfers := p.xfers.filter (fun x => decide (x.kind ≠ 2)) })
    let s := s.modBooth (fun b => { b with inflight := b.inflight.map (fun (f : InFlight) =>
      if f.opcode = 0x32 ∧ f.curtain = false then { f with pend := f.pend + 1 } else f) })
    s.endCmds (fun f => decide (f.opcode = 0x32 ∧ 3 ≤ f.pend)) 0x13

/-- A save fails on its endpoint (R560): the command that asked for it ends with BUSY and the endpoint's number; one that no command asked
for is abandoned. -/
def State.failSave (s : State) (ep : Nat) : State :=
  let cs := s.booth.inflight.filter (fun f => decide (f.opcode = 0x32) && !f.curtain)
  if cs.isEmpty then s.abandonSave
  else
    let s := (s.setFld .pbkSaveState 0 50 50 0).modPbk (fun p => { p with save := none })
    cs.foldl (fun s f => s.endCmd f 0x13 0 (w64 ep)) (s.modPlat (fun p => { p with xfers := p.xfers.filter (fun x => decide (x.kind ≠ 2)) }))

/-- Phase 0 of a Recast (R21, R431, R432, R455): from the lost device's last heartbeat to now; on a device that hears no heartbeats from it the
duration is a free value (log entry 12), and for a declaration it is zero. -/
def State.detected (s : State) (dev cause : Nat) : State :=
  let post (ns : Nat) (s : State) : State :=
    let ns := Nat.min ns 0xFFFFFFFF
    ((s.setFld .pbkRecastPhase 0 31 0 ns).postAt (s.now - w64 ns) 0x0001 0 none [Config.phaseCode 0]).post 0x0002 0 none [Config.phaseCode 0, w64 ns]
  match (if cause = 3 then some 0 else (s.lastBeat dev).map (fun t => s.now.toNat - t)) with
  | some ns => post ns s
  | none => post (s.free).1.toNat (s.free).2

/-- A Recast begins, or a further failure joins the one in progress, whose phase ends there so that phase 1 starts afresh (R18, R21, R181, R376,
R425, R426, R432, R437, R443, R454). A Curtain's Call whose Roster has not taken effect is replaced, committed or not (DEDUCED, log entry 20). -/
def State.recastBegin (s : State) (dev cause : Nat) : State :=
  match s.link.roster with
  | none => s
  | some r =>
    if s.pbk.failed.contains dev ∨ (r.entry dev).isNone = true ∨ dev = s.link.me then s
    else
      let down := match s.link.call with
        | some k => if k.coordinator then k.next.kids s.link.me else []
        | none => []
      let s := down.foldl (fun s d => s.sendCall d 4 s.link.ballot (.abort s.link.ballot)) s
      let s := if s.link.call.isSome then s.setFld .lnkCall 0 34 32 4 else s
      let fresh := s.pbk.recast.isNone
      let s := s.modLink (fun k =>
        { k with
          call := none, callDone := none, curtain := 0, curtMsg := none, curtFrom := [], record := none, callPast := false, curtHeld := []
          linkChanged := k.linkChanged || k.linkSent, linkSent := false })
      let lost := s.sched.tallySent
      let s := if lost then s.setFld .tlyStatus 0 3 3 1 else s
      let s := s.modSched (fun q => { q with tallySent := false, tallyLost := q.tallyLost || lost, recastStep := true })
      let s := s.abandonSave
      let s := s.modPbk (fun p =>
        { p with
          failed := p.failed ++ [dev]
          confirmed := p.confirmed.filter (fun c => decide (c.1 ≠ dev))
          queries := p.queries.filter (fun q => decide (q.dev ≠ dev))
          handovers := p.handovers.filter (fun h => decide (h.src ≠ dev ∧ h.tgt ≠ dev)) })
      if fresh then
        let s := (s.bump .pbkRecasts 0 1).wr .pbkRecastLast 0 (w64 (dev + cause * 2 ^ 16 + s.sched.step % 2 ^ 32 * 2 ^ 32))
        let s := (s.post 0x0040 2 none [s.rd .pbkRecastLast]).detected dev cause
        let s := s.modPbk (fun p => { p with recast := some ⟨[dev], cause, 1, s.now, false, []⟩ })
        let s := s.post 0x0001 0 none [Config.phaseCode 1]
        if s.plat.dev = .run then s.modPlat (fun p => { p with dev := .recast }) else s
      else
        let s := match s.pbk.recast with
          | none => s
          | some x => s.post 0x0002 0 none [Config.phaseCode x.phase, w64 (Nat.min (s.now - x.since).toNat 0xFFFFFFFF)]
        let s := s.detected dev cause
        ((s.setFld .pbkRecastLast 0 21 21 1).modPbk (fun p =>
          { p with recast := p.recast.map (fun (x : RecastSt) => { x with failed := x.failed ++ [dev], phase := 1, since := s.now }) })).post 0x0001 0
          none [Config.phaseCode 1]

/-- Some state tensor is protected in a class on a device. -/
def State.usesClass (s : State) (r : Roster) (dev cls : Nat) : Bool := !(s.tensorsIn r dev cls).isEmpty

/-- Copies that a Call gives a new partner (R402, R433): of mirrored state (1) and of replicated tensors (2), with owner and partner. -/
def owedBy (old next : Roster) : List (Nat × Nat × Nat) :=
  next.devs.flatMap (fun (e : DevEntry) => match old.entry e.number with
    | none => []
    | some o => (if e.mirror = o.mirror then [] else [(1, e.number, e.mirror)])
        ++ ([e.replA, e.replB].filter (fun d => decide (d ≠ o.replA ∧ d ≠ o.replB))).map (fun d => (2, e.number, d)))

/-- The failure of `fs` together leaves some byte of lead state without a valid source (R435). -/
def State.isDouble (s : State) (r : Roster) (fs : List Nat) : Bool :=
  fs.any (fun x =>
    match r.entry x with
    | none => false
    | some e =>
      let gone (k d : Nat) : Bool := decide (d = noDev) || fs.contains d || s.pbk.owed.contains (k, x, d)
      decide (0 < e.hosted) &&
        ((s.usesClass r x 2 && (gone 1 e.mirror || s.pbk.lost.any (fun l => decide (l.mirror = x))))
        || (s.usesClass r x 1 && gone 2 e.replA && gone 2 e.replB)
        || (s.usesClass r x 3 && (fs.any (fun y => decide (y ≠ x) && (match r.entry y with
              | some z => decide (z.pgroup = e.pgroup)
              | none => false))
            || s.pbk.lost.any (fun l => decide (l.pgroup = e.pgroup)) || s.pbk.newHosts.contains x))))

/-- Link-map words without the links to removed devices (R374). -/
def cutLinks (fs : List Nat) (ws : List W32) : List W32 :=
  ws.map (fun w => if fs.contains (w.toNat % 65536) then w &&& ~~~(0x00200000 : W32) else w)

/-- Entries that differ between two lists of device entries. -/
def changedDevs (old new : List DevEntry) : List DevEntry := new.filter (fun e => !old.contains e)

/-- The coordinator's Call of a Recast (R374, R402, R427, R434, R435): failed devices go, their ranks and duties move, and the devices
that will have items to refill say so. -/
def State.proposeRecast (s : State) : State :=
  match s.link.roster with
  | none => s
  | some r =>
    let fs := s.pbk.failed.filter (fun d => (r.entry d).isSome)
    let ds := fs.foldl (fun l d => dropDev l d) r.devs
    let ds := ds.map (fun (e : DevEntry) => { e with links := cutLinks fs e.links })
    let cands := (ds.filter (fun e => decide (e.state = 0))).map (fun (e : DevEntry) => e.number)
    let vs := fs.flatMap (fun d => r.hostedBy d)
    let moves := assignRanks r (if cands.isEmpty then ds.map (fun (e : DevEntry) => e.number) else cands) vs []
    let ds := ds.map (fun (e : DevEntry) =>
      if moves.any (fun m => decide (m.2 = e.number)) || r.devs.any (fun x => decide (x.number ≠ e.number)
          && decide (x.mirror = e.number ∨ x.replA = e.number ∨ x.replB = e.number) && fs.contains x.number)
        then { e with refill := true } else e)
    s.propose r true (s.isDouble r fs) moves (changedDevs r.devs ds) fs []

/-- Copies this device keeps for others under a Roster (R398, R404, R412): rank, tensor, the device that hosts the rank. -/
def State.copiesHeld (s : State) (r : Roster) (cls : Nat) (duty : DevEntry → Bool) : List (Nat × Nat × Nat) :=
  (r.devs.filter duty).flatMap (fun e => (r.hostedBy e.number).flatMap (fun v =>
    (s.tensorsIn r e.number cls).map (fun t => (v, t, e.number))))

def State.mirrorsHeld (s : State) (r : Roster) : List (Nat × Nat × Nat) :=
  s.copiesHeld r 2 (fun e => decide (e.mirror = s.link.me))
def State.replicasHeld (s : State) (r : Roster) : List (Nat × Nat × Nat) :=
  s.copiesHeld r 1 (fun e => decide (e.replA = s.link.me ∨ e.replB = s.link.me))

/-- Places for every instance of a rank's tensors that this device does not hold yet: not for gathered copies and activations, which have
theirs while they are in use, and an expert's state only with its home member (R279). -/
def State.placeRank (s : State) (v : Nat) (ts : List Nat) : State :=
  match s.leadCtx with
  | none => s
  | some c => ts.foldl (fun s t => match c.decl t with
    | some d => if d.gathered.isSome || d.act || !c.ownsOf d v then s else s.placeTensor c.num v d
    | none => s) s

/-- State of a rank requested from a holder, a working copy with its shadow (R404, R428, R436). -/
def State.askRank (s : State) (v src : Nat) (ts : List Nat) : State :=
  (ts.filter (fun t => (s.leadCtx.bind (fun c => c.placeOf v t)).isSome)).foldl (fun s t =>
    let n := s.tensorBytes t
    let s := s.askState v t 0 n src
    if s.nextName t = t then s else s.askState v (s.nextName t) 0 n src) s

/-- Tensors that have an instance for each rank. -/
def Ctx.rankTensors (c : Ctx) : List Nat :=
  (match c.score with
  | some sc => sc.tensors.map (fun (d : TensorDecl) => d.id)
  | none => []).filter (fun t => !c.tensors.any (fun p => decide (p.id = t ∧ p.vr = 65536)))

/-- Cross-device traffic outstanding on a Stage (R429). -/
def State.crossTraffic (s : State) (n : Nat) : Bool :=
  s.inFlight (fun q => match q with
    | .transfer m _ => decide (m = n)
    | .roll m => decide (m = n)
    | _ => false)
    || s.link.hops.any (fun h => decide (h.stage = n)) || (s.stage n).sh.ops.any (fun o => o.sent)

/-- The kernels and collectives of the lead with traffic outstanding end with cause 0x12 (R387, R429). -/
def State.abortCross (s : State) : State :=
  match s.leadCtx with
  | none => s
  | some c =>
    let ls := s.sched.launches.filter (fun x => decide (x.ctx = c.num ∧ x.state = 1))
    let s := ls.foldl (fun s x => match x.stages.find? s.crossTraffic with
      | some n => s.kernelFault n ⟨.recastAbort, (s.stage n).prm.org, 0, none⟩
      | none => s) s
    let far := (s.link.colls.filter (fun k => decide ((s.collMine k).length < k.members.length))).map (fun (k : Coll) => k.launch)
    let s := s.modLink (fun k => { k with chunkGrants := [], grants := k.grants.filter (fun g => g.fill) })
    far.eraseDups.foldl (fun s l => s.collFault l .recastAbort none) s

/-- Launches appended for ranks that moved here in the step (R268, R275, R304, R430): the sheets expanded over those ranks alone, in groups
of their own; the step's record says that something was replayed (R183). A collective outside every loop that the device runs already engages them
as it runs again. -/
def State.appendReplays (s : State) (gained : List Nat) : State :=
  match s.leadCtx with
  | none => s
  | some c =>
    match c.shape with
    | none => s
    | some h =>
      ((gained.map h.pOf).eraseDups).foldl (fun s p =>
        match s.sched.sheets.find? (fun x => decide (x.1 = p)) with
        | none => s
        | some sh =>
          let cs := sh.2.map cueOf
          let had := s.sched.launches.any (fun x => decide (x.ctx = c.num ∧ x.sheet = p))
          let g (q : Nat) : Nat := Nat.max 1 (mget 1 s.sched.groups (p * h.sq + q))
          let seq := expandSheet cs ⟨p * h.sq, 0, none, []⟩ (h.groups gained p g) ((h.instances gained p).map instItem)
          let ls := mkLaunches c.num p s.sched.nextLaunch cs false seq
          let ls := ls.filter (fun x => !(had && decide (x.kind = 4 ∧ x.serves = 0)))
          s.modSched (fun q => { q with
            launches := q.launches.map (fun (x : Launch) =>
              if x.ctx = c.num ∧ x.sheet = p ∧ x.kind = 4 ∧ x.serves = 0 ∧ x.state = 2 then { x with state := 0 } else x) ++ ls
            nextLaunch := q.nextLaunch + seq.length
            replayed := q.replayed || !ls.isEmpty })) s

/-- Collectives that delivered a total to a lost device only run again: those whose destination is not protected as mirrored (R411, R430). -/
def State.rerunColls (s : State) (r : Roster) (moved : List Nat) : State :=
  match s.leadCtx.bind (fun c => c.score) with
  | none => s
  | some sc =>
    let again (x : Launch) : Bool := decide (x.kind = 4 ∧ x.state = 2) && (match sc.colls[x.kernel]? with
      | none => false
      | some ws => decide (bitsOf (ws.getD 0 0) 3 0 = 0) && moved.any (fun v =>
          (s.roleRanks r (bitsOf (ws.getD 0 0) 9 4) (if x.serves = 0 then v else x.vrank)).contains v
            && !s.teed r v (tenOf (ws.getD 2 0)) ((ws.getD 0 0).getLsbD 12)))
    s.modSched (fun q => { q with launches := q.launches.map (fun (x : Launch) => if again x then { x with state := 0 } else x) })

/-- Copies of ranks this device neither hosts nor protects go, once no device has anything left to refill (R434, R436). -/
def State.dropCopies (s : State) (r : Roster) : State :=
  if r.devs.any (fun e => e.refill) then s
  else
    match s.leadCtx with
    | none => s
    | some c =>
      let held := (s.mirrorsHeld r ++ s.replicasHeld r).map (fun (x : Nat × Nat × Nat) => x.1)
      let keep (v : Nat) : Bool := decide (v = 65536 ∨ r.hostOf v = s.link.me) || held.contains v
        || s.pbk.handovers.any (fun h => decide (h.vr = v ∧ h.tgt = s.link.me)) || s.pbk.reqs.any (fun q => decide (q.vr = v))
      s.modCtx c.num (fun y => { y with tensors := y.tensors.filter (fun t => keep t.vr || (match c.decl t.id with
        | some d => d.gathered.isSome || d.act
        | none => false)) })

/-- What this device must fetch as partner of others after a change of the Roster (R402, R403, R433): a refill item for each copy it did not
hold before, requested from the rank's host; and its own group's parity built anew where the group changed. -/
def State.refillFor (s : State) (old next : Roster) : State :=
  let fresh (k : Nat) (a b : List (Nat × Nat × Nat)) : List Refill :=
    (a.filter (fun x => !b.any (fun y => decide (y = x)))).map (fun x => ⟨k, x.1, x.2.1, x.2.2⟩)
  let items := fresh 1 (s.mirrorsHeld next) (s.mirrorsHeld old) ++ fresh 2 (s.replicasHeld next) (s.replicasHeld old)
  let regroup := decide ((s.groupIn next).map (fun (g : DevEntry × List Nat) => g.2) ≠ (s.groupIn old).map (fun (g : DevEntry × List Nat) => g.2))
  let s := items.foldl (fun s i => (s.placeRank i.vr [i.tensor]).askRank i.vr i.src [i.tensor]) s
  s.modPbk (fun p =>
    { p with
      refill := p.refill ++ items ++ (if regroup then [⟨3, 0, 0, noDev⟩] else [])
      parWork := if regroup then [] else p.parWork
      parSent := if regroup then [] else p.parSent
      parSince := if regroup then next.version else p.parSince })

/-- A rank that moved here from a failed device gets its state (R428): from the mirror, a replica partner, or rebuilt by a member of the old
parity group. -/
def State.loadMoved (s : State) (old : Roster) (v : Nat) : State :=
  let x := old.hostOf v
  match s.leadCtx with
  | none => s
  | some c =>
    let s := s.placeRank v c.rankTensors
    ((s.pbk.classes.map (fun (y : Nat × Nat) => y.1)).filter (fun t => (s.leadCtx.bind (fun c => c.placeOf v t)).isSome)).foldl (fun s t =>
      match s.sources old x t with
      | [] => s
      | d :: _ =>
        let s := s.modPbk (fun p => { p with refill := p.refill ++ [⟨0, v, t, d⟩] })
        if d = s.link.me then s
        else if s.classIn old x t = 3 then
          (if (old.entry x).map (fun (e : DevEntry) => e.pgroup) = (old.entry s.link.me).map (fun (e : DevEntry) => e.pgroup) then
            s.startRebuild x s.link.me v t 0 (s.tensorBytes t) none
          else s.askState v t 0 (s.tensorBytes t) d)
        else s.askRank v d [t]) s

/-- A logged input put together at the new host (R261, R413, R430): a piece that continues what has come. -/
def State.logInput (s : State) (vr mb : Nat) (d : List Byte) : State :=
  let total := ofLe ((d.drop 8).take 8)
  let pos := ofLe ((d.drop 16).take 8)
  let old := ((s.pbk.inputs.find? (fun x => decide (x.1 = vr ∧ x.2.1 = mb))).map (fun (x : Nat × Nat × List Byte) => x.2.2)).getD []
  if total = 0 ∨ (pos ≠ 0 ∧ pos ≠ old.length) then s
  else s.modPbk (fun p =>
    { p with inputs := p.inputs.filter (fun x => !decide (x.1 = vr ∧ x.2.1 = mb)) ++ [(vr, mb, old.take pos ++ d.drop 24)] })

/-- An entry of the log at the new host (R414, R430): an input is the micro-batch's; a payload or row it names is asked for again from the
host of its sender, or given from what this device kept where that is the host. -/
def State.onLogEntry (s : State) (vr mb : Nat) (d : List Byte) : State :=
  let tag := ofLe (d.take 1)
  let src := ofLe ((d.drop 1).take 4)
  let dev := s.hostOfRank src
  let key := keptKey (src, vr, mb)
  let own (ty : Nat) : List Pkt := s.pbk.kept.filter (fun q => decide (q.ty = ty ∧ q.num 4 4 = src ∧ q.num 8 4 = vr ∧ q.num 12 8 = mb))
  let count (s : State) (q : Pkt) : State := s.ownTraffic false q.data.length
  if tag = 0 then s.logInput vr mb (d.drop 1)
  else if tag = 1 then
    (if dev = s.link.me then (own 3).foldl (fun (s : State) q => (count s q).onPipe q false) s else s.inject dev 0 0x03 0 1 0 key none .other)
  else if tag = 2 then
    (if dev = s.link.me then (own 4).foldl (fun (s : State) q => (count s q).onDispatch q false) s else s.inject dev 1 0x04 0 1 0 key none .other)
  else s

/-- The mirror that holds the log of a rank under a Roster. -/
def Roster.logHolder (r : Roster) (v : Nat) : Nat := ((r.entry (r.hostOf v)).map (fun (e : DevEntry) => e.mirror)).getD noDev

/-- The input log of a moved rank taken from its mirror (R413, R430; layout log entry 16): from this device's own records where it is the
mirror, else requested, and awaited before the rank's replay. -/
def State.askLog (s : State) (old : Roster) (v : Nat) : State :=
  let m := Roster.logHolder old v
  if m = noDev ∨ s.pbk.failed.contains m = true then s
  else if m = s.link.me then
    (s.pbk.log.filter (fun x => decide (x.vr = v))).foldl (fun (s : State) x => s.onLogEntry v x.mb x.data) s
  else (s.modPbk (fun p => { p with logAsked := p.logAsked ++ [v] })).resil m 0x08 (w64 v) []

/-- Searches for retained copies follow a change of devices (R272): those gone are not asked, nor waited for. -/
def State.reseek (s : State) (gone : List Nat) : State :=
  (s.pbk.redirects.filter (fun x => !x.found && x.devs.any (fun d => gone.contains d))).foldl (fun (s : State) x =>
    let y := { x with devs := x.devs.filter (fun d => !gone.contains d) }
    if (x.devs.head?.map (fun d => gone.contains d)).getD false then s.seekRetained y y.devs else s.putRedirect y) s

/-- A device that leaves at a Curtain gives its part of the ended step's combination to the root (R181; log entry 20). -/
def State.leaveTally (s : State) (next : Roster) : State :=
  match next.nums.head? with
  | none => s
  | some d => s.inject d 4 0x13 0 2 (w64 s.sched.ring.step) [] (some (.tallyUp s.sched.stepTally)) .other

/-- Requests for admission that came in through this device go to the new coordinator (R18, R376). -/
def State.passAdmits (s : State) : State :=
  match s.coord with
  | none => s
  | some c => if c = s.link.me then s else s.pbk.admitReqs.foldl (fun (s : State) q => s.resil c 0x0E q.1 q.2) s

/-- A Roster takes effect on this device (R366, R375, R424, R425-R439): at a Curtain's opening, or at a Recast's COMMIT. -/
def State.takeEffect (s : State) (d : Proposal) (next : Roster) : State :=
  let me := s.link.me
  if (next.entry me).isNone then
    if s.pbk.releasing then
      match s.leadCtx with
      | some c => (((s.leaveTally next).freeCtx c.num).endCmds (fun f => decide (f.opcode = 0x23)) 0).settle
      | none => s
    else s.enterFault 6
  else
    let old := s.link.roster.getD next
    let gone := d.removed
    let gained := (d.moves.filter (fun m => decide (m.2 = me) && decide (old.hostOf m.1 ≠ me))).map (fun (m : Nat × Nat) => m.1)
    let s := if d.recast then s.abortCross else s
    let s := (s.link.tx.filter (fun f => gone.contains f.dst)).foldl (fun s f => s.endFlow f) s
    let lost := s.pbk.lost
    let s := (s.modLink (fun k =>
      { k with
        prevRoster := k.roster
        roster := some next
        routes := if d.recast then k.routes.filter (fun e => !gone.contains e.dst) else k.routes
        tx := k.tx.filter (fun f => !gone.contains f.dst)
        ended := if d.recast then [] else k.ended
        rx := k.rx.filter (fun f => !(d.recast && gone.contains f.src) && ((old.entry f.src).isSome || (next.entry f.src).isNone))
        hops := k.hops.filter (fun x => !gone.contains x.src)
        rows := k.rows.filter (fun x => !gone.contains x.dev)
        rowsWait := k.rowsWait.filter (fun x => !gone.contains x.2.src)
        grants := k.grants.filter (fun x => !gone.contains x.dev) })).modPbk (fun p =>
      { p with
        failed := p.failed.filter (fun x => !gone.contains x)
        logAsked := p.logAsked.filter (fun v => !(s.link.prevRoster.any (fun r => gone.contains (Roster.logHolder r v))))
        admitReqs := p.admitReqs.filter (fun x => !next.devs.any (fun e => decide (e.ident = x.1)))
        lost := if d.recast then lost ++ old.devs.filter (fun e => gone.contains e.number) else lost
        owed := if d.recast then p.owed ++ owedBy old next else p.owed
        newHosts := if d.recast then (p.newHosts ++ d.moves.map (fun (m : Nat × Nat) => m.2)).eraseDups else p.newHosts
        handovers := (p.handovers.filter (fun h => !d.moves.any (fun m => decide (m.1 = h.vr)) && (next.entry h.tgt).isSome))
          ++ d.plans.map (fun (x : Nat × Nat) => ⟨x.1, old.hostOf x.1, x.2, false⟩) })
    let s := if (old.nums.head?.map (fun x => gone.contains x)).getD false then s.passAdmits else s
    let s := (if d.recast then s.nextPhase else s).reseek gone
    let s := if d.double then s.doubleCommit gone
      else
        let s := if d.recast then
            (gained.foldl (fun s v => (s.loadMoved old v).askLog old v) s)
          else s
        let s := if d.version = 1 then s else s.refillFor old next
        let s := if d.recast then (s.rerunColls old (d.moves.map (fun (m : Nat × Nat) => m.1))).appendReplays gained else s
        d.plans.foldl (fun s x => if x.2 = me then
          (match s.leadCtx with
          | some c => (s.placeRank x.1 c.rankTensors).askRank x.1 (old.hostOf x.1) (s.pbk.classes.map (fun (y : Nat × Nat) => y.1))
          | none => s) else s) s
    if d.recast then
      ((s.blockGen 2).modPbk (fun p => { p with recast := p.recast.map (fun (x : RecastSt) => { x with gained := gained, double := d.double }) })).nextPhase.nextPhase
    else s.dropCopies next

end Sys2Proof.Machine
end

