-- ==== Sys2Proof/Machine/CallCmds.lean ====
section
/-! DEFINITION. The Call, suspects and the quorum, the beginning of a Recast, phases that overrun (R21, R366-R377, R422-R432). Call and
RESIL layouts are log entry 16. -/

namespace Sys2Proof.Machine

/-- This device's own link-map words, from training (R338, R368, R373). -/
def State.ownLinks (s : State) : List W32 :=
  (List.range 24).map (fun n => match s.partnerDev n with
    | some d => BitVec.ofNat 32 (d + (s.port n).partnerPort * 2 ^ 16 + (if s.portUp n then 2 ^ 21 else 0))
    | none => 0xFFFF)

/-- Link-map words of devices as bytes and back: number and 24 words each. -/
def linkBytes (l : List (Nat × List W32)) : List Byte := l.flatMap (fun x => leBytes 2 x.1 ++ x.2.flatMap (fun w => leBytes 4 w.toNat))
def linksFrom : Nat → List Byte → List (Nat × List W32)
  | 0, _ => []
  | k + 1, bs =>
    if bs.length < 98 then []
    else (ofLe (bs.take 2), (List.range 24).map (fun j => BitVec.ofNat 32 (ofLe ((bs.drop (2 + 4 * j)).take 4)))) :: linksFrom k (bs.drop 98)

/-- A Call message that carries link-map words only (R373): AUX16 bit 8. -/
def State.sendLinks (s : State) (dst kind ballot : Nat) (l : List (Nat × List W32)) : State :=
  if l.isEmpty then s else s.inject dst 4 0x12 0 (kind + 256) (w64 ballot) (linkBytes l) none .other

/-- Whom the coordinator or a parent passes a Call message on to: its children in the proposed Roster's tree; the coordinator also the
devices the Call removes, which no tree holds (log entry 18). -/
def State.callDown (s : State) (k : CallSt) : List Nat :=
  k.next.kids s.link.me ++ (if k.coordinator then k.prop.removed.filter (fun d => decide (d ≠ s.link.me)) else [])

/-- A Call is over; that of a Curtain is not asked for again, even where the exchange's record comes after it (R380). -/
def State.callOver (s : State) : State :=
  s.modLink (fun k =>
    { k with
      call := none
      curtain := if k.curtain = 3 then 2 else k.curtain
      callPast := k.callPast || (match k.call with
        | some c => !c.prop.recast && decide (c.prop.version ≠ 1)
        | none => false) })

/-- A Roster with the link-map words that answers brought (R373). -/
def withLinks (r : Roster) (l : List (Nat × List W32)) : Roster :=
  { r with devs := r.devs.map (fun (e : DevEntry) => match l.find? (fun x => decide (x.1 = e.number)) with
    | some x => { e with links := x.2 }
    | none => e) }

/-- COMMIT on this device (R374, R375): passed on; in a Recast the Roster takes effect at once, otherwise when the Curtain opens, version 1 at the
opening Curtain (R569). -/
def State.commitCall (s : State) (k : CallSt) : State :=
  let b := k.prop.ballot
  let s := (s.callDown k).foldl (fun s d => (s.sendLinks d 3 b k.links).sendCall d 3 b (.commit b)) s
  let s := (s.setFld .lnkCall 0 34 32 3).callOver
  let next := withLinks k.next k.links
  if k.prop.recast then s.takeEffect k.prop next
  else
    let s := s.modLink (fun l => { l with callDone := some (k.prop, next) })
    if k.prop.version = 1 then s.endCmds (fun f => decide (f.opcode = 0x20)) 0 else s

/-- The Call is aborted (R376): ABORT goes down the tree, the old Roster is kept, and a changed link map is told of again at the next Curtain. A
device that was to join knows no Roster (R18). -/
def State.abortCall (s : State) : State :=
  match s.link.call with
  | none => s
  | some k =>
    let s := (s.callDown k).foldl (fun s d => s.sendCall d 4 k.prop.ballot (.abort k.prop.ballot)) s
    let joins := match s.link.roster with
      | some r => (r.entry s.link.me).isNone
      | none => false
    ((s.setFld .lnkCall 0 34 32 4).callOver).modLink (fun l =>
      { l with
        roster := if joins then none else l.roster
        linkChanged := l.linkChanged || l.linkSent
        linkSent := false })

/-- This device's answer goes up once its whole subtree has answered (R373, R374): the ballot is then the highest it has answered. The coordinator
commits, or aborts a Call that it rejects itself. -/
def State.tryAnswer (s : State) : State :=
  match s.link.call with
  | none => s
  | some k =>
    if k.rejected then (if k.coordinator then s.abortCall else s)
    else if !(k.next.kids s.link.me).all (fun d => k.answered.contains d) then s
    else
      let s := s.modLink (fun l => { l with ballot := k.prop.ballot })
      let s := if k.prop.version = 1 then s.modLink (fun l => { l with call := some { k with links := k.links ++ [(l.me, s.ownLinks)] } }) else s
      let k := (s.link.call).getD k
      if k.coordinator then s.commitCall k
      else match k.next.parent s.link.me with
        | some d => ((s.setFld .lnkCall 0 34 32 2).sendLinks d 1 k.prop.ballot (if k.prop.version = 1 then [(s.link.me, s.ownLinks)] else [])).sendCall
            d 1 k.prop.ballot (.accept k.prop.ballot)
        | none => s

/-- A Call proposed by the coordinator, which is its own first answer (R374). -/
def State.startCall (s : State) (r : Roster) (moves : List (Nat × Nat)) (setDevs : List DevEntry) (removed : List Nat)
    (plans : List (Nat × Nat)) : State := (s.propose r false false moves setDevs removed plans).tryAnswer

/-- The first Call of a new job (R373, R401): it assigns the partners. -/
def State.firstCall (s : State) : State :=
  match s.link.roster with
  | none => s
  | some r => if r.version = 0 ∧ s.coord = some s.link.me ∧ s.link.call.isNone = true then
      s.startCall r [] (firstPartners (s.fld .pbkPolicy 0 39 36) r.devs) [] []
    else s

/-- A device that joins knows itself in the Roster by its identity (R368). -/
def State.findMe (s : State) (next : Roster) : Nat :=
  match next.devs.find? (fun e => decide (e.ident = s.rd .idnDevid)) with
  | some e => e.number
  | none => s.link.me

/-- The Roster that a proposal's delta is applied to: this device's replica; for a device that is to join, and so is in no Roster yet, the one the
proposal brings (R18, R374; log entry 16). -/
def State.callBase (s : State) (d : Proposal) : Option Roster :=
  match s.link.roster with
  | none => d.base
  | some r => if (r.entry s.link.me).isSome then some r else d.base.or (some r)

/-- A proposal at a device (R373, R374): applied to a copy of the replica and checked; passed on; answered when the subtree has answered. A
Recast's proposal tells a device of the failures it did not know of, whose cause it does not carry (free value, log entry 12). -/
def State.onPropose (s : State) (d : Proposal) : State :=
  match s.callBase d with
  | none => s
  | some r =>
    if d.ballot < s.link.ballot then s
    else
      let s := if s.link.roster = some r then s else s.modLink (fun k => { k with roster := some r, me := s.findMe (r.apply d) })
      let s := if d.recast then
          (match s.free with
          | (c, s) => d.removed.foldl (fun s x => s.recastBegin x (c.toNat % 4)) s)
        else s
      let next := r.apply d
      let ok := s.callOk r next d
      let k : CallSt := ⟨d, next, [], !ok, ok, false, []⟩
      let s := (s.modLink (fun l =>
        { l with
          ballot := if ok then l.ballot else d.ballot
          call := some k
          curtain := if d.recast = false ∧ l.curtain = 2 then 3 else l.curtain })).setCall d.ballot 1 d.recast
      if (next.entry s.link.me).isNone then s
      else
        let s := (next.kids s.link.me).foldl (fun s x => s.sendCall x 0 d.ballot (.propose d)) s
        if ok then s.tryAnswer
        else match next.parent s.link.me with
          | some x => s.sendCall x 2 d.ballot (.reject d.ballot)
          | none => s

/-- CALL_PROPOSE (R374). -/
def execCallPropose (port : Nat) (p : Pkt) (d : Proposal) (s : State) : Host.Outcome State Fault Refusal :=
  onPort port s (fun s =>
    let p := if s.link.roster.isNone ∧ d.base.isSome then { p with dst := s.link.me } else p
    s.receive port p 0x12 (fun s => s.onPropose d))

/-- CALL_ACCEPT (R374): a child's subtree accepts; link-map words it brings are kept and passed up. -/
def execCallAccept (port : Nat) (p : Pkt) (ballot : Nat) (s : State) : Host.Outcome State Fault Refusal :=
  onPort port s (fun s => s.receive port p 0x12 (fun s =>
    match s.link.call with
    | none => s
    | some k =>
      if ballot ≠ k.prop.ballot ∨ (k.next.kids s.link.me).contains p.src = false then s
      else if 256 ≤ p.aux16 then
        let l := linksFrom 41 p.data
        let s := s.modLink (fun x => { x with call := some { k with links := k.links ++ l } })
        if k.coordinator then s
        else match k.next.parent s.link.me with
          | some d => s.sendLinks d 1 ballot l
          | none => s
      else (s.modLink (fun x => { x with call := some { k with answered := k.answered ++ [p.src] } })).tryAnswer))

/-- CALL_REJECT (R374, R376): a parent passes it up; at the coordinator it aborts the Call. -/
def execCallReject (port : Nat) (p : Pkt) (ballot : Nat) (s : State) : Host.Outcome State Fault Refusal :=
  onPort port s (fun s => s.receive port p 0x12 (fun s =>
    match s.link.call with
    | none => s
    | some k =>
      if ballot ≠ k.prop.ballot ∨ (k.next.kids s.link.me).contains p.src = false then s
      else if k.coordinator then s.abortCall
      else
        let s := s.modLink (fun x => { x with call := some { k with rejected := true } })
        match k.next.parent s.link.me with
        | some d => if k.rejected then s else s.sendCall d 2 ballot (.reject ballot)
        | none => s))

/-- CALL_COMMIT (R374, R375). -/
def execCallCommit (port : Nat) (p : Pkt) (ballot : Nat) (s : State) : Host.Outcome State Fault Refusal :=
  onPort port s (fun s => s.receive port p 0x12 (fun s =>
    match s.link.call with
    | none => s
    | some k =>
      if ballot ≠ k.prop.ballot ∨ k.coordinator = true then s
      else if 256 ≤ p.aux16 then
        let l := linksFrom 41 p.data
        s.modLink (fun x => { x with call := some { k with links := k.links.filter (fun y => !l.any (fun z => decide (z.1 = y.1))) ++ l } })
      else s.commitCall k))

/-- CALL_ABORT (R376): the old Roster is kept. -/
def execCallAbort (port : Nat) (p : Pkt) (ballot : Nat) (s : State) : Host.Outcome State Fault Refusal :=
  onPort port s (fun s => s.receive port p 0x12 (fun s =>
    match s.link.call with
    | none => s
    | some k => if ballot = k.prop.ballot ∧ k.coordinator = false then s.abortCall else s))

/-- CALL_SILENCE_TIMEOUT (R353, R376): a child subtree has been silent for 100 µs. The coordinator aborts and reports it; before version 1, while
ROSTER_SET still has time to reach every device (R473), it also proposes again (log entry 18). Another parent reports it. -/
def execCallSilenceTimeout (dev : Nat) (s : State) : Host.Outcome State Fault Refusal :=
  match s.link.call with
  | none => .next s
  | some k =>
    if !(k.next.kids s.link.me).contains dev || k.answered.contains dev then .next s
    else if k.coordinator then
      if k.prop.version = 1 then .next (s.abortCall.reportSuspect dev 1).firstCall else .next (s.abortCall.reportSuspect dev 1)
    else .next (s.reportSuspect dev 1)

/-- SUSPECT (R422, R423): at the coordinator a report opens a query, or confirms; device number 0xFFFF with cause 4 reports a double fault
without a failed device (log entry 16). -/
def execSuspect (port : Nat) (p : Pkt) (s : State) : Host.Outcome State Fault Refusal :=
  if p.aux16 % 256 ≠ 0x09 then .next s else onPort port s (fun s =>
    s.receive port p 0x07 (fun s =>
      match s.link.roster with
      | none => s
      | some r =>
        if (r.entry p.src).isNone then s.bump .lnkDiscard 0 1
        else
          let dev := p.aux64.toNat
          let cause := p.num 0 1
          if dev = noDev ∧ cause = 4 then (if s.coord = some s.link.me then s.propose r true true [] [] [] [] else s)
          else if dev = s.link.me then s
          else if s.coordBut [dev] = some s.link.me then s.suspectAt dev cause
          else s.reportSuspect dev cause))

/-- QUORUM_QUERY (R423): whether a heartbeat from the suspect came within the last 20 µs. -/
def execQuorumQuery (port : Nat) (p : Pkt) (s : State) : Host.Outcome State Fault Refusal :=
  if p.aux16 % 256 ≠ 0x0A then .next s else onPort port s (fun s => s.receive port p 0x07 (fun s =>
    match s.link.roster with
    | none => s
    | some r => if (r.entry p.src).isNone then s.bump .lnkDiscard 0 1
      else s.resil p.src 0x0B p.aux64 [if s.alive p.aux64.toNat then 1 else 0]))

/-- The coordinator counts a query's answers (R423): confirmed when at least half are MISSING or none came, otherwise cleared. -/
def State.settleQuery (s : State) (q : Query) : State :=
  let missing := (q.answers.filter (fun a => !a.2)).length
  if q.answers.length ≤ 2 * missing then s.confirm q.dev q.cause
  else s.modPbk (fun p => { p with queries := p.queries.filter (fun x => decide (x.dev ≠ q.dev)) })

/-- QUORUM_ANSWER (R417, R423): counted; with every answer in, the coordinator need not wait (log entry 18). -/
def execQuorumAnswer (port : Nat) (p : Pkt) (s : State) : Host.Outcome State Fault Refusal :=
  if p.aux16 % 256 ≠ 0x0B then .next s else onPort port s (fun s => s.receive port p 0x07 (fun s =>
    if !s.link.roster.any (fun r => (r.entry p.src).isSome) then s.bump .lnkDiscard 0 1
    else match s.pbk.queries.find? (fun q => decide (q.dev = p.aux64.toNat)) with
    | none => s
    | some q =>
      if !q.asked.contains p.src || q.answers.any (fun a => decide (a.1 = p.src)) then s
      else
        let q' := { q with answers := q.answers ++ [(p.src, decide (p.num 0 1 = 1))] }
        let s := s.modPbk (fun x => { x with queries := x.queries.map (fun (y : Query) => if y.dev = q.dev then q' else y) })
        if q'.asked.length ≤ q'.answers.length then s.settleQuery q' else s))

/-- QUORUM_TIMEOUT (R423): 60 µs after its query the coordinator counts the answers. -/
def execQuorumTimeout (s : State) : Host.Outcome State Fault Refusal :=
  match s.pbk.queries with
  | [] => .next s
  | q :: _ => .next (s.settleQuery q)

/-- ISOLATION_TIMEOUT (R424): for 1 ms no heartbeat has come on any port of a device whose Roster lists another one. -/
def execIsolationTimeout (s : State) : Host.Outcome State Fault Refusal :=
  match s.link.roster with
  | none => .next s
  | some r =>
    let heard := (List.range 24).any (fun n => match (s.port n).beat with
      | some t => decide ((s.now - t).toNat < 1000000)
      | none => false)
    if 2 ≤ r.devs.length ∧ heard = false then .next (s.enterFault 6) else .next s

/-- RECAST_START (R425, R427, R432): the device learns that a failure is confirmed. The coordinator, for whom it must be confirmed, proposes
the Recast's Call; a job of one device left commits it alone. -/
def execRecastStart (dev cause : Nat) (s : State) : Host.Outcome State Fault Refusal :=
  match s.link.roster with
  | none => .next s
  | some r =>
    let mine := decide (s.coordBut [dev] = some s.link.me)
    let ok := (r.entry dev).isSome && decide (dev ≠ s.link.me) && decide (cause < 4)
      && !decide (s.plat.dev = .safe ∨ s.plat.dev = .fault) && (!mine || s.pbk.confirmed.contains (dev, cause))
    if !ok then .next s
    else
      let s := s.recastBegin dev cause
      if mine then .next s.proposeRecast.tryAnswer else .next s

/-- The maximum of a boot phase in ns (R506). -/
def phaseMax (k : Nat) : Nat :=
  ([0, 50, 300, 1500, 2000, 3000, 2000, 2000, 500].getD k 0) * 1000000

/-- The bound of a test or calibration in ns (R480). -/
def State.testBound (s : State) (f : InFlight) : Nat :=
  let sc := bitsOf (f.words.getD 0 0) 3 0
  if f.opcode = 0x40 then
    (if sc = 0 then 2000000000 else if sc = 1 then 25000000 else if sc = 2 then 25000000 * s.availCount else if sc = 3 then 3000000000 else 2000000000)
  else if sc = 0 then 200000000 * (List.range 8).countP (fun k => (f.words.getD 0 0).getLsbD (16 + k))
  else if sc = 1 then 25000000 else 3000000000

/-- The phases in progress with the times they must have ended by (R21, R431, R480, R506): of the boot; of a Recast, but for a phase 4 whose lead is
suspended, which has no budget yet (R426); tests and calibrations that have begun. -/
def State.phasesNow (s : State) : List (Nat × Nat) :=
  let susp := match s.leadCtx with
    | some c => c.suspended
    | none => false
  (match s.pbk.recast with
    | some r => if r.phase = 4 ∧ susp = true then []
        else [((Config.phaseCode r.phase).toNat, r.since.toNat + 1000 * [200, 250, 100, 250, 150].getD r.phase 0)]
    | none => [])
    ++ s.plat.phase.map (fun k => (k, (s.phaseBegan k).toNat + phaseMax k))
    ++ (s.booth.inflight.filter (fun f => decide (f.opcode = 0x40 ∨ f.opcode = 0x41) && !f.curtain)).map (fun (f : InFlight) =>
      ((Config.phaseCode (if f.opcode = 0x40 then 5 else 6)).toNat, f.began.toNat + s.testBound f))

/-- The phase in progress whose time runs out first (R21). -/
def State.phaseNow (s : State) : Option W64 := (leastOf s.phasesNow).map (fun (x : Nat × Nat) => w64 x.1)

/-- PHASE_OVERRUN (R21, R432): a phase has exceeded its maximum. -/
def execPhaseOverrun (s : State) : Host.Outcome State Fault Refusal :=
  match s.phaseNow with
  | some c => .next ((s.romStart.post 0x0003 3 none [c]).enterFault 2)
  | none => .next s

end Sys2Proof.Machine
end

