-- ==== Sys2Proof/Machine/Repair.lean ====
section
/-! DEFINITION. Repairing the stacks: soft remaps, retired pages and channels, running short of memory (R220-R223, R235-R242). -/

namespace Sys2Proof.Machine

/-- The stack address of a place: the inverse of R217's map. -/
def placeAddr (x : Bool) (pc q : Nat) : Nat :=
  if Config.stackCount = 12 then
    let stk := pc / 64
    let b := stk % 4 + 4 * (pc % 64 / 2) + 128 * (pc % 2)
    let b := if x then Nat.xor b (Nat.xor (Nat.xor (q % 256) (q / 256 % 256)) (q / 65536 % 128)) else b
    let a := if x then (stk / 4 + 3 - q % 3) % 3 else stk / 4
    256 * (3 * (b + 256 * q) + a)
  else
    let b := pc / 64 + 8 * (pc % 64 / 2) + 256 * (pc % 2)
    let b := if x then Nat.xor b (Nat.xor (Nat.xor (q % 512) (q / 512 % 512)) (q / 262144 % 32)) else b
    256 * (b + 512 * q)

/-- The place whose granule lies at row `q` of a live pseudo-channel: the inverse of R220's relocation. -/
def State.unplace (s : State) (pc q : Nat) : Nat × Nat :=
  let l := s.livePc
  let qTop := 6291456 / pcCount * l
  if q < qTop ∨ l = pcCount then (pc, q)
  else
    let n := (q - qTop) * l + s.fld .hbmRemap pc 10 1
    ((((List.range pcCount).filter (fun i => decide (s.fld .hbmRemap i 0 0 = 1 ∧ s.fld .hbmRemap i 10 1 = n / qTop))).headD 0), n % qTop)

/-- The four granules of a DRAM row, as places (R219). -/
def State.rowPlaces (s : State) (pc row : Nat) : List (Nat × Nat) := (List.range 4).map (fun j => s.unplace pc (4 * row + j))

/-- The pages of the stack region that have a granule in a row (R236, R239). -/
def State.rowPages (s : State) (pc row : Nat) : List Nat :=
  ((s.rowPlaces pc row).map (fun p => placeAddr (decide (s.fld .hbmInterleave 0 0 0 = 1)) p.1 p.2 / pageBytes)).eraseDups

/-- A repair recorded (R240): the log holds 16,384 records. -/
def State.logRepair (s : State) (r : Repair) : State :=
  if s.mem.log.length < 16384 then { s with mem := { s.mem with log := s.mem.log ++ [r] } } else s

/-- A row was soft-remapped before, or its page retired: its repair failed (R237). -/
def State.remapped (s : State) (pc row : Nat) : Bool := s.mem.remaps.any (fun r => decide (r.pc = pc ∧ r.row = row))

/-- Soft remap entries in use on a stack (R236, R252). -/
def State.softUsed (s : State) (stk : Nat) : Nat := (s.mem.remaps.filter (fun r => decide (r.stack = stk))).length

/-- Step 1 or 2 of the ladder is available to a row (R236, R237): never to one whose pages are all retired, which counts toward step 4. -/
def State.softOk (s : State) (pc row : Nat) : Bool :=
  !s.remapped pc row && decide (s.softUsed (pc / 64) < 4096) && !(s.rowPages pc row).all (fun g => s.mem.retiredPages.contains g)

/-- Granules copied to a spare row of their pseudo-channel (R238): their errors met on the way; the traffic is the system's (R224, R257). -/
def settleBlocks (places : List (Nat × Nat)) (s : State) : State :=
  places.foldl (fun (s : State) p =>
    let s := (List.range 4).foldl (fun (s : State) j => (s.placeBlock p.1 p.2 j).2) s
    let stk := (s.relocate p.1 p.2).1 / 64
    (((s.charge 16 false 256).bump .hbmRdBytes stk 256).charge 16 true 256).bump .hbmWrBytes stk 256) s

/-- A row leaves the list of failing rows, its history cleared. -/
def State.rowDone (s : State) (pc row : Nat) : State :=
  { s with
    mem := { s.mem with
      failing := s.mem.failing.filter (fun x => decide (x ≠ (pc, row)))
      rows := mset [] s.mem.rows (2 ^ 21 * pc + row) [] } }

/-- SOFT_REMAP_INSTALL (R236-R238, R240): the row's granules, corrected or else poisoned, go to a spare row; where the row's bank has had no
hard repair, one is pending for the next reset. -/
def execSoftRemapInstall (stack pc row : Nat) (s : State) : Host.Outcome State Fault Refusal :=
  if s.mem.failing.contains (pc, row) && s.softOk pc row && decide (stack = pc / 64) then
    let s := settleBlocks (s.rowPlaces pc row) s
    let hard := !s.mem.hard.any (fun r => decide (r.pc = pc ∧ Config.bankOf pc r.row = Config.bankOf pc row))
      && !s.mem.log.any (fun r => decide (r.kind = 1 ∧ r.pc = pc ∧ Config.bankOf pc r.row = Config.bankOf pc row))
    let s := if hard then
        ({ s with mem := { s.mem with hard := s.mem.hard ++ [(⟨1, stack, pc, row⟩ : Repair)] } }).logRepair ⟨1, stack, pc, row⟩
      else s
    let s := ({ s with mem := { s.mem with remaps := s.mem.remaps ++ [(⟨2, stack, pc, row⟩ : Repair)] } }).logRepair ⟨2, stack, pc, row⟩
    .next (s.rowDone pc row)
  else .next s

/-- The allocation limit and the pages that may be assigned (R221, R253). -/
def State.allocLimit (s : State) : Nat := pcCount * pcBytes - s.fld .hbmCapacity 0 20 16 * 3 * 2 ^ 30
def State.allocPages (s : State) : Nat := Nat.min s.allocLimit s.ceiling / pageBytes - s.mem.retiredPages.length

/-- A page that may hold data: below the allocation limit and in service, not retired and not about to be, and no place that a page waiting for a
Curtain is to move to (R221, R239). -/
def State.usablePage (s : State) (g : Nat) : Bool :=
  decide ((g + 1) * pageBytes ≤ Nat.min s.allocLimit s.ceiling) && !s.mem.retiredPages.contains g
    && !s.mem.pendPages.any (fun p => decide (p.1 = g ∨ p.2 = g))

/-- A page nobody owns that may be assigned (R239). -/
def State.freePage (s : State) (g : Nat) : Bool := decide (mget 0 s.mem.pages g = 0) && s.usablePage g

/-- A range's parts where a page has moved. -/
def moveRange (page target : Nat) (r : Range) : List Range :=
  let lo := page * pageBytes
  let hi := lo + pageBytes
  if r.pa + r.len ≤ lo ∨ hi ≤ r.pa then [r]
  else
    let a := Nat.max r.pa lo
    let b := Nat.min (r.pa + r.len) hi
    (if r.pa < a then [⟨r.off, a - r.pa, r.pa⟩] else []) ++ [⟨r.off + (a - r.pa), b - a, target * pageBytes + (a - lo)⟩]
      ++ (if b < r.pa + r.len then [⟨r.off + (b - r.pa), r.pa + r.len - b, b⟩] else [])

/-- A page's data moved, through the home slices, to a free page (R206, R239): ordered sequences move with their positions, the tensor tables
and the stack places of swapped-out scratch contents follow; the system regulator is charged (R224). -/
def State.movePage (s : State) (page target : Nat) : State :=
  let own := mget 0 s.mem.pages page
  let s := { s with mem := { s.mem with pages := mset 0 s.mem.pages target own } }
  let s := s.moveRun (page * pageBytes) (target * pageBytes) pageBytes
  let mv (a : Nat) : Nat := if a / pageBytes = page then target * pageBytes + a % pageBytes else a
  { s with
    mem := { s.mem with
      lines := s.mem.lines.filter (fun l => decide (l.line * 256 / pageBytes ≠ page))
      pages := mset 0 s.mem.pages page 0 }
    sched := { s.sched with ctxs := s.sched.ctxs.map (fun (c : Ctx) =>
      { c with
        tensors := c.tensors.map (fun (t : TensorPlace) =>
          { t with ranges := t.ranges.flatMap (moveRange page target), shadow := t.shadow.flatMap (moveRange page target) })
        saved := c.saved.map (fun x => (x.1, mv x.2.1, x.2.2)) }) } }

/-- Pages a context needs. -/
def Ctx.pagesNeeded (c : Ctx) : Nat := 512 * c.stackGib

/-- Fill contexts swapped out, lowest priority first, until those in residence fit in `avail` pages (R242). -/
def State.swapUntil (avail : Nat) : Nat → State → State
  | 0, s => s
  | k + 1, s =>
    let need := ((s.sched.ctxs.filter (fun c => c.resident)).map Ctx.pagesNeeded).sum
    if need ≤ avail then s
    else match leastOf ((s.fillResident.filter (fun c => (s.swapRoom c).isSome)).map (fun c => (c.num, c.prio))) with
      | none => s
      | some x => match s.ctx? x.1 with
        | some c => State.swapUntil avail k (s.swapOutNow c)
        | none => s

/-- Fill contexts out of residence, in the order in which they give way (R242): the suspended ones, then by rising priority. -/
def State.givers (s : State) : List Ctx :=
  let out := s.sched.ctxs.filter (fun c => !c.lead && !c.resident)
  out.filter (fun c => c.suspended) ++ (List.range 8).flatMap (fun p => out.filter (fun c => !c.suspended && decide (c.prio = p)))

/-- Too little stack memory for `avail` pages to hold every context (R242), in that order: swaps; suspensions, with their events, of fill
contexts out of residence until the rest fit; FAULT where the lead alone does not fit. -/
def State.memShortAt (s : State) (avail : Nat) : State :=
  let s := State.swapUntil avail 16 s
  let need := (s.sched.ctxs.map Ctx.pagesNeeded).sum
  let s := (s.givers.foldl (fun (a : State × Nat) c =>
    if a.2 ≤ avail then a
    else ((if c.suspended then a.1 else (a.1.suspend c.num 3).post 0x0024 2 (some c.num) [w64 c.num]), a.2 - c.pagesNeeded)) (s, need)).1
  if avail < (s.leadCtx.map Ctx.pagesNeeded).getD 0 then s.enterFault 4 else s

/-- A range without what lay in a page. -/
def cutRange (page : Nat) (r : Range) : List Range := (moveRange page page r).filter (fun x => decide (x.pa / pageBytes ≠ page))

/-- A suspended context out of residence gives up a page (R242): what lay in it is lost to its tensor table. Which page is the model's choice
(log entry 19). -/
def State.losePage (s : State) (page : Nat) : State :=
  { s with
    mem := { s.mem with
      lines := s.mem.lines.filter (fun l => decide (l.line * 256 / pageBytes ≠ page))
      pages := mset 0 s.mem.pages page 0 }
    sched := { s.sched with ctxs := s.sched.ctxs.map (fun (c : Ctx) =>
      { c with
        tensors := c.tensors.map (fun (t : TensorPlace) =>
          { t with ranges := t.ranges.flatMap (cutRange page), shadow := t.shadow.flatMap (cutRange page) })
        saved := c.saved.filter (fun x => decide (x.2.1 / pageBytes ≠ page)) }) } }

/-- A page that may take moved data (R239, R242): the one named, where it is free; else the first free one; else one that a suspended context out
of residence gives up. Pages from `top` on are none. -/
def State.findPage (s : State) (target top : Nat) : Option Nat × State :=
  if target < top && s.freePage target then (some target, s)
  else match (List.range top).find? s.freePage with
    | some g => (some g, s)
    | none =>
      let own := (s.givers.filter (fun c => c.suspended)).map (fun (c : Ctx) => c.num + 1)
      match own.findSome? (fun o => (s.mem.pages.find? (fun e => decide (e.2 = o ∧ e.1 < top) && s.usablePage e.1)).map
          (fun (e : Nat × Nat) => e.1)) with
      | some g => (some g, s.losePage g)
      | none => (none, s)

/-- Pages retired for rows of a channel, with the rows found failing in a page already retired (R236, R237). -/
def State.chanPages (s : State) (ch : Nat) : Nat := mget 0 s.mem.chanCount ch
def State.chanCounts (s : State) (ch : Nat) : State :=
  { s with mem := { s.mem with chanCount := mset 0 s.mem.chanCount ch (mget 0 s.mem.chanCount ch + 1) } }

/-- A page moved out of a failing row and retired (R236, R239, R240, R253), once the contexts fit in one page less (R242). With no page for its
data it stays in service. -/
def State.retirePage (s : State) (page target : Nat) : State :=
  let rows := s.mem.failing.filter (fun x => (s.rowPages x.1 x.2).contains page)
  let s := s.memShortAt (s.allocPages - 1)
  let got := if mget 0 s.mem.pages page = 0 then (some page, s)
    else s.findPage (if target = page then Nat.min s.allocLimit s.ceiling / pageBytes else target) (Nat.min s.allocLimit s.ceiling / pageBytes)
  match got with
  | (none, s) => s
  | (some t, s) =>
  let s := if t = page then s else s.movePage page t
  let s := { s with mem := { s.mem with retiredPages := s.mem.retiredPages ++ [page] } }
  let s := s.setFld .hbmCapacity 0 44 32 s.mem.retiredPages.length
  let s := ((rows.map (fun (x : Nat × Nat) => x.1 / 2)).eraseDups).foldl (fun (s : State) ch => s.chanCounts ch) s
  rows.foldl (fun s x =>
    let s := s.logRepair ⟨3, x.1 / 64, x.1, page⟩
    if (s.rowPages x.1 x.2).all (fun g => s.mem.retiredPages.contains g) then s.rowDone x.1 x.2 else s) s

/-- PAGE_RETIRE (R236, R237, R239, R241, R242): a page of a failing row that steps 1 and 2 cannot cover leaves service at once, or with a
lead at the next Curtain. A row whose pages are all retired already counts toward its channel's step 4. With the page list full and
the channel below its threshold the repairs of the row are exhausted, unless one of its pages still waits for the Curtain. `target` is the free
page that the Stage Manager moves the data to; `page` itself says that there is none (R242). -/
def execPageRetire (page target : Nat) (s : State) : Host.Outcome State Fault Refusal :=
  match s.mem.failing.find? (fun x => (s.rowPages x.1 x.2).contains page && !s.softOk x.1 x.2) with
  | none => .next s
  | some x =>
    if (s.rowPages x.1 x.2).all (fun g => s.mem.retiredPages.contains g) then .next ((s.chanCounts (x.1 / 2)).rowDone x.1 x.2)
    else if s.mem.retiredPages.contains page || s.mem.pendPages.any (fun p => decide (p.1 = page)) then .next s
    else if 4096 ≤ s.mem.retiredPages.length + s.mem.pendPages.length then
      if s.chanPages (x.1 / 2) ≤ s.fld .hbmRepairCfg 0 16 8
          ∧ s.mem.pendPages.any (fun p => (s.rowPages x.1 x.2).contains p.1) = false then
        .next ((s.rowDone x.1 x.2).post 0x0022 2 none [w64 (x.1 / 64), w64 (x.1 % 64 / 2), w64 x.2])
      else .next s
    else if decide (mget 0 s.mem.pages page ≠ 0) && !s.freePage target
        && !(decide (page = target) && ((List.range (Nat.min s.allocLimit s.ceiling / pageBytes)).all (fun g => !s.freePage g))) then .next s
    else if s.leadCtx.isSome then .next { s with mem := { s.mem with pendPages := s.mem.pendPages ++ [(page, target)] } }
    else .next (s.retirePage page target)

/-- CHANNEL_RETIRE (R222, R236): a channel whose retired pages exceed the threshold starts to retire. -/
def execChannelRetire (ch : Nat) (s : State) : Host.Outcome State Fault Refusal :=
  if 2 * ch + 1 < pcCount then
    let busy := match s.mem.copy with
      | some c => c.ended || c.chans.contains ch
      | none => false
    if s.fld .hbmRepairCfg 0 16 8 < s.chanPages ch && !s.mem.retiredChans.contains ch && !busy then
      let cs := match s.mem.copy with
        | some c => c.chans ++ [ch]
        | none => [ch]
      .next ((({ s with mem := { s.mem with copy := some ⟨cs, false⟩ } }).setFld .hbmCapacity 0 10 10 1).logRepair
        ⟨4, ch / 32, 2 * ch, 0⟩)
    else .next s
  else .fault .noSuchUnit

/-- The remap table for a set of retired channels (R220). -/
def State.setRemap (s : State) (chans : List Nat) : State :=
  let dead (i : Nat) : Bool := chans.contains (i / 2)
  let r := (List.range pcCount).foldl (fun (a : State × Nat × Nat) i =>
    if dead i then (a.1.wr .hbmRemap i (w64 (1 + 2 * a.2.2)), a.2.1, a.2.2 + 1)
    else (a.1.wr .hbmRemap i (w64 (2 * a.2.1)), a.2.1 + 1, a.2.2)) (s, 0, 0)
  r.1.setFld .hbmCapacity 0 9 0 r.2.1

/-- A block's key stands for a granule that a retirement moves. -/
def State.blockMoves (s : State) (k : Nat) : Bool := (s.copyPlace (k / 2 ^ 25) (k % 2 ^ 25 / 4)).isSome

/-- The granules that a retirement moves read for their errors (R229, R231, R256): corrected, or else counted and copied as poison. -/
def State.readMoved (s : State) : State :=
  (s.mem.stackEcc.filter (fun e => s.blockMoves e.1)).foldl (fun (s : State) e => (s.placeBlock (e.1 / 2 ^ 25) (e.1 % 2 ^ 25 / 4) (e.1 % 4)).2) s

/-- The background copy of R222 made: the granules of every channel retired after the change, below the new top row, are read where they lie and
written where the new table has them. Bytes count for the stacks that moved them (R257), and the system regulator is charged (R224). Every
live pseudo-channel takes the same share of them, since ranks go round (R220). -/
def State.copyChannels (s : State) (chans : List Nat) : State :=
  let all' := s.mem.retiredChans ++ chans
  let dead := (List.range pcCount).filter (fun i => all'.contains (i / 2))
  let live := (List.range pcCount).filter (fun i => !all'.contains (i / 2))
  let u := 6291456 / pcCount
  let top := u * live.length
  let old := (List.range pcCount).filter (fun i => !s.mem.retiredChans.contains (i / 2))
  let s := s.readMoved
  let s := dead.foldl (fun (s : State) i =>
    if s.mem.retiredChans.contains (i / 2) then
      old.zipIdx.foldl (fun (s : State) x => s.bump .hbmRdBytes (x.1 / 64) (256 * ((top + old.length - 1 - x.2) / old.length))) s
    else s.bump .hbmRdBytes (i / 64) (256 * top)) s
  let s := live.foldl (fun (s : State) i => s.bump .hbmWrBytes (i / 64) (256 * (u * dead.length))) s
  s.chargeBulk (512 * top * dead.length)

/-- The remap table and the ceiling switch (R220-R222): the contexts first made to fit below the new ceiling (R242), data above it has been moved
below where pages remain. What the copy read correctly has no error in its new place. -/
def State.switchRemap (s : State) (chans : List Nat) : State :=
  let all' := s.mem.retiredChans ++ chans
  let top := (pcCount - 2 * all'.length) * pcBytes / pageBytes
  let s := s.memShortAt (Nat.min (s.allocLimit / pageBytes) top - s.mem.retiredPages.length)
  let high := (s.mem.pages.filter (fun e => decide (top ≤ e.1))).map (fun (e : Nat × Nat) => e.1)
  let s := high.foldl (fun s g => match s.findPage top top with
    | (some t, s) => s.movePage g t
    | (none, s) => s) s
  let old := s
  let s := { s with
    mem := { s.mem with
      stackEcc := s.mem.stackEcc.filter (fun e => !(old.blockMoves e.1 && decide (e.2 ≠ stkBad)))
      retiredChans := all', copy := none } }
  let s := (s.setRemap all').setFld .hbmCapacity 0 10 10 0
  s.post 0x0023 1 none [w64 (2 * chans.headD 0), w64 s.livePc]

/-- CHANNEL_COPY_DONE (R222): the copy has been made; the switch comes at the next Curtain, or at once with no lead; a Recast pauses the
copy. -/
def execChannelCopyDone (s : State) : Host.Outcome State Fault Refusal :=
  match s.mem.copy with
  | none => .next s
  | some c =>
    if c.ended ∨ s.pbk.recast.isSome = true then .next s
    else
      let s := s.copyChannels c.chans
      if s.leadCtx.isSome then .next { s with mem := { s.mem with copy := some { c with ended := true } } }
      else .next (s.switchRemap c.chans)

/-- What waits for a Curtain in the stacks: pages to retire, a remap table to switch (R222, R236). -/
def State.curtainMemory (s : State) : State :=
  let l := s.mem.pendPages
  let s := l.foldl (fun (s : State) p => ({ s with mem := { s.mem with pendPages := s.mem.pendPages.drop 1 } }).retirePage p.1 p.2) s
  match s.mem.copy with
  | some c => if c.ended then s.switchRemap c.chans else s
  | none => s

end Sys2Proof.Machine
end

