-- ==== Sys2Proof/Machine/Tallies.lean ====
section
/-! DEFINITION. The Curtain's Tally work: scale exponents, ring records, the job-wide combination and its latch (R46-R48, R180-R190, R278). -/

namespace Sys2Proof.Machine

/-- Largest finite value of a tag's destination format (R189): 0 E4M3, 1 E5M2, 2 BF16, 3 FP16. -/
def tagFmt : Nat → Fmt
  | 0 => .e4m3
  | 1 => .e5m2
  | 2 => .bf16
  | _ => .fp16

/-- floor(log2(M / a)) of two positive values m·2^e, M·2^E, exactly (R47). -/
def floorLog2Ratio (mM : Nat) (eM : Int) (m : Nat) (e : Int) : Int :=
  let x : Int := (Nat.log2 mM : Int) - (Nat.log2 m : Int)
  -- 2^x · m ≤ mM, or else one less
  let fits := if 0 ≤ x then decide (m * 2 ^ x.toNat ≤ mM) else decide (m ≤ mM * 2 ^ (-x).toNat)
  (if fits then x else x - 1) + eM - e

/-- The exponent R47 selects from the largest of the recorded maxima; `old` where it stays unchanged. -/
def selectExp (fmt margin : Nat) (a : W32) (old : Nat) : Nat :=
  match fv32 a, (tagFmt fmt).decode (tagFmt fmt).maxBits with
  | .fin _ m e, .fin _ mM eM =>
    if m = 0 then old
    else (BitVec.ofInt 8 (max (-127) (min 127 (floorLog2Ratio mM eM m e - (margin : Int))))).toNat
  | _, _ => old

/-- The tags the device tracks (R189). -/
def State.trackedTags (s : State) : List Nat := (List.range 4096).filter (fun t => decide (s.fld .tlyScale t 26 26 = 1))

/-- This device's absolute maxima of its tracked tags (R47, R378). -/
def State.ownAmax (s : State) : List (Nat × W32) :=
  s.trackedTags.filterMap (fun t =>
    let k := 4 * t + s.fld .tlyScale t 25 24
    match s.sched.stepTally.regs.find? (fun e => decide (e.1 = k)) with
    | some e => some (t, e.2.amax)
    | none => none)

/-- One tag at a Curtain (R47, R48, R278): its history gains the job-wide maximum, its exponent for the next step is chosen; a tag of
the weight stream uses the new one in update kernels only and puts the one before in force. -/
def State.turnTag (s : State) (amax : List (Nat × W32)) (t : Nat) : State :=
  let h := s.fld .tlyScale t 19 16 + 1
  let new := ((amax.find? (fun x => decide (x.1 = t))).map (fun (x : Nat × W32) => x.2)).getD 0
  let old := ((s.sched.hist.find? (fun x => decide (x.tag = t))).map (fun (x : TagHist) => x.maxima)).getD []
  let ms := (new :: old).take 16
  let a := (ms.take h).foldl (fun a b => if isFin32 b && a.ult b then b else a) 0
  let cur := s.fld .tlyScale t 7 0
  let weight := decide (s.fld .tlyScale t 25 24 = 1)
  let was := if weight then mget (s.fld .tlyScale t 15 8) s.sched.nextExp t else cur
  let e := selectExp (s.fld .tlyScale t 23 22) (s.fld .tlyScale t 21 20) a was
  let now := if weight then was else e
  let s := s.modSched (fun q =>
    { q with
      hist := q.hist.filter (fun x => decide (x.tag ≠ t)) ++ [⟨t, ms⟩]
      nextExp := if weight then aput t e q.nextExp else q.nextExp
      ring := if now = cur then q.ring else { q.ring with exps := q.ring.exps ++ [(t, cur)] } })
  (s.setFld .tlyScale t 7 0 now).setFld .tlyScale t 63 32 new.toNat

/-- Tags with a contribution or a non-zero overflow count, ascending (R183). -/
def tallyTags (t : Tally) : List Nat :=
  ((t.regs.map (fun (e : Nat × TlyReg) => e.1 / 4)) ++ ((t.ovf.filter (fun e => decide (e.2 ≠ 0))).map (fun (e : Nat × Nat) => e.1))).eraseDups.foldl
    (fun a x => insNat x a) []

/-- A ring record's bytes (R183, R184). -/
def State.ringRecord (s : State) (t : Tally) (vranks : Nat) (job replay : Bool) : List Byte :=
  let tags := tallyTags t
  let r := s.sched.ring
  let head := [w64 (64 + 80 * tags.length + tags.length * 2 ^ 32), w64 r.step, r.time,
    w64 (vranks + (if replay then 2 ^ 17 else 0) + (if r.recast then 2 ^ 18 else 0) + (if s.sched.dropped then 2 ^ 19 else 0)
      + (if job then 2 ^ 20 else 0)), 0, 0, 0, 0]
  let entry (g : Nat) : List W64 :=
    let reg (st : Nat) : Option TlyReg := (t.regs.find? (fun e => decide (e.1 = 4 * g + st))).map (fun (e : Nat × TlyReg) => e.2)
    let cur := s.fld .tlyScale g 7 0
    let was := mget cur r.exps g
    let next := if s.fld .tlyScale g 25 24 = 1 ∧ s.fld .tlyScale g 26 26 = 1 then mget cur s.sched.nextExp g else cur
    let present := ((List.range 4).filter (fun st => (reg st).isSome)).foldl (fun a st => a + 2 ^ st) 0
    w64 (g + present * 2 ^ 12 + was * 2 ^ 16 + next * 2 ^ 24 + mget 0 t.ovf g * 2 ^ 32)
      :: ((List.range 4).flatMap (fun st => match reg st with
        | some x => [sumsq64 x.sumsq x.sat, w64 (x.amax.toNat + x.nonfin * 2 ^ 32)]
        | none => [0, 0])) ++ [0]
  wordsLe (head ++ tags.flatMap entry)

/-- A record written to the ring, or dropped (R182, R187). -/
def State.writeRing (s : State) (bs : List Byte) : State :=
  if s.fld .tlyCtrl 0 0 0 = 0 then s
  else
    let size := 4096 * s.fld .tlyRingSize 0 15 0
    let head := s.fld .tlyRingHead 0 31 0
    let tail := s.fld .tlyRingTail 0 31 0
    let base := (s.rd .tlyRingBase).toNat
    let room := size - (head + size - tail % size) % size - 64
    let first := Nat.min bs.length (size - head)
    let drop := (((s.satBump .tlyRingDrop 0 31 0 1).setFld .tlyStatus 0 1 1 1).modSched (fun q => { q with dropped := true }))
    if room < bs.length ∨ s.ceiling < base + head + first ∨ s.ceiling < base + (bs.length - first) then drop
    else
      let put (s : State) (a : Nat) (l : List Byte) : State := forceStores (piecesOf a l.length) l s
      let s := put (put s (base + head) (bs.take first)) base (bs.drop first)
      let s := ((s.setFld .tlyRingHead 0 31 0 ((head + bs.length) % size)).setFld .tlyStatus 0 0 0 1).modSched (fun q => { q with dropped := false })
      if s.fld .tlyCtrl 0 1 1 = 1 then s.post 0x0060 0 none [w64 s.sched.ring.step, w64 head] else s

/-- The statistics registers latched in one action (R180, R185, R190). -/
def State.latchTally (s : State) (t : Tally) (step : Nat) : State :=
  let s := { s with
    regs := mdrop (mdrop s.regs (Reg.off .tlyOvf 0) (Reg.off .tlyOvf 4096)) (Reg.off .tlySumsq 0) (Reg.off .tlySumsq 16384) }
  let s := t.regs.foldl (fun s (e : Nat × TlyReg) =>
    let s := (s.wr .tlySumsq e.1 (sumsq64 e.2.sumsq e.2.sat)).wr .tlyAmax e.1 (w64 (e.2.amax.toNat + e.2.nonfin * 2 ^ 32))
    if e.2.sat then s.setFld .tlyStatus 0 2 2 1 else s) s
  let s := t.ovf.foldl (fun s (e : Nat × Nat) => s.wr .tlyOvf e.1 (w64 e.2)) s
  s.wr .tlyStep 0 (w64 step)

/-- The job-wide result on this device (R180, R181): latched, recorded, sent down the tree. -/
def State.tallyDone (s : State) (t : Tally) : State :=
  match s.link.roster with
  | none => s
  | some r =>
    let step := s.sched.ring.step
    let s := (r.kids s.link.me).foldl (fun s d => s.inject d 4 0x13 0 3 (w64 step) [] (some (.tallyDown t)) .other) s
    let s := (s.latchTally t step).modSched (fun q => { q with tallySent := false, jobTally := q.jobTally.filter (fun x => decide (65536 * step + 65536 ≤ x.1)) })
    let rec' := s.ringRecord t r.vranks true false
    (s.modSched (fun q => { q with jobRecord := rec' })).writeRing rec'

/-- Whose parts a device combines (R181): its children's; at the root also those of devices that left the Roster at the Curtain (log entry
20). -/
def State.tallyKids (s : State) (r : Roster) : List Nat :=
  r.kids s.link.me ++ (if (r.parent s.link.me).isSome then [] else s.sched.ring.left)

/-- The parts this device has of the step's combination go up once every child's is there (R181). -/
def State.tryTally (s : State) : State :=
  match s.link.roster with
  | none => s
  | some r =>
    let key (d : Nat) : Nat := 65536 * s.sched.ring.step + d
    let part (d : Nat) : Option Tally := (s.sched.jobTally.find? (fun x => decide (x.1 = key d))).map (fun (x : Nat × Tally) => x.2)
    let all' := s.link.me :: s.tallyKids r
    if !s.sched.tallySent || !all'.all (fun d => (part d).isSome) then s
    else
      let t := all'.foldl (fun a d => a.add ((part d).getD tallyEmpty)) tallyEmpty
      match r.parent s.link.me with
      | none => s.tallyDone t
      | some d =>
        (s.modSched (fun q => { q with jobTally := q.jobTally.filter (fun x => !decide (x.1 / 65536 = q.ring.step)) })).inject d 4 0x13 0 2
          (w64 s.sched.ring.step) [] (some (.tallyUp t)) .other

/-- The device's record of the step that a Curtain ends (R182, R183), of the ranks it hosted in that step: before the Roster turns. -/
def State.ownRecord (s : State) : State := s.writeRing (s.ringRecord s.sched.stepTally s.hosted.length false s.sched.replayed)

/-- The Tally at a Curtain that ends a step (R180-R182): the combination starts over the Roster in force, the step's registers clear. -/
def State.turnTally (s : State) : State :=
  let t := s.sched.stepTally
  let s := s.modSched (fun q =>
    { q with
      stepTally := tallyEmpty, replayed := false, recastStep := false, tallySent := true
      jobTally := q.jobTally ++ [(65536 * q.ring.step + s.link.me, t)] })
  s.tryTally

end Sys2Proof.Machine
end

