-- ==== Sys2Proof/Machine/PbkCmds.lean ====
section
/-! DEFINITION. Resilience packets: state requests and data, teed totals, parity, replicas, the input log, scrub digests, saves, requests
for admission (R404-R421, R428, R433-R444, R438). Payload layouts are log entry 16. -/

namespace Sys2Proof.Machine

/-- A resilience packet of one kind (R345, R416, R417): discarded and counted when its source is not in the Roster, or its kind is
reserved. A packet of another kind is another command's. -/
def pbkPacket (port : Nat) (p : Pkt) (kind : Nat) (s : State) (f : State → State) : Host.Outcome State Fault Refusal :=
  let k := p.aux16 % 256
  onPort port s (fun s =>
    if k = 0 ∨ 0x0E < k then s.receive port p 0x07 (fun s => s.bump .lnkDiscard 0 1)
    else if k ≠ kind then s
    else s.receive port p 0x07 (fun s =>
      match s.link.roster with
      | none => s.bump .lnkDiscard 0 1
      | some r => if (r.entry p.src).isNone then s.bump .lnkDiscard 0 1 else f s))

/-- A packet of a later step, or of a later Roster version, waits until this device is there. -/
def State.hold (s : State) (p : Pkt) : State := s.modPbk (fun x => { x with held := x.held ++ [p] })

/-- What a STATE_REQ asks for (R416; layout log entry 16): whole lines, as far as the tensor goes. -/
def State.stateReqOf (s : State) (p : Pkt) : StReq :=
  let tensor := bitsOf p.aux64 63 40 + p.num 4 1 * shadowBit
  let off := bitsOf p.aux64 39 8 * 256
  ⟨p.num 0 4, tensor, off, Nat.min ((bitsOf p.aux64 7 0 + 1) * 256) (s.tensorBytes tensor - off), p.num 5 2, 0⟩

/-- A request for state (R404, R411, R419, R428): answered with the bytes held; by a host that has not loaded them yet passed to its own
source; for a rank this device holds no copy of, rebuilt from the parity group. -/
def State.onStateReq (s : State) (p : Pkt) : State :=
  let q := s.stateReqOf p
  match s.pbk.reqs.find? (fun x => decide (x.vr = q.vr ∧ x.tensor % shadowBit = q.tensor % shadowBit ∧ x.src ≠ q.src)) with
  | some x => s.resil x.src 0x01 p.aux64 p.data
  | none =>
    if (s.peekTensor q.vr q.tensor q.off q.len).isSome then s.serveState q.src q
    else match s.parityRoster with
      | some r => s.startRebuild (r.hostOf q.vr) q.src q.vr q.tensor q.off q.len none
      | none => s

/-- STATE_REQ (R416). -/
def execStateReq (port : Nat) (p : Pkt) (s : State) : Host.Outcome State Fault Refusal :=
  pbkPacket port p 0x01 s (fun s => s.onStateReq p)

/-- Totals of the step that state of a rank that has come holds already, with the updates that wait on them (R406): they are noted, and those updates
are not made again. -/
def State.tookTotals (s : State) (vr : Nat) (ks : List Nat) : State :=
  let done := ((s.updateCues vr).filter (fun u => u.2.any ks.contains)).map (fun (u : (Cue × Nat) × List Nat) => u.1.2)
  (ks.foldl (fun (s : State) k => s.markApplied vr k) s).modSched (fun x => { x with launches := x.launches.map (fun (y : Launch) =>
    if y.kind = 2 ∧ y.vrank = vr ∧ y.state = 0 ∧ done.contains y.entry = true then { y with state := 2 } else y) })

/-- State bytes at the device that asked (R406, R418, R419, R428): checked, put in place, the totals they hold taken up, the request shortened or
closed. -/
def State.onStateData (s : State) (p : Pkt) : State :=
  let vr := p.num 0 4
  let ten := p.num 4 4
  let off := p.num 8 8
  let n := p.num 24 2
  let bs := p.data.drop (26 + 8 * n)
  match s.pbk.reqs.find? (fun q => decide (q.vr = vr ∧ q.tensor = ten ∧ q.off = off)) with
  | none => s
  | some q =>
    if crc64 bs ≠ w64 (p.num 16 8) then s.reask q
    else
      let s := if bs.isEmpty then s
        else if s.classOf (s.hostOfRank vr) ten = 3 then s.pokeBoth vr ten off bs else s.pokeTensor vr ten off bs
      let s := s.tookTotals vr ((List.range n).map (fun k => p.num (26 + 8 * k) 8))
      let rest : StReq := { q with off := off + bs.length, len := q.len - bs.length }
      s.modPbk (fun x => { x with reqs := if rest.len = 0 then x.reqs.erase q else x.reqs.map (fun (y : StReq) => if y = q then rest else y) })

/-- STATE_DATA (R416). -/
def execStateData (port : Nat) (p : Pkt) (s : State) : Host.Outcome State Fault Refusal :=
  pbkPacket port p 0x02 s (fun s => s.onStateData p)

/-- A copy that comes for the first time gets a place; the tensor table's change is counted (R20; log entry 19). -/
def State.placeCopy (s : State) (vr ten : Nat) : State :=
  match s.leadCtx with
  | none => s
  | some c => match c.placeOf vr ten, c.decl ten with
    | none, some d => (s.placeTensor c.num vr d).blockGen 5
    | _, _ => s

/-- A teed or forwarded total (R405, R406, R433, R436, R456): its pieces are put together where the copy lies; the last one applies it. -/
def State.onTotal (s : State) (p : Pkt) : State :=
  let vr := p.num 0 4
  let ten := p.num 4 4
  let off := p.num 16 8
  let pos := p.num 32 8
  let bs := p.data.drop 40
  if s.sched.step < p.num 8 8 then s.hold p
  else
    let s := s.bump .pbkTeeBytes 0 bs.length
    if p.num 8 8 < s.sched.step ∨ s.settled vr ten off = true then s
    else if pos + bs.length < p.num 24 8 then
      (s.placeCopy vr ten).pokeTensor vr ten (off + pos) bs
    else s.takeTotal vr ten off pos bs (decide (s.hostOfRank vr ≠ s.link.me))

/-- TEE_TOTAL (R416). -/
def execTeeTotal (port : Nat) (p : Pkt) (s : State) : Host.Outcome State Fault Refusal :=
  pbkPacket port p 0x03 s (fun s => s.onTotal p)

/-- A line delta at the parity holder (R408-R410): into the working version, with AUX16 bit 8 into the Curtain's as well. One of a step or of a layout
of the group that this device has not come to waits; one of an earlier layout goes. -/
def State.onDelta (s : State) (p : Pkt) : State :=
  let xs := p.data.drop 16
  if s.pbk.parSince < p.num 0 8 ∨ s.sched.step < p.num 8 8 then s.hold p
  else if p.num 0 8 < s.pbk.parSince then s
  else
    match s.link.roster, s.myGroup with
    | some r, some (e, ms) =>
      match r.entry p.src with
      | none => s
      | some x =>
        let a := p.aux64.toNat
        let h := parityPlace ms.length x.ppos (a / 65536)
        if x.pgroup ≠ e.pgroup ∨ h.1 ≠ e.ppos then s
        else
          let k := h.2 * 65536 + a % 65536
          let put (m : SMap Byte) : SMap Byte := msetRun 0 m k (xorBytes (mgetRun 0 m k xs.length) xs)
          (s.ownTraffic true xs.length).modPbk (fun y => { y with parWork := put y.parWork, parCur := if 256 ≤ p.aux16 then put y.parCur else y.parCur })
    | _, _ => s

/-- PARITY_DELTA (R416). -/
def execParityDelta (port : Nat) (p : Pkt) (s : State) : Host.Outcome State Fault Refusal :=
  pbkPacket port p 0x04 s (fun s => s.onDelta p)

/-- A mismatch that scrubbing found (R421): counted, with its event, whose kind is a free value (log entry 12). -/
def State.mismatch (s : State) (tensor off : Nat) : State :=
  match s.free with
  | (k, s) => (s.bump .pbkScrubMismatch 0 1).post 0x0042 2 none [k, w64 tensor, w64 off]

/-- A parity block recomputed from its units (R420, R421): rewritten where it differs. -/
def State.scrubBlock (s : State) (b : Rebuild) : State :=
  let old := mgetRun 0 s.pbk.parCur b.seqOff b.len
  if old = b.value then s
  else
    let w := xorBytes (mgetRun 0 s.pbk.parWork b.seqOff b.len) (xorBytes old b.value)
    (s.mismatch 0 b.seqOff).modPbk (fun p =>
      { p with parCur := msetRun 0 p.parCur b.seqOff b.value, parWork := msetRun 0 p.parWork b.seqOff w })

/-- A rebuilt run or a recomputed block is whole. -/
def State.endRebuild (s : State) (b : Rebuild) : State := if b.lost = noDev then s.scrubBlock b else s.giveRebuilt b

/-- A request for a unit or block, or an answer to one, AUX16 bit 8 (R408, R411, R418-R420). Of a lost member's run each other member of the
group gives its part, for a scrub, which names no member, its own unit; poison is not sent (R232). -/
def State.onParityRead (s : State) (p : Pkt) : State :=
  if p.aux16 < 256 then
    let lost := p.num 0 2
    let a := p.num 2 8
    let len := p.num 10 8
    let give (s : State) (bs : List Byte) : State := s.resil p.src 0x105 p.aux64 (leBytes 8 (p.num 18 8) ++ leBytes 8 (crc64 bs).toNat ++ bs)
    if lost = noDev then
      (if s.sched.step < p.aux64.toNat / 2 ^ 32 then s.hold p
       else match (s.system (fun s => (s.fetchSeq a len).2), (s.fetchSeq a len).1) with
        | (s, some _) => give s (mgetRun 0 s.pbk.parSelf a len)
        | (s, none) => s)
    else
      match s.parityRoster, s.parityRoster.bind s.groupIn with
      | some r, some (e, ms) =>
        match r.entry lost with
        | some x => (match s.readContribution ms.length x.ppos e.ppos a len with
          | (some bs, s) => give s bs
          | (none, s) => s)
        | none => s
      | _, _ => s
  else
    let bs := p.data.drop 16
    let pos := p.num 0 8
    match s.pbk.rebuilds.find? (fun b => decide (b.id = p.aux64.toNat % 2 ^ 32) && b.left.contains p.src) with
    | none => s
    | some b =>
      if crc64 bs ≠ w64 (p.num 8 8) then s
      else
        let b' := { b with
          value := b.value.take pos ++ xorBytes ((b.value.drop pos).take bs.length) bs ++ b.value.drop (pos + bs.length)
          left := if b.len ≤ pos + bs.length then b.left.filter (fun d => decide (d ≠ p.src)) else b.left }
        if b'.left.isEmpty then
          (s.modPbk (fun x => { x with rebuilds := x.rebuilds.filter (fun (y : Rebuild) => decide (y.id ≠ b.id)) })).endRebuild b'
        else s.modPbk (fun x => { x with rebuilds := x.rebuilds.map (fun (y : Rebuild) => if y.id = b.id then b' else y) })

/-- PARITY_READ (R416). -/
def execParityRead (port : Nat) (p : Pkt) (s : State) : Host.Outcome State Fault Refusal :=
  pbkPacket port p 0x05 s (fun s => s.onParityRead p)

/-- A replicated tensor's contents at a replica partner (R412), of a working copy its shadow's: the contents before are kept until the Curtain. -/
def State.onReplica (s : State) (p : Pkt) : State :=
  let vr := p.num 0 4
  let ten := p.num 4 4
  let off := p.num 8 8
  let s := s.placeCopy vr ten
  let s := if s.pbk.replPrev.any (fun x => decide (x.1 = vr ∧ x.2.1 = ten)) then s
    else match s.fetchTensor vr ten 0 (s.tensorBytes ten) with
      | (some bs, s) => s.modPbk (fun x => { x with replPrev := x.replPrev ++ [(vr, ten, bs)] })
      | (none, s) => s
  s.pokeTensor vr (s.nextName ten) off (p.data.drop 16)

/-- REPL_PUT (R416). -/
def execReplPut (port : Nat) (p : Pkt) (s : State) : Host.Outcome State Fault Refusal :=
  pbkPacket port p 0x06 s (fun s => s.onReplica p)

/-- LOG_PUT (R413, R456): a record or entry appended to the input log. -/
def execLogPut (port : Nat) (p : Pkt) (s : State) : Host.Outcome State Fault Refusal :=
  pbkPacket port p 0x07 s (fun s =>
    let s := s.bump .pbkLogBytes 0 p.data.length
    if p.num 0 8 < s.sched.step then s
    else s.modPbk (fun x =>
      { x with log := x.log ++ [⟨p.aux64.toNat % 2 ^ 32, p.aux64.toNat / 2 ^ 32, p.num 0 8, p.data.drop 8⟩] }))

/-- LOG_GET (R413, R414, R430): a request for a rank's records, with AUX16 bit 8 a record that answers one, and with bit 9 as well their
end. -/
def execLogGet (port : Nat) (p : Pkt) (s : State) : Host.Outcome State Fault Refusal :=
  pbkPacket port p 0x08 s (fun s =>
    if p.aux16 < 256 then
      ((s.pbk.log.filter (fun x => decide (x.vr = p.aux64.toNat))).foldl (fun s x =>
        s.resil p.src 0x108 (w64 (x.vr + x.mb * 2 ^ 32)) (leBytes 8 x.step ++ x.data)) s).resil p.src 0x308 p.aux64 []
    else if 512 ≤ p.aux16 then s.modPbk (fun x => { x with logAsked := x.logAsked.filter (fun v => decide (p.aux64 ≠ w64 v)) })
    else s.onLogEntry (p.aux64.toNat % 2 ^ 32) (p.aux64.toNat / 2 ^ 32) (p.data.drop 8))

/-- The classes a scrub compares between devices: mirrored masters and moments, replicated tensors (R420). -/
def State.scrubKind (s : State) (vr tensor : Nat) : Nat := s.classOf (s.hostOfRank vr) tensor

/-- A scrub digest compared (R420, R421). A mirrored shard's first mismatch makes both devices recompute and exchange again (`round` 1); a
second, or three replicas that all differ, is a double fault. -/
def State.compareScrub (s : State) (dev vr tensor round : Nat) (v : W64) : State :=
  match s.pbk.scrubs.find? (fun x => decide (x.1 = vr ∧ x.2.1 = tensor)) with
  | none => s
  | some own =>
    if s.scrubKind vr tensor = 2 then
      if own.2.2.2 = v then s
      else if round = 1 then (s.mismatch tensor 0).doubleFault []
      else
        let read := s.fetchSys vr tensor 0 (s.tensorBytes tensor)
        let again := match read.1 with
          | some bs => if (s.appliedOf vr).isEmpty then crc64 bs else own.2.2.2
          | none => own.2.2.2
        let s := read.2
        let s := (s.mismatch tensor 0).modPbk (fun p =>
          { p with scrubs := p.scrubs.map (fun x => if x.1 = vr ∧ x.2.1 = tensor then (vr, tensor, own.2.2.1, again) else x) })
        s.resil dev 0x0C (w64 tensor) (leBytes 4 vr ++ leBytes 4 tensor ++ leBytes 8 own.2.2.1 ++ leBytes 8 again.toNat ++ [1])
    else if s.hostOfRank vr ≠ s.link.me then s
    else
      match s.link.roster.bind (fun r => r.entry s.link.me) with
      | none => s
      | some e =>
        let ps := [e.replA, e.replB].filter (fun d => decide (d ≠ noDev))
        let got (d : Nat) : Option W64 := (s.pbk.scrubIn.find? (fun x => decide (x.1 = d ∧ x.2.1 = vr ∧ x.2.2.1 = tensor))).map
          (fun (x : Nat × Nat × Nat × Nat × W64) => x.2.2.2.2)
        let vals := ps.filterMap got
        if vals.length < ps.length ∨ vals.all (fun w => decide (w = own.2.2.2)) = true then s
        else
          let s := s.mismatch tensor 0
          let bad := (ps.zip vals).filter (fun x => decide (x.2 ≠ own.2.2.2))
          if bad.length < ps.length then
            (bad.foldl (fun s x =>
              let n := s.tensorBytes tensor
              (List.range (cdiv n 4000)).foldl (fun s k => match s.fetchSys vr tensor (4000 * k) (Nat.min 4000 (n - 4000 * k)) with
                | (some bs, s) => s.resil x.1 0x06 (w64 tensor) (leBytes 4 vr ++ leBytes 4 tensor ++ leBytes 8 (4000 * k) ++ bs)
                | (none, s) => s) s) s)
          else match vals with
            | [a, b] => if a = b then s.askState vr tensor 0 (s.tensorBytes tensor) (ps.getD 0 0) else s.doubleFault []
            | _ => s.doubleFault []

/-- A digest at its receiver: of a later step it waits. -/
def State.onScrub (s : State) (p : Pkt) : State :=
  let vr := p.num 0 4
  let ten := p.num 4 4
  let step := p.num 8 8
  if s.sched.step < step then s.hold p
  else if step < s.sched.step then s
  else (s.modPbk (fun x => { x with scrubIn := x.scrubIn ++ [(p.src, vr, ten, step, w64 (p.num 16 8))] })).compareScrub p.src vr ten
    (p.num 24 1) (w64 (p.num 16 8))

/-- SCRUB_DIGEST (R416, R420, R421). -/
def execScrubDigest (port : Nat) (p : Pkt) (s : State) : Host.Outcome State Fault Refusal :=
  pbkPacket port p 0x0C s (fun s => s.onScrub p)

/-- A rank's object: its state tensors in ascending identity (R408, R441); whether every one of them could be read. -/
def State.saveObject (s : State) (v : Nat) : List Byte × Bool × State :=
  (s.pbk.classes.map (fun (x : Nat × Nat) => x.1)).foldl (fun (a : List Byte × Bool × State) t =>
    match a.2.2.fetchTensor v t 0 (s.tensorBytes t) with
    | (some bs, u) => (a.1 ++ bs, a.2.1, u)
    | (none, u) => (a.1 ++ List.replicate (s.tensorBytes t) 0, a.2.1 && (s.peekTensor v t 0 (s.tensorBytes t)).isNone, u)) ([], true, s)

/-- The objects of some ranks; whether all could be read. -/
def State.saveObjects (s : State) (vs : List Nat) : List (Nat × List Byte) × Bool × State :=
  vs.foldl (fun (a : List (Nat × List Byte) × Bool × State) v =>
    match a.2.2.saveObject v with
    | (bs, ok, u) => (a.1 ++ [(v, bs)], a.2.1 && ok, u)) ([], true, s)

/-- A tag's 80-byte record (R441): maxima, newest first, the exponent in force, the one chosen. -/
def State.tagRecord (s : State) (t : Nat) : List Byte :=
  let ms := ((s.sched.hist.find? (fun x => decide (x.tag = t))).map (fun (x : TagHist) => x.maxima)).getD []
  (List.range 16).flatMap (fun j => leBytes 4 (ms.getD j 0).toNat)
    ++ leBytes 8 (s.fld .tlyScale t 7 0) ++ leBytes 8 (mget (s.fld .tlyScale t 7 0) s.sched.nextExp t)

/-- A save's manifest (R441; the order of the header's items is log entry 16): header, digest of everything else, entries, tag records. -/
def State.manifest (s : State) (v : SaveSt) (jobId : W64) : List Byte :=
  let size := s.objectBytes
  let head := wordsLe [jobId, w64 v.step, w64 v.vranks, w64 v.version, w64 (1 + if v.eval then 2 else 0), w64 (v.vranks * size), 0, 0]
  let ent (k : Nat) : List Byte := leBytes 8 k ++ leBytes 8 (8 * 2 ^ 20 + k * size) ++ leBytes 8 ((s.pbk.classes.map (fun (x : Nat × Nat) =>
    s.tensorBytes x.1)).sum) ++ leBytes 8 0 ++ (((v.data.find? (fun x => decide (x.1 = k))).map (fun (x : Nat × List Byte) => x.2)).getD [])
  let rest := List.replicate 32 0 ++ (List.range v.vranks).flatMap ent ++ v.tags
  head ++ sha256 (head ++ rest) ++ rest

/-- A complete save recorded on a device (R443, R444, R451, R473). -/
def State.saveOver (s : State) (v : SaveSt) : State :=
  let s := (s.setFld .pbkSaveState 0 50 50 0).modPbk (fun p => { p with save := none })
  let s := if v.eval then s.setFld .pbkSaveState 0 51 51 1
    else (((s.setFld .pbkSaveState 0 47 0 v.step).setFld .pbkSaveState 0 48 48 v.slot).setFld .pbkSaveState 0 49 49 1).modPbk
      (fun p => { p with savedIn := some v.region })
  (s.post 0x0043 0 none [w64 v.slot, w64 v.step]).endCmds (fun f => decide (f.opcode = 0x32) && !f.curtain) 0

/-- At the coordinator: with every object written the manifest is (R443). -/
def State.trySave (s : State) : State :=
  match s.pbk.save, s.leadCtx with
  | some v, some c =>
    let g := v.region
    if !(List.range v.vranks).all (fun k => v.data.any (fun x => decide (x.1 = k))) || !v.done.isEmpty then s
    else
      let at' := g.base + v.slot * s.slotBytes v.vranks
      let bs := s.manifest v c.jobId
      (s.modPbk (fun p => { p with save := some { v with done := [s.link.me] } })).modPlat (fun p =>
        { p with xfers := p.xfers ++ [Xfer.save g.ep at' g.key v.vranks bs []] })
  | _, _ => s

/-- Digests of written objects at the coordinator. -/
def State.takeDone (s : State) (l : List (Nat × List Byte)) : State :=
  (s.modPbk (fun p => { p with save := p.save.map (fun (v : SaveSt) =>
    { v with data := v.data.filter (fun x => !l.any (fun y => decide (y.1 = x.1))) ++ l }) })).trySave

/-- Digests as they travel: rank and SHA-256. -/
def digestsFrom : Nat → List Byte → List (Nat × List Byte)
  | 0, _ => []
  | k + 1, bs => if bs.length < 36 then [] else (ofLe (bs.take 4), (bs.drop 4).take 32) :: digestsFrom k (bs.drop 36)

/-- SAVE_DONE (R443): a device's objects are written, or with AUX16 bit 8 the save is complete. AUX64 is the saved step. -/
def execSaveDone (port : Nat) (p : Pkt) (s : State) : Host.Outcome State Fault Refusal :=
  pbkPacket port p 0x0D s (fun s =>
    match s.pbk.save with
    | none => s
    | some v =>
      if v.step ≠ p.aux64.toNat then s
      else if 256 ≤ p.aux16 then s.saveOver v
      else s.takeDone (digestsFrom 112 p.data))

/-- SAVE_STREAM_DONE (R443): every object of this device is written and acknowledged; at the coordinator, later, the manifest is. -/
def execSaveStreamDone (s : State) : Host.Outcome State Fault Refusal :=
  match s.pbk.save, s.link.roster with
  | some v, some r =>
    if s.plat.xfers.any (fun x => decide (x.kind = 2)) then .next s
    else if v.own then
      if v.done.isEmpty then .next s
      else .next ((r.nums.filter (fun d => decide (d ≠ s.link.me))).foldl (fun s d => s.resil d 0x10D (w64 v.step) []) (s.saveOver v))
    else
      let mine := v.data.filter (fun x => s.hosted.contains x.1)
      let s := s.modPbk (fun p => { p with save := some { v with own := true } })
      if s.coord = some s.link.me then .next s.trySave
      else match s.coord with
        | some d => .next ((List.range (cdiv mine.length 112)).foldl (fun s k =>
            s.resil d 0x0D (w64 v.step) (((mine.drop (112 * k)).take 112).flatMap (fun x => leBytes 4 x.1 ++ x.2))) s)
        | none => .next s
  | _, _ => .next s

/-- A refused admission (R263): its command ends with BAD_PARAM, and nothing of it stays. -/
def State.admitRefused (s : State) : State :=
  if s.pbk.admitting.isNone || s.link.roster.isSome then s
  else (s.modPbk (fun p => { p with admitting := none })).endCmds (fun f => decide (f.opcode = 0x22)) 0x11

/-- The refusal goes out on the port the request came in on (log entry 16). -/
def State.sendRefusal (s : State) (port : Nat) (ident : W64) : State :=
  if port < 24 then s.enqueue port ⟨noDev, s.link.me, 3, 0, 0x07, 0, 0, 0, 0x10E, ident, [0]⟩ none else s

/-- The coordinator turns down a request that would take the job past V devices (R263): through the neighbour that brought it. -/
def State.refuseAdmit (s : State) (q : W64 × List Byte) : State :=
  let dev := ofLe ((q.2.drop 244).take 2)
  let port := ofLe ((q.2.drop 246).take 1)
  if dev = s.link.me then s.sendRefusal port q.1 else s.resil dev 0x10E q.1 [BitVec.ofNat 8 port]

/-- ADMIT_REQ (R263, R417, R438): from a device that is in no Roster it comes through a neighbour, which knows no number to answer (destination
0xFFFF, outside the end-to-end numbers); it goes on to the coordinator and waits for the next Curtain's Call; the neighbour keeps it for a
next coordinator until the device is in the Roster or turned down. -/
def execAdmitReq (port : Nat) (p : Pkt) (ident : W64) (s : State) : Host.Outcome State Fault Refusal :=
  if p.aux16 % 256 ≠ 0x0E then .next s
  else
    onPort port s (fun s =>
      let take (s : State) (keep : Bool) (data : List Byte) : State :=
        match s.coord with
        | none => s
        | some c =>
          let s := if keep || decide (c = s.link.me) then
              s.modPbk (fun x => { x with admitReqs := x.admitReqs.filter (fun y => decide (y.1 ≠ ident)) ++ [(ident, data)] })
            else s
          if c = s.link.me then s else s.resil c 0x0E ident data
      if p.dst = noDev then
        if !s.portUp port || !p.wire || decide (p.ty ≠ 0x07) then s
        else
          let s := (s.bump .lnkRxBytes port p.data.length).freeCredit port p.vc p.flits
          if p.vc ≠ 3 then s.bump .lnkDiscard 0 1
          else if 256 ≤ p.aux16 then (if ident = s.rd .idnDevid then s.admitRefused else s)
          else take s true (p.data ++ leBytes 2 s.link.me ++ leBytes 1 port)
      else s.receive port p 0x07 (fun s => if 256 ≤ p.aux16 then
          (s.modPbk (fun x => { x with admitReqs := x.admitReqs.filter (fun y => decide (y.1 ≠ ident)) })).sendRefusal (p.num 0 1) ident
        else take s false p.data))

/-- A packet that waited. -/
def State.onHeld (s : State) (p : Pkt) : State :=
  let k := p.aux16 % 256
  if k = 0x03 then s.onTotal p
  else if k = 0x04 then s.onDelta p
  else if k = 0x05 then s.onParityRead p
  else if k = 0x0C then s.onScrub p
  else s

/-- Packets that waited are looked at again. -/
def State.release (s : State) : State :=
  let l := s.pbk.held
  l.foldl (fun s p => s.onHeld p) (s.modPbk (fun x => { x with held := [] }))

end Sys2Proof.Machine
end

