-- ==== Sys2Proof/Machine/Curtain.lean ====
section
/-! DEFINITION. Arriving at a Curtain and the Curtain exchange, the Call that follows it, the Tally's combination (R181, R308, R321,
R366-R380, R402, R407-R412, R434-R439). -/

namespace Sys2Proof.Machine

/-- Totals that a rank's sheet brings in a step (R274, R381): the DST words of its reduce-scatters, all or those teed to a mirror (R403). -/
def State.dueTotals (s : State) (v : Nat) (teed : Bool) : List Nat :=
  match s.leadCtx.bind (fun c => c.shape), s.leadCtx.bind (fun c => c.score) with
  | some h, some sc =>
    (match s.sched.sheets.find? (fun x => decide (x.1 = h.pOf v)) with
    | none => []
    | some sh => (sh.2.map cueOf).filterMap (fun q =>
        if q.op = 0 ∧ q.kind = 4 then
          match sc.colls[q.kernel]? with
          | some ws => if bitsOf (ws.getD 0 0) 3 0 = 0 ∧ (teed = false ∨ s.link.roster.any (fun r =>
                s.teed r v (tenOf (ws.getD 2 0)) ((ws.getD 0 0).getLsbD 12)) = true) then some (ws.getD 2 0).toNat else none
          | none => none
        else none))
  | _, _ => []

/-- The step's update is applied to every shard this device mirrors (R407). -/
def State.mirrorDone (s : State) (r : Roster) : Bool :=
  (r.devs.filter (fun e => decide (e.mirror = s.link.me))).all (fun e => (r.hostedBy e.number).all (fun v =>
    (s.dueTotals v true).all (fun t => s.applied v t)))

/-- This device may arrive at the Curtain (R308, R407, R409, R412): its step's launches are complete, what it mirrors is up to date, what it
sent to protect its state is acknowledged, and no restore or earlier part of a Recast is under way. -/
def State.mayArrive (s : State) (r : Roster) : Bool :=
  s.leadCtx.isSome && s.sched.begun && decide (s.link.curtain = 0) && s.link.call.isNone && !s.leadLeft && s.pbk.restoring.isNone
    && s.mirrorDone r && s.protectionAcked && (match s.pbk.recast with
      | some x => decide (x.phase = 4)
      | none => true)

/-- Work on copies that has ended: handovers here whose load is complete and up to date (R436), refill items with no request open
(R434). -/
def State.markReady (s : State) : State :=
  let busy (v : Nat) : Bool := s.pbk.reqs.any (fun q => decide (q.vr = v)) || s.updating v
    || s.pbk.rebuilds.any (fun b => decide (b.vr = v ∧ b.forDev = s.link.me ∧ b.lost ≠ noDev))
  let open' (i : Refill) : Bool := decide (i.kind ≠ 3) && (s.pbk.reqs.any (fun q => decide (q.vr = i.vr ∧ q.tensor % shadowBit = i.tensor))
    || s.pbk.rebuilds.any (fun b => decide (b.vr = i.vr ∧ b.tensor = i.tensor ∧ b.forDev = s.link.me ∧ b.lost ≠ noDev)))
  s.modPbk (fun p =>
    { p with
      handovers := p.handovers.map (fun (h : Handover) =>
        if h.tgt = s.link.me ∧ busy h.vr = false ∧ (s.dueTotals h.vr false).all (fun t => s.applied h.vr t) = true then { h with ready := true }
        else h)
      refill := p.refill.filter open' })

/-- A save is due (R440): asked for by SNAPSHOT_SAVE, or the period has passed since the last one began. -/
def State.saveDue (s : State) : Bool :=
  s.pbk.save.isNone && (s.pbk.saveAsked.isSome || (decide (s.fld .pbkSaveCfg 0 29 29 = 1) && s.pbk.region.isSome
    && decide (s.fld .pbkSaveCfg 0 11 0 * 10 ^ 9 ≤ (s.now - s.pbk.saveBegan).toNat)))

/-- This device's u (R321): the Stage-time in which its lead's instances issued, over the Stages available and the ranks hosted. -/
def State.ownU (s : State) : Nat :=
  if s.hosted.isEmpty then 0 else s.sched.issueNs / (Nat.max 1 s.availCount * s.hosted.length)

/-- This device's part of the CURTAIN message (R378). -/
def State.ownMsg (s : State) (r : Roster) : CurtainMsg :=
  let h := s.hosted.length
  let st := ((r.entry s.link.me).map (fun (e : DevEntry) => e.state)).getD 0
  let ready := (s.pbk.handovers.filter (fun x => decide (x.tgt = s.link.me) && x.ready)).map (fun (x : Handover) => x.vr)
  let leave := s.pbk.releasing && (decide (st ≠ 2) || decide (h = 0))
  { uh := [(s.link.me, s.ownU, h)], amax := s.ownAmax
    fReady := decide (st = 1) && !ready.isEmpty, fRelease := leave, fStrag := decide (st ≠ 1) && !ready.isEmpty
    fLinks := s.link.linkChanged || !s.pbk.admitReqs.isEmpty, fSave := s.saveDue, fEval := s.pbk.save.isNone && decide (s.pbk.saveAsked = some true)
    notes := [⟨s.link.me, if s.link.linkChanged then some s.ownLinks else none, s.pbk.releasing, !s.pbk.refill.isEmpty, ready⟩]
    version := r.version }

/-- Two messages combined (R379). -/
def joinMsg (a b : CurtainMsg) : CurtainMsg :=
  { uh := b.uh.foldl (fun m (x : Nat × Nat × Nat) => aput x.1 x.2 m) a.uh
    amax := b.amax.foldl (fun m (x : Nat × W32) => aput x.1 (match m.find? (fun y => decide (y.1 = x.1)) with
      | some y => f32max y.2 x.2
      | none => x.2) m) a.amax
    fReady := a.fReady || b.fReady, fRelease := a.fRelease || b.fRelease, fStrag := a.fStrag || b.fStrag
    fLinks := a.fLinks || b.fLinks, fSave := a.fSave || b.fSave, fEval := a.fEval || b.fEval
    notes := a.notes ++ b.notes, version := a.version }

/-- A part taken into this device's message. -/
def State.takeMsg (s : State) (dev : Nat) (m : CurtainMsg) : State :=
  s.modLink (fun k =>
    { k with
      curtMsg := some (match k.curtMsg with
        | some a => joinMsg a m
        | none => m)
      curtFrom := k.curtFrom ++ [dev] })

/-- Devices that will have copies to fetch when a Call takes effect (R433, R434): new partners, partners of ranks that move, members of a
group that changes. -/
def willRefill (r : Roster) (ds : List DevEntry) (moves : List (Nat × Nat)) (e : DevEntry) : Bool :=
  let had (x : Nat) (f : DevEntry → Nat) : Nat := ((r.entry x).map f).getD noDev
  let grp (l : List DevEntry) : List Nat := (groupOf l e.pgroup).map (fun (x : DevEntry) => x.number)
  ds.any (fun x =>
    let onto := moves.any (fun m => decide (m.2 = x.number))
    (decide (x.mirror = e.number) && (onto || decide (had x.number (fun y => y.mirror) ≠ e.number)))
      || (decide (x.replA = e.number) && (onto || decide (had x.number (fun y => y.replA) ≠ e.number)))
      || (decide (x.replB = e.number) && (onto || decide (had x.number (fun y => y.replB) ≠ e.number))))
    || decide (grp ds ≠ grp r.devs)

/-- The entries an admission adds (R438): lowest free number, STATE 1, partners; and the handovers planned onto the device. -/
def admitOne (r : Roster) (ds : List DevEntry) (plans : List (Nat × Nat)) (q : W64 × List Byte) : List DevEntry × List (Nat × Nat) :=
  if ds.any (fun e => decide (e.ident = q.1)) ∨ r.vranks ≤ ds.length then (ds, plans)
  else
    let part (k : Nat) : List Byte := (q.2.drop (10 * k)).take 10
    let links := (List.range 24).map (fun k =>
      match ds.find? (fun e => decide (e.ident = w64 (ofLe ((part k).take 8)) ∧ e.ident ≠ 0)) with
      | some e => BitVec.ofNat 32 (e.number + ofLe (((part k).drop 8).take 1) % 32 * 2 ^ 16 + ofLe ((part k).drop 9) % 2 * 2 ^ 21)
      | none => 0xFFFF)
    let want := ofLe ((q.2.drop 240).take 4)
    let ds' := admitEntry ds q.1 links
    let n := lowestFree (ds.map (fun (e : DevEntry) => e.number))
    let k := if want = 0 then r.vranks / ds'.length else want
    (ds', plans ++ planAdmit { r with devs := ds, vmap := plans.foldl (fun m (x : Nat × Nat) => setAt m x.1 x.2) r.vmap } n k [])

/-- The coordinator's Call after an exchange with a flag of R378 set (R380, R402, R434, R436-R439): link maps, refill flags, handovers that are
ready, devices that leave or join. A request for admission waits until a Call with it has taken effect (R18); one that would take the job
past V devices is turned down (R263). -/
def State.curtainCall (s : State) (m : CurtainMsg) : State :=
  match s.link.roster with
  | none => s
  | some r =>
    let note (n : Nat) : Option DevNote := m.notes.find? (fun x => decide (x.dev = n))
    let ds := r.devs.map (fun (e : DevEntry) => match note e.number with
      | some x => { e with links := (x.links).getD e.links, refill := x.refill }
      | none => e)
    let ds := mergeGroups ds
    let ready := (s.pbk.handovers.filter (fun h => m.notes.any (fun x => decide (x.dev = h.tgt) && x.ready.contains h.vr))).map
      (fun (h : Handover) => (h.vr, h.tgt))
    let moves := limitMoves r ready []
    let left := s.pbk.handovers.filter (fun h => !moves.any (fun x => decide (x.1 = h.vr)))
    -- devices that have asked to leave
    let leaving := (ds.filter (fun e => decide (e.state ≠ 2) && ((note e.number).map (fun (x : DevNote) => x.releasing)).getD false)).map
      (fun (e : DevEntry) => e.number)
    let ds := ds.map (fun (e : DevEntry) => if leaving.contains e.number then { e with state := 2 } else e)
    let cands := (ds.filter (fun e => decide (e.state = 0))).map (fun (e : DevEntry) => e.number)
    let away := assignRanks r cands ((leaving.flatMap (fun d => r.hostedBy d)).filter (fun v => !moves.any (fun x => decide (x.1 = v))
      && !left.any (fun h => decide (h.vr = v)))) []
    let ds := leaving.foldl (fun l d => (l.map (fun (e : DevEntry) => e.number)).foldl (fun l k => fixPartners d l k) l) ds
    -- Understudies all of whose ranks have come
    let ds := ds.map (fun (e : DevEntry) =>
      if e.state = 1 ∧ (moves.any (fun x => decide (x.2 = e.number))) = true ∧ (left.any (fun h => decide (h.tgt = e.number))) = false
        then { e with state := 0 } else e)
    -- devices that have nothing left to give
    let hosts := moves.foldl (fun vm (x : Nat × Nat) => setAt vm x.1 x.2) r.vmap
    let gone := if m.notes.any (fun x => x.refill) then [] else
      (ds.filter (fun e => decide (e.state = 2) && !hosts.contains e.number && !leaving.contains e.number)).map (fun (e : DevEntry) => e.number)
    let ds := gone.foldl (fun l d => dropDev l d) ds
    let ds := ds.map (fun (e : DevEntry) => { e with links := cutLinks gone e.links })
    -- admissions
    let adm := s.pbk.admitReqs.foldl (fun (a : List DevEntry × List (Nat × Nat)) q => admitOne r a.1 a.2 q) (ds, [])
    let turned := s.pbk.admitReqs.filter (fun q => !adm.1.any (fun e => decide (e.ident = q.1)))
    let ds := adm.1.map (fun (e : DevEntry) => if willRefill r adm.1 moves e then { e with refill := true } else e)
    let s := turned.foldl State.refuseAdmit (s.modPbk (fun p => { p with admitReqs := p.admitReqs.filter (fun q => !turned.contains q) }))
    let s := s.modLink (fun k => { k with curtain := 3 })
    s.startCall r moves (changedDevs r.devs ds) gone (away ++ adm.2)

/-- A Call follows the exchange (R380, R402): a flag of R378 is set, or a parity group has become too small; it has not been made yet. -/
def State.needsCall (s : State) (r : Roster) (m : CurtainMsg) : Bool :=
  !s.link.callPast && (m.fReady || m.fRelease || m.fStrag || m.fLinks || decide (mergeGroups r.devs ≠ r.devs))

/-- The record is complete here (R379, R380): it goes down the tree; the coordinator starts a Call where a flag is set. -/
def State.exchangeDone (s : State) (m : CurtainMsg) : State :=
  match s.link.roster with
  | none => s
  | some r =>
    let s := (r.kids s.link.me).foldl (fun s d => s.inject d 4 0x13 0 1 (w64 s.sched.step) [] (some (.curtainDown m)) .other) s
    let s := s.modLink (fun k => { k with curtain := 2, record := some m })
    if s.needsCall r m && decide (s.coord = some s.link.me) then s.curtainCall m else s

/-- With its own part and every child's the device sends its subtree's message up; the root completes the record (R379). -/
def State.tryExchange (s : State) : State :=
  match s.link.roster, s.link.curtMsg with
  | some r, some m =>
    if !(s.link.me :: r.kids s.link.me).all (fun d => s.link.curtFrom.contains d) then s
    else
      let s := s.modLink (fun k => { k with curtMsg := none, curtFrom := [] })
      match r.parent s.link.me with
      | some d => s.inject d 4 0x13 0 0 (w64 s.sched.step) [] (some (.curtainUp m)) .other
      | none => s.exchangeDone m
  | _, _ => s

/-- CURTAIN_ARRIVE (R308, R378): the device's part of the exchange. -/
def execCurtainArrive (s : State) : Host.Outcome State Fault Refusal :=
  match s.link.roster with
  | none => .next s
  | some r =>
    if s.mayArrive r then
      let s := s.markReady
      .next (((s.modLink (fun k => { k with curtain := 1, linkSent := k.linkChanged, linkChanged := false })).takeMsg s.link.me
        (s.ownMsg r)).tryExchange).endRecast
    else .next s

/-- CURTAIN_EXCHANGE_UP (R379, R380): a child's message. One under an older Roster version is stale; one under a newer version comes from a device
whose Curtain has opened already and waits until this one's has. -/
def execCurtainExchangeUp (port : Nat) (p : Pkt) (m : CurtainMsg) (s : State) : Host.Outcome State Fault Refusal :=
  if p.aux16 ≠ 0 then .next s
  else
    onPort port s (fun s => s.receive port p 0x13 (fun s =>
      match s.link.roster with
      | none => s
      | some r =>
        if r.version < m.version then
          s.modLink (fun k => { k with curtHeld := k.curtHeld.filter (fun x => decide (x.1 ≠ p.src)) ++ [(p.src, m)] })
        else if !(r.kids s.link.me).contains p.src || s.link.curtFrom.contains p.src || decide (m.version ≠ r.version) then s
        else (s.takeMsg p.src m).tryExchange))

/-- CURTAIN_EXCHANGE_DOWN (R379, R47): the completed record from the parent. -/
def execCurtainExchangeDown (port : Nat) (p : Pkt) (m : CurtainMsg) (s : State) : Host.Outcome State Fault Refusal :=
  if p.aux16 ≠ 1 then .next s
  else
    onPort port s (fun s => s.receive port p 0x13 (fun s =>
      match s.link.roster with
      | none => s
      | some r => if r.parent s.link.me = some p.src ∧ s.link.curtain = 1 ∧ m.version = r.version then s.exchangeDone m else s))

/-- TALLY_COMBINE_UP (R181): a part of the combination for the step that AUX64 names, kept until it can be used: its sender's Curtain may have opened
first. -/
def execTallyCombineUp (port : Nat) (p : Pkt) (t : Tally) (s : State) : Host.Outcome State Fault Refusal :=
  if p.aux16 ≠ 2 then .next s
  else
    onPort port s (fun s => s.receive port p 0x13 (fun s =>
      match s.link.roster with
      | none => s
      | some r =>
        let step := p.aux64.toNat
        let old := if s.sched.begun then s.sched.ring.step else 0
        if (r.entry s.link.me).isNone || decide (step < old) then s
        else (s.modSched (fun q => { q with jobTally := q.jobTally.filter (fun x => decide (x.1 ≠ 65536 * step + p.src)) ++ [(65536 * step + p.src, t)] })).tryTally))

/-- TALLY_COMBINE_DOWN (R180, R181): the job-wide result from the parent. -/
def execTallyCombineDown (port : Nat) (p : Pkt) (t : Tally) (s : State) : Host.Outcome State Fault Refusal :=
  if p.aux16 ≠ 3 then .next s
  else
    onPort port s (fun s => s.receive port p 0x13 (fun s =>
      match s.link.roster with
      | none => s
      | some r =>
        if r.parent s.link.me = some p.src ∧ p.aux64.toNat = s.sched.ring.step ∧ s.sched.tallySent = true then s.tallyDone t else s))

end Sys2Proof.Machine
end

