-- ==== Sys2Proof/Machine/CurtainOpen.lean ====
section
/-! DEFINITION. The Curtain opens: groups, shares, stragglers, staged sheets and configuration, the new step's launches; copies, Tally,
parity, memory, lanes, tests and saves that turn with it (R47-R48, R180, R215, R222, R265-R269, R298-R323, R361-R362, R380, R410-R442,
R484, R513, R551, R569). -/

namespace Sys2Proof.Machine

/-- Pipeline stages this device hosts, ascending. -/
def State.stagesHosted (s : State) (h : Shape) : List Nat := (List.range h.pp).filter (fun p => s.hosted.any (fun v => decide (h.pOf v = p)))

/-- The largest number of micro-batches whose activations fit the lead's spare pages (R268); none where there are no activations. -/
def State.actFit (s : State) : Option Nat :=
  match s.leadCtx with
  | none => none
  | some c =>
    let per := (((c.score.map (fun (x : Score) => x.tensors)).getD []).filter (fun d => d.act && d.gathered.isNone)).map (fun d =>
      cdiv (c.instBytes d) pageBytes)
    if per.sum = 0 then none else some ((s.sparePages c).length / per.sum)

/-- The group size of a hosted (p, q) (R268), from the measurements of the ended step: a layer and direction whose gather fetched nothing
over the links imposes no condition; the compute time of an instance is that of all its kernels on the layer. -/
def State.newGroup (s : State) (h : Shape) (p q : Nat) : Nat :=
  let n := ((h.instances s.hosted p).filter (fun x => decide (h.qOf x.1 = q))).length
  let gmax := Nat.max 1 (Nat.min (Nat.min n h.groupMax) (s.actFit.getD n))
  let here := s.sched.meas.filter (fun m => decide (m.p = p ∧ m.q = q))
  let comp := here.filter (fun m => !m.gather)
  let ms := (here.filter (fun m => m.gather && m.fetched)).map (fun g =>
    let same (m : Meas) : Bool := decide (m.layer = g.layer) && (m.backward == g.backward)
    let tg := ((here.filter (fun m => m.gather && same m)).map (fun (m : Meas) => m.ns)).foldl Nat.max 0
    let cs := comp.filter same
    (tg * Nat.max 1 ((cs.flatMap (fun (m : Meas) => m.insts)).eraseDups.length), (cs.map (fun (m : Meas) => m.ns)).sum))
  groupSize n gmax (!comp.isEmpty) ms

/-- G set for each hosted (p, q) (R268, R309). -/
def State.setGroups (s : State) (h : Shape) : State :=
  let gs := (s.stagesHosted h).flatMap (fun p => (List.range h.sq).map (fun q => (p * h.sq + q, s.newGroup h p q)))
  s.modSched (fun x => { x with groups := gs })

/-- The largest instance count among a sheet's kernels (R320). -/
def State.leastShare (s : State) (sc : Score) (p : Nat) : Nat :=
  match s.sched.sheets.find? (fun x => decide (x.1 = p)) with
  | none => 0
  | some sh => ((sh.2.map cueOf).filterMap (fun q => if q.op = 0 ∧ q.kind ≠ 4 then (sc.kernels[q.kernel]?).map (fun (k : KernelDecl) => k.instances)
      else none)).foldl Nat.max 0

/-- Shares for sheets set over the available Stages (R320): at first, and when the sheets hosted change, equal ones; then at most
REBLOCK_MAX Stages move, Stages in no share counting as a share that wants none. -/
def State.setShares (s : State) (h : Shape) (sc : Score) : State :=
  let ps := s.stagesHosted h
  let a := s.availCount
  let mins := ps.map (fun p => (p, s.leastShare sc p))
  if a < (mins.map (fun (x : Nat × Nat) => x.2)).sum then (s.modSched (fun x => { x with shares := [] })).post 0x0017 1 none []
  else
    let avail := (List.range 144).filter s.stageAvail
    let busy := ps.map (fun p => (p, mget 0 s.sched.busyNs p))
    let old := s.sched.shares
    let same := decide (old.map (fun (x : Nat × List Nat) => x.1) = ps)
    let had := old.map (fun (x : Nat × List Nat) => (x.1, x.2.length))
    let size := if !same || s.sched.busyNs.isEmpty then
        (if same && decide ((had.map (fun (x : Nat × Nat) => x.2)).sum = a) then had else equalShares a mins)
      else
        let spare := a - (had.map (fun (x : Nat × Nat) => x.2)).sum
        (moveShares (targetShares a mins busy) (s.fld .smgCfg 0 31 24) (had ++ [(65536, spare)])).filter (fun x => decide (x.1 ≠ 65536))
    s.modSched (fun x => { x with shares := placeShares avail old size })

/-- Bytes of the gathered copies of a layer. -/
def Ctx.copyBytes (c : Ctx) (l : Nat) : Nat :=
  ((((c.score.map (fun (x : Score) => x.tensors)).getD []).filter (fun d => decide (d.gathered = some l))).map (fun d =>
    cdiv (c.instBytes d) 256 * 256)).sum

/-- The lead's free scratch holds the copies of any k layers that follow one another in an order (R267). -/
def Ctx.copiesFit (c : Ctx) (order : List Nat) (k : Nat) : Bool :=
  let free := ((Ctx.scratchSpare { c with tensors := c.tensors.filter (fun t => match c.decl t.id with
    | some d => d.gathered.isNone
    | none => true) }).map (fun (r : Nat × Nat) => r.2)).sum
  (List.range order.length).all (fun j => decide ((((order.drop j).take k).map c.copyBytes).sum ≤ free))

/-- The look-ahead of the step (R267): the job shape's, or the largest below it whose A + 1 copies the lead's Wings space holds, never below 1; a
reduced one is told of where it is new. -/
def State.setAhead (s : State) (h : Shape) : State :=
  match s.leadCtx with
  | none => s
  | some c =>
    let fits (a : Nat) : Bool := (s.stagesHosted h).all (fun p => c.copiesFit (s.layerOrder p false) (a + 1) && c.copiesFit (s.layerOrder p true) (a + 1))
    let a := (((List.range h.ahead).map (fun k => h.ahead - k)).find? fits).getD 1
    let new := if a = h.ahead then 0 else a
    let t := s.modSched (fun q => { q with ahead := new })
    if new ≠ 0 ∧ new ≠ s.sched.ahead then t.post 0x0014 1 none [w64 a] else t

/-- Straggler figures and plan from the exchanged values (R321-R323, R330). A device that hosts no virtual rank has no u and takes no move. -/
def State.setStragglers (s : State) (m : CurtainMsg) : State :=
  match s.link.roster with
  | none => s
  | some r =>
    let l := m.uh.filter (fun x => decide (x.2.2 ≠ 0))
    let med := medianOf (l.map (fun (x : Nat × Nat × Nat) => x.2.1))
    let runs := l.map (fun x =>
      let was := ((s.sched.uh.find? (fun y => decide (y.1 = x.1))).map (fun (y : Nat × Nat × Nat) => y.2.2)).getD 0
      (x.1, x.2.1, if med * (100 + s.fld .smgCfg 0 7 0) < x.2.1 * 100 then was + 1 else 0))
    let strag (d : Nat) : Bool := runs.any (fun x => decide (x.1 = d ∧ s.fld .smgCfg 0 11 8 ≤ x.2.2 ∧ 0 < x.2.2))
    let plan := stragPlan (s.fld .smgCfg 0 18 12) l strag l.length [] []
    let moves := (plan.filterMap (fun x => ((r.hostedBy x.1).getLast?).map (fun v => (v, x.1, x.2)))).filter (fun x =>
      !s.pbk.handovers.any (fun h => decide (h.vr = x.1)))
    let me := s.link.me
    let mine := runs.find? (fun x => decide (x.1 = me))
    let u := (mine.map (fun (x : Nat × Nat × Nat) => x.2.1)).getD 0
    let k := (mine.map (fun (x : Nat × Nat × Nat) => x.2.2)).getD 0
    let still := s.sched.moves.filter (fun x => s.pbk.handovers.any (fun h => decide (h.vr = x.1 ∧ h.src = x.2.1 ∧ h.tgt = x.2.2)))
    let s := (s.modSched (fun x => { x with uh := runs, moves := still ++ moves })).modPbk (fun p =>
      { p with handovers := p.handovers ++ moves.map (fun (x : Nat × Nat × Nat) => ⟨x.1, x.2.1, x.2.2, false⟩) })
    let s := (s.setFld .smgStrag 0 31 0 (Nat.min u 0xFFFFFFFF)).setFld .smgStrag 0 63 32 (Nat.min med 0xFFFFFFFF)
    let flag (b : Bool) : Nat := if b then 1 else 0
    let s := (s.setFld .smgStragState 0 3 0 (Nat.min k 15)).setFld .smgStragState 0 4 4 (flag (strag me))
    (moves.filter (fun x => decide (x.2.2 = me))).foldl (fun s x => match s.leadCtx with
      | some c => (s.placeRank x.1 c.rankTensors).askRank x.1 x.2.1 (s.pbk.classes.map (fun (y : Nat × Nat) => y.1))
      | none => s) s

/-- Sheets staged for the step that opens take effect, and their commands end (R301). -/
def State.commitSheets (s : State) : State :=
  let now := s.sched.staged.filter (fun x => decide (x.target ≤ s.sched.step))
  let s := s.modSched (fun q =>
    { q with
      sheets := q.sheets.map (fun (x : Nat × Sheet) => match now.find? (fun y => decide (y.p = x.1)) with
        | some y => (x.1, y.sheet)
        | none => x)
      staged := q.staged.filter (fun x => !decide (x.target ≤ q.step)) })
  s.endCmds (fun f => decide (f.opcode = 0x15) && now.any (fun y => decide (y.p = f.pend))) 0

/-- The step's launches (R304); what the last step's inputs, payloads and log requests left goes. -/
def State.expandStep (s : State) (c : Ctx) (h : Shape) : State :=
  let s := s.modSched (fun q =>
    { q with
      launches := q.launches.filter (fun x => decide (x.ctx ≠ c.num))
      wants := [], pins := q.pins.filter (fun p => decide (p.ctx ≠ c.num)) })
  let s := s.modLink (fun k =>
    { k with
      pipeIn := k.pipeIn.filter (fun m => decide (m.ctx ≠ c.num))
      pipeTaken := k.pipeTaken.filter (fun m => decide (m.ctx ≠ c.num))
      pipeOut := k.pipeOut.filter (fun m => decide (m.1 ≠ c.num))
      rowsTaken := []
      ended := k.ended.filter (fun r => match r with
        | .engine _ => false
        | _ => true)
      rows := k.rows.filter (fun r => decide (r.ctx ≠ c.num)) })
  let s := s.modPbk (fun p => { p with inputs := [], supplied := [], logAsked := [] })
  (s.stagesHosted h).foldl (fun s p =>
    match s.sched.sheets.find? (fun x => decide (x.1 = p)) with
    | none => s
    | some sh =>
      let cs := sh.2.map cueOf
      let g (q : Nat) : Nat := Nat.max 1 (mget 1 s.sched.groups (p * h.sq + q))
      let seq := expandSheet cs ⟨p * h.sq, 0, none, []⟩ (h.groups s.hosted p g) ((h.instances s.hosted p).map instItem)
      let ls := mkLaunches c.num p s.sched.nextLaunch cs false seq
      s.modSched (fun q => { q with launches := q.launches ++ ls, nextLaunch := q.nextLaunch + seq.length })) s

/-- The steps of R309 for the step now in progress. -/
def State.manage (s : State) (m : Option CurtainMsg) : State :=
  match s.leadCtx with
  | none => s
  | some c =>
    match c.shape, c.score with
    | some h, some sc =>
      let s := ((s.setGroups h).setAhead h).setShares h sc
      let s := match m with
        | some m => s.setStragglers m
        | none => s
      let s := s.commitSheets.commitStaged
      (s.expandStep c h).blockGen 1
    | _, _ => s

/-- Shadows become current at the Curtain (R265, R269, R277); the place that comes free is made equal to the current copy (log entry 20). -/
def State.turnCopies (s : State) : State :=
  match s.leadCtx with
  | none => s
  | some c =>
    let s := s.modCtx c.num (fun y => { y with tensors := y.tensors.map (fun (t : TensorPlace) =>
      if t.shadow.isEmpty then t else { t with ranges := t.shadow, shadow := t.ranges }) })
    (c.tensors.filter (fun t => !t.shadow.isEmpty)).foldl (fun s t =>
      let n := s.tensorBytes t.id
      match s.leadCtx.bind (fun c => c.stateRuns t.vr t.id 0 n), s.leadCtx.bind (fun c => c.stateRuns t.vr (t.id + shadowBit) 0 n) with
      | some a, some b => (zipRuns (a.length + b.length) a b).foldl (fun (s : State) m => s.copyRun m.1 m.2.1 m.2.2) s
      | _, _ => s) s

/-- Working copies without a stamp for the step in progress get one (R269): those no update has written. -/
def State.stampCopies (s : State) : State :=
  match s.leadCtx with
  | none => s
  | some c =>
    let step := s.sched.step
    let s := s.modPbk (fun p => { p with digests := p.digests.filter (fun d => decide (step ≤ d.2.2.1)) })
    (c.tensors.filter (fun t => !t.shadow.isEmpty)).foldl (fun s t =>
      if s.pbk.digests.any (fun d => decide (d.1 = t.vr ∧ d.2.1 = t.id ∧ d.2.2.1 = step)) then s
      else match s.fetchTensor t.vr t.id 0 (s.tensorBytes t.id) with
        | (some bs, s) => s.modPbk (fun p => { p with digests := p.digests ++ [(t.vr, t.id, step, crc64 bs)] })
        | (none, s) => s) s

/-- Working copies compared with their stamps (R420, R421): one that differs, or is poisoned, is fetched from another holder. -/
def State.scrubCopies (s : State) : State :=
  match s.link.roster with
  | none => s
  | some r =>
    (s.pbk.digests.filter (fun d => decide (d.2.2.1 = s.sched.step) && s.hosted.contains d.1)).foldl (fun s d =>
      match s.fetchSys d.1 d.2.1 0 (s.tensorBytes d.2.1) with
      | (got, s) =>
        if (s.peekTensor d.1 d.2.1 0 (s.tensorBytes d.2.1)).isNone || decide (got.map crc64 = some d.2.2.2) then s
        else match s.sources r s.link.me d.2.1 with
          | x :: _ => (s.mismatch d.2.1 0).askState d.1 d.2.1 0 (s.tensorBytes d.2.1) x
          | [] => s.mismatch d.2.1 0) s

/-- What this device sends of a scrub (R420): digests of mirrored masters and moments between owner and mirror, of replicated tensors to
their owner, and requests for the units of a quarter of its parity blocks. -/
def State.sendScrub (s : State) : State :=
  match s.link.roster with
  | none => s
  | some r =>
    let step := s.sched.step
    let own := (s.hosted.flatMap (fun v => (s.tensorsOf s.link.me 2 ++ s.tensorsOf s.link.me 1).map (fun t => (v, t))))
    let held := (s.mirrorsHeld r ++ s.replicasHeld r).map (fun (x : Nat × Nat × Nat) => (x.1, x.2.1))
    let s := ((own ++ held).filter (fun x => decide (s.nextName x.2 = x.2))).foldl (fun s x =>
      match s.fetchSys x.1 x.2 0 (s.tensorBytes x.2) with
      | (none, s) => s
      | (some bs, s) =>
        let c := crc64 bs
        let to' := if s.hosted.contains x.1 then
            (if s.scrubKind x.1 x.2 = 2 then (match r.entry s.link.me with
              | some e => [e.mirror]
              | none => []) else [])
          else [r.hostOf x.1]
        let s := s.modPbk (fun p => { p with scrubs := p.scrubs ++ [(x.1, x.2, step, c)] })
        (to'.filter (fun d => decide (d ≠ noDev))).foldl (fun s d =>
          s.resil d 0x0C (w64 x.2) (leBytes 4 x.1 ++ leBytes 4 x.2 ++ leBytes 8 step ++ leBytes 8 c.toNat ++ [0])) s) s
    match s.groupIn r with
    | none => s
    | some (e, ms) =>
      let n := ms.length
      let units (j : Nat) : Nat := cdiv (((r.devs.find? (fun x => decide (x.number = ms.getD j 0))).map (fun (x : DevEntry) =>
        ((s.parRunsIn r x.number).map (fun (y : Nat × Nat × Nat) => y.2.2)).sum)).getD 0) 65536
      let blocks := ((List.range n).map (fun j => cdiv (units j) (n - 1))).foldl Nat.max 0
      let turn := step / Nat.max 1 (s.fld .pbkScrub 0 10 0) % 4
      ((List.range blocks).filter (fun b => decide (b % 4 = turn))).foldl (fun s b =>
        let id := s.pbk.nextRebuild
        let left := ms.filter (fun d => decide (d ≠ s.link.me))
        let s := (s.ownTraffic false 65536).modPbk (fun p =>
          { p with
            nextRebuild := id + 1
            rebuilds := p.rebuilds ++ [⟨id, noDev, s.link.me, 0, 0, 0, 65536, b * 65536, left, List.replicate 65536 0, none⟩] })
        ms.zipIdx.foldl (fun s x =>
          if x.1 = s.link.me then s
          else
            let a := ((n - 1) * b + (e.ppos + n - x.2 - 1) % n) * 65536
            (List.range 17).foldl (fun s k => s.resil x.1 0x05 (w64 (id + step % 2 ^ 32 * 2 ^ 32))
              (leBytes 2 noDev ++ leBytes 8 (a + 4000 * k) ++ leBytes 8 (Nat.min 4000 (65536 - 4000 * k)) ++ leBytes 8 (4000 * k))) s) s) s

/-- A scrub every PBK_SCRUB.STEPS steps (R420, R452). -/
def State.scrubStep (s : State) : State :=
  let k := s.fld .pbkScrub 0 10 0
  let s := s.modPbk (fun p => { p with scrubs := [], scrubIn := [], rebuilds := p.rebuilds.filter (fun (b : Rebuild) => decide (b.lost ≠ noDev)) })
  if k = 0 ∨ s.sched.step % Nat.max 1 k ≠ 0 then s else s.scrubCopies.sendScrub

/-- The device memory of a rank's state (R441, R559). -/
def State.rankRuns (s : State) (v : Nat) : List (Nat × Nat) :=
  match s.leadCtx with
  | none => []
  | some c => s.pbk.classes.flatMap (fun (x : Nat × Nat) => (c.resolve v x.1 0 (s.tensorBytes x.1)).getD [])

/-- A Curtain save begins (R440-R443): the objects as they stand, to the slot whose turn it is. Copy-on-write only delays lead writes (log
entry 20); with poison in one of them the save is abandoned. A plain save asked for while an evaluation save is taken waits on. -/
def State.startSave (s : State) (m : CurtainMsg) : State :=
  if !m.fSave then s
  else
    let s := s.modPbk (fun p =>
      { p with
        saveBegan := s.now
        saveAsked := if m.fEval && decide (p.saveAsked = some false) then p.saveAsked else none })
    match s.pbk.region, s.link.roster with
    | some g, some r =>
      let slot := if m.fEval then 2 else if s.fld .pbkSaveState 0 49 49 = 1 ∧ s.fld .pbkSaveState 0 48 48 = 0 then 1 else 0
      let took := s.saveObjects s.hosted
      let objs := took.1
      let s := took.2.2
      let xs : List Xfer := (objs.filter (fun (x : Nat × List Byte) => !x.2.isEmpty)).map (fun (x : Nat × List Byte) =>
        Xfer.save g.ep (g.base + slot * s.slotBytes r.vranks + 8 * 2 ^ 20 + x.1 * s.objectBytes) g.key x.1 x.2 (s.rankRuns x.1))
      let s := (s.setFld .pbkSaveState 0 50 50 1).modPbk (fun p =>
        { p with
          save := some { region := g, slot := slot, step := s.sched.step, eval := m.fEval, own := false, done := [], vranks := r.vranks
                         version := r.version, tags := (List.range 4096).flatMap s.tagRecord
                         data := objs.map (fun (x : Nat × List Byte) => (x.1, sha256 x.2)) } })
      let s := s.modPlat (fun p => { p with xfers := p.xfers.filter (fun x => decide (x.kind ≠ 2)) ++ xs })
      let s := s.modBooth (fun b => { b with inflight := b.inflight.map (fun (f : InFlight) =>
        if f.opcode = 0x32 ∧ (bitsOf (f.words.getD 0 0) 16 16 = 1 ↔ m.fEval = true) then { f with curtain := false } else f) })
      if !took.2.1 then s.abandonSave else if s.fld .ethEpStatus g.ep 1 0 = 1 then s else s.failSave g.ep
    | _, _ => s

/-- Tests that waited for a Curtain begin; Stages whose test begins or has ended leave or come back (R21, R299, R480, R513). -/
def State.turnTests (s : State) : State :=
  let waits (f : InFlight) : Bool := decide (f.opcode = 0x40 ∨ f.opcode = 0x41) && f.curtain
  let s := (s.booth.inflight.filter waits).foldl (fun s f => s.post 0x0001 0 none [Config.phaseCode (if f.opcode = 0x40 then 5 else 6)]) s
  let s := s.modBooth (fun b => { b with inflight := b.inflight.map (fun (f : InFlight) =>
    if waits f then { f with curtain := false, began := s.now } else f) })
  let out := s.sched.outAtCurtain
  let s := s.modSched (fun q =>
    { q with
      testing := q.testing.filter (fun n => !q.backAtCurtain.contains n)
      outAtCurtain := [], backAtCurtain := [] })
  out.foldl (fun s n => (s.takeOut n).modSched (fun q => { q with urgentTest := false })) s

/-- What the links have waiting for a Curtain (R351, R361, R362). -/
def State.turnLinks (s : State) : State :=
  let s := (List.range 24).foldl State.retirePending s
  let l := s.link.passedLanes
  let s := (s.modLink (fun k => { k with passedLanes := [] })).lanesPass l
  s.modLink (fun k =>
    { k with
      routes := k.nextRoutes.getD k.routes
      nextRoutes := none })

/-- The lead's suspension takes effect at the Curtain (R294). -/
def State.turnSuspend (s : State) : State :=
  if s.sched.leadStop then
    match s.leadCtx with
    | some c => ((s.suspend c.num 1).modSched (fun q => { q with leadStop := false })).endCmds (fun f => decide (f.opcode = 0x13)) 0
    | none => s
  else s

/-- CURTAIN_SYNC (R551). -/
def State.pulse (s : State) : State := if s.fld .bthPinCfg 0 0 0 = 1 then s.modPlat (fun p => { p with curtainSync := true }) else s

/-- LNK_CURTAIN.STEP names the step whose Curtain has opened (R392); the exchange is over, and messages of the next one that came first count
(R379). -/
def State.opened (s : State) : State :=
  let s := (s.setFld .lnkCurtain 0 47 0 s.sched.step).modLink (fun k => { k with curtain := 0, record := none, callPast := false, linkSent := false })
  match s.link.roster with
  | none => s
  | some r =>
    let l := s.link.curtHeld.filter (fun x => (r.kids s.link.me).contains x.1 && decide (x.2.version = r.version) && !s.link.curtFrom.contains x.1)
    l.foldl (fun (s : State) x => s.takeMsg x.1 x.2) (s.modLink (fun k => { k with curtHeld := k.curtHeld.filter (fun x => decide (r.version < x.2.version)) }))

/-- An admission's command ends once this device's STATE is 0 (R438, R477). -/
def State.admitEnds (s : State) : State :=
  match s.link.roster.bind (fun r => r.entry s.link.me) with
  | some e => if e.state = 0 then (s.modPbk (fun p => { p with admitting := none })).endCmds (fun f => decide (f.opcode = 0x22)) 0 else s
  | none => s

/-- A Roster that a Call at this Curtain has committed takes effect (R375). -/
def State.turnRoster (s : State) : State :=
  match s.link.callDone with
  | none => s
  | some (d, next) => (s.modLink (fun k => { k with callDone := none })).takeEffect d next

/-- The instance key of what a lead's SHARD_LOADs bring before the device hosts a rank (log entry 22). -/
abbrev earlyKey : Nat := 65541

/-- Bytes loaded before the device hosted a rank, given to every rank it hosts. -/
def State.giveEarly (s : State) (t : Nat) : State :=
  match s.fetchTensor earlyKey t 0 (s.tensorBytes t) with
  | (some bs, s) => s.hosted.foldl (fun (s : State) v => s.pokeBoth v t 0 bs) s
  | (none, s) => s

/-- Places for the tensors of every hosted rank that have none yet (R295; log entry 19), with what was loaded for them. -/
def State.placeHosted (s : State) : State :=
  match s.leadCtx with
  | some c =>
    if s.hosted.isEmpty then s
    else
      let s := s.hosted.foldl (fun (t : State) v => t.placeRank v c.rankTensors) s
      let s := (c.tensors.filter (fun t => decide (t.vr = earlyKey))).foldl (fun (s : State) t => s.giveEarly t.id) s
      s.modCtx c.num (fun y => { y with tensors := y.tensors.filter (fun (t : TensorPlace) => decide (t.vr ≠ earlyKey)) })
  | none => s

/-- The opening Curtain (R309, R569): no step has ended, so no save; copies that partners keep, and the parity, are begun. A device that joins a
job takes its place in the tree for the combination of the step before with an empty part, for it did not run in it (R181). -/
def State.openFirst (s : State) : State :=
  let joined := (s.link.callDone.filter (fun x => decide (x.1.version ≠ 1))).map (fun (x : Proposal × Roster) => x.1.step)
  let left := (s.link.callDone.map (fun (x : Proposal × Roster) => x.1.removed)).getD []
  let s := s.turnRoster
  match s.link.roster with
  | none => s
  | some r =>
    let bare := { r with devs := r.devs.map (fun (e : DevEntry) =>
      { e with mirror := noDev, replA := noDev, replB := noDev, pgroup := noDev, ppos := 0, psize := 0 }) }
    let s := s.placeHosted
    let s := s.modSched (fun q => { q with begun := true, step := joined.getD q.step, uh := [] })
    let s := match joined with
      | some k => (s.modSched (fun q => { q with ring := ⟨k - 1, s.now, [], false, left⟩ })).turnTally
      | none => s
    let s := (s.trackedTags.filter (fun _ => s.pbk.restored.isEmpty)).foldl (fun s t =>
      (s.setFld .tlyScale t 7 0 (s.fld .tlyScale t 15 8)).modSched (fun q => { q with nextExp := aput t (s.fld .tlyScale t 15 8) q.nextExp })) s
    let s := if joined.isNone then s.refillFor bare r else s
    let s := (s.turnTests.manage none).turnSuspend
    let s := match s.leadCtx with
      | some c => s.resetPerStep c
      | none => s
    let s := (s.stampCopies.turnProtection s.sched.step).modPbk (fun p => { p with restored := [] })
    (((s.sendDeltas true).release).admitEnds.turnLinks.pulse).opened

/-- A Curtain that ends a step (R380). -/
def State.openNext (s : State) (m : CurtainMsg) : State :=
  match s.leadCtx with
  | none => s
  | some c =>
    let ended := s.sched.step
    let s := s.release
    let s := s.modSched (fun q => { q with ring := ⟨ended, s.now, [], q.recastStep, (s.link.callDone.map (fun (x : Proposal × Roster) => x.1.removed)).getD []⟩ })
    let s := (s.trackedTags.foldl (fun s t => s.turnTag m.amax t) s).ownRecord
    let s := s.turnRoster
    if s.leadCtx.isNone then s
    else
      let s := (s.turnProtection (ended + 1)).turnCopies
      let s := s.turnTally
      let s := s.modSched (fun q => { q with step := ended + 1 })
      let s := s.turnTests.manage (some m)
      let s := (s.resetPerStep c).modSched (fun q => { q with meas := [], busyNs := [], issueNs := 0 })
      let refills := (s.link.roster.map (fun (r : Roster) => r.devs.any (fun e => e.refill))).getD false
      let s := (s.modPbk (fun p =>
        { p with
          redirects := [], applied := []
          lost := if refills then p.lost else []
          owed := if refills then p.owed else []
          newHosts := if refills then p.newHosts else [] }))
      let s := s.turnSuspend.curtainMemory.turnLinks
      let s := (s.stampCopies.startSave m).scrubStep
      (((s.sendDeltas true).release).admitEnds.pulse).opened

/-- CURTAIN_OPEN (R380, R569): the opening Curtain once LOAD_SCORE has completed and version 1 is committed; any other once the exchange is
complete and any Call it asked for is over. -/
def execCurtainOpen (s : State) : Host.Outcome State Fault Refusal :=
  match s.leadCtx, s.link.roster with
  | some c, some r =>
    if s.link.call.isSome || s.pbk.restoring.isSome then .next s
    else if !s.sched.begun then
      (if c.score.isSome && (s.link.callDone.isSome || (decide (1 ≤ r.version) && (r.entry s.link.me).isSome)) then .next s.openFirst
       else .next s)
    else if s.link.curtain = 2 ∧ s.pbk.recast.isNone = true then
      match s.link.record with
      | some m => if s.needsCall r m then .next s else .next (s.openNext m)
      | none => .next s
    else .next s
  | _, _ => .next s

/-- CURTAIN_SYNC_END (R551): CS_WIDTH µs after the latest opening the pin goes low. -/
def execCurtainSyncEnd (s : State) : Host.Outcome State Fault Refusal := .next (s.modPlat (fun p => { p with curtainSync := false }))

end Sys2Proof.Machine
end

