-- ==== Sys2Proof/Machine/RegView.lean ====
section
/-! DEFINITION. Registers as they read: stored ones, and those that show state held elsewhere (R5-R12, R91, R139-R143, R191, R247-R253,
R326-R334, R392-R395, R449-R453, R496-R499, R517, R553). -/

namespace Sys2Proof.Machine

/-- Fields put together: value, lowest bit, width; a value too large shows its largest code. -/
def fieldsWord : List (Nat × Nat × Nat) → Nat
  | [] => 0
  | (v, lo, w) :: t => Nat.min v (2 ^ w - 1) * 2 ^ lo + fieldsWord t

def bit01 (b : Bool) : Nat := if b then 1 else 0

/-- The code of R500. -/
def DevState.code : DevState → Nat
  | .off => 0 | .boot => 1 | .test => 2 | .ready => 3 | .run => 4 | .quiesced => 5 | .recast => 6 | .safe => 7 | .fault => 8

/-- The STATE code and awaited semaphore of R139. -/
def prmState (w : PrmWait) (running : Bool) : Nat × Nat :=
  match w with
  | .run => (if running then 1 else 0, 0)
  | .queue => (2, 0)
  | .sem i _ => (3, i)
  | .fence _ => (4, 0)
  | .curtain _ => (5, 0)
  | .ending => (6, 0)
  | .faulted => (7, 0)

/-- STG_PRM_STATUS (R139). -/
def prmStatus (t : Stage) : Nat :=
  let st := prmState t.prm.wait t.inst.isSome
  let i := t.inst
  let q := t.sn.queue.length
  fieldsWord [(st.1, 0, 3), (bit01 ((i.map (fun (x : Inst) => x.lead)).getD false), 3, 1), ((i.map (fun (x : Inst) => x.ctx)).getD 0, 4, 4),
    (st.2, 8, 6), (t.prm.loops.length, 14, 2), (bit01 (decide (4 ≤ t.prm.loops.length)), 16, 1), (t.sh.ops.length / 2, 17, 5),
    (q, 22, 4), (bit01 (decide (16 ≤ q)), 26, 1)]

/-- STG_MXA_STATUS (R91). -/
def mxaStatus (t : Stage) : Nat :=
  let opened := t.mx.slots.filter (fun e => e.2.opened)
  let used := (opened.map (fun (e : Nat × Slot) => e.2.blocks.length)).sum
  fieldsWord [(opened.foldl (fun a e => a + 2 ^ e.1) 0, 0, 16), (16 - used, 16, 5), (t.mx.ftq.length, 24, 4), (bit01 t.mx.wt0.valid, 32, 1),
    (bit01 t.mx.wt1.valid, 33, 1), (bit01 t.mx.wt0.scaled, 34, 1), (bit01 t.mx.wt1.scaled, 35, 1), (t.mx.feed.length, 36, 4),
    (t.mx.svc.length, 40, 4)]

/-- Some later instruction of a queue uses a row that an earlier one writes (R152). -/
def heldPair : List SnEntry → Bool
  | [] => false
  | e :: t => t.any (fun f => e.ins.holds f.ins) || heldPair t

/-- STG_SNR_STATUS (R191): a pop waits when it is the first instruction not worked off, and the one behind it is held when it uses rows
the pop will write (R152). Of instructions that have started and not completed, whether a row is held at this moment for an earlier one of
them, and whether a load or store waits for an Apron port, are free values (log entry 10). -/
def snrStatus (t : Stage) (waits : Nat → Bool) : Nat :=
  let pop := match t.sn.queue.find? (fun e => !e.done) with
    | some e => (match e.ins with
      | .pop _ _ => t.mx.ftq.isEmpty
      | .popw _ _ => t.mx.ftq.isEmpty
      | _ => false)
    | none => false
  let began := t.sn.queue.takeWhile (fun e => e.done)
  let dep := (match t.sn.queue.filter (fun e => !e.done) with
    | e :: f :: _ => pop && e.ins.holds f.ins
    | _ => false) || (heldPair (began ++ (t.sn.queue.drop began.length).take 1) && waits 1)
  let apr := began.any (fun e => e.ins.usesApron) && waits 0
  fieldsWord [(t.sn.queue.length, 0, 5), (bit01 pop, 5, 1), (bit01 dep, 6, 1), (bit01 apr, 7, 1)]

/-- WNG_PART (R247): partition 2c is context c's cache, 2c + 1 its scratch. -/
def State.partView (s : State) (i : Nat) : Nat :=
  match s.ctx? (i / 2) with
  | none => 0
  | some c =>
    let m := if i % 2 = 0 then c.cacheMask else c.scratchMask
    if m = 0 then 0 else fieldsWord [(c.num, 0, 4), (i % 2, 4, 1), (1, 5, 1), (m.toNat, 16, 16)]

/-- A swap has taken contexts out and the one they make place for has not come in (R316, R326). -/
def State.swappingOut (s : State) : Bool := !s.sched.swapOut.isEmpty && s.swapNext.isSome

/-- The handovers of the straggler plan that are under way (R323). -/
def State.movesNow (s : State) : List Handover :=
  s.pbk.handovers.filter (fun h => s.sched.moves.any (fun m => decide (m.1 = h.vr ∧ m.2.1 = h.src ∧ m.2.2 = h.tgt)))

/-- SMG_STRAG_STATE (R330): OUT and IN as the moves stand. -/
def State.stragView (s : State) : W64 :=
  setBits (setBits (s.rd .smgStragState) 5 5 (bit01 (s.movesNow.any (fun h => decide (h.src = s.link.me))))) 6 6
    (bit01 (s.movesNow.any (fun h => decide (h.tgt = s.link.me))))

/-- SMG_STATUS (R326). -/
def State.smgStatusView (s : State) : Nat :=
  let lead := s.leadCtx
  fieldsWord [(bit01 lead.isSome, 0, 1), (bit01 ((lead.map (fun (c : Ctx) => c.suspended)).getD false), 1, 1), (s.fillResident.length, 2, 2),
    (s.sched.ctxs.length, 4, 5), (bit01 (s.sched.swapIn.isSome || s.swappingOut), 9, 1), (bit01 (!s.sched.staged.isEmpty || !s.booth.staged.isEmpty), 10, 1),
    (bit01 (s.movesNow.any (fun h => decide (h.src = s.link.me ∨ h.tgt = s.link.me) && !h.ready)), 11, 1)]

/-- SMG_STAGES (R327). -/
def State.smgStagesView (s : State) : Nat :=
  let held := (s.stages.filter (fun e => match e.2.inst with
    | some i => !i.lead
    | none => false)).length
  fieldsWord [(s.availCount, 0, 8), (s.sched.retired.length, 8, 8), (bit01 (s.sched.urgentTest && !s.sched.testing.isEmpty), 16, 1), (held, 24, 8)]

/-- SMG_CUE (R332). -/
def State.cueView (s : State) (p : Nat) : Nat :=
  match s.leadCtx with
  | none => 0
  | some c =>
    if s.hosted.any (fun v => decide ((c.shape.map (fun (h : Shape) => h.pOf v)) = some p)) = false then 0
    else
      let sh := s.sched.sheets.find? (fun x => decide (x.1 = p))
      let mine := s.sched.launches.filter (fun x => decide (x.ctx = c.num ∧ x.sheet = p))
      fieldsWord [(bit01 sh.isSome, 0, 1), (bit01 (s.sched.staged.any (fun x => decide (x.p = p))), 1, 1),
        ((sh.map (fun (x : Nat × Sheet) => x.2.length)).getD 0, 2, 13),
        (((s.headOf p).map (fun (x : Launch) => x.entry)).getD 0, 15, 12),
        (((s.sched.shares.find? (fun x => decide (x.1 = p))).map (fun (x : Nat × List Nat) => x.2.length)).getD 0, 27, 8),
        ((mine.filter (fun x => decide (x.state = 1))).length, 35, 7)]

/-- SMG_STAGE (R333). -/
def State.stageView (s : State) (n : Nat) : Nat :=
  let st := if Config.stageFused n = false then 0 else if s.sched.retired.any (fun r => decide (r.1 = n)) then 2
    else if s.sched.testing.contains n then 3 else 1
  let sheet := ((s.sched.shares.find? (fun x => x.2.contains n)).map (fun (x : Nat × List Nat) => x.1)).getD 0
  match (s.stage n).inst with
  | none => fieldsWord [(st, 0, 2), (sheet, 8, 6)]
  | some i => fieldsWord [(st, 0, 2), (1, 2, 1), (bit01 i.lead, 3, 1), (i.ctx, 4, 4), (sheet, 8, 6), (i.kernel, 16, 16), (i.index, 32, 5)]

/-- The STATE code of R334. -/
def State.ctxState (s : State) (c : Ctx) : Nat :=
  if c.suspended then 6
  else if s.sched.swapIn = some c.num || (s.swappingOut && s.sched.swapOut.contains c.num) then 4
  else if c.score.isNone && !c.resumed then 1
  else if c.lead then 2
  else if !c.resident then 5
  else if s.runnable c then 2 else 3

/-- SMG_CTX (R334). -/
def State.ctxView (s : State) (k : Nat) : Nat :=
  match s.ctx? k with
  | none => 0
  | some c =>
    let held := (s.stages.filter (fun e => decide ((e.2.inst.map (fun (i : Inst) => i.ctx)) = some k))).length
    fieldsWord [(s.ctxState c, 0, 3), (bit01 c.lead, 3, 1), (c.prio, 4, 3), (held, 8, 8), (c.wsets.length, 16, 3),
      (if c.suspended then c.suspCause else 0, 24, 8), (c.preemptRun, 32, 16)]

/-- SMG_TQ_LOC (R331): every instance of the tensor, its shadow with it. -/
def State.tqView (s : State) : Nat :=
  match s.ctx? (s.fld .smgTqSel 0 3 0) with
  | none => 0
  | some c =>
    let ts := c.tensors.filter (fun t => decide (t.id = s.fld .smgTqSel 0 27 4))
    let rs := ts.flatMap (fun t => t.ranges ++ t.shadow)
    let len (p : Nat → Bool) : Nat := ((rs.filter (fun r => p r.pa)).map (fun (r : Range) => r.len)).sum
    let apron := len (fun a => match s.place a with
      | .apron _ _ => true
      | _ => false)
    let wings := len (fun a => match s.place a with
      | .scratch _ => true
      | _ => false)
    let stack := len (fun a => match s.place a with
      | .stack => true
      | _ => false)
    if ts.isEmpty then 0
    else fieldsWord [(1, 0, 1), (apron / 1024, 1, 21), (cdiv wings 1048576, 22, 21), (cdiv stack 1048576, 43, 21)]

/-- LNK_ROSTER (R392). -/
def State.rosterView (s : State) : Nat :=
  match s.link.roster with
  | none => 0
  | some r => fieldsWord [(s.link.me, 0, 16), (s.coord.getD 0, 16, 16), (r.devs.length, 32, 17), (bit01 (decide (1 ≤ r.version)), 49, 1),
      (r.ensOf s.hosted, 50, 7)]

/-- LNK_PARTNER (R394). -/
def State.partnerView (s : State) (n : Nat) : Nat :=
  let p := s.port n
  if p.partner = 0 then 0xFFFF else fieldsWord [((s.partnerDev n).getD 0xFFFF, 0, 16), (p.partnerPort, 16, 5), (1, 21, 1)]

/-- PBK_STATUS (R449). -/
def State.pbkStatusView (s : State) : Nat :=
  let e := s.link.roster.bind (fun r => r.entry s.link.me)
  let st :=
    if s.leadCtx.isNone then 0
    else if s.pbk.restoring.isSome && s.booth.inflight.all (fun f => decide (f.opcode ≠ 0x33)) then 4
    else if s.pbk.recast.isSome then 2
    else if !s.pbk.refill.isEmpty then 3
    else match e with
      | some x => if x.mirror = noDev then 5 else 1
      | none => 5
  fieldsWord [(st, 0, 3), (bit01 (s.pbk.handovers.any (fun h => decide (h.src = s.link.me ∨ h.tgt = s.link.me))), 3, 1), (s.pbk.refill.length, 8, 24)]

/-- PBK_PARTNERS and PBK_PGROUP (R453). -/
def State.partnersView (s : State) : Nat :=
  match s.link.roster.bind (fun r => r.entry s.link.me) with
  | none => 2 ^ 64 - 1
  | some e => fieldsWord [(e.mirror, 0, 16), (e.replA, 16, 16), (e.replB, 32, 16), (e.pgroup, 48, 16)]
def State.pgroupView (s : State) : Nat :=
  match s.link.roster, s.link.roster.bind (fun r => r.entry s.link.me) with
  | some r, some e => fieldsWord [(e.ppos, 0, 4), (e.psize, 4, 4), (bit01 e.refill, 8, 1), (mirrorDuties r.devs s.link.me, 16, 8),
      (replDuties r.devs s.link.me, 24, 8)]
  | _, _ => 0

/-- Bell flags of a set, 64 to a word (R499). -/
def bellFlags (m : SMap Bell) (j : Nat) : Nat :=
  (m.filter (fun e => e.2.full && decide (e.1 / 64 = j))).foldl (fun a e => a + 2 ^ (e.1 % 64)) 0

/-- A version register of R517: 0 for no image. -/
def imageVer (i : Option Image) : W64 := match i with
  | some x => Config.imageVersion x.bytes
  | none => 0

/-- Images: the one the selector makes active and the other (R508). -/
def Flash.active (f : Flash) : Option Image := if f.selB then f.imgB else f.imgA
def Flash.other (f : Flash) : Option Image := if f.selB then f.imgA else f.imgB

/-- IDN_STATE (R517). -/
def State.idnView (s : State) : Nat :=
  let p := s.plat
  fieldsWord [(p.dev.code, 0, 4), ((p.phase.head?).getD 0, 8, 8), (p.faultCause, 16, 8), (p.resetCause, 24, 2), (bit01 p.flash.trip, 26, 1),
    (if p.dev = .safe then p.safeCause else 0, 27, 4)]

/-- The boot is in progress (R500, R505). -/
def State.booting (s : State) : Bool := decide (s.plat.dev = .boot ∨ s.plat.dev = .test)

/-- The device takes packets (R466, R496). -/
def State.taking (s : State) : Bool :=
  decide (s.plat.dev = .ready ∨ s.plat.dev = .run ∨ s.plat.dev = .quiesced ∨ s.plat.dev = .recast ∨ s.plat.dev = .safe ∨ s.plat.dev = .fault)
    && !s.booth.resetting && !s.plat.perst && s.plat.phase.isEmpty

/-- Commands of a source in flight. -/
def State.inFlightOf (s : State) (src : Nat) : Nat := (s.booth.inflight.filter (fun f => decide (f.src = src))).length

/-- A register's current value. -/
def State.view (s : State) (r : Reg) (i : Nat) : W64 :=
  match r with
  | .stgPrmStatus => w64 (prmStatus (s.stage i))
  | .stgPrmPc => w64 (s.stage i).prm.pc
  | .stgPrmRegion => (match (s.stage i).inst with
    | some x => w64 (fieldsWord [(x.dataSize / 1024, 0, 16), (cdiv x.codeSize 64, 16, 16)])
    | none => 0)
  | .stgMxaStatus => w64 (mxaStatus (s.stage i))
  | .stgSnrStatus => w64 (snrStatus (s.stage i) (Config.snrWaits s.freeCtr i))
  | .wngPart => w64 (s.partView i)
  | .wngSeq => setBits (s.rd .wngSeq) 20 0 (s.mem.seqs.filter (fun q => !q.single)).length
  | .hbmStack => setBits (setBits (s.rd .hbmStack i) 21 16 (s.mem.retiredChans.filter (fun c => decide (c / 32 = i))).length) 34 22 (s.softUsed i)
  | .smgStatus => w64 s.smgStatusView
  | .smgStages => w64 s.smgStagesView
  | .smgStragState => s.stragView
  | .smgCue => w64 (s.cueView i)
  | .smgStage => w64 (s.stageView i)
  | .smgCtx => w64 (s.ctxView i)
  | .smgTqLoc => w64 s.tqView
  | .lnkRoster => w64 s.rosterView
  | .lnkRosterVer => w64 s.rosterVersion
  | .lnkCurtain => setBits (s.rd .lnkCurtain) 50 48 s.link.curtain
  | .lnkPartner => w64 (s.partnerView i)
  | .lnkLane => w64 (bitsOf (s.rd .lnkLane i) 42 0 + 2 ^ 43 * Nat.min 3 (s.readmitCount i))
  | .pbkStatus => w64 s.pbkStatusView
  | .pbkPartners => w64 s.partnersView
  | .pbkPgroup => w64 s.pgroupView
  | .bthCmdStatus => w64 (fieldsWord [(bit01 s.taking, 0, 1), (bit01 (decide (s.plat.dev = .quiesced)), 1, 1),
      (bit01 (!s.booth.staged.isEmpty), 2, 1), (s.booth.staged.length, 3, 9)])
  | .bthSlotStatus => let x := s.slot i; w64 (fieldsWord [(x.tail, 0, 16), (x.cqHead, 16, 16), (s.inFlightOf i, 32, 7), (x.err, 39, 2)])
  | .belH2fData => mget 0 s.booth.lastH2F i
  | .belF2hData => (mget Bell.clear s.booth.bellF2H i).word
  | .belH2fFull => w64 (bellFlags s.booth.bellH2F 0)
  | .belF2hFull => w64 (bellFlags s.booth.bellF2H 0)
  | .belP2fFull => w64 (bellFlags s.booth.bellP2F i)
  | .belF2pFull => w64 (bellFlags s.booth.bellF2P i)
  | .belLoFull => w64 (bellFlags s.booth.bellLO i)
  | .belLiFull => w64 (bellFlags s.booth.bellLI i)
  | .idnState => w64 s.idnView
  | .idnFwRun => s.plat.runFw
  | .idnFwStaged => imageVer s.plat.flash.staging
  | .idnFwPrev => imageVer s.plat.flash.other
  | .ethEpStatus => if s.fld .ethEpStatus i 1 0 = 1 ∧ (s.plat.xfers.any (fun x => decide (x.ep = i) && x.opened)) = true
      then setBits (s.rd .ethEpStatus i) 1 0 2 else s.rd .ethEpStatus i
  | .bthGpio => setBits (s.rd .bthGpio) 23 16 ((s.rd .bthGpio).toNat % 256 &&& ((s.rd .bthGpio).toNat / 256 % 256)
      ||| (s.plat.gpioIn.toNat &&& (255 - (s.rd .bthGpio).toNat / 256 % 256)))
  | _ => s.rd r i

/-- The bits of a register's fields with one of some access codes. -/
def accMask (fs : List RegField) (p : Acc → Bool) : Nat :=
  match fs with
  | [] => 0
  | f :: t => (if p f.acc then (2 ^ (f.hi + 1 - f.lo) - 1) * 2 ^ f.lo else 0) + accMask t p

/-- A register of an absent block (R5): a fused-off Stage's, an absent stack's, the absent storage Ethernet block's. -/
def Reg.absent (r : Reg) (i : Nat) : Bool :=
  match r with
  | .stgPrmStatus | .stgPrmPc | .stgFault | .stgFaultPc | .stgFaultInfo | .stgPrmRegion | .stgPrmRetired | .stgPrmStallQ | .stgPrmStallSync
  | .stgMxaStatus | .stgMxaEcc | .stgMxaRows | .stgMxaBusy | .stgMxaStallWld | .stgMxaStallDep | .stgMxaStallSlot | .stgMxaStallQfull
  | .stgMxaStallBank | .stgSnrStatus | .stgSnrEcc | .stgSnrRows | .stgSnrBusy | .stgSnrStallPop | .stgSnrStallDep | .stgSnrStallApr
  | .stgAprEcc | .stgAprUeAddr => !Config.stageFused i
  | .hbmStack | .hbmEcc | .hbmRdBytes | .hbmWrBytes => decide (Config.stackCount ≤ i)
  | .hbmRemap => decide (pcCount ≤ i)
  | _ => decide (Config.capUnits % 2 = 0) && decide (0x1800000 ≤ r.desc.base ∧ r.desc.base < 0x1C00000)

/-- What a read of a BAR0 offset returns (R5, R8-R10). -/
def State.peekReg (s : State) (off : Nat) : W64 :=
  match findReg off with
  | none => 0
  | some (r, i) => if r.absent i then 0 else s.view r i &&& w64 (accMask r.desc.fields (fun a => decide (a ≠ .wo)))

/-- What reading clears, within the bits read (R9): RC fields, of one that lies in both halves the half that a 32-bit read covers (DESIGN
CHOICE, log entry 23); a read of BEL_F2H_DATA takes the Bell's word (R491, R499). The next read of
STG_SNR_STATUS shows a free value of its own (log entry 10). -/
def State.clearRead (s : State) (off : Nat) (within : W64) : State :=
  match findReg off with
  | none => s
  | some (r, i) =>
    if r.absent i then s
    else if r = .stgSnrStatus then { s with freeCtr := s.freeCtr + 1 }
    else if r = .belF2hData then s.modBooth (fun b => { b with bellF2H := mset Bell.clear b.bellF2H i Bell.clear })
    else
      let m := w64 (accMask r.desc.fields (fun a => decide (a = .rc))) &&& within
      if m = 0 then s else s.wr r i (s.rd r i &&& ~~~m)

end Sys2Proof.Machine
end

