-- ==== Sys2Proof/Machine/Resets.lean ====
section
/-! DEFINITION. Resets of the device, firmware images, entering SAFE, boot phases (R500-R511, R528). -/

namespace Sys2Proof.Machine

/-- A range of BAR0 offsets without the ones kept. -/
def keepRegs (ks : List Nat) (m : SMap W64) : SMap W64 := m.filter (fun e => ks.contains e.1)

/-- What a warm reset keeps among the registers (R504, R523, R525): the limit of POWER_LIMIT_SET, the time, the fused version floor and the
number of the next event. No field of the manual's tables is RWS. -/
def warmRegs : List Nat := [Reg.pwrLimit.off 0, Reg.clkTime.off 0, Reg.idnSvnFloor.off 0, Reg.bthEvtSeq.off 0]

/-- The device after a reset of the whole of it (R500, R501, R504): what both kinds keep is the repair log, the firmware areas with the
thermal-trip record, fuses, the pins the outside drives, and what lies in host memory; HEADROOM that was staged takes effect (R221, R483). -/
def State.cleared (s : State) (regs : SMap W64) (booth : BoothSt) : State :=
  let p := s.plat
  let auto := s.booth.autoStaged.filter (fun e => decide (e.off = Reg.hbmCapacity.off 0))
  let s := { s with
    regs := regs
    stages := []
    mem := { MemSt.empty with log := s.mem.log, host := s.mem.host, hostBad := s.mem.hostBad }
    sched := .empty
    link := .empty
    pbk := .empty
    booth := { booth with autoStaged := auto }
    plat := { PlatSt.boot with
      pwrgood := p.pwrgood, railsOk := p.railsOk, perst := p.perst, flash := p.flash, gpioIn := p.gpioIn
      thermTrip := p.thermTrip, phase := [], phaseStart := []
      ports := { PortsSt.fresh with
        jtagInstr := p.ports.jtagInstr, jtagCells := p.ports.jtagCells, jtagDriven := p.ports.jtagDriven
        jtagHigh := p.ports.jtagHigh } } }
  s.applyAuto .hbmCapacity

/-- The boot ROM phase begins (R506). -/
def State.bootBegin (s : State) : State := s.modPlat (fun p => { p with dev := .boot, phase := [1], phaseStart := [(1, s.now)] })

/-- A warm reset (R504): PERST_N (cause 1) or RESET_UNIT unit 0 (cause 2; R517). The boot starts at once unless PERST_N is asserted. -/
def State.warmReset (s : State) (cause : Nat) : State :=
  let s := s.romStart
  let b := { BoothSt.empty with log := s.booth.log, nextSeq := s.booth.nextSeq, msix := s.booth.msix }
  let s := (s.cleared (keepRegs warmRegs s.regs) b).modPlat (fun p => { p with dev := .boot, resetCause := cause })
  if s.plat.perst then s else s.bootBegin

/-- A power-on reset (R504): the event log and the time start afresh too; THERMTRIP_N was released as PWRGOOD fell (R550). -/
def State.powerReset (s : State) : State :=
  let floor := keepRegs [Reg.idnSvnFloor.off 0] s.regs
  let s := (s.cleared floor .empty).modPlat (fun p => { p with thermTrip := false, dev := .off, ports := .fresh })
  if s.plat.perst then s else s.bootBegin

/-- An image passes R509. -/
def State.imagePasses (s : State) (i : Image) : Bool :=
  Config.signatureOk i.bytes && decide (s.fld .idnSvnFloor 0 15 0 ≤ bitsOf (Config.imageVersion i.bytes) 63 48)

/-- Area A or B (R508). -/
def Flash.put (f : Flash) (b : Bool) (i : Option Image) : Flash := if b then { f with imgB := i } else { f with imgA := i }

/-- The staged image activated (R510): it replaces the previous one, becomes active, and the staging area is cleared. -/
def Flash.activate (f : Flash) : Flash := { f.put (!f.selB) f.staging with selB := !f.selB, staging := none }

/-- The Booth restarts (R475, R504): ring registers, Bells and the event log are kept; no packet is taken meanwhile. -/
def State.boothRestart (s : State) : State := s.modBooth (fun b => { b with resetting := true })

/-- A phase of the boot ends, with its event (R21, R506). -/
def State.endPhase (s : State) (k : Nat) : State :=
  let t := s.phaseBegan k
  let s := if k = 1 then s.romStart else s
  let s := s.post 0x0002 0 none [w64 k, s.now - t]
  s.modPlat (fun p =>
    { p with
      phase := p.phase.filter (fun x => decide (x ≠ k))
      phaseStart := p.phaseStart.filter (fun x => decide (x.1 ≠ k)) })

/-- A phase of the boot begins. -/
def State.beginPhase (s : State) (k : Nat) : State :=
  (s.modPlat (fun p => { p with phase := p.phase ++ [k], phaseStart := p.phaseStart ++ [(k, s.now)] })).post 0x0001 0 none [w64 k]

/-- Entering SAFE (R501, R528): every kernel ends, every context goes, the Gong sounds, CCLK stops, the stacks refresh themselves; the event
carries the cause, the rail or sensor, and its reading. -/
def State.enterSafe (s : State) (cause unit reading : Nat) : State :=
  if s.plat.dev = .ready ∨ s.plat.dev = .run ∨ s.plat.dev = .quiesced ∨ s.plat.dev = .recast then
    let ver := s.rosterVersion
    let s := s.stopStages
    let s := (s.sched.ctxs.map (fun (c : Ctx) => c.num)).foldl State.freeCtx s
    let s := s.modPbk (fun _ => .empty)
    let s := s.gong 0x0A s.link.me ver 24
    let s := s.modPlat (fun p =>
      { p with dev := .safe, safeCause := cause, safeClear := 0, cclkStopped := true, selfRefresh := true })
    (s.setFld .pwrStatus 0 32 32 1).post 0x0081 3 none [w64 cause, w64 unit, w64 reading]
  else s

end Sys2Proof.Machine
end

