-- ==== Sys2Proof/Machine/Camod.lean ====
section
/-! DEFINITION. Camod intake: taking a packet, header checks, port authority, conflicts, completions (R457-R478). The order of the checks and
what a parameter word that a packet does not bring reads as are log entry 21. -/

namespace Sys2Proof.Machine

/-- A packet taken: its source (the slot; 64 SMBus, 65 + port a link, 96 + port the storage Ethernet), header and parameter words. -/
structure Cmd where
  src : Nat
  hdr : List W64
  params : List W64
  paramErr : Bool
  deriving DecidableEq, Repr

/-- A header field and a parameter field (R462, R474); a word the packet does not bring reads as zero. -/
def Cmd.h (c : Cmd) (j hi lo : Nat) : Nat := bitsOf (c.hdr.getD j 0) hi lo
def Cmd.word (c : Cmd) (j : Nat) : W64 := c.params.getD j 0
def Cmd.w (c : Cmd) (j hi lo : Nat) : Nat := bitsOf (c.word j) hi lo
def Cmd.op (c : Cmd) : Nat := c.h 0 7 0
def Cmd.seq (c : Cmd) : W32 := BitVec.ofNat 32 (c.h 1 31 0)
def Cmd.tag (c : Cmd) : W64 := c.hdr.getD 4 0
def Cmd.ctx (c : Cmd) : Nat := c.h 1 35 32
def Cmd.ctxOpt (c : Cmd) : Option Nat := if c.h 1 36 36 = 1 then some c.ctx else none
def Cmd.urgent (c : Cmd) : Bool := decide (c.h 0 18 18 = 1)
/-- Bytes that parameter words from `j` on hold. -/
def Cmd.bytes (c : Cmd) (j n : Nat) : List Byte := (wordsLe (c.params.drop j)).take n

/-- The opcodes of R473. -/
def listedOps : List Nat :=
  [0x01, 0x02, 0x03, 0x04, 0x08, 0x10, 0x11, 0x12, 0x13, 0x14, 0x15, 0x20, 0x21, 0x22, 0x23, 0x30, 0x31, 0x32, 0x33, 0x40, 0x41, 0x42,
    0x50, 0x51, 0x52, 0x60, 0x70, 0x71]

/-- The class bit of R469. -/
def classOfOp (op : Nat) : Nat :=
  if op < 0x03 then 0 else if op < 0x08 ∨ op = 0x60 then 1 else if op = 0x08 then 2 else if op < 0x20 then 3 else if op < 0x30 then 4
  else if op < 0x40 then 5 else if op < 0x50 then 6 else if op < 0x60 then 7 else 8

/-- Reserved header bits (R462, R463). -/
def Cmd.hdrOk (c : Cmd) : Bool :=
  decide (c.h 0 15 8 = 1 ∧ c.h 0 31 19 = 0 ∧ c.h 0 63 42 = 0 ∧ c.h 0 41 32 ≤ 960) && decide (c.h 0 16 16 = 0 ∨ c.h 0 41 32 = 0)
    && decide (c.h 1 63 37 = 0 ∧ c.h 3 63 24 = 0 ∧ c.h 6 63 32 = 0 ∧ c.hdr.getD 7 0 = 0)
    && decide (c.h 0 16 16 = 0 ∨ 1 ≤ c.h 3 23 0)

/-- The bits that parameter words of a command define, for the words that have reserved bits (R474). -/
def paramBits : Nat → List (Nat × Nat)
  | 0x04 => [(0, 0x3)]
  | 0x08 => [(0, 0x1FF0F)]
  | 0x10 => [(1, 0xFFFFFFFF), (6, 2 ^ 61 - 1), (7, 2 ^ 48 - 1)]
  | 0x11 => [(0, 0xFFFF3FFF), (3, 0xFFFF7FFFFFFF7FFF)]
  | 0x15 => [(0, 0x1FFF003F)]
  | 0x21 => [(0, 0x1)]
  | 0x22 => [(1, 0x1FFFF)]
  | 0x30 => [(0, 0x7FF01), (2, 0xFFFFFFFF), (3, 2 ^ 48 - 1)]
  | 0x31 => [(0, 0x3)]
  | 0x32 => [(0, 0x3FF00), (2, 0xFFFFFFFF)]
  | 0x33 => [(0, 0xFF03), (2, 0xFFFFFFFF)]
  | 0x40 => [(0, 0xFF0F)]
  | 0x41 => [(0, 0xFFFF0F)]
  | 0x42 => [(0, 0xFF1F)]
  | 0x50 => [(0, 0x1FF)]
  | 0x51 => [(0, 0xFFF0FFF)]
  | 0x52 => [(1, 0x1FFF)]
  | 0x60 => [(0, 0xFFF)]
  | 0x70 => [(1, 0xFFFFFFFF)]
  | 0x71 => [(0, 0x1)]
  | _ => []
def Cmd.paramsOk (c : Cmd) : Bool := (paramBits c.op).all (fun m => decide (c.word m.1 &&& ~~~(w64 m.2) = 0))

/-- Commands that act on an existing context and need its number (R463). -/
def needsCtx (op : Nat) : Bool := [0x10, 0x12, 0x13, 0x14, 0x15, 0x20, 0x22, 0x30, 0x31].contains op

/-- What a command names or holds for R460: a kind (0 context, 1 weight set, 2 port, 3 save region, 4 firmware image, 5 Stage, 6 stack, 7
Ethernet port) and its number. -/
def heldUnits (op : Nat) (ctx : Option Nat) (ws : List W64) : List (Nat × Nat) :=
  let c := ctx.getD 0
  let f (hi lo : Nat) : Nat := bitsOf (ws.getD 0 0) hi lo
  if op = 0x30 then (0, c) :: (if f 18 18 = 1 then [(1, 4 * c + f 17 16)] else [])
  else if op = 0x31 then [(0, c), (1, 4 * c + f 1 0)]
  else if needsCtx op ∧ op ≠ 0x15 then [(0, c)]
  else if op = 0x32 ∨ op = 0x33 then [(3, 0)]
  else if op = 0x70 ∨ op = 0x71 then [(4, 0)]
  else if op = 0x42 then [(2, f 4 0)]
  else if op = 0x08 then (if f 3 0 = 2 then [(5, f 15 8)] else if f 3 0 = 3 then [(2, f 15 8)] else if f 3 0 = 4 then [(7, f 15 8)] else [])
  else if op = 0x40 then (if f 3 0 = 1 then [(5, f 15 8)] else if f 3 0 = 3 then [(6, f 15 8)] else if f 3 0 = 4 then [(2, f 15 8)] else [])
  else if op = 0x41 then (if f 3 0 = 0 then [(2, f 15 8)] else if f 3 0 = 1 then [(5, f 15 8)] else [(6, f 15 8)])
  else []

/-- A command in flight that was accepted, not merely staged for a Curtain (R460, R473). -/
def InFlight.accepted (f : InFlight) : Bool := !([0x03, 0x04, 0x13, 0x15, 0x23].contains f.opcode)

/-- Two lists of units conflict: they share a unit; where both name weight sets, a shared context alone is no conflict (R286, R460). -/
def unitsMeet (a b : List (Nat × Nat)) : Bool :=
  let sets (l : List (Nat × Nat)) : Bool := l.any (fun x => decide (x.1 = 1))
  a.any (fun x => b.contains x && !(decide (x.1 = 0) && sets a && sets b))

/-- An accepted command is in progress on something this one names (R460); a restore holds the lead's context as well. -/
def State.conflict (s : State) (c : Cmd) : Bool :=
  let mine := heldUnits c.op c.ctxOpt c.params
  let held (f : InFlight) : List (Nat × Nat) := heldUnits f.opcode f.ctx f.words ++ (if f.opcode = 0x33 then
    (match s.leadCtx with
    | some x => [(0, x.num)]
    | none => []) else [])
  s.booth.inflight.any (fun f => f.accepted && unitsMeet mine (held f))

/-- What a command comes to: the state after, its status and results, result bytes, and what it leaves in flight. -/
structure Reply where
  s : State
  status : Nat
  r0 : W64 := 0
  r1 : W64 := 0
  data : Option (List Byte) := none
  count : Option Nat := none
  fly : Option InFlight := none

/-- A command that ends with a status and changes nothing. -/
def State.fails (s : State) (status : Nat) : Reply := { s := s, status := status }
/-- A command done. -/
def State.ok (s : State) (r0 : W64 := 0) : Reply := { s := s, status := 0, r0 := r0 }
/-- A command that returns data (R464). -/
def State.gives (s : State) (bs : List Byte) : Reply := { s := s, status := 0, data := some bs }

/-- The record of a deferred command. -/
def Cmd.fly (c : Cmd) (s : State) : InFlight :=
  { src := c.src, opcode := c.op, seq := c.seq, tag := c.tag, ctx := c.ctxOpt, words := c.params, curtain := false, pend := 0, units := []
    bad := [], score := none, began := s.now }

/-- A command accepted, with its bound in µs (R465), and one that waits for a Curtain. -/
def State.accept (s : State) (c : Cmd) (us : Nat) (f : InFlight → InFlight := id) : Reply :=
  { s := s, status := 1, r0 := w64 us, fly := some (f (c.fly s)) }
def State.staged (s : State) (c : Cmd) (pend : Nat := 0) : Reply :=
  { s := s, status := 2, fly := some { c.fly s with curtain := true, pend := pend } }

/-- The result data of a command given to its port (R464, R472). -/
def State.deliver (s : State) (c : Cmd) (r : Reply) : Reply :=
  match r.data with
  | none => r
  | some bs =>
    let r0 := match r.count with
      | some n => w64 n
      | none => w64 bs.length
    if c.src < 64 then
      if c.h 6 31 0 < bs.length then s.fails 0x11
      else match r.s.hostWrite (c.hdr.getD 5 0).toNat bs with
        | none => { s.fails 0x11 with r1 := 0xFFFFFFFF }
        | some t => { r with s := t, r0 := r0, data := none }
    else if c.src = 64 ∧ 1024 < bs.length then s.fails 0x11
    else { r with r0 := r0 }

/-- The first completion entry of a command (R465, R466), which is then in flight where an entry is still to follow. -/
def State.finish (s : State) (c : Cmd) (r : Reply) : State :=
  let r := s.deliver c r
  let t := match r.fly with
    | some f => r.s.modBooth (fun b => { b with inflight := b.inflight ++ [f] })
    | none => r.s
  t.complete c.src c.op c.seq c.tag r.status false r.r0 r.r1 (r.data.getD [])

/-- A port carries a command (R469, R472). -/
def Cmd.portOk (c : Cmd) : Bool :=
  if c.src < 64 then true
  else if c.src = 64 then [0x01, 0x02, 0x50, 0x51, 0x52].contains c.op || (decide (c.op = 0x08) && decide (c.w 0 3 0 ≤ 1))
  else if c.src < 96 then decide (c.op = 0x21)
  else false

/-- What every command is checked for before its own rule (R460, R463, R464, R467, R469, R470). -/
def State.checks (s : State) (c : Cmd) : Option Reply :=
  if !listedOps.contains c.op then some (s.fails 0x10)
  else if !c.hdrOk then some (s.fails 0x11)
  else if !c.portOk then some { s.fails 0x12 with r1 := 1 }
  else if c.src < 64 ∧ (s.rd .bthSlotCfg c.src).getLsbD (16 + classOfOp c.op) = false then some { s.fails 0x12 with r1 := 2 }
  else if c.src < 64 ∧ c.ctxOpt.isSome = true ∧ (s.rd .bthSlotCfg c.src).getLsbD (32 + c.ctx) = false then some { s.fails 0x12 with r1 := 3 }
  else if needsCtx c.op && c.ctxOpt.isNone then some (s.fails 0x11)
  else if decide (s.plat.dev = .safe ∨ s.plat.dev = .fault) && !([0x01, 0x02, 0x08, 0x50, 0x52].contains c.op) then some (s.fails 0x30)
  else if needsCtx c.op && (s.ctx? c.ctx).isNone then some (s.fails 0x11)
  else if c.paramErr then some { s.fails 0x11 with r1 := 0xFFFFFFFF }
  else if !c.paramsOk then some (s.fails 0x11)
  else if s.conflict c then some (s.fails 0x13)
  else none

/-- A run of a submission ring read with wrap (R458). -/
def State.ringRead (s : State) (k at' n : Nat) : Option (List Byte) :=
  let base := (s.rd .bthSqBase k).toNat / 4096 * 4096
  let size := 64 * s.sqSize k
  let a := at' % size
  let m := Nat.min n (size - a)
  match s.hostRead (base + a) m, s.hostRead base (n - m) with
  | some x, some y => some (x ++ y)
  | some x, none => if n = m then some x else none
  | none, _ => none

/-- A slot takes packets (R459, R461): enabled, without an error, something submitted, fewer than 64 commands in flight, room for the
completions of those and of one more. -/
def State.slotReady (s : State) (k : Nat) : Bool :=
  let x := s.slot k
  let free := s.cqSize k - 1 - (x.cqHead + s.cqSize k - s.fld .bthCqTail k 15 0 % s.cqSize k) % s.cqSize k
  s.taking && decide (s.fld .bthSlotCfg k 0 0 = 1 ∧ x.err = 0 ∧ x.tail ≠ x.head ∧ s.inFlightOf k < 64)
    && decide (2 * s.inFlightOf k + 2 ≤ free)

/-- The packet at a slot's submission tail (R458, R460, R461, R464): nothing, a header that could not be read, or the command with the
state that has moved past it. -/
def State.slotPacket (s : State) (k : Nat) : Option (State × Option Cmd) :=
  if !s.slotReady k then none
  else
    let x := s.slot k
    let n := s.sqSize k
    match s.ringRead k (64 * x.tail) 64 with
    | none => some (s.slotError k 2, none)
    | some hb =>
      let hdr := leWords 8 hb
      let plen := bitsOf (hdr.getD 0 0) 41 32
      let ents := 1 + cdiv plen 64
      if (x.head + n - x.tail) % n < ents then none
      else if bitsOf (hdr.getD 0 0) 17 17 = 1 ∧ 0 < s.inFlightOf k then none
      else
        let pptr := bitsOf (hdr.getD 0 0) 16 16 = 1
        let bytes := if pptr then s.hostRead (hdr.getD 2 0).toNat (bitsOf (hdr.getD 3 0) 23 0)
          else s.ringRead k (64 * (x.tail + 1)) plen
        let len := if pptr then bitsOf (hdr.getD 3 0) 23 0 else plen
        let s := s.setSlot k { x with tail := (x.tail + ents) % n }
        some (s, some ⟨k, hdr, leWords (cdiv len 8) (bytes.getD []), bytes.isNone⟩)

/-- The command that stands ready at its port: a slot's next packet, or one another port brings (R389, R471, R472); what the host wrote
before is visible to it (R244). -/
def State.nextCmd (s : State) (c : CmdSrc) : Option (State × Option Cmd) :=
  let s := s.settleHost
  match c with
  | .slot k => if k < 64 then s.slotPacket k else none
  | .smbus p => if s.taking && decide (s.inFlightOf 64 = 0) then some (s, some ⟨64, p.hdr, p.params, p.paramErr⟩) else none
  | .link n p => if s.taking then some (s, some ⟨65 + n, p.hdr, p.params, p.paramErr⟩) else none
  | .eth e p => if s.taking then some (s, some ⟨96 + e, p.hdr, p.params, p.paramErr⟩) else none

/-- A Camod command runs (R459-R478): `op` is its opcode, `mine` says which parameters are its own among the commands that share the
opcode; `after` is what follows the first completion entry of one that did not fail. A packet of another listed command is not this command's. -/
def runThen (c : CmdSrc) (op : Nat) (mine : Cmd → Bool) (f : State → Cmd → Reply) (after : State → Cmd → State) (s : State) :
    Host.Outcome State Fault Refusal :=
  match s.nextCmd c with
  | none => .next s
  | some (t, none) => .next t
  | some (t, some k) =>
    if listedOps.contains k.op && !(decide (k.op = op) && (mine k || k.paramErr)) then .next s
    else .next (match t.checks k with
      | some r => t.finish k r
      | none =>
        let r := f t k
        if r.status < 0x10 then after (t.finish k r) k else t.finish k r)

def runCmd (c : CmdSrc) (op : Nat) (mine : Cmd → Bool) (f : State → Cmd → Reply) (s : State) : Host.Outcome State Fault Refusal :=
  runThen c op mine f (fun s _ => s) s

/-- Every packet of the opcode is the command's. -/
def anyOf (_ : Cmd) : Bool := true

end Sys2Proof.Machine
end

