-- ==== Sys2Proof/Machine/CamodFw.lean ====
section
/-! DEFINITION. Firmware commands (R473, R474, R481, R504, R508-R510). -/

namespace Sys2Proof.Machine

/-- FIRMWARE_STAGE (R481, R510): checked and written as it ends. -/
def execFirmwareStage (c : CmdSrc) (s : State) : Host.Outcome State Fault Refusal :=
  runCmd c 0x70 anyOf (fun s k =>
    let n := k.w 1 31 0
    if n = 0 ∨ 2 ^ 25 < n then s.fails 0x11 else s.accept k 20000000) s

/-- How FIRMWARE_STAGE ends. -/
def State.endFirmwareStage (s : State) (f : InFlight) : State :=
  match s.hostRead (f.words.getD 0 0).toNat (bitsOf (f.words.getD 1 0) 31 0) with
  | none => s.endCmd f 0x11 0 0xFFFFFFFF
  | some bs =>
    if !s.imagePasses ⟨bs⟩ then s.endCmd f 0x20 0 0
    else (s.modPlat (fun p => { p with flash := { p.flash with staging := some ⟨bs⟩ } })).endCmd f 0 0 0

/-- Activation is for a device without work (R481). -/
def State.mayActivate (s : State) : Bool := decide (s.plat.dev = .ready ∨ s.plat.dev = .quiesced)

/-- FIRMWARE_ACTIVATE (R481, R504, R510): the staged image becomes active and the Booth restarts on it. -/
def execFirmwareActivate (c : CmdSrc) (s : State) : Host.Outcome State Fault Refusal :=
  runCmd c 0x71 (fun k => decide (k.w 0 0 0 = 0)) (fun s k =>
    if !s.mayActivate then s.fails 0x14
    else if s.plat.flash.staging.isNone then s.fails 0x21
    else (s.modPlat (fun p => { p with flash := p.flash.activate })).boothRestart.accept k 350000) s

/-- FIRMWARE_ACTIVATE with ROLLBACK (R481, R510): the selector switches to the previous image, unless its version is below the floor. -/
def execFirmwareRollback (c : CmdSrc) (s : State) : Host.Outcome State Fault Refusal :=
  runCmd c 0x71 (fun k => decide (k.w 0 0 0 = 1)) (fun s k =>
    if !s.mayActivate then s.fails 0x14
    else match s.plat.flash.other with
      | none => s.fails 0x21
      | some i =>
        if bitsOf (Config.imageVersion i.bytes) 63 48 < s.fld .idnSvnFloor 0 15 0 then s.fails 0x21
        else (s.modPlat (fun p => { p with flash := { p.flash with selB := !p.flash.selB } })).boothRestart.accept k 350000) s

/-- The image in force runs; one that asks for it raises the version floor once the device is up (R508). -/
def State.runImage (s : State) (i : Image) : State :=
  let v := Config.imageVersion i.bytes
  let s := s.modPlat (fun p => { p with runFw := v })
  if Config.imageRaise i.bytes ∧ s.fld .idnSvnFloor 0 15 0 < bitsOf v 63 48 then s.setFld .idnSvnFloor 0 15 0 (bitsOf v 63 48) else s

/-- The Booth has restarted (R481): on an image that fails its boot check the selector goes back. -/
def State.endActivate (s : State) (f : InFlight) : State :=
  let s := s.modBooth (fun b => { b with resetting := false })
  let back := (s.modPlat (fun p => { p with flash := { p.flash with selB := !p.flash.selB } })).endCmd f 0x20 0 0
  match s.plat.flash.active with
  | some i => if s.imagePasses i then (s.runImage i).endCmd f 0 0 0 else back
  | none => back

end Sys2Proof.Machine
end

