-- ==== Sys2Proof/Machine/CamodReset.lean ====
section
/-! DEFINITION. RESET_UNIT (R4, R475, R492), training a port (R338, R360). -/

namespace Sys2Proof.Machine

/-- A port trained (R338): the lanes of `m` lock, each with a record of its own; with at least 4, and `x` the identity and port that they all name, it becomes active,
else it stays down. A lane that does not train counts as retired (log entry 21). -/
def State.trainPort (s : State) (n : Nat) (m : BitVec 8) (x : Option (W64 × Nat)) : State :=
  let ls := (List.range 8).filter m.getLsbD
  let id := s.rd .idnDevid 0
  let s := s.modPort n (fun p =>
    { p with
      trained := m
      recs := (x.map (fun r => ls.map (fun l => (l, r)))).getD []
      recOut := some (id, n, ls.getLast?.getD 7) })
  let s := ((s.setFld .lnkPort n 22 15 (255 - m.toNat)).setFld .lnkPort n 30 23 0)
  let s := (List.range 8).foldl (fun s l =>
    let b := if m.getLsbD l then 1 else 0
    (s.setFld .lnkLane (8 * n + l) 41 40 (1 - b)).setFld .lnkLane (8 * n + l) 42 42 b) s
  match x with
  | some r =>
    if s.wantLanes n ≠ 0 then
      ((s.applyWidth n (s.wantLanes n)).setPartner n r).modLink (fun k => { k with linkChanged := true })
    else ((s.setFld .lnkPort n 2 0 4).setFld .lnkPort n 6 3 0).setFld .lnkPort n 14 7 0
  | none => ((s.setFld .lnkPort n 2 0 4).setFld .lnkPort n 6 3 0).setFld .lnkPort n 14 7 0

/-- A unit of RESET_UNIT; reserved codes are any row's (R463, R475). -/
def resets (u : Nat) (k : Cmd) : Bool := decide (k.w 0 3 0 = u ∨ 4 < k.w 0 3 0)
def knownUnit (f : State → Cmd → Reply) (s : State) (k : Cmd) : Reply := if 4 < k.w 0 3 0 then s.fails 0x11 else f s k

/-- Units 0 and 1 with a lead registered outside QUIESCED need FORCE, with which the Gong sounds first (R475). -/
def needsForce (f : State → Cmd → Reply) (s : State) (k : Cmd) : Reply :=
  if k.w 0 16 16 = 1 then f (s.gong 5 s.link.me s.rosterVersion 24) k
  else if s.leadCtx.isSome ∧ s.plat.dev ≠ .quiesced then s.fails 0x14
  else f s k

/-- RESET_UNIT unit 0 (R475, R501, R504): OK is written, then the device resets. -/
def execResetUnitDevice (c : CmdSrc) (s : State) : Host.Outcome State Fault Refusal :=
  runThen c 0x08 (resets 0) (knownUnit (needsForce (fun s _ => s.ok)))
    (fun s _ => (s.warmReset 2).modBooth (fun b => { b with answer := s.booth.answer })) s

/-- RESET_UNIT unit 1 (R475, R504): Uzokel restarts; ring registers, Bells and the event log are kept. -/
def execResetUnitBooth (c : CmdSrc) (s : State) : Host.Outcome State Fault Refusal :=
  runCmd c 0x08 (resets 1) (knownUnit (needsForce (fun s k => s.boothRestart.accept k 350000))) s

/-- RESET_UNIT unit 2 (R475, R492): a fill instance on the Stage is preempted hard; its Bells clear; the Stage is as after reset but for
its Apron (log entry 21). -/
def execResetUnitStage (c : CmdSrc) (s : State) : Host.Outcome State Fault Refusal :=
  runCmd c 0x08 (resets 2) (knownUnit (fun s k =>
    let n := k.w 0 15 8
    if 144 ≤ n then s.fails 0x15
    else if Config.stageFused n = false ∨ (s.sched.retired.any (fun r => decide (r.1 = n))) = true then s.fails 0x11
    else if ((s.stage n).inst.map (fun (i : Inst) => i.lead)).getD false then s.fails 0x13
    else
      let s := match (s.stage n).inst with
        | some i => (match s.launch? i.launch with
          | some x => s.stopFill x
          | none => s)
        | none => s
      let s := (s.modStage n (fun t => { Stage.idle with ap := t.ap, ues := t.ues })).modBooth (fun b =>
        { b with bellF2P := mset Bell.clear b.bellF2P n Bell.clear, bellP2F := mset Bell.clear b.bellP2F n Bell.clear })
      s.accept k 25000)) s

/-- A port this part has. -/
def State.hasPort (s : State) (n : Nat) : Bool := decide (n < 24 ∧ s.fld .capLinks 0 n n = 1)

/-- RESET_UNIT unit 3 (R360, R475): the port goes down and trains again. -/
def execResetUnitLinkPort (c : CmdSrc) (s : State) : Host.Outcome State Fault Refusal :=
  runCmd c 0x08 (resets 3) (knownUnit (fun s k =>
    let n := k.w 0 15 8
    if !s.hasPort n then s.fails 0x15
    else (((s.portDown n).setFld .lnkPort n 2 0 1).modLink (fun l =>
      { l with retrain := l.retrain.filter (fun x => decide (x.1 / 8 ≠ n)) })).accept k 2000000)) s

/-- The storage Ethernet block is present (R2, R5). -/
def State.hasEth (s : State) : Bool := decide (s.fld .capUnits 0 0 0 = 1)

/-- RESET_UNIT unit 4 (R475): the Ethernet port trains again and connections through it start afresh. -/
def execResetUnitEthPort (c : CmdSrc) (s : State) : Host.Outcome State Fault Refusal :=
  runCmd c 0x08 (resets 4) (knownUnit (fun s k =>
    let e := k.w 0 15 8
    if !s.hasEth || decide (4 ≤ e) then s.fails 0x15
    else ((s.setFld .ethPort e 1 0 1).modPlat (fun p =>
      { p with eps := p.eps.filter (fun x => decide (s.fld .ethEpCfg x.1 2 1 ≠ e)) })).accept k 2000000)) s

/-- How RESET_UNIT ends (R466, R475): a Booth that has restarted takes packets again, a port has trained on the lanes that did not fail,
with the partner it had (log entry 21). -/
def State.endReset (s : State) (f : InFlight) (failed : List Nat) : State :=
  let ws := f.words.getD 0 0
  let u := bitsOf ws 3 0
  let n := bitsOf ws 15 8
  let s := if u = 1 then s.modBooth (fun b => { b with resetting := false })
    else if u = 3 then
      let m := laneMap ((List.range 8).filter (fun l => !failed.contains l))
      let p := s.port n
      let s := s.trainPort n m (if p.partner = 0 then none else some (p.partner, p.partnerPort))
      if s.portUp n then (s.resendBells n).post 0x0032 0 none [w64 n, w64 m.toNat] else s
    else if u = 4 then s.setFld .ethPort n 1 0 (if failed.isEmpty then 2 else 0)
    else s
  s.endCmd f 0 0 0

end Sys2Proof.Machine
end

