-- ==== Sys2Proof/Machine/Boot.lean ====
section
/-! DEFINITION. Power, reset pins and the boot phases (R222, R223, R236-R240, R338, R500-R509, R523, R536, R545-R547, R550, R555, R562). -/

namespace Sys2Proof.Machine

/-- PWRGOOD_RISE (R501, R504, R545, R547): a power-on reset; the boot begins unless PERST_N is asserted. -/
def execPwrgoodRise (railsOk : Bool) (s : State) : Host.Outcome State Fault Refusal :=
  if s.plat.pwrgood then .next s
  else .next ((s.modPlat (fun p => { p with pwrgood := true, railsOk := railsOk })).powerReset)

/-- PWRGOOD_FALL (R501, R546, R550): every clock stops, outputs float but FAULT_N; what is in registers and memories is lost. -/
def execPwrgoodFall (s : State) : Host.Outcome State Fault Refusal :=
  if !s.plat.pwrgood then .next s
  else
    let t := s.cleared (keepRegs [Reg.idnSvnFloor.off 0] s.regs) .empty
    .next (t.modPlat (fun p =>
      { p with
        pwrgood := false, dev := .off, cclkStopped := true, selfRefresh := true, txStopped := true, thermTrip := false
        faultN := s.plat.faultN, ports := { PortsSt.fresh with jtagHigh := true } }))

/-- PERST_ASSERT (R501, R504): a warm reset, whose boot waits for the pin. -/
def execPerstAssert (s : State) : Host.Outcome State Fault Refusal :=
  let t := s.modPlat (fun p => { p with perst := true })
  if s.plat.perst then .next s else if s.plat.dev = .off then .next t else .next (t.warmReset 1)

/-- PERST_DEASSERT (R501): the boot begins. -/
def execPerstDeassert (s : State) : Host.Outcome State Fault Refusal :=
  let t := s.modPlat (fun p => { p with perst := false })
  if !s.plat.perst then .next s else if s.plat.pwrgood then .next t.bootBegin else .next t

/-- A boot phase is in progress. -/
def State.inPhase (s : State) (k : Nat) : Bool := s.booting && s.plat.phase.contains k

/-- BOOT_ROM_DONE (R506, R507, R536, R547, R555): PLLs locked, fuses loaded, the PCIe link trained (log entry 7: at which speed and width). -/
def execBootRomDone (pllOk fuseOk : Bool) (s : State) : Host.Outcome State Fault Refusal :=
  if !s.inPhase 1 then .next s
  else if !(pllOk && fuseOk && s.plat.railsOk) then .next (s.romStart.enterFault 9)
  else .next (((((s.endPhase 1).setFld .clkPllStatus 0 24 0 0x1FFFFFF).setFld .pciLink 0 8 0 (6 + 16 * 2 ^ 3 + 2 ^ 8))).beginPhase 2)

/-- FIRMWARE_AUTH_DONE (R507, R509): the active image, else the previous one, whose choice is posted at READY; with neither, FAULT. -/
def execFirmwareAuthDone (s : State) : Host.Outcome State Fault Refusal :=
  if !s.inPhase 2 then .next s
  else
    let passes (i : Option Image) : Bool := match i with
      | some x => s.imagePasses x
      | none => false
    let run (s : State) : State :=
      ((s.endPhase 2).modPlat (fun p => { p with dev := .test, runFw := imageVer p.flash.active })).beginPhase 3
    if passes s.plat.flash.active then .next (run s)
    else if passes s.plat.flash.other then
      .next (run (s.modPlat (fun p => { p with flash := { p.flash with selB := !p.flash.selB }, bootEvents := p.bootEvents ++ [(2, 0)] })))
    else .next (s.enterFault 7)

/-- A Stage that fails at boot (R507, R514): retired with cause 0x01, posted at READY. -/
def State.bootRetire (s : State) (n : Nat) : State :=
  if Config.stageFused n = false ∨ (s.sched.retired.any (fun r => decide (r.1 = n))) = true then s
  else (s.modSched (fun q => { q with retired := q.retired ++ [(n, 1)] })).modPlat (fun p => { p with bootEvents := p.bootEvents ++ [(0, n)] })

/-- Stages retired in a phase (R300, R507): with fewer than 32 left FAULT, else the next phases begin. -/
def State.bootStages (s : State) (bad : List Nat) (k : Nat) (next : List Nat) : State :=
  let s := bad.foldl State.bootRetire s
  if s.availCount < 32 then s.enterFault 3 else next.foldl State.beginPhase (s.endPhase k)

/-- SRAM_TEST_DONE (R506, R507). -/
def execSramTestDone (badStages : List Nat) (sharedOk : Bool) (s : State) : Host.Outcome State Fault Refusal :=
  if !s.inPhase 3 then .next s
  else if !sharedOk then .next (s.enterFault 8)
  else .next (s.bootStages badStages 3 [4])

/-- STAGE_TEST_DONE (R506, R507): phases 5 to 7 run side by side. -/
def execStageTestDone (badStages : List Nat) (s : State) : Host.Outcome State Fault Refusal :=
  if !s.inPhase 4 then .next s else .next (s.bootStages badStages 4 [5, 6, 7])

/-- One of the three parallel phases ends; after the last, service start (R506). -/
def State.endParallel (s : State) (k : Nat) : State :=
  let s := s.endPhase k
  if s.plat.phase.isEmpty then s.beginPhase 8 else s

/-- Soft remaps to put back (R240): rows logged as remapped more often than as hard-repaired, whose repair the training applies. -/
def remapsLeft (log : List Repair) : List Repair :=
  let rows := ((log.filter (fun r => decide (r.kind = 2))).eraseDups)
  rows.filter (fun r => decide ((log.filter (fun x => decide (x.kind = 1 ∧ x.pc = r.pc ∧ x.row = r.row))).length
    < (log.filter (fun x => decide (x = r))).length))

/-- STACK_TRAINING_DONE (R223, R236, R240, R506, R507): the repair log applied, retired pages and channels tested afresh, failing channels
retired; a stack with none left is not in service. -/
def execStackTrainingDone (badChannels badPages : List Nat) (serials : List W64) (s : State) : Host.Outcome State Fault Refusal :=
  if !s.inPhase 5 then .next s
  else
    let bad := (List.range (pcCount / 2)).filter (fun c => badChannels.contains c)
    let new := bad.filter (fun c => !s.mem.log.any (fun r => decide (r.kind = 4 ∧ r.pc / 2 = c)))
    let pages := ((s.mem.log.filter (fun r => decide (r.kind = 3))).map (fun (r : Repair) => r.row)).eraseDups.filter (fun g => badPages.contains g)
    let s := new.foldl (fun (s : State) c => s.logRepair ⟨4, c / 32, 2 * c, 0⟩) s
    let counts := pages.foldl (fun (m : SMap Nat) g =>
      (((s.mem.log.filter (fun r => decide (r.kind = 3 ∧ r.row = g))).map (fun (r : Repair) => r.pc / 2)).eraseDups).foldl
        (fun m ch => mset 0 m ch (mget 0 m ch + 1)) m) []
    let s := { s with mem := { s.mem with remaps := remapsLeft s.mem.log, retiredPages := pages, retiredChans := bad, chanCount := counts } }
    let s := (s.setRemap bad).setFld .hbmCapacity 0 44 32 pages.length
    let s := (List.range Config.stackCount).foldl (fun (s : State) k =>
      let up := decide ((bad.filter (fun c => decide (c / 32 = k))).length < 32)
      (s.setFld .hbmStack k 1 1 (bit01 up)).wr .idnStackSerial k (if up then serials.getD k 0 else 0)) s
    let s := s.modPlat (fun p => { p with bootEvents := p.bootEvents ++ bad.map (fun c => (1, c)) })
    .next (s.endParallel 5)

/-- LINK_TRAINING_DONE (R338, R506, R507): each present port, with the partner that all its trained lanes name (none where they differ). -/
def execLinkTrainingDone (lanes : List (BitVec 8)) (partners : List (Option (W64 × Nat))) (s : State) : Host.Outcome State Fault Refusal :=
  if !s.inPhase 6 then .next s
  else
    let s := ((List.range 24).filter s.hasPort).foldl (fun (s : State) n => s.trainPort n (lanes.getD n 0) (partners.getD n none)) s
    .next (s.endParallel 6)

/-- ETH_TIME_DONE (R506, R507, R562). -/
def execEthTimeDone (up : BitVec 4) (s : State) : Host.Outcome State Fault Refusal :=
  if !s.inPhase 7 then .next s
  else
    let s := if s.hasEth then (List.range 4).foldl (fun (s : State) e => s.setFld .ethPort e 1 0 (if up.getLsbD e then 2 else 0)) s else s
    .next (s.endParallel 7)

/-- What the boot left to post (R507, R509): retirements, and the fall to the previous image, whose event has no type of its own (a free
value, log entry 12). -/
def State.bootPost (s : State) (x : Nat × Nat) : State :=
  if x.1 = 0 then s.post 0x0016 2 none [w64 x.2, 1]
  else if x.1 = 1 then s.post 0x0023 1 none [w64 (2 * x.2), w64 s.livePc]
  else s.free.2.post (bitsOf s.free.1 15 0) 1 none []

/-- SERVICE_START_DONE (R500, R501, R506-R508): READY. -/
def execServiceStartDone (s : State) : Host.Outcome State Fault Refusal :=
  if !s.inPhase 8 then .next s
  else
    let s := (s.endPhase 8).modPlat (fun p => { p with dev := .ready })
    let s := match s.plat.flash.active with
      | some i => s.runImage i
      | none => s
    .next ((s.plat.bootEvents.foldl State.bootPost s).modPlat (fun p => { p with bootEvents := [] }))

/-- ETH_PORT_RETRAIN (R507): a port that is down tries again. -/
def execEthPortRetrain (e : Nat) (ok : Bool) (s : State) : Host.Outcome State Fault Refusal :=
  if 4 ≤ e then .fault .noSuchUnit
  else if s.fld .ethPort e 1 0 = 0 ∧ s.hasEth = true ∧ s.plat.dev ≠ .off ∧ s.booting = false then
    .next (s.setFld .ethPort e 1 0 (if ok then 2 else 0))
  else .next s

end Sys2Proof.Machine
end

