-- ==== Sys2Proof/Machine/Xfers.lean ====
section
/-! DEFINITION. Storage transfers: inbound requests, responses, retries, congestion; objects read and checked, restores (R197, R232, R418,
R441, R446, R447, R471, R478, R559, R560). Packet-level readings are log entry 22. -/

namespace Sys2Proof.Machine

def State.epState (s : State) (ep : Nat) : Nat := s.fld .ethEpStatus ep 1 0
def State.ep (s : State) (i : Nat) : EpSt := mget EpSt.fresh s.plat.eps i
def State.setEp (s : State) (i : Nat) (x : EpSt) : State := s.modPlat (fun p => { p with eps := mset EpSt.fresh p.eps i x })
def State.epPort (s : State) (i : Nat) : Nat := s.fld .ethEpCfg i 2 1
/-- Bytes a connection moves count on its port (R564). -/
def State.ethMoved (s : State) (ep : Nat) (sent : Bool) (n : Nat) : State := s.bump (if sent then .ethTxBytes else .ethRxBytes) (s.epPort ep) n
def State.nak (s : State) (ep code : Nat) : State := s.modPlat (fun p => { p with naks := p.naks ++ [(ep, code)] })

/-- The endpoint's oldest open transfer. -/
def State.xferOn (s : State) (ep : Nat) : Option Xfer := s.plat.xfers.find? (fun x => decide (x.ep = ep) && x.opened)
def State.setXfer (s : State) (x y : Xfer) : State :=
  s.modPlat (fun p => { p with xfers := p.xfers.map (fun (z : Xfer) => if z = x then y else z) })
def State.dropXfers (s : State) (k : Nat) : State := s.modPlat (fun p => { p with xfers := p.xfers.filter (fun (x : Xfer) => decide (x.kind ≠ k)) })

/-- A run lies in one of the runs a transfer covers. -/
def Xfer.covers (x : Xfer) (pa len : Nat) : Bool := x.ranges.any (fun (r : Nat × Nat) => decide (r.1 ≤ pa ∧ pa + len ≤ r.1 + r.2))

/-- Sequence numbers of a connection after a message of `n` bytes (R558, R559): one per packet of 4,096 bytes. -/
def psnNext (psn n : Nat) : Nat := (psn + Nat.max 1 (cdiv n 4096)) % 2 ^ 24

/-- RDMA_REQUEST (R197, R232, R471, R559): a peer's read or write of device memory. -/
def execRdmaRequest (ep : Nat) (write : Bool) (pa len : Nat) (data : List Byte) (s : State) : Host.Outcome State Fault Refusal :=
  if 256 ≤ ep then .fault .noSuchUnit
  else if !s.hasEth || decide (s.epState ep ≠ 1) then .next s
  else
    let n := if write then data.length else len
    let s := if write then s.ethMoved ep false n else s
    let s := s.setEp ep { s.ep ep with recvPsn := psnNext (s.ep ep).recvPsn n }
    if !s.plat.xfers.any (fun x => decide (x.ep = ep) && x.opened && x.covers pa n) || !s.mapped pa n then .next (s.nak ep 0)
    else if write then
      (match s.memWrite 4 pa data with
      | .inl s => .next s
      | .inr .unmapped => .next (s.nak ep 0)
      | .inr _ => .next (s.addWaiter ⟨s.pageOwner pa, pa, n, some data, none⟩))
    else
      match s.memRead 4 false pa n with
      | .inl (bs, bad, s) => if bad.isEmpty then .next ((s.ethMoved ep true n).hostAnswer 0 bs) else .next (s.nak ep 1)
      | .inr .unmapped => .next (s.nak ep 0)
      | .inr _ => .next (s.addWaiter ⟨s.pageOwner pa, pa, n, none, none⟩)

/-- ROCE_SEND (R471). -/
def execRoceSend (ep : Nat) (s : State) : Host.Outcome State Fault Refusal :=
  if 256 ≤ ep then .fault .noSuchUnit
  else if !s.hasEth || decide (s.epState ep ≠ 1) then .next s
  else .next (s.nak ep 0)

/-- Manifests among the transfers of a restore (R441). -/
def Xfer.manifest (x : Xfer) : Bool := decide (65536 ≤ x.src ∧ (x.kind = 1 ∨ x.kind = 3))
def manifestField (m : List Byte) (j : Nat) : Nat := ofLe ((m.drop (8 * j)).take 8)
/-- A manifest agrees with its own digest. -/
def manifestOk (m : List Byte) : Bool :=
  let v := manifestField m 2
  decide (v ≤ 65536) && decide (sha256 (m.take 64 ++ (m.drop 96).take (32 + 64 * v + 80 * 4096)) = (m.drop 64).take 32)
def Xfer.good (x : Xfer) : Bool := if x.manifest then manifestOk x.data else decide (sha256 x.data = x.digest)
def Xfer.done (x : Xfer) : Bool := decide (x.failed ≠ 0 ∨ x.len ≤ x.acked)

/-- Data of a read (R418): a whole object that fails its digest is read once more. -/
def State.xferData (s : State) (x : Xfer) (bs : List Byte) : State :=
  let n := Nat.min bs.length (x.len - x.acked)
  let y := { x with data := x.data ++ bs.take n, acked := x.acked + n }
  s.setXfer x (if y.acked < y.len || y.good then y else if x.retried then { y with failed := 0x20 }
    else { y with retried := true, acked := 0, data := [] })

/-- The manifest a restore goes by: the one asked for, or of two the complete one of the later step (R474). -/
def State.chosen (s : State) (k : Nat) : Option Xfer :=
  let ms := s.plat.xfers.filter (fun x => decide (x.kind = k) && x.manifest)
  if ms.length ≤ 1 then ms.head?
  else
    (ms.filter (fun x => decide (x.failed = 0) && decide (manifestField x.data 4 % 2 = 1))).foldl (fun (b : Option Xfer) x => match b with
      | none => some x
      | some y => if manifestField y.data 1 < manifestField x.data 1 then some x else b) none

/-- How a restore stands (R418, R441, R478): none while it reads, 0 to be installed, else the status it ends with. -/
def State.restoreStatus (s : State) (k : Nat) : Option Nat :=
  let xs := s.plat.xfers.filter (fun x => decide (x.kind = k))
  match s.leadCtx with
  | none => some 0x11
  | some c =>
    if !xs.all Xfer.done then none
    else match s.chosen k with
      | none => some 0x21
      | some m =>
        if m.failed ≠ 0 then some m.failed
        else if manifestField m.data 4 % 2 = 0 ∨ w64 (manifestField m.data 0) ≠ c.jobId
            ∨ some (manifestField m.data 2) ≠ c.shape.map (fun (h : Shape) => h.vranks) then some 0x21
        else if xs.any (fun x => !x.manifest && decide (x.failed ≠ 0)) then some 0x20
        else if s.hosted.all (fun v => s.objectBytes = 0 || xs.any (fun x => decide (x.src = v))) then some 0 else none

/-- A tensor's bytes in an object, which holds them in the order of the classes (R408, R441). -/
def State.putObject (s : State) (v : Nat) (bs : List Byte) : State :=
  ((s.pbk.classes.map (fun (x : Nat × Nat) => x.1)).foldl (fun (p : State × List Byte) t =>
    let n := p.1.tensorBytes t
    (p.1.pokeBoth v t 0 (p.2.take n), p.2.drop n)) (s, bs)).1

/-- A tag record put back. -/
def State.restoreTag (s : State) (m : List Byte) (t : Nat) : State :=
  let b := (m.drop (128 + 64 * manifestField m 2 + 80 * t)).take 80
  let ms := (List.range 16).map (fun j => BitVec.ofNat 32 (ofLe ((b.drop (4 * j)).take 4)))
  (s.setFld .tlyScale t 7 0 (manifestField b 8)).modSched (fun q =>
    { q with hist := q.hist.filter (fun x => decide (x.tag ≠ t)) ++ [⟨t, ms⟩], nextExp := aput t (manifestField b 9 % 256) q.nextExp })

/-- The job goes back to a saved Curtain (R441, R446, R569): objects and tag records in place; its step's opening Curtain opens afresh, where
copies and parity are begun anew (log entry 20). -/
def State.installSave (s : State) (k : Nat) : State :=
  match s.leadCtx, s.chosen k with
  | some c, some m =>
    let xs := s.plat.xfers.filter (fun x => decide (x.kind = k) && !x.manifest)
    let s := s.dropLead.placeHosted
    let s := xs.foldl (fun (s : State) x => s.putObject x.src x.data) s
    let s := s.trackedTags.foldl (fun (s : State) t => s.restoreTag m.data t) s
    let s := (s.dropXfers k).modSched (fun q =>
      { q with
        step := manifestField m.data 1, begun := false, stepTally := tallyEmpty, jobTally := [], tallySent := false
        replayed := false, busyNs := [], meas := [], issueNs := 0 })
    let s := s.modLink (fun l => { l with curtain := 0, curtMsg := none, curtFrom := [], record := none })
    let s := s.modPbk (fun p =>
      { p with
        applied := [], parSelf := [], parSent := [], parCur := [], parWork := [], parRoster := none, waitReqs := [], replPrev := []
        log := [], kept := [], reqs := [], rebuilds := [], redirects := [], digests := [], scrubs := [], scrubIn := [], refill := []
        replays := [], begun := [], inputs := [], supplied := [], logAsked := [], restoring := none, restored := [(m.src % 65536, manifestField m.data 1)] })
    s.modCtx c.num (fun y => if y.suspCause = 4 then { y with suspCause := 1 } else y)
  | _, _ => s

/-- A fall-back that cannot load its save (R447). -/
def State.failRestore (s : State) : State :=
  let s := (s.dropXfers 3).modPbk (fun p => { p with restoring := none })
  match s.leadCtx with
  | some c => (s.suspend c.num 4).post 0x0044 3 (some c.num) []
  | none => s

/-- Objects of the hosted ranks are read as the manifest places them (R441, R446). -/
def State.readObjects (s : State) (k : Nat) : State :=
  match s.chosen k with
  | none => s
  | some m =>
    let ent (v : Nat) : List Byte := (m.data.drop (128 + 64 * v)).take 64
    let xs := (s.hosted.filter (fun _ => decide (0 < s.objectBytes))).map (fun v =>
      let e := ent v
      let x := Xfer.load m.ep (m.remote + manifestField e 1) m.key (manifestField e 2) v m.seq k ((e.drop 32).take 32) (s.rankRuns v)
      if manifestField e 2 = 0 then { x with failed := 0x20 } else x)
    s.modPlat (fun p => { p with xfers := p.xfers.filter (fun x => !(decide (x.kind = k) && x.manifest && decide (x ≠ m))) ++ xs })

/-- What follows data of a restore: with every manifest read the objects are; a fall-back with everything read is installed at once, a
SNAPSHOT_RESTORE when its last entry is written. -/
def State.stepRestore (s : State) (k : Nat) : State :=
  let xs := s.plat.xfers.filter (fun x => decide (x.kind = k))
  let s := if xs.all (fun x => x.manifest && x.done) && decide (s.restoreStatus k = none) then s.readObjects k else s
  if k = 3 then
    match s.restoreStatus 3 with
    | none => s
    | some 0 => s.installSave 3
    | some _ => s.failRestore
  else s

/-- An endpoint fails (R560, R563): STATE 3, and the transfers on it fail with their commands. -/
def State.failEp (s : State) (ep : Nat) : State :=
  let s := s.setFld .ethEpStatus ep 1 0 3
  let mine := s.plat.xfers.filter (fun x => decide (x.ep = ep) && x.opened)
  let s := s.setEp ep { s.ep ep with retries := 0 }
  let s := (mine.filter (fun x => decide (x.kind = 0))).foldl (fun (s : State) x =>
    (s.booth.inflight.filter (fun f => decide (f.opcode = 0x30 ∧ f.src = x.src ∧ f.seq = x.seq))).foldl (fun (s : State) f =>
      (s.modPlat (fun p => { p with xfers := p.xfers.filter (fun y => decide (y ≠ x)) })).endCmd f 0x13 0 (w64 ep)) s) s
  let s := if mine.any (fun x => decide (x.kind = 1)) then
      (s.booth.inflight.filter (fun f => decide (f.opcode = 0x33))).foldl (fun (s : State) f => s.endCmd f 0x13 0 (w64 ep))
        ((s.dropXfers 1).modPbk (fun p => { p with restoring := none }))
    else s
  let s := if mine.any (fun x => decide (x.kind = 2)) then s.failSave ep else s
  if mine.any (fun x => decide (x.kind = 3)) then s.failRestore else s

/-- RDMA_RESPONSE (R418, R456, R559, R560): data of the oldest open read, or the acknowledgement of the oldest open write, which a Curtain save
counts. -/
def execRdmaResponse (ep : Nat) (fatal : Bool) (data : List Byte) (s : State) : Host.Outcome State Fault Refusal :=
  if 256 ≤ ep then .fault .noSuchUnit
  else if s.epState ep ≠ 1 then .next s
  else
    match s.xferOn ep with
    | none => .next s
    | some x =>
      if fatal then .next (s.failEp ep)
      else
        let n := if x.write then x.len else Nat.min data.length x.len
        let s := s.ethMoved ep x.write n
        let s := s.setEp ep { s.ep ep with retries := 0, sendPsn := psnNext (s.ep ep).sendPsn n }
        if x.write then .next ((if x.kind = 2 then s.bump .pbkSaveBytes 0 n else s).modPlat (fun p =>
          { p with xfers := p.xfers.filter (fun y => decide (y ≠ x)) }))
        else .next ((s.xferData x data).stepRestore x.kind)

/-- RDMA_RETRY_TIMEOUT (R560). -/
def execRdmaRetryTimeout (ep : Nat) (s : State) : Host.Outcome State Fault Refusal :=
  if 256 ≤ ep then .fault .noSuchUnit
  else if s.epState ep ≠ 1 || (s.xferOn ep).isNone then .next s
  else if 7 ≤ (s.ep ep).retries then .next (s.failEp ep)
  else .next ((s.setEp ep { s.ep ep with retries := (s.ep ep).retries + 1 }).bump .ethRetx 0 1)

/-- ECN_CE_ARRIVAL (R559): a notification goes out, at most one in 50 µs. -/
def execEcnCeArrival (ep : Nat) (s : State) : Host.Outcome State Fault Refusal :=
  if 256 ≤ ep then .fault .noSuchUnit
  else if !s.hasEth || decide (s.epState ep ≠ 1) then .next s
  else if (s.ep ep).cnpSent then .next s
  else .next (s.setEp ep { s.ep ep with cnpSent := true, cnps := (s.ep ep).cnps + 1 })

/-- CNP_RECEIVE (R559): the rate halves, to no less than 1 GB/s. -/
def execCnpReceive (ep : Nat) (s : State) : Host.Outcome State Fault Refusal :=
  if 256 ≤ ep then .fault .noSuchUnit
  else if !s.hasEth || decide (s.epState ep ≠ 1) then .next s
  else .next (s.setEp ep { s.ep ep with rate := Nat.max 1 ((s.ep ep).rate / 2) })

/-- RATE_RECOVERY_TIMER (R559): 50 µs have passed without a notification: the rate rises by 1 GB/s up to the port's 100; the next marked
packet may be answered again. -/
def execRateRecoveryTimer (ep : Nat) (s : State) : Host.Outcome State Fault Refusal :=
  if 256 ≤ ep then .fault .noSuchUnit
  else if !s.hasEth || decide (s.epState ep ≠ 1) then .next s
  else .next (s.setEp ep { s.ep ep with rate := Nat.min 100 ((s.ep ep).rate + 1), cnpSent := false })

end Sys2Proof.Machine
end

