-- ==== Sys2Proof/Machine/BoothCmds.lean ====
section
/-! DEFINITION. The host's registers: reads and writes by access code, doorbells, slots, event queue, Bells, Tally ring, endpoints (R5-R12,
R188, R189, R245, R249, R254, R331, R457-R461, R488-R499, R505, R517, R536, R553, R562, R563). What a write that touches half a register, or
one field outside its range, does to the rest is log entry 23. -/

namespace Sys2Proof.Machine

/-- During the boot only the identity and the clock and power windows read true (R505). -/
def bootWindow (off : Nat) : Bool := decide (0x1C00000 ≤ off ∧ off < 0x1F00000)

/-- What the host reads at an offset (R5, R8-R10, R505). -/
def State.hostView (s : State) (off : Nat) : W64 :=
  if s.booting && !bootWindow off then
    match findReg off with
    | none => 0
    | some (r, i) => if r.absent i then 0 else regReset r i &&& w64 (accMask r.desc.fields (fun a => decide (a ≠ .wo)))
  else s.peekReg off

/-- The bits an access covers, and a half's place in them (R7). -/
def laneMask (half : Option Bool) : W64 := match half with
  | none => BitVec.allOnes 64
  | some false => 0xFFFFFFFF
  | some true => 0xFFFFFFFF00000000
def laneOut (half : Option Bool) (w : W64) : W64 := match half with
  | some true => w >>> 32
  | some false => w &&& 0xFFFFFFFF
  | none => w
def laneIn (half : Option Bool) (v : W64) : W64 := match half with
  | some true => v <<< 32
  | _ => v

/-- An aligned offset in BAR0 (R7, R554). -/
def barOffset (off : Nat) : Bool := decide (off % 8 = 0 ∧ off < 2 ^ 28)

/-- The host has read (R9): what it wrote before is visible (R244), then the value for it, what reading clears cleared. -/
def State.hostRead64 (s : State) (off : Nat) (half : Option Bool) : State :=
  let s := s.settleHost
  let v := laneOut half (s.hostView off)
  let s := if s.booting && !bootWindow off then s else s.clearRead off (laneMask half)
  s.modBooth (fun b => { b with readData := [v] })

/-- RC_REGISTER_READ (R7-R10). -/
def execRcRegisterRead (off : Nat) (half : Option Bool) (s : State) : Host.Outcome State Fault Refusal :=
  if s.barLive && barOffset off then .next (s.hostRead64 off half) else .next s

/-- F2H_BELL_READ (R491, R499). -/
def execF2hBellRead (i : Nat) (s : State) : Host.Outcome State Fault Refusal :=
  if 16 ≤ i then .fault .noSuchUnit
  else if s.barLive then .next (s.hostRead64 (Reg.belF2hData.off i) none) else .next s

/-- A stored register after a write (R9): RW bits take the value, a 1 clears a W1C bit. -/
def Reg.written (r : Reg) (mask old v : W64) : W64 :=
  let rw := w64 (accMask r.desc.fields (fun a => decide (a = .rw)))
  let w1c := w64 (accMask r.desc.fields (fun a => decide (a = .w1c)))
  masked old (rw &&& mask) v &&& ~~~(w1c &&& mask &&& v)

/-- Bits of fields whose value lies outside its range: their write is discarded (R249, R254, R553). -/
def Reg.outOfRange (r : Reg) (v : W64) : Nat :=
  let out (hi lo a b : Nat) : Nat := if a ≤ bitsOf v hi lo ∧ bitsOf v hi lo ≤ b then 0 else (2 ^ (hi + 1 - lo) - 1) * 2 ^ lo
  match r with
  | .wngScrub => out 11 0 10 3600
  | .hbmRepairCfg => out 7 0 2 255 + out 16 8 4 256
  | .hbmScrub => out 7 0 1 168
  | .bthPinCfg => out 8 1 1 255
  | .bthEvqCfg => out 7 3 6 16
  | .bthSlotCfg => out 4 1 0 10 + out 8 5 0 8
  | .bthCqIrq => out 8 1 1 255
  | _ => 0

/-- A plain write. -/
def State.store (s : State) (r : Reg) (i : Nat) (mask v : W64) : State :=
  s.wr r i (r.written (mask &&& ~~~(w64 (r.outOfRange (masked (s.rd r i) mask v)))) (s.rd r i) v)

/-- A doorbell (R458, R461); a slot that is not enabled does not use its rings (R457). -/
def State.ringDoorbell (s : State) (k h : Nat) : State :=
  if s.fld .bthSlotCfg k 0 0 = 0 then s
  else if s.sqSize k ≤ h then s.slotError k 1
  else s.setSlot k { s.slot k with head := h }

/-- A slot enabled (R457, R461). -/
def State.enableSlot (s : State) (k : Nat) (mask v : W64) : State := (s.store .bthSlotCfg k mask v).setSlot k SlotSt.fresh

/-- A slot disabled (R457, R461): its commands in flight go on, but their entries are discarded, even if the slot is enabled again; their
source reads 128 + k from now on. -/
def State.disableSlot (s : State) (k : Nat) (mask v : W64) : State :=
  let s := s.store .bthSlotCfg k mask v
  (s.modBooth (fun b => { b with inflight := b.inflight.map (fun (f : InFlight) => if f.src = k then { f with src := 128 + k } else f) })).modPlat
    (fun p => { p with xfers := p.xfers.map (fun (x : Xfer) => if x.kind = 0 ∧ x.src = k then { x with src := 128 + k } else x) })

/-- BTH_CQ_IRQ written: a vector whose condition now holds is raised (R489). -/
def State.raiseCq (s : State) (k : Nat) : State :=
  let x := s.slot k
  if s.fld .bthCqIrq k 0 0 = 1 ∧ 0 < x.unsignalled ∧ s.fld .bthCqIrq k 8 1 ≤ x.unsignalled then
    (s.setSlot k { x with unsignalled := 0 }).msi k
  else s

/-- BTH_EVQ_CFG written (R496): LOG2 holds while EN is set; setting EN starts the queue afresh. -/
def State.writeEvqCfg (s : State) (mask v : W64) : State :=
  let was := s.fld .bthEvqCfg 0 0 0
  let s := s.store .bthEvqCfg 0 (if was = 1 then mask &&& ~~~0xF8 else mask) v
  if was = 0 ∧ s.fld .bthEvqCfg 0 0 0 = 1 then (s.setFld .bthEvqHead 0 15 0 0).setFld .bthEvqTail 0 15 0 0 else s

/-- TLY_CTRL written (R188): RING_EN is set only with a ring that fits; that starts it afresh. -/
def State.writeTlyCtrl (s : State) (mask v : W64) : State :=
  let was := s.fld .tlyCtrl 0 0 0
  let t := s.store .tlyCtrl 0 mask v
  if was = 0 ∧ t.fld .tlyCtrl 0 0 0 = 1 then
    let n := s.fld .tlyRingSize 0 15 0
    if n < 128 ∨ s.ceiling < s.fld .tlyRingBase 0 47 12 * 4096 + n * 4096 then s
    else (t.setFld .tlyRingHead 0 31 0 0).setFld .tlyRingTail 0 31 0 0
  else t

/-- TLY_SCALE written (R189): a tag that is not tracked holds INIT in EXP. -/
def State.writeScale (s : State) (i : Nat) (mask v : W64) : State :=
  let t := s.store .tlyScale i mask v
  if t.fld .tlyScale i 26 26 = 1 then t else t.setFld .tlyScale i 7 0 (t.fld .tlyScale i 15 8)

/-- A Bell of the host's (R491). -/
def State.ringHost (s : State) (i : Nat) (w : W64) : State :=
  if (mget Bell.clear s.booth.bellH2F i).full then s.setFlag .belOvrHost i
  else s.modBooth (fun b => { b with bellH2F := ring b.bellH2F i w, lastH2F := mset 0 b.lastH2F i w })

/-- An endpoint enabled (R559): both sequence numbers 0. -/
def State.enableEp (s : State) (i : Nat) (mask v : W64) : State :=
  ((s.store .ethEpCfg i mask v).setFld .ethEpStatus i 1 0 1).setEp i EpSt.fresh

/-- An endpoint disabled (R560, R563): what is open on it fails. -/
def State.disableEp (s : State) (i : Nat) (mask v : W64) : State :=
  let s := if (s.xferOn i).isSome then s.failEp i else s
  ((s.store .ethEpCfg i mask v).setFld .ethEpStatus i 1 0 0).setEp i EpSt.fresh

/-- A storage port's addresses are held while an enabled endpoint uses it (R562). -/
def State.portInUse (s : State) (e : Nat) : Bool := (List.range 256).any (fun i => decide (s.fld .ethEpCfg i 0 0 = 1 ∧ s.epPort i = e))

/-- CLK_TIME_CFG written (R522, R536): a change of source starts the search for it. -/
def State.writeTimeCfg (s : State) (mask v : W64) : State :=
  let src (t : State) : Nat := let x := t.fld .clkTimeCfg 0 1 0; if x = 1 ∧ t.hasEth = false then 0 else x
  let t := s.store .clkTimeCfg 0 mask v
  if src t = src s then t
  else (t.setFld .clkTimeStatus 0 1 0 (if src t = 0 then 0 else 1)).modPlat (fun p => { p with time := { p.time with good := 0, lastEdge := none } })

/-- A write that sets, or clears, an EN field in bit 0. -/
def setsBit0 (mask v : W64) : Bool := mask.getLsbD 0 && v.getLsbD 0
def clearsBit0 (mask v : W64) : Bool := mask.getLsbD 0 && !v.getLsbD 0

/-- A write of a register (R9): by access code, but for the registers whose rules say more. -/
def State.regWrite (s : State) (r : Reg) (i : Nat) (mask v : W64) : State :=
  let slotOn := decide (s.fld .bthSlotCfg i 0 0 = 1)
  let epOn := decide (s.fld .ethEpCfg i 0 0 = 1)
  match r with
  | .bthDb => if mask.getLsbD 0 then s.ringDoorbell i (bitsOf v 15 0) else s
  | .bthSlotCfg =>
    if slotOn then (if clearsBit0 mask v then s.disableSlot i mask v else s)
    else if setsBit0 mask v then s.enableSlot i mask v else s.store r i mask v
  | .bthSqBase => if slotOn then s else s.store r i mask v
  | .bthCqBase => if slotOn then s else s.store r i mask v
  | .bthCqIrq => (s.store r i mask v).raiseCq i
  | .bthEvqBase => if s.fld .bthEvqCfg 0 0 0 = 1 then s else s.store r i mask v
  | .bthEvqCfg => s.writeEvqCfg mask v
  | .belH2fData => s.ringHost i (masked (mget 0 s.booth.lastH2F i) mask v)
  | .tlyCtrl => s.writeTlyCtrl mask v
  | .tlyRingBase => if s.fld .tlyCtrl 0 0 0 = 1 then s else s.store r i mask v
  | .tlyRingSize => if s.fld .tlyCtrl 0 0 0 = 1 then s else s.store r i mask v
  | .tlyScale => if s.leadCtx.isSome then s else s.writeScale i mask v
  | .ethPortMac => if s.portInUse i then s else s.store r i mask v
  | .ethPortIp => if s.portInUse (i / 2) then s else s.store r i mask v
  | .ethEpCfg =>
    if epOn then (if clearsBit0 mask v then s.disableEp i mask v else s)
    else if setsBit0 mask v then s.enableEp i mask v else s.store r i mask v
  | .ethEpMac => if epOn then s else s.store r i mask v
  | .ethEpIphi => if epOn then s else s.store r i mask v
  | .ethEpIplo => if epOn then s else s.store r i mask v
  | .clkTimeCfg => s.writeTimeCfg mask v
  | .clkTimeSet => if s.fld .clkTimeCfg 0 1 0 = 2 then s.modPlat (fun p => { p with time := { p.time with setSec := some (masked (p.time.setSec.getD 0) mask v) } }) else s
  | .idnState => if (mask &&& v).getLsbD 26 then s.modPlat (fun p => { p with flash := { p.flash with trip := false } }) else s
  | _ => s.store r i mask v

/-- Slot registers, which take writes during the boot as well (R466). -/
def Reg.isSlot (r : Reg) : Bool := match r with
  | .bthSlotCfg | .bthSqBase | .bthCqBase | .bthCqIrq | .bthDb | .bthCqTail => true
  | _ => false

/-- A write arrives at BAR0 (R5, R8, R466, R505). -/
def State.barWrite (s : State) (off : Nat) (mask v : W64) : State :=
  if !s.barLive then s
  else match findReg off with
    | none => s
    | some (r, i) => if r.absent i || (s.booting && !(bootWindow off || r.isSlot)) then s else s.regWrite r i mask v

/-- REGISTER_WRITE (R7-R11). -/
def execRegisterWrite (off : Nat) (half : Option Bool) (v : W64) (s : State) : Host.Outcome State Fault Refusal :=
  if barOffset off then .next (s.barWrite off (laneMask half) (laneIn half v)) else .next s

/-- DOORBELL (R458, R461). -/
def execDoorbell (k : Nat) (h : BitVec 16) (s : State) : Host.Outcome State Fault Refusal :=
  if 64 ≤ k then .fault .noSuchUnit else .next (s.barWrite (Reg.bthDb.off k) 0xFFFFFFFF (w64 h.toNat))

/-- SLOT_ENABLE (R457): a write that sets EN of a slot that has it clear. -/
def execSlotEnable (k : Nat) (v : W64) (s : State) : Host.Outcome State Fault Refusal :=
  if 64 ≤ k then .fault .noSuchUnit
  else if s.fld .bthSlotCfg k 0 0 = 0 ∧ v.getLsbD 0 = true then .next (s.barWrite (Reg.bthSlotCfg.off k) (BitVec.allOnes 64) v)
  else .next s

/-- SLOT_DISABLE (R457, R461): EN cleared, the other fields written back as they are. -/
def execSlotDisable (k : Nat) (s : State) : Host.Outcome State Fault Refusal :=
  if 64 ≤ k then .fault .noSuchUnit
  else if s.fld .bthSlotCfg k 0 0 = 1 then .next (s.barWrite (Reg.bthSlotCfg.off k) (BitVec.allOnes 64) (s.rd .bthSlotCfg k &&& ~~~1)) else .next s

/-- EVQ_ENABLE (R488, R496): a write that sets EN of the event queue. -/
def execEvqEnable (v : W64) (s : State) : Host.Outcome State Fault Refusal :=
  if s.fld .bthEvqCfg 0 0 0 = 0 ∧ v.getLsbD 0 = true then .next (s.barWrite (Reg.bthEvqCfg.off 0) (BitVec.allOnes 64) v) else .next s

/-- CQ_COALESCE_TIMER (R489): the oldest entry not signalled is COAL_US µs old. -/
def execCqCoalesceTimer (k : Nat) (s : State) : Host.Outcome State Fault Refusal :=
  if 64 ≤ k then .fault .noSuchUnit
  else if s.fld .bthCqIrq k 0 0 = 1 ∧ s.fld .bthCqIrq k 23 9 ≠ 0 ∧ 0 < (s.slot k).unsignalled then
    .next ((s.setSlot k { s.slot k with unsignalled := 0 }).msi k)
  else .next s

/-- H2F_BELL_WRITE (R491, R499). -/
def execH2fBellWrite (i : Nat) (w : W64) (s : State) : Host.Outcome State Fault Refusal :=
  if 16 ≤ i then .fault .noSuchUnit else .next (s.barWrite (Reg.belH2fData.off i) (BitVec.allOnes 64) w)

/-- H2F_BELL_TAKE (R489, R494): Uzokel takes a word; Bell 0's goes back through F2H 0, once that is clear. -/
def execH2fBellTake (i : Nat) (s : State) : Host.Outcome State Fault Refusal :=
  if 16 ≤ i then .fault .noSuchUnit
  else
    let b := mget Bell.clear s.booth.bellH2F i
    let echo := mget Bell.clear s.booth.bellF2H 0
    if !s.taking || !b.full || (decide (i = 0) && echo.full) then .next s
    else
      let s := (s.modBooth (fun x => { x with bellH2F := mset Bell.clear x.bellH2F i Bell.clear })).msi 66
      if i = 0 then .next ((s.modBooth (fun x => { x with bellF2H := ring x.bellF2H 0 b.word })).msi 65) else .next s

/-- P2F_BELL_TAKE (R494): the word is taken while the event queue has room or is disabled. -/
def execP2fBellTake (n : Nat) (s : State) : Host.Outcome State Fault Refusal :=
  if 144 ≤ n then .fault .noSuchUnit
  else
    let size := 2 ^ s.fld .bthEvqCfg 0 7 3
    let room := decide (s.fld .bthEvqCfg 0 0 0 = 0) || decide ((s.fld .bthEvqHead 0 15 0 + 1) % size ≠ s.fld .bthEvqTail 0 15 0 % size)
    if s.taking && room then .next (s.takeP2f n) else .next s

/-- TLY_RING_ENABLE (R188): a write that sets RING_EN. -/
def execTlyRingEnable (v : W64) (s : State) : Host.Outcome State Fault Refusal :=
  if s.fld .tlyCtrl 0 0 0 = 0 ∧ v.getLsbD 0 = true then .next (s.barWrite (Reg.tlyCtrl.off 0) (BitVec.allOnes 64) v) else .next s

/-- ENDPOINT_ENABLE (R559, R563). -/
def execEndpointEnable (i : Nat) (v : W64) (s : State) : Host.Outcome State Fault Refusal :=
  if 256 ≤ i then .fault .noSuchUnit
  else if s.fld .ethEpCfg i 0 0 = 0 ∧ v.getLsbD 0 = true then .next (s.barWrite (Reg.ethEpCfg.off i) (BitVec.allOnes 64) v)
  else .next s

/-- ENDPOINT_DISABLE (R560, R563): EN cleared, the other fields written back as they are. -/
def execEndpointDisable (i : Nat) (s : State) : Host.Outcome State Fault Refusal :=
  if 256 ≤ i then .fault .noSuchUnit
  else if s.fld .ethEpCfg i 0 0 = 1 then .next (s.barWrite (Reg.ethEpCfg.off i) (BitVec.allOnes 64) (s.rd .ethEpCfg i &&& ~~~1)) else .next s

/-- LAST_TRIP_CLEAR (R517). -/
def execLastTripClear (s : State) : Host.Outcome State Fault Refusal := .next (s.barWrite (Reg.idnState.off 0) (BitVec.allOnes 64) 0x4000000)

end Sys2Proof.Machine
end

