-- ==== Sys2Proof/Machine/CamodCfg.lean ====
section
/-! DEFINITION. SET_CONFIG and COMMIT_CONFIG (R203, R218, R221, R255, R329, R347, R391, R393, R450-R452, R483-R485, R524). -/

namespace Sys2Proof.Machine

/-- The kinds of R483: 0 Curtain, 1 deferred effect, 2 quiesce-only. -/
def cfgKind (r : Reg) : Option Nat :=
  match r with
  | .smgCfg | .lnkCfg | .lnkThresh | .lnkVcCred | .pbkSaveCfg | .pbkScrub | .pbkTmo | .hbmRegRd | .hbmRegWr | .hbmRegSys | .hbmLeadGuar =>
    some 0
  | .hbmCapacity | .pbkPolicy => some 1
  | .wngPart | .clkCclkRange | .hbmInterleave => some 2
  | _ => none

/-- The bits of a target's fields. -/
def cfgMask (r : Reg) : W64 :=
  match r with
  | .hbmCapacity => 0x1F0000
  | .wngPart => 0xFFFF0000
  | _ => w64 (accMask r.desc.fields (fun _ => true))

/-- The frequency of the slowest field's speed bin (R517, R524). -/
def State.binMhz (s : State) : Nat :=
  1800 - 100 * ((List.range 4).map (fun f => s.fld .idnWafer 0 (25 + 2 * f) (24 + 2 * f))).foldl Nat.max 0

/-- The ranges of single fields. -/
def State.cfgRange (s : State) (r : Reg) (i : Nat) (v : W64) : Bool :=
  let f (hi lo : Nat) : Nat := bitsOf v hi lo
  let in' (hi lo a b : Nat) : Bool := decide (a ≤ f hi lo ∧ f hi lo ≤ b)
  match r with
  | .smgCfg => in' 7 0 1 100 && in' 11 8 1 15 && in' 18 12 0 64 && in' 31 24 1 128 && in' 55 48 32 128
  | .lnkCfg => in' 7 0 5 255 && in' 19 8 10 3600
  | .lnkThresh => in' 23 0 1000 12800000 && decide (100 ≤ f 47 24) && in' 63 48 10 65535
  | .lnkVcCred => (if i < 6 then decide (136 ≤ f 10 0) else decide (f 10 0 = 0))
      && (if i < 4 then in' 19 16 1 15 else decide (f 19 16 = 0))
  | .pbkSaveCfg => in' 11 0 60 3600 && in' 20 12 1 400 && in' 28 21 1 255
  | .pbkScrub => in' 10 0 0 1024
  | .pbkTmo => in' 7 0 20 200
  | .pbkPolicy => in' 15 0 4 65535 && in' 35 24 1 4095 && in' 39 36 4 8
  | .hbmRegRd | .hbmRegWr | .hbmRegSys => in' 14 0 0 30720 && in' 31 16 1 65535
  | .hbmLeadGuar => in' 14 0 0 27000
  | .hbmCapacity => in' 20 16 0 16
  | .clkCclkRange => decide (f 11 0 % 25 = 0 ∧ f 23 12 % 25 = 0 ∧ 800 ≤ f 11 0 ∧ f 23 12 ≤ s.binMhz)
  | _ => true

/-- Bounds that fields put on one another, on the values a packet would leave (R347, R391, R524). -/
def State.cfgMeet (s : State) : Bool :=
  decide (s.fld .lnkThresh 0 47 24 ≤ s.fld .lnkThresh 0 23 0) && decide (s.fld .clkCclkRange 0 11 0 ≤ s.fld .clkCclkRange 0 23 12)
    && decide (((List.range 8).map (fun v => s.fld .lnkVcCred v 10 0)).sum ≤ 1536)

/-- Entries of a SET_CONFIG packet, three words each (R474). -/
def cfgEntries (src : Nat) (seq : W32) : Nat → List W64 → List StagedCfg
  | 0, _ => []
  | n + 1, ws => ⟨(ws.getD 0 0).toNat, ws.getD 1 0, ws.getD 2 0, src, seq⟩ :: cfgEntries src seq n (ws.drop 3)

/-- An entry names bits of target fields only, and its value lies in them (R474, R483). -/
def entryOk (e : StagedCfg) : Bool :=
  match findReg e.off with
  | none => false
  | some (r, _) => (cfgKind r).isSome && decide (e.mask ≠ 0 ∧ e.mask &&& ~~~(cfgMask r) = 0 ∧ e.value &&& ~~~e.mask = 0)

/-- Register values with staged entries put in, wherever they stand: what a later entry's range is checked on. -/
def State.tryCfg (s : State) (e : StagedCfg) : State :=
  match findReg e.off with
  | none => s
  | some (r, i) => s.wr r i (masked (s.rd r i) e.mask e.value)

/-- Every entry's range, each on the value it leaves, and the bounds between fields at the end. -/
def cfgRangesOk : State → List StagedCfg → Bool
  | s, [] => s.cfgMeet
  | s, e :: t =>
    let s := s.tryCfg e
    (match findReg e.off with
    | some (r, i) => s.cfgRange r i (s.rd r i)
    | none => false) && cfgRangesOk s t

def kindOf (e : StagedCfg) : Nat := ((findReg e.off).bind (fun x => cfgKind x.1)).getD 0
def names (r : Reg) (e : StagedCfg) : Bool := (findReg e.off).map (fun (x : Reg × Nat) => x.1) == some r

/-- The segments of partition `p` after a packet (R203). -/
def State.partAfter (s : State) (es : List StagedCfg) (p : Nat) : BitVec 16 :=
  let old := match s.ctx? (p / 2) with
    | some c => if p % 2 = 0 then c.cacheMask else c.scratchMask
    | none => 0
  es.foldl (fun m e => if findReg e.off = some (.wngPart, p) then
    BitVec.ofNat 16 (bitsOf (masked (w64 (m.toNat * 2 ^ 16)) e.mask e.value) 31 16) else m) old

/-- The partitions a packet would leave are disjoint, belong to resident contexts, and none of those is left without a segment (R202, R203,
R483). -/
def State.partsOk (s : State) (es : List StagedCfg) : Bool :=
  let ms := (List.range 32).map (fun p => s.partAfter es p)
  let resident (k : Nat) : Bool := match s.ctx? k with
    | some c => c.resident
    | none => false
  ((ms.foldl (fun (a : BitVec 16 × Bool) m => (a.1 ||| m, a.2 && decide (a.1 &&& m = 0))) (0, true)).2)
    && (List.range 16).all (fun k =>
      let any' := decide ((s.partAfter es (2 * k) ||| s.partAfter es (2 * k + 1)) ≠ 0)
      any' == resident k)

/-- A range cut at segment boundaries. -/
def splitSegs : Nat → Range → List Range
  | 0, r => [r]
  | k + 1, r =>
    let n := 2 ^ 28 - (r.pa - scratchBase) % 2 ^ 28
    if r.pa < scratchBase ∨ scratchBase + 2 ^ 32 ≤ r.pa ∨ r.len ≤ n then [r]
    else ⟨r.off, n, r.pa⟩ :: splitSegs k ⟨r.off + n, r.len - n, r.pa + n⟩

/-- A range lies in one of some scratch segments. -/
def inSegs (m : BitVec 16) (r : Range) : Bool :=
  decide (scratchBase ≤ r.pa ∧ r.pa < scratchBase + 2 ^ 32) && m.getLsbD ((r.pa - scratchBase) / 2 ^ 28)

/-- A context with the ranges of its tensor table cut at segment boundaries. -/
def Ctx.cutTable (c : Ctx) : Ctx :=
  { c with tensors := c.tensors.map (fun (t : TensorPlace) =>
      { t with ranges := t.ranges.flatMap (splitSegs 16), shadow := t.shadow.flatMap (splitSegs 16) }) }

/-- The moves that take what lies in leaving scratch segments into the context's spare stack pages (R203); none where they do not hold it. -/
def State.movesOut (s : State) (c : Ctx) (gone : BitVec 16) : Option (List (Nat × Nat × Nat)) :=
  fitRuns ((((c.cutTable.tensors.flatMap (fun t => t.ranges ++ t.shadow)).filter (inSegs gone))).map (fun (r : Range) => (r.pa, r.len)))
    (s.sparePages c, 0)

/-- One context's partitions changed (R203): a cache that loses segments is written back; what lay in a leaving scratch segment moves to the
context's stack pages, with the tensor table and the positions of ordered lines (log entry 19). -/
def State.setParts (s : State) (c : Ctx) (cache scratch : BitVec 16) : State :=
  if cache = c.cacheMask ∧ scratch = c.scratchMask then s
  else
    let gone := c.scratchMask &&& ~~~scratch
    let s := if c.cacheMask &&& ~~~cache = 0 then s else s.flushCtx c.num true
    let mv := (s.movesOut c gone).getD []
    let s := ((s.modCtx c.num (fun y => { y with cacheMask := cache })).moveRuns mv).freeScratch gone
    let s := s.modCtx c.num (fun y =>
      { y with
        scratchMask := scratch, cacheSegs := popMask cache, scratchSegs := popMask scratch
        tensors := if mv.isEmpty then y.tensors else y.cutTable.tensors.map (TensorPlace.follow mv) })
    if mv.isEmpty then s else s.blockGen 5

/-- Entries put in force at once (R203, R218, R227, R483). -/
def State.applyNow (s : State) (es : List StagedCfg) : State :=
  let s' := (es.filter (fun e => !names .wngPart e)).foldl State.applyCfg s
  s.sched.ctxs.foldl (fun t c => t.setParts c (s.partAfter es (2 * c.num)) (s.partAfter es (2 * c.num + 1))) s'

/-- The rule of R483 on a packet's entries. -/
def State.setConfig (s : State) (k : Cmd) : Reply :=
  let n := k.params.length / 3
  let es := cfgEntries k.src k.seq n k.params
  let base := (s.booth.autoStaged ++ s.booth.staged).foldl State.tryCfg s
  let quiet := decide (s.plat.dev = .quiesced)
  if k.params.length % 3 ≠ 0 ∨ n = 0 ∨ 256 < n then s.fails 0x11
  else if !es.all entryOk || !cfgRangesOk base es then s.fails 0x11
  else if es.any (fun e => decide (kindOf e = 2)) && !quiet then s.fails 0x14
  else if es.any (names .wngPart) && !s.partsOk es then s.fails 0x11
  else if es.any (names .hbmInterleave) && !s.sched.ctxs.isEmpty then s.fails 0x13
  else if s.sched.ctxs.any (fun c =>
      (s.movesOut c (c.scratchMask &&& ~~~(s.partAfter es (2 * c.num + 1)))).isNone) then s.fails 0x13
  else if s.leadCtx.isNone || quiet then (s.applyNow es).ok
  else if 256 < s.booth.staged.length + n then s.fails 0x13
  else (s.modBooth (fun b => { b with staged := b.staged ++ es })).staged k

/-- SET_CONFIG (R483, R484). -/
def execSetConfig (c : CmdSrc) (s : State) : Host.Outcome State Fault Refusal := runCmd c 0x03 anyOf State.setConfig s

/-- A mode of COMMIT_CONFIG; the reserved one is any row's (R463). -/
def modeIs (m : Nat) (k : Cmd) : Bool := decide (k.w 0 1 0 = m ∨ k.w 0 1 0 = 3)
def notReserved (f : State → Cmd → Reply) (s : State) (k : Cmd) : Reply := if k.w 0 1 0 = 3 then s.fails 0x11 else f s k

/-- COMMIT_CONFIG mode 0 (R485). -/
def execCommitStaged (c : CmdSrc) (s : State) : Host.Outcome State Fault Refusal :=
  runCmd c 0x04 (modeIs 0) (notReserved (fun s k =>
    let susp := match s.leadCtx with
      | some x => x.suspended
      | none => true
    if susp || decide (s.plat.dev = .quiesced) then s.commitStaged.ok else s.staged k)) s

/-- Transfer commands in flight, and transfers open (R471, R485). -/
def State.transferring (s : State) : Bool :=
  s.booth.inflight.any (fun f => [0x10, 0x30, 0x32, 0x33].contains f.opcode) || !s.plat.xfers.isEmpty

/-- COMMIT_CONFIG mode 1 (R485, R501). -/
def execEnterQuiesced (c : CmdSrc) (s : State) : Host.Outcome State Fault Refusal :=
  runCmd c 0x04 (modeIs 1) (notReserved (fun s _ =>
    if s.plat.dev = .quiesced then s.ok
    else if s.sched.ctxs.all (fun x => x.suspended) && s.pbk.recast.isNone && decide (s.plat.dev = .ready ∨ s.plat.dev = .run)
        && !s.transferring then (s.modPlat (fun p => { p with dev := .quiesced })).ok
    else s.fails 0x13)) s

/-- COMMIT_CONFIG mode 2 (R485, R501). -/
def execLeaveQuiesced (c : CmdSrc) (s : State) : Host.Outcome State Fault Refusal :=
  runCmd c 0x04 (modeIs 2) (notReserved (fun s _ =>
    if s.plat.dev = .quiesced then (s.modPlat (fun p => { p with dev := if s.sched.ctxs.isEmpty then .ready else .run })).ok else s.ok)) s

end Sys2Proof.Machine
end

