-- ==== Sys2Proof/Machine/CamodJob.lean ====
section
/-! DEFINITION. Job commands: CONTEXT_CREATE, CONTEXT_DESTROY, CONTEXT_SUSPEND, CONTEXT_RESUME, CUE_SHEET_SET, LOAD_SCORE (R258, R282,
R290-R303, R371, R397, R399, R473-R478, R485). -/

namespace Sys2Proof.Machine

def State.quiesced (s : State) : Bool := decide (s.plat.dev = .quiesced)

/-- Free pages from a page on, at most `n` (R202, R295: which ones is the Stage Manager's choice, log entry 19). -/
def State.pickPages (s : State) : Nat → Nat → Nat → List Nat
  | 0, _, _ => []
  | k + 1, n, g => if n = 0 then [] else if s.freePage g then g :: State.pickPages s k (n - 1) (g + 1) else State.pickPages s k n (g + 1)

/-- The lowest segments in no partition. -/
def State.pickSegs (s : State) (n : Nat) (but : BitVec 16) : BitVec 16 :=
  let used := s.sched.ctxs.foldl (fun m (y : Ctx) => m ||| y.cacheMask ||| y.scratchMask) but
  (((List.range 16).filter (fun i => !used.getLsbD i)).take n).foldl (fun m i => m ||| (1#16 <<< i)) 0

/-- Pages no context holds and that may be assigned (R253, R476). -/
def State.pagesLeft (s : State) : Nat := s.allocPages - (s.sched.ctxs.map Ctx.pagesNeeded).sum

/-- A context registered (R202, R203, R225, R290-R294, R474, R476). -/
def State.createCtx (s : State) (k : Cmd) (num : Nat) (resident : Bool) : State :=
  let lead := decide (k.w 0 0 0 = 1)
  let cache := if resident then s.pickSegs (k.w 0 8 4) 0 else 0
  let scratch := if resident then s.pickSegs (k.w 0 13 9) cache else 0
  let c : Ctx :=
    { num := num, lead := lead, prio := k.w 0 3 1, resident := resident, suspended := false, suspCause := 0, resumed := false, jobId := k.word 2
      seed := k.word 1, cacheSegs := k.w 0 8 4, scratchSegs := k.w 0 13 9, cacheMask := cache, scratchMask := scratch
      stackGib := k.w 0 31 16, score := none, shape := none, tensors := [], wsets := [], mbNext := 0, submitted := 0
      since := s.now.toNat, preemptRun := 0, saved := [], savedRng := [] }
  let pages := s.pickPages 589824 c.pagesNeeded 0
  let w3 := k.word 3
  let s := (s.wr .hbmRegRd num (w64 (bitsOf w3 31 0))).wr .hbmRegWr num (w64 (bitsOf w3 63 32))
  let s := { s with
    mem := { s.mem with
      pages := pages.foldr (fun g m => mset 0 m g (num + 1)) s.mem.pages
      tokens := mset 0 (mset 0 s.mem.tokens num 0) (16 + num) 0 } }
  let s := (s.modSched (fun q => { q with ctxs := q.ctxs ++ [c] })).blockGen 5
  if s.plat.dev = .ready then s.modPlat (fun p => { p with dev := .run }) else s

/-- CONTEXT_CREATE (R290, R291, R294, R476, R485). -/
def execContextCreate (c : CmdSrc) (s : State) : Host.Outcome State Fault Refusal :=
  runCmd c 0x11 anyOf (fun s k =>
    let lead := decide (k.w 0 0 0 = 1)
    let segs := k.w 0 8 4 + k.w 0 13 9
    let resident := lead || decide (s.fillResident.length < 3)
    let leadSegs := match s.leadCtx with
      | some x => popMask x.cacheMask + popMask x.scratchMask
      | none => 0
    if s.quiesced then s.fails 0x13
    else if k.w 0 31 16 = 0 ∨ 1152 < k.w 0 31 16 ∨ k.w 3 31 16 = 0 ∨ k.w 3 63 48 = 0 ∨ 30720 < k.w 3 14 0 ∨ 30720 < k.w 3 46 32 then
      s.fails 0x11
    else if 16 ≤ s.sched.ctxs.length then s.fails 0x13
    else if lead && s.leadCtx.isSome then s.fails 0x11
    else if segs = 0 ∨ (if resident then s.freeSegs else 16 - leadSegs) < segs then s.fails 0x11
    else if s.pagesLeft < 512 * k.w 0 31 16 then s.fails 0x11
    else
      let num := lowestFree (s.sched.ctxs.map (fun (x : Ctx) => x.num))
      (s.createCtx k num resident).ok (w64 num)) s

/-- A context gone, and the device's state after (R294, R501). -/
def State.destroyCtx (s : State) (c : Nat) : State :=
  let t := s.freeCtx c
  (if t.plat.dev = .recast ∧ t.leadCtx.isNone = true then t.modPlat (fun p => { p with dev := .run }) else t).settle

/-- CONTEXT_DESTROY (R204, R294, R484). -/
def execContextDestroy (c : CmdSrc) (s : State) : Host.Outcome State Fault Refusal :=
  runCmd c 0x12 anyOf (fun s k =>
    match s.ctx? k.ctx with
    | some x => if x.lead && !x.suspended then s.fails 0x13 else (s.destroyCtx k.ctx).ok
    | none => s.fails 0x11) s

/-- CONTEXT_SUSPEND (R294): a fill context stops at once, the lead at the next Curtain. -/
def execContextSuspend (c : CmdSrc) (s : State) : Host.Outcome State Fault Refusal :=
  runCmd c 0x13 anyOf (fun s k =>
    match s.ctx? k.ctx with
    | some x =>
      if x.suspended then s.ok
      else if x.lead then (s.modSched (fun q => { q with leadStop := true })).staged k
      else ((s.stopCtx k.ctx).suspend k.ctx 1).ok
    | none => s.fails 0x11) s

/-- Items of the interrupted step with a launch not completed, one launch of each (R294). -/
def State.interrupted (s : State) (c : Nat) : List Launch :=
  let mine := s.sched.launches.filter (fun x => decide (x.ctx = c))
  mine.foldl (fun (l : List Launch) x =>
    if x.state = 2 ∨ l.any (sameItem x) = true ∨ mine.all (fun y => !sameItem x y || decide (y.state = 0)) = true then l else l ++ [x]) []

/-- The lead resumed (R294, R426): interrupted micro-batches replay. -/
def State.resumeLead (s : State) (c : Nat) : State :=
  let s := s.modCtx c (fun y => { y with suspended := false, suspCause := 0, resumed := true })
  let s := (s.interrupted c).foldl (fun s x => s.replayLaunch x.id none) s
  s.modPbk (fun p => { p with recast := p.recast.map (fun (r : RecastSt) => if r.phase = 4 then { r with since := s.now } else r) })

/-- A scratch segment that holds no tensor gets one (R203): the first that lies in stack pages, fits, and has no line in the middle of an
ordered sequence, whose read would wait (R214; which one is the Stage Manager's choice, log entry 19). -/
def State.fillSegment (s : State) (c : Nat) (i : Nat) : State :=
  match s.ctx? c with
  | none => s
  | some x =>
    let here (r : Range) : Bool := decide (scratchBase + i * 2 ^ 28 ≤ r.pa ∧ r.pa < scratchBase + (i + 1) * 2 ^ 28)
    if x.tensors.any (fun t => t.ranges.any here || t.shadow.any here) then s
    else
      match x.tensors.find? (fun t => !t.ranges.isEmpty && t.ranges.all (fun r =>
          decide (r.pa < s.ceiling ∧ r.off + r.len ≤ 2 ^ 28) && !s.midRun r.pa r.len)) with
      | none => s
      | some t =>
        let mv := t.ranges.map (fun (r : Range) => (r.pa, scratchBase + i * 2 ^ 28 + r.off, r.len))
        ((s.moveRuns mv).modCtx c (fun y => { y with tensors := y.tensors.map (TensorPlace.follow mv) })).blockGen 5

/-- Added scratch segments put to use as a context resumes (R203). -/
def State.fillScratch (s : State) (x : Ctx) : State := (segs x.scratchMask).foldl (fun s i => s.fillSegment x.num i) s

/-- CONTEXT_RESUME (R203, R294, R447, R485). -/
def execContextResume (c : CmdSrc) (s : State) : Host.Outcome State Fault Refusal :=
  runCmd c 0x14 anyOf (fun s k =>
    match s.ctx? k.ctx with
    | some x =>
      if s.quiesced then s.fails 0x13
      else if !x.suspended then s.ok
      else if x.suspCause = 4 then s.fails 0x13
      else if x.lead then ((s.fillScratch x).resumeLead k.ctx).ok
      else ((s.fillScratch x).modCtx k.ctx (fun y => { y with suspended := false, suspCause := 0, resumed := true })).ok
    | none => s.fails 0x11) s

/-- The sheet a CUE_SHEET_SET brings (R302, R474). -/
def sheetOf : Nat → List W64 → Sheet
  | 0, _ => []
  | n + 1, ws => (ws.getD 0 0, ws.getD 1 0) :: sheetOf n (ws.drop 2)

/-- A Curtain that has opened (R301, R569). -/
def State.stepOpened (s : State) (step : Nat) : Bool := if s.sched.begun then decide (step ≤ s.sched.step) else decide (step < s.sched.step)

/-- CUE_SHEET_SET (R301, R303). -/
def execCueSheetSet (c : CmdSrc) (s : State) : Host.Outcome State Fault Refusal :=
  runCmd c 0x15 anyOf (fun s k =>
    match s.ctx? k.ctx with
    | none => s.fails 0x11
    | some x =>
      match x.score, x.shape with
      | some sc, some h =>
        let p := k.w 0 5 0
        let n := k.w 0 28 16
        let sh := sheetOf n (k.params.drop 2)
        if !x.lead || decide (h.pp ≤ p) || decide (k.params.length < 2 + 2 * n) || !sheetOk sc sh then
          s.fails 0x11
        else if s.sched.staged.any (fun y => decide (y.p = p)) then s.fails 0x13
        else if s.stepOpened (k.word 1).toNat then s.fails 0x11
        else (s.modSched (fun q => { q with staged := q.staged ++ [⟨p, (k.word 1).toNat, sh⟩] })).staged k p
      | _, _ => s.fails 0x11) s

/-- The job shape of LOAD_SCORE (R258, R474): zero fields take their defaults; none where a field is outside its range. -/
def shapeOf (w6 w7 : W64) : Option Shape :=
  let or' (x d : Nat) : Nat := if x = 0 then d else x
  let v := bitsOf w6 16 0
  let h : Shape :=
    { vranks := v, dp := or' (bitsOf w6 33 17) v, pp := or' (bitsOf w6 40 34) 1, sq := or' (bitsOf w6 47 41) 1, mb := or' (bitsOf w6 60 48) 1
      tokens := bitsOf w7 20 0, capFactor := or' (bitsOf w7 26 21) 20, ahead := or' (bitsOf w7 30 27) 2
      groupMax := or' (bitsOf w7 43 31) 4096, stageQueue := or' (bitsOf w7 47 44) 2 }
  if 1 ≤ v ∧ v ≤ 65536 ∧ h.dp ≤ 65536 ∧ h.pp ≤ 64 ∧ h.sq ≤ 64 ∧ h.mb ≤ 4096 ∧ 1 ≤ h.tokens ∧ h.tokens ≤ 1048576 ∧ 8 ≤ h.capFactor
      ∧ h.capFactor ≤ 32 ∧ h.ahead ≤ 8 ∧ h.groupMax ≤ 4096 ∧ h.stageQueue ≤ 8 ∧ v = h.dp * h.pp * h.sq ∧ h.dp ≤ 4096 then some h
  else none

/-- LOAD_SCORE (R258, R371, R473, R476, R485): its image is checked as it ends. -/
def execLoadScore (c : CmdSrc) (score : Score) (s : State) : Host.Outcome State Fault Refusal :=
  runCmd c 0x10 anyOf (fun s k =>
    match s.ctx? k.ctx with
    | none => s.fails 0x11
    | some x =>
      if s.quiesced || x.score.isSome then s.fails 0x13
      else if x.lead && (shapeOf (k.word 6) (k.word 7)).isNone then s.fails 0x11
      else s.accept k (2000 + cdiv (k.w 1 31 0) 16000) (fun f => { f with score := some score })) s

/-- Bytes one virtual rank owns of a state tensor: a working copy with its shadow (R397). -/
def TensorDecl.owned (d : TensorDecl) (dp : Nat) : Nat := if d.working then 2 * TensorDecl.inst d dp else TensorDecl.inst d dp

/-- A state tensor's protection class (R397): its parameter group's, group 0 standing for none. -/
def State.classify (s : State) (ds : List TensorDecl) (dp : Nat) (d : TensorDecl) : Nat :=
  let g := if d.group = 0 then [d] else ds.filter (fun x => x.isState && decide (x.group = d.group))
  let b := (g.map (fun (x : TensorDecl) => TensorDecl.owned x dp)).sum
  if g.any (fun x => x.control) || decide (b ≤ s.fld .pbkPolicy 0 15 0 * 1024) then 1
  else if s.fld .pbkPolicy 0 23 16 < (g.map (fun (x : TensorDecl) => x.change)).foldl Nat.max 0 then 2 else 3

/-- The classes by ascending tensor. -/
def State.classesOf (s : State) (sc : Score) (dp : Nat) : List (Nat × Nat) :=
  (sc.tensors.filter (fun d => d.isState)).foldl (fun l d => aput d.id (s.classify sc.tensors dp d) l) []

/-- A virtual rank in two declared Ensembles of one role (R371). -/
def twiceInRole (es : List EnsDecl) : Bool :=
  es.zipIdx.any (fun a => es.zipIdx.any (fun b => decide (a.2 < b.2 ∧ a.1.role = b.1.role) && a.1.members.any (fun v => b.1.members.contains v)))

/-- An expert block declares its home map and its Ensemble (R279): one member of every Ensemble of its role for each expert. -/
def expertOk (sc : Score) (mb : Nat) (e : ExpertDecl) : Bool :=
  decide (1 ≤ e.experts ∧ e.experts ≤ 4096 ∧ 1 ≤ e.choices ∧ e.choices ≤ 8 ∧ e.sources * mb ≤ 65536 ∧ e.home.length = e.experts)
    && (decide (e.role ≤ 2) || sc.ensembles.any (fun x => decide (x.role = e.role)))
    && sc.ensembles.all (fun x => decide (x.role ≠ e.role) || e.home.all (fun m => decide (m < x.members.length)))

/-- No virtual rank owns more replicated bytes than REPL_MAX gives (R397, R399): an expert's state counts for its home member alone (R279). -/
def replOk (sc : Score) (h : Shape) (ts : List TensorDecl) (most : Nat) : Bool :=
  let sum (l : List TensorDecl) : Nat := (l.map (fun (d : TensorDecl) => TensorDecl.owned d h.dp)).sum
  let all' := sum (ts.filter (fun d => d.expert.isNone))
  let own := ts.filter (fun d => d.expert.isSome)
  decide (all' ≤ most) && (own.isEmpty || (List.range h.vranks).all (fun v => decide (all' + sum (own.filter (fun d => match d.expert with
    | some x => Score.expertHome sc h v x
    | none => false)) ≤ most)))

/-- What a Score must hold (R261, R276, R279, R282, R297, R303, R371, R399); the input of a micro-batch goes into an activation tensor, which has an
instance for each (log entry 28). -/
def State.scoreOk (s : State) (sc : Score) (h : Option Shape) : Bool :=
  let dp := (h.map (fun (x : Shape) => x.dp)).getD 1
  let cls := s.classesOf sc dp
  let cls? (t : Nat) : Nat := ((cls.find? (fun x => decide (x.1 = t))).map (fun (x : Nat × Nat) => x.2)).getD 0
  sc.kernels.all (fun k => decide (1 ≤ k.instances ∧ k.instances ≤ 32))
    && sc.experts.all (expertOk sc ((h.map (fun (x : Shape) => x.mb)).getD 1))
    && sc.tensors.all (fun d => !d.working || [2, 4, 5, 6, 7, 8, 9, 10].contains d.fmt)
    && sc.ensembles.all (fun e => decide (e.members.length ≤ 4096)) && !twiceInRole sc.ensembles
    && (match h with
      | none => true
      | some x => (List.range x.pp).all (fun p => sc.sheets.any (fun y => decide (y.1 = p)))
          && sc.sheets.all (fun y => decide (y.1 < x.pp) && sheetOk sc y.2)
          && replOk sc x (sc.tensors.filter (fun d => d.isState && decide (cls? d.id = 1))) (s.fld .pbkPolicy 0 35 24 * 2 ^ 20)
          && (match sc.input with
            | none => true
            | some t => sc.tensors.any (fun d => decide (d.id = t) && d.act))
          && sc.tensors.all (fun d => match d.expert with
            | none => true
            | some y => (sc.experts[y.1]?).any (fun e => decide (y.2 < e.experts)))
          && sc.colls.all (fun ws => decide (bitsOf (ws.getD 0 0) 3 0 ≠ 0 ∨ bitsOf (ws.getD 0 0) 12 12 = 1)
            || decide (cls? (bitsOf (ws.getD 2 0) 63 40) ≠ 2)))

/-- Where a tensor may lie: pages, scratch segments of the context, an Apron (R202, R295). -/
def State.rangeOk (s : State) (c : Ctx) (r : Range) : Bool :=
  match s.place r.pa with
  | .stack => (List.range ((r.pa + r.len - 1) / pageBytes + 1 - r.pa / pageBytes)).all (fun j =>
      decide (mget 0 s.mem.pages (r.pa / pageBytes + j) = c.num + 1))
  | .scratch o => (List.range ((o + r.len - 1) / 2 ^ 28 + 1 - o / 2 ^ 28)).all (fun j => c.scratchMask.getLsbD (o / 2 ^ 28 + j))
  | .apron _ off => decide (off + r.len ≤ 2 ^ 23)
  | .unmapped => false

/-- Apron bytes that are taken (R201): other contexts' tensors, the code and data regions of running instances. -/
def State.apronUsed (s : State) (c : Ctx) : List (Nat × Nat) :=
  (s.sched.ctxs.filter (fun y => decide (y.num ≠ c.num))).flatMap (fun y => y.tensors.flatMap (fun t =>
      ((t.ranges ++ t.shadow).filter (fun r => decide (apronBase ≤ r.pa))).map (fun (r : Range) => (r.pa, r.len))))
    ++ s.stages.flatMap (fun e => match e.2.inst with
      | none => []
      | some i => [(apronBase + e.1 * 2 ^ 23 + i.codeBase, i.codeSize), (apronBase + e.1 * 2 ^ 23 + i.dataBase, i.dataSize)])

/-- Places the Blocking can have chosen for a Score's tensors (R201, R210, R264, R277, R295): each whole, in the context's own memory, apart
from the others and from what Aprons hold; a tensor that takes reductions in no Apron. -/
def State.placesOk (s : State) (c : Ctx) (sc : Score) (ts : List TensorPlace) : Bool :=
  let rs := ts.flatMap (fun t => t.ranges ++ t.shadow)
  let taken := s.apronUsed c
  ts.all (fun t => match sc.tensors.find? (fun d => decide (d.id = t.id)) with
    | none => false
    | some d => (resolveGo t.ranges (t.ranges.length + 1) 0 (c.instBytes d)).isSome
        && (if d.working then (resolveGo t.shadow (t.shadow.length + 1) 0 (c.instBytes d)).isSome else t.shadow.isEmpty)
        && (!(d.redDest || !d.keys.isEmpty) || (t.ranges ++ t.shadow).all (fun r => decide (r.pa < apronBase))))
    && rs.all (fun r => taken.all (fun x => decide (r.pa + r.len ≤ x.1 ∨ x.1 + x.2 ≤ r.pa)))
    && decide ((ts.map (fun (t : TensorPlace) => (t.id, t.vr))).Nodup) && rs.all (fun r => decide (0 < r.len) && s.rangeOk c r)
    && rs.zipIdx.all (fun a => rs.zipIdx.all (fun b => decide (b.2 ≤ a.2 ∨ a.1.pa + a.1.len ≤ b.1.pa ∨ b.1.pa + b.1.len ≤ a.1.pa)))

/-- Stack bytes of places. -/
def State.stackBytesOf (s : State) (ts : List TensorPlace) : Nat :=
  (((ts.flatMap (fun t => t.ranges ++ t.shadow)).filter (fun r => decide (r.pa < s.ceiling))).map (fun (r : Range) => r.len)).sum

/-- TLY_SCALE fields of a tag (R48, R189): JOB_AMAX stays the last Curtain's. -/
def State.setTag (s : State) (d : TagDecl) : State :=
  s.setFld .tlyScale d.tag 31 0 (fieldsWord [(d.init.toNat, 0, 8), (d.init.toNat, 8, 8), (d.hist, 16, 4), (d.margin, 20, 2), (d.fmt, 22, 2),
    (d.src, 24, 2), (bit01 d.en, 26, 1)])

/-- A Score installed in its context (R293, R295, R301, R397): its tensors enter the Blocking's table (log entry 19), a shard's padding being +0 (R264). -/
def State.installScore (s : State) (c : Ctx) (sc : Score) (h : Option Shape) (places : List TensorPlace) : State :=
  let s := (s.modCtx c.num (fun y => { y with score := some sc, shape := h, tensors := places })).blockGen 5
  let s := match s.ctx? c.num with
    | some x => places.foldl (fun (s : State) (t : TensorPlace) => match x.decl t.id with
      | some d => s.padPlace x d t
      | none => s) s
    | none => s
  if c.lead then
    let s := (s.modPbk (fun p => { p with classes := s.classesOf sc ((h.map (fun (x : Shape) => x.dp)).getD 1) })).modSched (fun q => { q with sheets := sc.sheets })
    (sc.tags.foldl State.setTag s).placeHosted
  else s.takeWork c.num

/-- How LOAD_SCORE ends (R399, R464, R473, R476, R483); a Blocking that cannot be leaves the command in progress. -/
def State.endLoadScore (s : State) (f : InFlight) (e : Ending) : State :=
  match f.ctx.bind s.ctx?, f.score with
  | some c, some sc =>
    let w (j : Nat) : W64 := f.words.getD j 0
    let h := if c.lead then shapeOf (w 6) (w 7) else none
    if e.late then s.endCmd f 0x13 0 0
    else
      match s.hostRead (w 0).toNat (bitsOf (w 1) 31 0) with
      | none => s.endCmd f 0x11 0 0xFFFFFFFF
      | some bs =>
        let t := if c.lead then s.applyAuto .pbkPolicy else s
        if sha256 bs ≠ (wordsLe (f.words.drop 2)).take 32 then s.endCmd f 0x20 0 0
        else if !t.scoreOk sc h || decide (c.stackGib * 2 ^ 30 < s.stackBytesOf e.places) then s.endCmd f 0x11 0 0
        else if !s.placesOk { c with shape := h } sc e.places then s
        else (t.installScore c sc h e.places).endCmd f 0 0 0
  | _, _ => s.endCmd f 0x30 0 0

end Sys2Proof.Machine
end

