-- ==== Sys2Proof/Machine/CamodData.lean ====
section
/-! DEFINITION. Data commands: SHARD_LOAD, WEIGHT_POINTER_SWITCH, SNAPSHOT_SAVE, SNAPSHOT_RESTORE (R286-R288, R418, R440-R447, R473, R474,
R478). Readings of the spec here are log entry 22. -/

namespace Sys2Proof.Machine

/-- A storage endpoint a command names is there and connected (R474, R478): its status where it is not. -/
def State.epBad (s : State) (ep : Nat) : Option Nat :=
  if !s.hasEth then some 0x15 else if s.epState ep ≠ 1 then some 0x11 else none

/-- Fields of SHARD_LOAD (R474). -/
def Cmd.fill (k : Cmd) : Bool := decide (k.w 0 18 18 = 1)
def Cmd.len (k : Cmd) : Nat := k.w 3 47 0

/-- What a SHARD_LOAD may name (R124, R474, R476): a tensor of the context's Score, all of the target inside it, at a line. -/
def shardTarget (x : Ctx) (k : Cmd) : Bool :=
  match x.decl (tenOf (k.word 4)) with
  | none => false
  | some d => decide (0 < k.len ∧ offOf (k.word 4) % 64 = 0 ∧ offOf (k.word 4) + k.len ≤ x.instBytes d) && !(x.lead && k.fill)

/-- A weight set that a micro-batch may be using is not filled again (R287). -/
def setInUse (x : Ctx) (w : Nat) : Bool := x.wsets.any (fun y => decide (y.num = w) && (y.current || decide (0 < y.refs)))

/-- SHARD_LOAD accepted: a transfer opens on the endpoint, a weight set named for the first time is allocated. -/
def State.openShard (s : State) (k : Cmd) (x : Ctx) : State :=
  let w := k.w 0 17 16
  let s := if k.fill && !x.wsets.any (fun y => decide (y.num = w)) then
      s.modCtx x.num (fun y => { y with wsets := y.wsets ++ [⟨w, 0, false, false, []⟩] })
    else s
  if k.w 0 0 0 = 0 then s
  else
    let rs := (x.tensors.filter (fun t => decide (t.id = tenOf (k.word 4)))).flatMap (fun t =>
      (resolveGo t.ranges (t.ranges.length + 1) (offOf (k.word 4)) k.len).getD [])
    let f := Xfer.load (k.w 0 15 8) (k.word 1).toNat (k.w 2 31 0) k.len k.src k.seq 0 (k.bytes 5 32) rs
    s.modPlat (fun p => { p with xfers := p.xfers ++ [f] })

/-- SHARD_LOAD (R418, R473, R474, R478, R485). -/
def execShardLoad (c : CmdSrc) (s : State) : Host.Outcome State Fault Refusal :=
  runCmd c 0x30 anyOf (fun s k =>
    match s.ctx? k.ctx with
    | none => s.fails 0x11
    | some x =>
      let bad := if k.w 0 0 0 = 1 then s.epBad (k.w 0 15 8) else none
      match bad with
      | some st => s.fails st
      | none =>
        if s.quiesced then s.fails 0x13
        else if !shardTarget x k then s.fails 0x11
        else if (x.lead && s.sched.begun) || (k.fill && setInUse x (k.w 0 17 16)) then s.fails 0x13
        else (s.openShard k x).accept k (1000 + cdiv k.len 1000)) s

/-- Bytes put into places of a tensor, current copy and shadow; none where some byte has no place. -/
def State.putPlaces (off : Nat) (bs : List Byte) : List TensorPlace → State → Option State
  | [], s => some s
  | t :: ts, s =>
    match resolveGo t.ranges (t.ranges.length + 1) off bs.length, resolveGo t.shadow (t.shadow.length + 1) off bs.length with
    | none, _ => none
    | some r, sh =>
      match writeParts 4 r bs s with
      | .inr _ => none
      | .inl s =>
        if t.shadow.isEmpty then State.putPlaces off bs ts s
        else match sh with
          | none => none
          | some q => (match writeParts 4 q bs s with
            | .inl s => State.putPlaces off bs ts s
            | .inr _ => none)

/-- The tensor table has changed since `was` (R20; log entry 19). -/
def State.tableFrom (s was : State) (c : Nat) : State :=
  if (s.ctx? c).map (fun (y : Ctx) => y.tensors) = (was.ctx? c).map (fun (y : Ctx) => y.tensors) then s else s.blockGen 5

/-- Checked bytes installed (R264, R287, R478): of a lead in every instance of the tensor, of a weight set in the set's own. -/
def State.installShard (s : State) (c : Nat) (t off : Nat) (set' : Option Nat) (bs : List Byte) : Option State :=
  match s.ctx? c with
  | none => none
  | some x =>
    match x.decl t with
    | none => none
    | some d =>
      let was := s
      let shared (s : State) : Bool := ((s.ctx? c).map (fun (y : Ctx) => y.tensors.any (fun p => decide (p.id = t ∧ p.vr = 65536)))).getD false
      let s := match set' with
        | some w => s.placeTensor c (65537 + w) d
        | none =>
          if !x.lead then s.placeTensor c 65536 d
          else
            let s := s.placeHosted
            if s.hosted.isEmpty && !shared s then s.placeTensor c earlyKey d else s
      let s := s.tableFrom was c
      match s.ctx? c with
      | none => none
      | some y =>
        State.putPlaces off bs (y.tensors.filter (fun p => decide (p.id = t) && (match set' with
          | some w => decide (p.vr = 65537 + w)
          | none => decide (p.vr ≤ 65536 ∨ p.vr = earlyKey)))) s

/-- A weight set's record after a load: a target that failed its check stays marked until one for it passes (R286). -/
def State.markSet (s : State) (c w t off : Nat) (ok : Bool) : State :=
  s.modCtx c (fun y => { y with wsets := y.wsets.map (fun (x : WSet) =>
    if x.num = w then
      { x with
        loaded := x.loaded || ok
        bad := if ok then x.bad.filter (fun b => decide (b ≠ (t, off))) else if x.bad.contains (t, off) then x.bad else x.bad ++ [(t, off)] }
    else x) })

/-- How SHARD_LOAD ends (R418, R473, R478). -/
def State.endShardLoad (s : State) (f : InFlight) (e : Ending) : State :=
  let w (j : Nat) : W64 := f.words.getD j 0
  let c := f.ctx.getD 0
  let t := tenOf (w 4)
  let off := offOf (w 4)
  let set' := if (w 0).getLsbD 18 then some (bitsOf (w 0) 17 16) else none
  let mine (x : Xfer) : Bool := decide (x.kind = 0 ∧ x.src = f.src ∧ x.seq = f.seq)
  let x? := s.plat.xfers.find? mine
  let gone := s.modPlat (fun p => { p with xfers := p.xfers.filter (fun x => !mine x) })
  let finish (bs : List Byte) (ok : Bool) : State :=
    let s := match set' with
      | some n => gone.markSet c n t off ok
      | none => gone
    if !ok then s.endCmd f 0x20 0 0
    else match s.installShard c t off set' bs with
      | some s => s.endCmd f 0 0 0
      | none => gone.endCmd f 0x13 0 0
  if e.late then gone.endCmd f 0x13 0 0
  else if (w 0).getLsbD 0 then
    match x? with
    | none => s.endCmd f 0x13 0 0
    | some x => if !x.done then s else finish x.data (decide (x.failed = 0))
  else
    match s.hostRead (w 1).toNat (bitsOf (w 3) 47 0) with
    | none => s.endCmd f 0x11 0 0xFFFFFFFF
    | some bs => finish bs (decide (sha256 bs = (wordsLe (f.words.drop 5)).take 32))

/-- WEIGHT_POINTER_SWITCH (R286-R288). -/
def execWeightPointerSwitch (c : CmdSrc) (s : State) : Host.Outcome State Fault Refusal :=
  runCmd c 0x31 anyOf (fun s k =>
    match s.ctx? k.ctx with
    | none => s.fails 0x11
    | some x =>
      let w := k.w 0 1 0
      match x.wsets.find? (fun y => decide (y.num = w)) with
      | none => s.fails 0x11
      | some y =>
        if x.lead then s.fails 0x11
        else if !y.bad.isEmpty then s.fails 0x20
        else if !y.loaded then s.fails 0x11
        else if y.current then s.ok
        else
          let old := (x.wsets.filter (fun z => z.current)).map (fun (z : WSet) => z.num)
          let s := s.modCtx x.num (fun z => { z with wsets := z.wsets.map (fun (v : WSet) => { v with current := decide (v.num = w) }) })
          (old.foldl (fun (s : State) n => s.freeWset x.num n) s).ok) s

/-- The region a SNAPSHOT_SAVE names (R441, R474). -/
def Cmd.region (k : Cmd) : SaveRegion := ⟨k.w 0 15 8, (k.word 1).toNat, (k.word 3).toNat, k.w 2 31 0⟩

/-- What both forms of SNAPSHOT_SAVE need (R445, R474, R478): the block, the endpoint, room for three slots. -/
def State.saveBad (s : State) (k : Cmd) : Option Nat :=
  match s.epBad (k.w 0 15 8) with
  | some st => some st
  | none =>
    match s.leadCtx.bind (fun x => x.shape) with
    | none => some 0x11
    | some h => if (k.word 3).toNat < 3 * s.slotBytes h.vranks then some 0x11 else none

/-- SNAPSHOT_SAVE (R440-R445, R473, R478): a save at the next Curtain. -/
def execSnapshotSave (c : CmdSrc) (s : State) : Host.Outcome State Fault Refusal :=
  runCmd c 0x32 (fun k => decide (k.w 0 17 17 = 0)) (fun s k =>
    match s.saveBad k with
    | some st => s.fails st
    | none =>
      let eval := decide (k.w 0 16 16 = 1)
      if eval && decide (s.fld .pbkSaveState 0 51 51 = 1) then s.fails 0x13
      else (s.modPbk (fun p => { p with region := some k.region, saveAsked := some eval })).accept k 0 (fun f => { f with curtain := true })) s

/-- SNAPSHOT_SAVE with REGION_ONLY (R478). -/
def execSnapshotSaveRegion (c : CmdSrc) (s : State) : Host.Outcome State Fault Refusal :=
  runCmd c 0x32 (fun k => decide (k.w 0 17 17 = 1)) (fun s k =>
    match s.saveBad k with
    | some st => s.fails st
    | none => (s.modPbk (fun p => { p with region := some k.region })).ok) s

/-- SNAPSHOT_RESTORE (R446, R447, R473, R474, R478, R485): the manifest, or those of A and B, are read. -/
def execSnapshotRestore (c : CmdSrc) (s : State) : Host.Outcome State Fault Refusal :=
  runCmd c 0x33 anyOf (fun s k =>
    match s.epBad (k.w 0 15 8) with
    | some st => s.fails st
    | none =>
      match s.leadCtx with
      | none => s.fails 0x11
      | some x =>
        match x.shape with
        | none => s.fails 0x11
        | some h =>
          if s.quiesced || (s.sched.begun && !x.suspended) || s.pbk.restoring.isSome then s.fails 0x13
          else if s.link.roster.isNone then s.fails 0x11
          else
            let slot := k.w 0 1 0
            let xs := (if slot = 3 then [0, 1] else [slot]).map (fun n =>
              Xfer.load (k.w 0 15 8) ((k.word 1).toNat + n * s.slotBytes h.vranks) (k.w 2 31 0) (8 * 2 ^ 20) (65536 + n) k.seq 1 [] [])
            let s := (s.modPbk (fun p => { p with restoring := some slot })).modPlat (fun p => { p with xfers := p.xfers ++ xs })
            s.accept k (1000 + cdiv (h.vranks * s.objectBytes) 1000)) s

/-- How SNAPSHOT_RESTORE ends. -/
def State.endRestore (s : State) (f : InFlight) (e : Ending) : State :=
  let stop (st : Nat) : State := ((s.dropXfers 1).modPbk (fun p => { p with restoring := none })).endCmd f st 0 0
  if e.late then stop 0x13
  else match s.restoreStatus 1 with
    | none => s
    | some 0 => (s.installSave 1).endCmd f 0 0 0
    | some st => stop st

end Sys2Proof.Machine
end

