-- ==== Sys2Proof/Machine/CamodInfo.lean ====
section
/-! DEFINITION. Camod commands that report: identity, capabilities, telemetry, Tally record, event log; the power limit (R473, R474, R479,
R482, R486, R525). -/

namespace Sys2Proof.Machine

/-- What IDENTIFY returns (R482, R500). -/
def State.identity (s : State) : List Byte :=
  let r (x : Reg) (i : Nat) : List Byte := leBytes 8 (s.peekReg (x.off i)).toNat
  let st := s.rd .idnStepping
  r .idnPart 0 ++ r .idnPart 1 ++ leBytes 2 (bitsOf st 15 0) ++ leBytes 2 (bitsOf st 39 24) ++ leBytes 4 0 ++ r .idnDevid 0 ++ r .idnLot 0
    ++ r .idnWafer 0 ++ r .idnFwRun 0 ++ r .idnFwStaged 0 ++ leBytes 8 s.plat.dev.code ++ List.replicate 56 0

/-- IDENTIFY (R482). -/
def execIdentify (c : CmdSrc) (s : State) : Host.Outcome State Fault Refusal :=
  runCmd c 0x01 anyOf (fun s _ => s.gives s.identity) s

/-- GET_CAPS (R482). -/
def execGetCaps (c : CmdSrc) (s : State) : Host.Outcome State Fault Refusal :=
  runCmd c 0x02 anyOf (fun s _ => s.gives (wordsLe [s.rd .capUnits, s.rd .capStages, s.rd .capStacks, s.rd .capLinks, s.rd .capFormats])) s

/-- Registers read in list order (R8, R479): their values, and the state in which the RC fields among them are cleared where `clear` holds. -/
def State.readList (s : State) (clear : Bool) : List Nat → List Byte × State
  | [] => ([], s)
  | a :: t =>
    let v := leBytes 8 (s.peekReg a).toNat
    let r := State.readList (if clear then s.clearRead a (BitVec.allOnes 64) else s) clear t
    (v ++ r.1, r.2)

/-- TELEMETRY_READ (R474, R479). -/
def execTelemetryRead (c : CmdSrc) (s : State) : Host.Outcome State Fault Refusal :=
  runCmd c 0x50 anyOf (fun s k =>
    let n := k.w 0 7 0
    if n = 0 ∨ 119 < n then s.fails 0x11
    else
      let r := s.readList (decide (k.w 0 8 8 = 1)) ((List.range n).map (fun j => (k.word (1 + j)).toNat))
      r.2.gives r.1) s

/-- The 80-byte entries of a ring record whose tag lies in a range (R184). -/
def tallyEntries (first last : Nat) : Nat → List Byte → List Byte
  | 0, _ => []
  | k + 1, bs =>
    let t := ofLe (bs.take 8) % 4096
    (if first ≤ t ∧ t ≤ last then bs.take 80 else []) ++ tallyEntries first last k (bs.drop 80)

/-- A job-wide record cut down to a range of tags (R183, R479); before any combination has completed it has no entry (log entry 21). -/
def State.tallyAnswer (s : State) (first last : Nat) : List Byte :=
  let rec' := s.sched.jobRecord
  let head := if rec'.isEmpty then leBytes 24 0 ++ leBytes 8 (2 ^ 20) ++ leBytes 32 0 else rec'.take 64
  let es := tallyEntries first last ((rec'.length - 64) / 80) (rec'.drop 64)
  leBytes 8 (64 + es.length + es.length / 80 * 2 ^ 32) ++ head.drop 8 ++ es

/-- TALLY_READ (R180, R479). -/
def execTallyRead (c : CmdSrc) (s : State) : Host.Outcome State Fault Refusal :=
  runCmd c 0x51 anyOf (fun s k => s.gives (s.tallyAnswer (k.w 0 11 0) (k.w 0 27 16))) s

/-- EVENT_LOG_READ (R486). The lowest number held of an empty log is a free value (log entry 12). -/
def execEventLogRead (c : CmdSrc) (s : State) : Host.Outcome State Fault Refusal :=
  runCmd c 0x52 anyOf (fun s k =>
    let n := k.w 1 12 0
    if n = 0 ∨ 4096 < n then s.fails 0x11
    else
      let es := (s.booth.log.filter (fun (e : Event) => decide ((k.word 0).toNat ≤ e.seqno))).take n
      let r := s.gives (es.flatMap (fun (e : Event) => wordsLe e.words))
      match s.booth.log.head? with
      | some e => { r with count := some es.length, r1 := w64 e.seqno }
      | none => { r with s := s.free.2, count := some 0, r1 := s.free.1 }) s

/-- POWER_LIMIT_SET (R474, R525). -/
def execPowerLimitSet (c : CmdSrc) (s : State) : Host.Outcome State Fault Refusal :=
  runCmd c 0x60 anyOf (fun s k =>
    let w := k.w 0 11 0
    if w < 1200 ∨ 2400 < w then s.fails 0x11 else (s.setFld .pwrLimit 0 11 0 w).ok) s

end Sys2Proof.Machine
end

