-- ==== Sys2Proof/Machine/CamodRoster.lean ====
section
/-! DEFINITION. Roster and membership commands (R366-R373, R389, R400, R438, R439, R473, R477). -/

namespace Sys2Proof.Machine

/-- A number of `n` bytes at byte `o`. -/
def numAt (bs : List Byte) (o n : Nat) : Nat := ofLe ((bs.drop o).take n)

/-- A device entry of a Roster image with its link map (R368, R400). -/
def devFrom (bs : List Byte) : DevEntry :=
  let w1 := w64 (numAt bs 8 8)
  let w2 := w64 (numAt bs 16 8)
  let w3 := w64 (numAt bs 24 8)
  { ident := w64 (numAt bs 0 8), number := bitsOf w1 15 0, state := bitsOf w1 17 16, hosted := bitsOf w1 34 18, mirror := bitsOf w2 15 0
    replA := bitsOf w2 31 16, replB := bitsOf w2 47 32, pgroup := bitsOf w2 63 48, ppos := bitsOf w3 3 0, psize := bitsOf w3 7 4
    refill := decide (bitsOf w3 8 8 = 1), links := (List.range 24).map (fun j => BitVec.ofNat 32 (numAt bs (32 + 4 * j) 4)) }

/-- Device entries, with what follows them. -/
def devsFrom : Nat → List Byte → Option (List DevEntry × List Byte)
  | 0, bs => some ([], bs)
  | n + 1, bs =>
    if bs.length < 128 then none
    else match devsFrom n (bs.drop 128) with
      | some (l, t) => some (devFrom bs :: l, t)
      | none => none

/-- Numbers of two bytes each. -/
def pairsFrom : Nat → List Byte → List Nat
  | 0, _ => []
  | n + 1, bs => ofLe (bs.take 2) :: pairsFrom n (bs.drop 2)

/-- Ensemble records, with what follows them (R369). -/
def ensFrom : Nat → List Byte → Option (List EnsRec × List Byte)
  | 0, bs => some ([], bs)
  | n + 1, bs =>
    let w0 := w64 (numAt bs 0 8)
    let w1 := w64 (numAt bs 8 8)
    let m := bitsOf w0 52 40
    let ex := decide (bitsOf w0 53 53 = 1)
    let size := 32 + (if ex then 2 * m else 0)
    if bs.length < size then none
    else
      let e : EnsRec :=
        { ensId := bitsOf w0 31 0, role := bitsOf w0 37 32, kind := bitsOf w0 39 38, members := m, explicit := ex, base := bitsOf w1 15 0
          stride := bitsOf w1 32 16, list := if ex then pairsFrom m (bs.drop 32) else [] }
      match ensFrom n (bs.drop size) with
      | some (l, t) => some (e :: l, t)
      | none => none

/-- A Roster image read: the Roster, its DIGEST, its length in bytes (R367-R369); none where it is cut short. -/
def rosterFrom (bs : List Byte) : Option (Roster × W64 × Nat) :=
  let w3 := w64 (numAt bs 24 8)
  let v := bitsOf w3 16 0
  if bs.length < 64 then none
  else match devsFrom (bitsOf w3 33 17) (bs.drop 64) with
    | none => none
    | some (ds, t) =>
      if t.length < 2 * v then none
      else match ensFrom (numAt bs 32 4) (t.drop (2 * v)) with
        | none => none
        | some (es, rest) =>
          some ({ jobId := w64 (numAt bs 0 8), version := numAt bs 8 8, step := numAt bs 16 8, vranks := v, devs := ds
                  vmap := pairsFrom v t, ens := es }, w64 (numAt bs 40 8), bs.length - rest.length)

/-- An image whose fields hold together: nothing reserved is set, devices ascend, the map names devices of the Roster, Ensembles have 2 to
4,096 members, every member that takes part hosts a rank (R263, R367-R369, R371). -/
def rosterOk (r : Roster) (digest : W64) (bs : List Byte) : Bool :=
  decide (r.bytes digest = bs) && decide (1 ≤ r.vranks ∧ r.vranks ≤ 65536 ∧ 1 ≤ r.devs.length)
    && decide (r.nums.Pairwise (· < ·)) && r.vmap.all (fun d => r.nums.contains d)
    && r.devs.all (fun e => decide (e.state ≠ 0) || r.vmap.contains e.number)
    && r.ens.all (fun e => decide (2 ≤ e.members ∧ e.members ≤ 4096)) && r.limitsOk

/-- A Roster fits the job shape of a loaded Score (R258, R260, R370): its ranks, and its records of the three Ensembles the shape forms. -/
def rosterFits (h : Shape) (r : Roster) : Bool :=
  decide (r.vranks = h.vranks) && r.ens.all (fun e => decide (2 < e.role) || decide (e.kind = e.role)
    && (match e.ranks with
      | v :: _ => decide (h.ensemble e.role v = some e.ranks)
      | [] => false))

/-- ROSTER_SET on the lead (R373, R477): the Roster at version 0, which the first Call commits. -/
def State.setRoster (s : State) (r : Roster) (me : Nat) : State :=
  s.modLink (fun k =>
    { k with
      roster := some { r with version := 0 }.recount, prevRoster := none, me := me
      routes := ({ r with version := 0 } : Roster).routeTable me, nextRoutes := none, call := none, callDone := none })

/-- A fill context's Ensembles recorded (R372). -/
def State.setFillEns (s : State) (c : Nat) (es : List EnsRec) : State :=
  s.modLink (fun k => { k with fillEns := k.fillEns.filter (fun x => decide (x.1 ≠ c)) ++ es.map (fun e => (c, e)) })

/-- ROSTER_SET (R372, R373, R477). -/
def execRosterSet (c : CmdSrc) (s : State) : Host.Outcome State Fault Refusal :=
  runThen c 0x20 anyOf (fun s k =>
    match s.ctx? k.ctx, rosterFrom (wordsLe k.params) with
    | some x, some (r, digest, n) =>
      let bs := (wordsLe k.params).take n
      if crc64 (bs.take 40 ++ leBytes 8 0 ++ bs.drop 48) ≠ digest then s.fails 0x20
      else if x.lead then
        if 1 ≤ s.rosterVersion then s.fails 0x13
        else if !rosterOk r digest bs || !((x.shape.map (fun h => rosterFits h r)).getD true) then s.fails 0x11
        else match r.devs.find? (fun e => decide (e.ident = s.rd .idnDevid)) with
          | some e => (s.setRoster r e.number).accept k 30000000
          | none => s.fails 0x11
      else
        let held := (s.link.roster.map (fun (q : Roster) => q.ensOf s.hosted)).getD 0
          + (s.link.fillEns.filter (fun y => decide (y.1 ≠ k.ctx))).length
        if 64 < held + r.ens.length || !r.ens.all (fun e => decide (2 ≤ e.members ∧ e.members ≤ 4096)) then s.fails 0x11 else (s.setFillEns k.ctx r.ens).ok
    | _, _ => s.fails 0x11)
    (fun s k => if ((s.ctx? k.ctx).map (fun (x : Ctx) => x.lead)).getD false then s.firstCall else s) s

/-- ROSTER_GET's own rule (R477). -/
def State.rosterGet (s : State) (k : Cmd) : Reply :=
  if k.w 0 0 0 = 1 then (match s.link.prevRoster with
    | some r => s.gives (r.bytes r.digest)
    | none => s.fails 0x11)
  else if s.link.call.isSome then s.fails 0x13
  else match s.link.roster with
    | some r => s.gives (r.bytes r.digest)
    | none => s.fails 0x11

/-- ROSTER_GET (R477). -/
def execRosterGet (c : CmdSrc) (s : State) : Host.Outcome State Fault Refusal := runCmd c 0x21 anyOf State.rosterGet s

/-- What a peer's command is answered with (R389; layout log entry 16): AUX16 1, the completion with the first packet, the result bytes in
packets of at most 4,096, their offset in AUX64. -/
def State.peerAnswer (s : State) (dst : Nat) (a : Answer) : State :=
  (List.range (Nat.max 1 (cdiv a.data.length 4096))).foldl (fun s j =>
    s.inject dst 4 0x14 0 1 (w64 (4096 * j)) ((a.data.drop (4096 * j)).take 4096)
      (if j = 0 then some (.peerAnswer a.status a.result0 a.result1) else none) .other) s

/-- PEER_CMD (R345, R389, R469): a Camod packet from a partner; only ROSTER_GET is permitted. -/
def execPeerCmd (port : Nat) (p : Pkt) (c : Packet) (s : State) : Host.Outcome State Fault Refusal :=
  onPort port s (fun s => s.receive port p 0x14 (fun s =>
    if p.aux16 ≠ 0 ∨ s.taking = false then s
    else
      let k : Cmd := ⟨65 + port, c.hdr, c.params, c.paramErr⟩
      let t := s.finish k (match s.checks k with
        | some r => r
        | none => s.rosterGet k)
      match t.booth.answer with
      | some a => t.peerAnswer p.src a
      | none => t))

/-- The request of R438 through a neighbour (layout log entry 16): this device's links, then the target count; destination 0xFFFF. -/
def State.sendAdmitReq (s : State) (want : Nat) : State :=
  let part (n : Nat) : List Byte := leBytes 8 (s.port n).partner.toNat ++ leBytes 1 (s.port n).partnerPort ++ [if s.portUp n then 1 else 0]
  let data := (List.range 24).flatMap part ++ leBytes 4 want
  match (List.range 24).find? s.portUp with
  | some n => s.enqueue n ⟨noDev, noDev, 3, 0, 0x07, 0, 0, 0, 0x0E, s.rd .idnDevid, data⟩ none
  | none => s

/-- ADMIT (R438, R477). -/
def execAdmitDev (c : CmdSrc) (s : State) : Host.Outcome State Fault Refusal :=
  runCmd c 0x22 anyOf (fun s k =>
    match s.ctx? k.ctx with
    | none => s.fails 0x11
    | some x =>
      if !x.lead || x.score.isNone || s.link.roster.isSome || !s.plat.tested || decide (65536 < k.w 1 16 0) then s.fails 0x11
      else if s.pbk.admitting.isSome then s.fails 0x13
      else ((s.modPbk (fun p => { p with admitting := some (k.word 0, k.w 1 16 0) })).sendAdmitReq (k.w 1 16 0)).accept k 0) s

/-- RELEASE (R439, R477). -/
def execRelease (c : CmdSrc) (s : State) : Host.Outcome State Fault Refusal :=
  runCmd c 0x23 anyOf (fun s k =>
    match s.link.roster with
    | none => s.fails 0x11
    | some r =>
      if (r.devs.filter (fun e => decide (e.number ≠ s.link.me))).isEmpty then s.fails 0x11
      else if s.pbk.releasing || s.pbk.admitting.isSome then s.fails 0x13
      else (s.modPbk (fun p => { p with releasing := true })).staged k) s

/-- ROSTER_SET and ADMIT that have run out of time (R473): BUSY, and nothing of them stays. -/
def State.endRosterSet (s : State) (f : InFlight) (e : Ending) : State :=
  if !e.late then s
  else (s.modLink (fun k => if s.rosterVersion = 0 then { k with roster := none, routes := [], call := none } else k)).endCmd f 0x13 0 0
def State.endAdmit (s : State) (f : InFlight) (e : Ending) : State :=
  if e.late && s.link.roster.isNone then (s.modPbk (fun p => { p with admitting := none })).endCmd f 0x13 0 0 else s

end Sys2Proof.Machine
end

