-- ==== Sys2Proof/Machine/CamodTest.lean ====
section
/-! DEFINITION. SELF_TEST, CALIBRATE and LANE_RETRAIN (R21, R299, R362, R473, R474, R480, R512-R514). How units number the bits of the
result, and what one unit of a scope is, are log entry 21. -/

namespace Sys2Proof.Machine

/-- A test or calibration is under way or waits: no other starts (R513), none in RECAST. -/
def State.testBusy (s : State) : Bool := decide (s.plat.dev = .recast) || s.booth.inflight.any (fun f => decide (f.opcode = 0x40 ∨ f.opcode = 0x41))

/-- A test whose units are Stages. -/
def stageUnits (op : Nat) (w : W64) : Bool := decide (op = 0x40 ∧ (bitsOf w 3 0 = 1 ∨ bitsOf w 3 0 = 2)) || decide (op = 0x41 ∧ bitsOf w 3 0 = 1)

/-- A Stage that cannot be tested: absent, fused off, retired. -/
def State.stageBad (s : State) (n : Nat) : Option Nat :=
  if 144 ≤ n ∨ Config.stageFused n = false then some 0x15
  else if s.sched.retired.any (fun r => decide (r.1 = n)) then some 0x11 else none

/-- The event that a test begins (R21). -/
def State.testStarts (s : State) (op : Nat) : State := s.post 0x0001 0 none [Config.phaseCode (if op = 0x40 then 5 else 6)]

/-- A test accepted (R480, R513): in RUN without URGENT it waits for the Curtain. -/
def State.beginTest (s : State) (k : Cmd) (units : List Nat) (bound : Nat) : Reply :=
  let wait := decide (s.plat.dev = .run) && !k.urgent
  let n := units.headD 0
  let stages := stageUnits k.op (k.word 0)
  let t := if wait then (if stages then s.modSched (fun q => { q with outAtCurtain := q.outAtCurtain ++ [n] }) else s)
    else (if stages then (s.takeOut n).modSched (fun q => { q with urgentTest := k.urgent }) else s).testStarts k.op
  t.accept k bound (fun f => { f with units := units, curtain := wait })

/-- SELF_TEST (R473, R474, R480, R512, R513). -/
def execSelfTest (c : CmdSrc) (s : State) : Host.Outcome State Fault Refusal :=
  runCmd c 0x40 anyOf (fun s k =>
    let n := k.w 0 15 8
    match k.w 0 3 0 with
    | 0 => if s.testBusy || decide (s.plat.dev ≠ .ready) then s.fails 0x13 else s.beginTest k [0] 2000000
    | 1 => (match s.stageBad n with
      | some st => s.fails st
      | none => if s.testBusy then s.fails 0x13 else s.beginTest k [n] 25000)
    | 2 =>
      let us := (List.range 144).filter s.stageAvail
      if s.testBusy then s.fails 0x13 else s.beginTest k us (25000 * us.length)
    | 3 => if s.fld .capStacks 0 n n = 0 ∨ 12 ≤ n then s.fails 0x15
      else if s.plat.dev ≠ .ready ∧ s.plat.dev ≠ .quiesced then s.fails 0x14
      else if s.testBusy then s.fails 0x13 else s.beginTest k [n] 3000000
    | 4 => if !s.hasPort n then s.fails 0x15 else if s.testBusy then s.fails 0x13 else s.beginTest k [n] 2000000
    | _ => s.fails 0x11) s

/-- Lanes of a mask. -/
def lanesOf (m : Nat) : List Nat := (List.range 8).filter (fun l => m.testBit l)

/-- CALIBRATE (R473, R474, R480, R512, R513). -/
def execCalibrate (c : CmdSrc) (s : State) : Host.Outcome State Fault Refusal :=
  runCmd c 0x41 anyOf (fun s k =>
    let n := k.w 0 15 8
    match k.w 0 3 0 with
    | 0 =>
      let ls := lanesOf (k.w 0 23 16)
      if !s.hasPort n then s.fails 0x15 else if ls.isEmpty then s.fails 0x11
      else if s.testBusy then s.fails 0x13 else s.beginTest k ls (200000 * ls.length)
    | 1 => (match s.stageBad n with
      | some st => s.fails st
      | none => if s.testBusy then s.fails 0x13 else s.beginTest k [n] 25000)
    | 2 => if s.fld .capStacks 0 n n = 0 ∨ 12 ≤ n then s.fails 0x15
      else if s.plat.dev ≠ .ready ∧ s.plat.dev ≠ .quiesced then s.fails 0x14
      else if s.testBusy then s.fails 0x13 else s.beginTest k [n] 3000000
    | _ => s.fails 0x11) s

/-- LANE_RETRAIN (R362, R473): the retired lanes it names, or those of a port that is down, one at a time. -/
def execLaneRetrain (c : CmdSrc) (s : State) : Host.Outcome State Fault Refusal :=
  runCmd c 0x42 anyOf (fun s k =>
    let n := k.w 0 4 0
    let ls := lanesOf (k.w 0 15 8)
    if !s.hasPort n then s.fails 0x15
    else if ls.isEmpty then s.fails 0x11
    else
      let take := ls.filter (fun l => decide (s.fld .lnkPort n (15 + l) (15 + l) = 1 ∨ s.fld .lnkPort n 2 0 = 4))
      (s.startRetrain n take false).accept k (200000 * ls.length)) s

/-- A record of a command in flight changed. -/
def State.setFly (s : State) (f g : InFlight) : State :=
  s.modBooth (fun b => { b with inflight := b.inflight.map (fun (x : InFlight) => if x = f then g else x) })

/-- A tested Stage leaves the test (R299, R513): it comes back, in RUN at the next Curtain, or is retired. -/
def State.stageTested (s : State) (n : Nat) (ok : Bool) : State :=
  if s.sched.retired.any (fun r => decide (r.1 = n)) then s
  else if !ok then s.retire n 1
  else if (s.plat.dev = .run ∨ s.plat.dev = .recast) ∧ s.leadCtx.isSome = true then s.modSched (fun q => { q with backAtCurtain := q.backAtCurtain ++ [n] })
  else (s.modSched (fun q => { q with testing := q.testing.filter (fun k => decide (k ≠ n)) })).blockGen 4

/-- The results of a test: units passed and failed by number; with a unit past 63, which a word cannot name, free values (log entry 12). -/
def State.testResults (s : State) (f : InFlight) : W64 × W64 × State :=
  let w := f.words.getD 0 0
  let wide := stageUnits f.opcode w && (decide (f.opcode = 0x40 ∧ bitsOf w 3 0 = 2) || decide (64 ≤ bitsOf w 15 8))
  if wide then (s.free.1, s.free.2.free.1, s.free.2.free.2)
  else (w64 f.pend, w64 ((f.bad.map (fun u => 2 ^ u)).sum), s)

/-- A test's next unit ends (R480, R513); after the last one its entry is written. One whose Curtain will not come, the lead having gone,
begins. -/
def State.endTest (s : State) (f : InFlight) (e : Ending) : State :=
  let w := f.words.getD 0 0
  let stages := stageUnits f.opcode w
  let u := f.units.headD 0
  if f.curtain then
    if s.leadCtx.isSome then s
    else
      let s := s.modSched (fun q => { q with outAtCurtain := q.outAtCurtain.filter (fun k => decide (k ≠ u)) })
      let s := if stages then (s.takeOut u).modSched (fun q => { q with urgentTest := false }) else s
      (s.setFly f { f with curtain := false, began := s.now }).testStarts f.opcode
  else if stages && ((s.stage u).inst.map (fun (i : Inst) => i.lead)).getD false then s
  else
    let subset := decide (f.opcode = 0x40 ∧ bitsOf w 3 0 = 0)
    let ok := if subset then e.failed.isEmpty else !e.failed.contains u && !(stages && s.sched.retired.any (fun r => decide (r.1 = u)))
    let s := if stages then s.stageTested u ok else s
    let g := { f with
      units := f.units.tail
      pend := if ok ∧ u < 64 then f.pend + 2 ^ u else f.pend
      bad := if ok then f.bad else f.bad ++ [u] }
    let s := s.setFly f g
    match g.units with
    | v :: _ => if stages then s.takeOut v else s
    | [] =>
      let s := if subset && ok then s.modPlat (fun p => { p with tested := true }) else s
      let s := s.post 0x0002 0 none [Config.phaseCode (if f.opcode = 0x40 then 5 else 6), s.now - f.began]
      match s.testResults g with
      | (a, b, s) => s.endCmd g 0 a b

/-- LANE_RETRAIN ends with the last of its lanes' tests. -/
def State.endLaneRetrain (s : State) (f : InFlight) : State :=
  let w := f.words.getD 0 0
  if s.link.retrain.any (fun x => decide (x.1 / 8 = bitsOf w 4 0 ∧ x.2 = 1) && (bitsOf w 15 8).testBit (x.1 % 8)) then s else s.endCmd f 0 0 0

end Sys2Proof.Machine
end

