-- ==== Sys2Proof/Machine/Deferred.lean ====
section
/-! DEFINITION. COMMAND_DEFERRED_COMPLETE: the end of a command in flight (R459, R465, R466, R473, R484). -/

namespace Sys2Proof.Machine

/-- A command that SAFE or FAULT has cut short (R466, R467): what it had open closes. -/
def State.endFaulted (s : State) (f : InFlight) : State :=
  let s := s.modPlat (fun p => { p with xfers := p.xfers.filter (fun x => !decide (x.kind = 0 ∧ x.src = f.src ∧ x.seq = f.seq)) })
  let s := if f.opcode = 0x33 then (s.dropXfers 1).modPbk (fun p => { p with restoring := none }) else s
  let s := if f.opcode = 0x40 ∨ f.opcode = 0x41 then
      (let t := s.modSched (fun q => { q with testing := [], outAtCurtain := [], backAtCurtain := [] })
      if s.sched.testing.isEmpty then t else t.blockGen 4) else s
  let s := if f.opcode = 0x71 then s.modBooth (fun b => { b with resetting := false }) else s
  s.endCmd f 0x30 0 0

/-- What a command in flight comes to; one that ends at a Curtain or with an event of its own goes on, or ends with BAD_PARAM once the lead it
waited on is gone (log entry 21). -/
def State.endFly (s : State) (f : InFlight) (e : Ending) : State :=
  if (s.plat.dev = .safe ∨ s.plat.dev = .fault) ∧ f.opcode ≠ 0x08 then s.endFaulted f
  else
    match f.opcode with
    | 0x08 => s.endReset f e.failed
    | 0x10 => s.endLoadScore f e
    | 0x20 => s.endRosterSet f e
    | 0x22 => s.endAdmit f e
    | 0x30 => s.endShardLoad f e
    | 0x33 => s.endRestore f e
    | 0x40 => s.endTest f e
    | 0x41 => s.endTest f e
    | 0x42 => s.endLaneRetrain f
    | 0x70 => s.endFirmwareStage f
    | 0x71 => s.endActivate f
    | _ => if s.leadCtx.isNone then s.endCmd f 0x11 0 0 else s

/-- COMMAND_DEFERRED_COMPLETE (R465, R466). -/
def execCommandDeferredComplete (seq : W32) (slot : Nat) (e : Ending) (s : State) : Host.Outcome State Fault Refusal :=
  match s.booth.inflight.find? (fun f => decide (f.src = slot ∧ f.seq = seq)) with
  | none => .next s
  | some f => .next (s.endFly f e)

end Sys2Proof.Machine
end

