-- ==== Sys2Proof/Machine/Feed.lean ====
section
/-! DEFINITION. The feed queue: WLD, AZERO, MMA and their events (R55-R72, R87, R115, R116). -/

namespace Sys2Proof.Machine

/-- A WLD at the head of the feed queue leaves it as soon as the weight port can hold it pending (R57). DESIGN CHOICE (log entry 26): having
left the queue it no longer keeps the operations behind it from starting (R56). -/
def Mxa.toPort (m : Mxa) : Mxa :=
  match m.pend, m.feed with
  | none, e :: rest => match e.op with
    | .wld _ _ _ _ => { m with pend := some e, feed := rest }
    | _ => m
  | _, _ => m

/-- Issue into the feed queue, which stalls the Prompter while it holds 8 operations (R55). -/
def issueFeed (p : Iss) (op : Nat) (bad : Bool) (uses : List (BitVec 5)) (mk : Prm → FeedOp) (s : State) :
    Host.Outcome State Fault Refusal :=
  issue p 4 op bad uses
    (fun s t _ =>
      if t.mx.feed.length ≥ 8 then .full
      else
        .seq (s.modStage p.stage (fun x =>
          { x with
            prm := { x.prm with seq := x.prm.seq + 1 }
            mx := Mxa.toPort { x.mx with feed := x.mx.feed ++ [⟨⟨t.prm.pc, 4, op⟩, t.prm.seq, mk t.prm⟩] } }))) s

/-- M of R116. -/
def rowCount (t : Prm) (mreg : Bool) (mimm : BitVec 8) (mr : BitVec 5) : Nat :=
  if mreg then (t.reg mr).toNat else mimm.toNat + 1

/-- WLD: the weight tile and scale addresses are read at issue (R57, R115). -/
def execWld (p : Iss) (wt : Bool) (tile scl : BitVec 5) (spk : Bool) (s : State) : Host.Outcome State Fault Refusal :=
  issueFeed p 0x00 false [tile, scl] (fun t => .wld wt (t.reg tile) (t.reg scl) spk) s

/-- AZERO: M rows are opened on slot SLOT (R67, R115, R116). -/
def execAzero (p : Iss) (slot : BitVec 4) (wide mreg : Bool) (mimm : BitVec 8) (mr : BitVec 5) (s : State) :
    Host.Outcome State Fault Refusal :=
  issueFeed p 0x01 false (if mreg then [mr] else []) (fun t => .azero slot.toNat wide (rowCount t mreg mimm mr)) s

/-- MMA: a reserved format code is illegal at decode (R31, R101). -/
def execMma (p : Iss) (f : MmaFields) (s : State) : Host.Outcome State Fault Refusal :=
  issueFeed p 0x02 (mmaFmt f.fmt.toNat).isNone (f.desc :: f.mask :: (if f.mreg then [f.mr] else []))
    (fun t => .mma f.acc f.slot.toNat f.wt (t.reg f.desc) (t.reg f.mask) f.amask.toNat f.fmt.toNat
      (rowCount t f.mreg f.mimm f.mr)) s

/-- The head of the feed queue leaves it. -/
def State.popFeed (s : State) (n : Nat) : State :=
  s.modStage n (fun t => { t with mx := (Mxa.toPort { t.mx with feed := t.mx.feed.drop 1 }).noteReady })

/-- A fault of the feed operation at the head. -/
def State.feedFault (s : State) (n : Nat) (e : FeedEnt) (c : Cause) (info : W64) : State :=
  s.kernelFault n ⟨c, e.org, info, none⟩

/-- A weight register. -/
def Mxa.wt (m : Mxa) (b : Bool) : WtReg := if b then m.wt1 else m.wt0
def Mxa.setWt (m : Mxa) (b : Bool) (r : WtReg) : Mxa := if b then { m with wt1 := r } else { m with wt0 := r }

/-- CCLK of a weight load in which its scale-plane line lies on a bank of the tile lines moved in the same CCLK (R57, R198, R199): 16 tile
lines and one plane line a CCLK, in ascending addresses (log entry 26). -/
def wldHold (tile plane plen : Nat) : Nat :=
  (List.range (plen / 64)).countP (fun c => decide ((plane / 64 + c + 64 - (tile / 64 + 16 * c) % 64) % 64 < 16))

/-- The WLD the weight port holds pending starts when the port is free and no MMA still streams from its register (R57,
R58): tile and scale plane are read; the register holds no completed tile until WLD_COMPLETE. CCLK in which its own lines meet on a bank
hold it (R199). -/
def execWldStart (n : Nat) (s : State) : Host.Outcome State Fault Refusal :=
  if n < 144 then
    let t := s.stage n
    match t.inst, t.mx.pend with
    | some i, some e =>
      match e.op with
      | .wld wt tile scl spk =>
        if t.mx.port.isSome || (match t.mx.mma with | some r => decide (r.wt = wt) | none => false) then .next s
        else
          let plen := if spk then 1024 else 512
          match i.record? tile 1024 16384 with
          | none => .next (s.feedFault n e .address tile)
          | some ta =>
            if scl ≠ 0 ∧ i.record? scl 64 plen = none then .next (s.feedFault n e .address scl)
            else
              match s.apRead n ta 16384 0 with
              | (bs, bad, s) =>
                match (if scl = 0 then ([], false, s) else s.apRead n (i.dataAddr scl.toNat) plen 0) with
                | (ps, pbad, s) =>
                  if bad || pbad then .next (s.feedFault n e .poison 0)
                  else
                    let r : WtReg := ⟨true, mlist 0 0 bs, decide (scl ≠ 0), spk, mlist 0 0 ps⟩
                    let own := if scl = 0 then 0 else wldHold ta (i.dataAddr scl.toNat) plen
                    .next ((s.bump .stgMxaStallBank n own).modStage n (fun t =>
                      { t with
                        mx := Mxa.toPort { t.mx.setWt wt { t.mx.wt wt with valid := false } with
                          port := some ⟨e.seq, wt, r, own, 0⟩, pend := none } }))
      | _ => .next s
    | _, _ => .next s
  else .fault .noSuchUnit

/-- The tile is in its weight register (R57). -/
def execWldComplete (n : Nat) (s : State) : Host.Outcome State Fault Refusal :=
  if n < 144 then
    match (s.stage n).mx.port with
    | some l => .next (s.modStage n (fun t => { t with mx := { t.mx.setWt l.wt l.data with port := none } }))
    | none => .next s
  else .fault .noSuchUnit

/-- A DRAIN or ROLL of the slot stands in the service queue ahead of an operation (R69). -/
def Mxa.closing (m : Mxa) (slot before : Nat) : Bool :=
  m.svc.any (fun e => decide (e.op.closes = some slot ∧ e.seq < before))

/-- Blocks that the queued DRAINs and ROLLs will free (R68). -/
def Mxa.willFree (m : Mxa) : Nat :=
  ((m.slots.filter (fun e => e.2.opened && m.svc.any (fun q => decide (q.op.closes = some e.1)))).map
    (fun e => e.2.blocks.length)).sum

/-- A slot opened over the given blocks: every entry +0, errors cleared, fed bits clear (R67, R87). -/
def Mxa.openSlot (m : Mxa) (slot : Nat) (wide : Bool) (rows : Nat) (blocks : List Nat) : Mxa :=
  let zero (m : Mxa) (array b : Nat) : Mxa :=
    { m with
      acc := mdrop m.acc (accKey array b 0 0) (accKey array (b + 1) 0 0)
      accEcc := mdrop m.accEcc (accKey array b 0 0 / 2) (accKey array (b + 1) 0 0 / 2) }
  let m := blocks.foldl (fun m b => [0, 1, 2, 3].foldl (fun m a => zero m a b) m) m
  { m.setSlot slot ⟨true, wide, rows, blocks, []⟩ with rolled := m.rolled.filter (fun r => decide (r.1 ≠ slot)) }

/-- The AZERO at the head of the feed queue starts (R67-R69, R116): it waits for its slot to close or for blocks that a
queued DRAIN or ROLL will free. DESIGN CHOICE (log entry 26): of the free row blocks it takes those of the lowest numbers,
and one that breaks R67's shape raises that fault whether its slot is open or not. -/
def execAzeroStart (n : Nat) (s : State) : Host.Outcome State Fault Refusal :=
  if n < 144 then
    let t := s.stage n
    match t.inst, t.mx.feed with
    | some _, e :: _ =>
      match e.op with
      | .azero slot wide m =>
        let need := cdiv m 16 * (if wide then 2 else 1)
        let free := t.mx.freeBlocks
        if m = 0 ∨ m > 256 ∨ (wide = true ∧ m > 128) then .next (s.feedFault n e .slotShape (w64 slot))
        else if (t.mx.slot slot).opened then
          if t.mx.closing slot e.seq then .next s
          else .next (s.feedFault n e .slotOpen (w64 slot))
        else if need ≤ free.length then
          .next ((s.popFeed n).modStage n (fun t => { t with mx := t.mx.openSlot slot wide m (free.take need) }))
        else if need ≤ free.length + t.mx.willFree then .next (s.stall .stgMxaStallSlot n)
        else .next (s.feedFault n e .overcommit (w64 slot))
      | _ => .next s
    | _, _ => .next s
  else .fault .noSuchUnit

/-- The 16-byte entry of one array in an activation descriptor (R63). -/
def actEnt (bs : List Byte) : ActEnt :=
  let w0 := ofLe (bs.take 8)
  let w1 := ofLe ((bs.drop 8).take 8)
  ⟨w0 % 2 ^ 23, w0 / 2 ^ 32 % 2 ^ 16, w1 % 2 ^ 23, w1 / 2 ^ 32 % 2 ^ 8⟩

/-- Rows below M that an array's mask bytes do not mask (R64). -/
def fedRows (mask : List Byte) (m : Nat) : List Nat :=
  (List.range m).filter (fun r => !((mask.getD (r / 8) 0).getLsbD (r % 8)))

/-- An entry's strides hold for the format (R66). -/
def ActEnt.strideOk (x : ActEnt) (f : MmaFmt) : Bool :=
  decide (64 ≤ x.rowStride) && decide (x.rowStride % 64 = 0) && (!f.mx || decide (f.k / 32 ≤ x.scaleStride))

/-- The address of a fed row that R66 refuses, if any. -/
def ActEnt.badRow (x : ActEnt) (i : Inst) (f : MmaFmt) (r : Nat) : Option Nat :=
  let ra := x.rowBase + r * x.rowStride
  let sa := x.scaleBase + r * x.scaleStride
  let nb := f.k / 32
  if ra % 64 ≠ 0 ∨ ra + 64 > i.dataSize then some ra
  else if f.mx = true ∧ (sa % nb ≠ 0 ∨ sa + nb > i.dataSize) then some sa
  else none

/-- Reads of an Apron record in pieces, each at its offset; poison in any of them (R63, R64). -/
def State.apReads (n : Nat) : List (Nat × Nat) → State → List (List Byte) × Bool × State
  | [], s => ([], false, s)
  | (a, len) :: t, s =>
    match s.apRead n a len 0 with
    | (bs, bad, s) => match State.apReads n t s with
      | (l, bad', s) => (bs :: l, bad || bad', s)

/-- The weight port holds or loads a WLD into a register (R58). -/
def Mxa.wtComing (m : Mxa) (wt : Bool) : Bool :=
  (match m.port with | some l => decide (l.wt = wt) | none => false)
    || (match m.pend with
      | some e => (match e.op with | .wld w _ _ _ => decide (w = wt) | _ => false)
      | none => false)

/-- The MMA at the head of the feed queue starts (R58, R63-R66, R70, R87, R116): it waits for its weight register and for
the MMA before it; every check is made before any row streams. Of the descriptor and the mask record only what concerns the named
arrays and rows below M is read. DESIGN CHOICE (log entry 26): where one MMA breaks several of these rules the fault reported is the
first of slot-shape (M above 256), slot-closed, slot-shape, weight-scale, address (descriptor, mask record), poison, address (strides, then
rows), and the address recorded for a refused stride is the descriptor's. -/
def execMmaStart (n : Nat) (s : State) : Host.Outcome State Fault Refusal :=
  if n < 144 then
    let t := s.stage n
    match t.inst, t.mx.feed with
    | some i, e :: _ =>
      match e.op with
      | .mma acc slot wt desc mask amask fmt m =>
        match mmaFmt fmt with
        | none => .next (s.feedFault n e .illegal 0)
        | some f =>
          let x := t.mx.slot slot
          let w := t.mx.wt wt
          if t.mx.mma.isSome then .next s
          else if t.mx.wtComing wt then .next (s.stall .stgMxaStallWld n)
          else if m > 256 then .next (s.feedFault n e .slotShape (w64 slot))
          else if !x.opened then .next (s.feedFault n e .slotClosed (w64 slot))
          else if m > x.m then .next (s.feedFault n e .slotShape (w64 slot))
          else if !w.valid || (f.mx && (!w.scaled || (decide (f.k = 128) && !w.big))) then
            .next (s.feedFault n e .weightScale 0)
          else
            match i.record? desc 64 64 with
            | none => .next (s.feedFault n e .address desc)
            | some da =>
              if mask ≠ 0 ∧ i.record? mask 32 128 = none then .next (s.feedFault n e .address mask)
              else
                let named := [0, 1, 2, 3].filter (fun a => amask.testBit a)
                match State.apReads n (named.map (fun a => (da + 16 * a, 16))) s with
                | (db, dbad, s) =>
                  match (if mask = 0 then ([], false, s)
                      else State.apReads n (named.map (fun a => (i.dataAddr mask.toNat + 32 * a, cdiv m 8))) s) with
                  | (mb, mbad, s) =>
                    let ents := named.zip (db.map actEnt)
                    let ent (a : Nat) : ActEnt := ((ents.find? (fun p => decide (p.1 = a))).map (fun p => p.2)).getD ⟨0, 0, 0, 0⟩
                    let left := named.zipIdx.map (fun p => (p.1, fedRows (mb.getD p.2 []) m))
                    let badAddr := left.findSome? (fun p => p.2.findSome? (fun r => (ent p.1).badRow i f r))
                    if dbad || mbad then .next (s.feedFault n e .poison 0)
                    else if named.any (fun a => !(ent a).strideOk f) then .next (s.feedFault n e .address desc)
                    else
                      match badAddr with
                      | some a => .next (s.feedFault n e .address (w64 a))
                      | none =>
                        let s := s.popFeed n
                        if left.all (fun p => p.2.isEmpty) then .next s
                        else
                          .next (s.modStage n (fun t =>
                            { t with
                              mx := { t.mx with
                                mma := some ⟨e.org, e.seq, acc, slot, wt, fmt, [0, 1, 2, 3].map ent, left⟩ } }))
      | _ => .next s
    | _, _ => .next s
  else .fault .noSuchUnit

/-- Apron banks of the reads that enter rows of a lockstep group: an activation row each and, for MX codes, its scale record (R54,
R198). -/
def MmaRun.banks (run : MmaRun) (i : Inst) (f : MmaFmt) (now : List (Nat × Nat)) : List Nat :=
  now.flatMap (fun p =>
    let e := run.base.getD p.1 ⟨0, 0, 0, 0⟩
    let bank (a : Nat) : Nat := i.dataAddr a / 64 % 64
    bank (e.rowBase + p.2 * e.rowStride) :: (if f.mx then [bank (e.scaleBase + p.2 * e.scaleStride)] else []))

/-- CCLK the arrays hold because one bank has to serve several of these reads (R199). -/
def bankHold (l : List Nat) : Nat := (l.map (fun b => l.countP (fun c => decide (c = b)))).foldl Nat.max 1 - 1

/-- CCLK held as the rows `now` enter (R62, R199): `hold` for reads that meet on one bank, beside a weight load that and what the load's own
lines do not already hold, with a free value more; a free value for rows of an ADD pass to which a Roll-in has added since a pass last
entered (log entry 10). -/
def State.enterStalls (s : State) (n : Nat) (run : MmaRun) (hold : Nat) (now : List (Nat × Nat)) : State :=
  let m := (s.stage n).mx
  let due (r : Nat × Nat × Nat) : Bool := decide (r.1 = run.slot) && now.contains r.2
  let s := match m.port with
    | none => s.bump .stgMxaStallBank n hold
    | some l => (s.bump .stgMxaStallBank n ((l.met + hold - l.own) - (l.met - l.own))).stall .stgMxaStallBank n
  let s := if run.acc && m.rolled.any due then s.stall .stgMxaStallDep n else s
  s.modStage n (fun t =>
    { t with
      mx := { t.mx with
        port := m.port.map (fun l => { l with met := l.met + hold })
        rolled := m.rolled.filter (fun r => !due r) } })

/-- Row `r` of an array enters (R59, R61): the row and its scale record are read, under ADD the resident entries too; the
results or a poisoned read. -/
def State.enterRow (s : State) (n : Nat) (i : Inst) (run : MmaRun) (f : MmaFmt) (cols : List (List FV)) (a r : Nat) :
    Option (List (W32 × W32)) × State :=
  let x := (s.stage n).mx.slot run.slot
  let e := run.base.getD a ⟨0, 0, 0, 0⟩
  match s.apRead n (i.dataAddr (e.rowBase + r * e.rowStride)) 64 0 with
  | (bs, bad, s) =>
    match (if f.mx then s.apRead n (i.dataAddr (e.scaleBase + r * e.scaleStride)) (f.k / 32) 0 else ([], false, s)) with
    | (ss, sbad, s) =>
      if bad || sbad then (none, s)
      else
        let act := vecVals f.a f.mx (ss.map (fun b => b.toNat)) bs
        if run.acc then
          match s.slotRow n x a r with
          | (h, l, abad, s) =>
            if abad then (none, s) else (some (rowResults x.wide act cols ((accTerms x h l).map some)), s)
        else (some (rowResults x.wide act cols []), s)

/-- The rows of one lockstep group entered one array after another; `none` at the first poisoned read. -/
def State.enterRows (n : Nat) (i : Inst) (run : MmaRun) (f : MmaFmt) (cols : List (List FV)) (grp : Nat) :
    List (Nat × Nat) → State → Option (List RowFly) × State
  | [], s => (some [], s)
  | (a, r) :: t, s =>
    match s.enterRow n i run f cols a r with
    | (none, s) => (none, s)
    | (some res, s) =>
      match State.enterRows n i run f cols grp t s with
      | (none, s) => (none, s)
      | (some fs, s) => (some (⟨grp, run.seq, run.slot, a, r, res⟩ :: fs), s)

/-- Every row in the adder trees written, in the order the rows entered (R61, R71). -/
def State.landFly (s : State) (n : Nat) : State :=
  ((s.stage n).mx.fly.foldl (fun (s : State) z => s.putSlotRow n z.slot z.array z.row z.res) s).modStage n (fun t =>
    { t with mx := { t.mx with fly := [] } })

/-- One CCLK of a streaming MMA: every named array that still has fed rows takes its next one, unless R62 holds one of
them (R59, R61, R62). A poisoned read ends the kernel with the rows before it complete (R87, R89). Reads that meet on one bank hold the
arrays (R199). -/
def execMmaRowEnter (n : Nat) (s : State) : Host.Outcome State Fault Refusal :=
  if n < 144 then
    let t := s.stage n
    match t.inst, t.mx.mma with
    | some i, some run =>
      match mmaFmt run.fmt with
      | none => .next s
      | some f =>
        let now := run.left.filterMap (fun p => p.2.head?.map (fun r => (p.1, r)))
        if run.acc && now.any (fun p => t.mx.fly.any (fun y =>
            decide (y.slot = run.slot ∧ y.array = p.1 ∧ y.row = p.2))) then .next (s.stall .stgMxaStallDep n)
        else
          let grp := match t.mx.fly.getLast? with | some y => y.grp + 1 | none => 0
          let cols := (t.mx.wt run.wt).cols f
          match State.enterRows n i run f cols grp now s with
          | (none, s) => .next ((s.landFly n).kernelFault n ⟨.poison, run.org, 0, none⟩)
          | (some fs, s) =>
            let s := s.enterStalls n run (bankHold (run.banks i f now)) now
            let left := run.left.map (fun p => (p.1, p.2.drop 1))
            let s := (s.bump .stgMxaRows n now.length).bump .stgMxaBusy n 1
            .next (s.modStage n (fun t =>
              { t with
                mx := { t.mx with
                  fly := t.mx.fly ++ fs
                  mma := if left.all (fun p => p.2.isEmpty) then none else some { run with left := left } } }))
    | _, _ => .next s
  else .fault .noSuchUnit

/-- The oldest lockstep group's results are written into the slot, 22 CCLK after it entered (R61, R71). -/
def execMmaRowWrite (n : Nat) (s : State) : Host.Outcome State Fault Refusal :=
  if n < 144 then
    match (s.stage n).mx.fly with
    | [] => .next s
    | y :: _ =>
      let due := (s.stage n).mx.fly.filter (fun z => decide (z.grp = y.grp))
      let s := due.foldl (fun s z => s.putSlotRow n z.slot z.array z.row z.res) s
      .next (s.modStage n (fun t =>
        { t with mx := Mxa.noteReady { t.mx with fly := t.mx.fly.filter (fun z => decide (z.grp ≠ y.grp)) } }))
  else .fault .noSuchUnit

end Sys2Proof.Machine
end

