-- ==== Sys2Proof/Machine/Mgmt.lean ====
section
/-! DEFINITION. Management: MCTP and PLDM over SMBus (R565, R566), the recovery SPI (R511, R568), JTAG (R567). -/

namespace Sys2Proof.Machine

def State.modPorts (s : State) (f : PortsSt → PortsSt) : State := s.modPlat (fun p => { p with ports := f p.ports })

/-- PLDM answers from READY (R565). -/
def State.managed (s : State) : Bool := decide (s.plat.dev ≠ .off) && !s.booting && !s.plat.perst

/-- The sensors of R566, from sensor 1 on. -/
def State.sensorValues (s : State) : List Nat :=
  [s.fld .pwrStatus 0 19 12] ++ (List.range 4).map (fun f => s.fld .pwrTemp f 7 0) ++ (List.range 12).map (fun k => s.fld .hbmStack k 10 3)
    ++ [s.fld .pwrStatus 0 11 0] ++ (List.range 5).map (fun r => s.fld .pwrRail r 15 0) ++ (List.range 5).map (fun r => s.fld .pwrRail r 31 16)
    ++ [s.fld .clkCclk 0 11 0, s.plat.dev.code] ++ (List.range 24).map (fun n => s.fld .lnkPort n 6 3)

/-- How many of a sensor's thresholds a value has reached (R566); of sensor 30 the state itself. -/
def sensorLevel (id v : Nat) : Nat :=
  let reached (l : List Nat) : Nat := (l.filter (fun t => decide (t ≤ v))).length
  if id = 1 then reached [100, 105, 115]
  else if 6 ≤ id ∧ id ≤ 17 then reached [85, 95]
  else if id = 30 then v else 0

/-- SENSOR_SAMPLE (R566): sensors read; a change of state or a threshold crossed sends an event message to the receiver set. -/
def execSensorSample (s : State) : Host.Outcome State Fault Refusal :=
  if !s.managed then .next s
  else
    let old := s.plat.ports.sensors
    let new := s.sensorValues
    let to' := s.plat.ports.eventReceiver
    let msgs := if old.isEmpty ∨ to' = 0 then [] else (List.range new.length).filterMap (fun j =>
      let a := sensorLevel (j + 1) (old.getD j 0)
      let b := sensorLevel (j + 1) (new.getD j 0)
      if a = b then none else some (to', j + 1, a, b))
    .next (s.modPorts (fun p => { p with sensors := new, pldm := p.pldm ++ msgs }))

/-- SET_ENDPOINT_ID (R565): MCTP control is answered from the end of the boot ROM phase. -/
def execSetEndpointId (eid : Byte) (s : State) : Host.Outcome State Fault Refusal :=
  if s.barLive then .next (s.modPorts (fun p => { p with mctpEid := eid })) else .next s

/-- SET_EVENT_RECEIVER (R566). -/
def execSetEventReceiver (eid : Byte) (s : State) : Host.Outcome State Fault Refusal :=
  if s.managed then .next (s.modPorts (fun p => { p with eventReceiver := eid })) else .next s

/-- The boot ROM takes an image over the recovery SPI (R511). -/
def State.recovering (s : State) : Bool := decide (s.plat.dev = .fault ∧ s.plat.faultCause = 7)

/-- READ_ID (R568): most significant byte first. -/
def execReadId (s : State) : Host.Outcome State Fault Refusal :=
  if s.plat.dev = .off then .next s
  else .next (s.modPorts (fun p => { p with spiOut := (leBytes 8 (s.rd .idnDevid).toNat).reverse }))

/-- STATUS (R568): READY is set only while an image can be taken. -/
def execStatus (s : State) : Host.Outcome State Fault Refusal :=
  if s.plat.dev = .off then .next s
  else .next (s.modPorts (fun p => { p with spiOut := [BitVec.ofNat 8 (p.spiStatus + if s.recovering then 8 else 0)] }))

/-- WRITE (R568): bytes into the image buffer; a write past 32 MiB is ignored and sets FAIL, which a write at 0 clears. -/
def execWrite (off : W32) (data : List Byte) (s : State) : Host.Outcome State Fault Refusal :=
  if !s.recovering || data.isEmpty || decide (256 < data.length) then .next s
  else if 2 ^ 25 < off.toNat + data.length then .next (s.modPorts (fun p => { p with spiStatus := p.spiStatus ||| 4 }))
  else .next (s.modPorts (fun p =>
    { p with
      spiBuf := msetRun 0 p.spiBuf off.toNat data
      spiLen := Nat.max p.spiLen (off.toNat + data.length)
      spiStatus := if off = 0 then p.spiStatus &&& 3 else p.spiStatus }))

/-- CHECK (R509, R511, R568): an image that passes goes to area A, which the selector then names, and a warm reset follows, whose cause code is
a free value (log entry 12); one that fails is discarded. -/
def execCheck (s : State) : Host.Outcome State Fault Refusal :=
  if !s.recovering then .next s
  else
    let i : Image := ⟨mgetRun 0 s.plat.ports.spiBuf 0 s.plat.ports.spiLen⟩
    if s.imagePasses i then
      let t := (s.free.2.modPlat (fun p => { p with flash := { p.flash with imgA := some i, selB := false } })).warmReset (s.free.1.toNat % 4)
      .next (t.modPorts (fun p => { p with spiStatus := 2 }))
    else .next (s.modPorts (fun p => { p with spiBuf := [], spiLen := 0, spiStatus := 4 }))

/-- Free bits, as many as there are boundary cells: what the pins show, in an order the spec does not give (log entry 12). -/
def State.freeBits (s : State) : Nat → List Bool × State
  | 0 => ([], s)
  | n + 1 =>
    let r := State.freeBits s.free.2 n
    (s.free.1.getLsbD 0 :: r.1, r.2)

/-- A JTAG instruction selected (R567): whether boundary cells drive the pins, whether the pins float, what shifts out. -/
def State.jtag (s : State) (code : Nat) (driven high : Bool) (out : List Bool) : Host.Outcome State Fault Refusal :=
  if !s.plat.pwrgood then .next s
  else .next (s.modPorts (fun p => { p with jtagInstr := code, jtagDriven := driven, jtagHigh := high, jtagOut := out }))

/-- The low bits of a number, least significant first. -/
def bitList (n v : Nat) : List Bool := (List.range n).map (fun k => v.testBit k)

/-- BYPASS (R567). -/
def execBypass (s : State) : Host.Outcome State Fault Refusal := s.jtag 3 false false [false]

/-- IDCODE (R567). -/
def execIdcode (s : State) : Host.Outcome State Fault Refusal :=
  s.jtag 2 false false (bitList 32 (0x10960001 + Config.jtagManufacturer % 2048 * 2))

/-- SAMPLE/PRELOAD (R567): the pins are sampled, the cells take what is shifted in. -/
def execSamplePreload (v : List Bool) (s : State) : Host.Outcome State Fault Refusal :=
  if !s.plat.pwrgood then .next s
  else
    let r := s.freeBits v.length
    (r.2.modPorts (fun p => { p with jtagCells := v })).jtag 1 false false r.1

/-- EXTEST (R567): the cells drive the pins, and what the pins show is taken. -/
def execExtest (s : State) : Host.Outcome State Fault Refusal :=
  if !s.plat.pwrgood then .next s
  else
    let r := s.freeBits s.plat.ports.jtagCells.length
    r.2.jtag 0 true false r.1

/-- CLAMP (R567): the cells drive the pins, the bypass register is selected. -/
def execClamp (s : State) : Host.Outcome State Fault Refusal := s.jtag 4 true false [false]

/-- HIGHZ (R567): the pins float, the bypass register is selected. -/
def execHighz (s : State) : Host.Outcome State Fault Refusal := s.jtag 5 false true [false]

end Sys2Proof.Machine
end

