-- ==== Sys2Proof/Machine/Power.lean ====
section
/-! DEFINITION. The Dimmer, SAFE, the thermal trip, regulators, droop, PLLs, the PCIe link (R501, R502, R507, R524-R536, R540, R542, R544,
R555). What the Dimmer does where two of its rules meet is log entry 24. -/

namespace Sys2Proof.Machine

/-- The parts of the device behind the rails are powered and past the boot ROM. -/
def State.live (s : State) : Bool := decide (s.plat.dev ≠ .off) && !s.plat.perst && !s.plat.phase.contains 1

/-- Operating windows of the rails in the order of R544 (R542): lowest and highest mV times 100. -/
def State.railWindow (s : State) (r : Nat) : Nat × Nat :=
  let w (mv lo hi : Nat) : Nat × Nat := (mv * (100 - lo), mv * (100 + hi))
  match r with
  | 0 => w (s.fld .clkCclk 0 21 12) 8 5
  | 1 => w 800 3 3
  | 2 => w 900 3 3
  | 3 => w 1800 5 5
  | 4 => w 1050 3 3
  | 5 => w 750 3 3
  | _ => w 1800 5 5
def State.railOut (s : State) (x : PowerSample) (r : Nat) : Bool :=
  match x.railMv[r]? with
  | none => false
  | some mv => decide (mv * 100 < (s.railWindow r).1 ∨ (s.railWindow r).2 < mv * 100)

def stackMax (x : PowerSample) : Nat := x.stackTemp.foldl Nat.max 0

/-- Rails, with the stack supplies together (R533); the voltage that stands for the three of those is a free value (log entry 12). -/
def State.showRails (s : State) (x : PowerSample) : State :=
  let mv (r : Nat) : Nat := x.railMv.getD r 0
  let amp (r : Nat) : Nat := x.railAmps.getD r 0
  let put (s : State) (r v a w : Nat) : State := s.wr .pwrRail r (w64 (fieldsWord [(v, 0, 16), (a, 16, 16), (w, 32, 16)]))
  let s := (List.range 4).foldl (fun (s : State) r => put s r (mv r) (amp r) (mv r * amp r / 1000)) s
  put s.free.2 4 (bitsOf s.free.1 15 0) (amp 4 + amp 5 + amp 6) ((mv 4 * amp 4 + mv 5 * amp 5 + mv 6 * amp 6) / 1000)

/-- What a sample shows in registers (R525, R526, R532-R534): power, temperatures, rails, energy over its 10 µs. -/
def State.showSample (s : State) (x : PowerSample) : State :=
  let s := ((s.setFld .pwrStatus 0 11 0 (Nat.min x.watts 4095)).setFld .pwrStatus 0 19 12 (Nat.min x.junction 255)).setFld .pwrStatus 0 27 20
    (Nat.min (stackMax x) 255)
  let s := (List.range 4).foldl (fun (s : State) f =>
    let t := Nat.min (x.fieldTemp.getD f 0) 255
    (s.setFld .pwrTemp f 7 0 t).setFld .pwrTemp f 15 8 (Nat.max t (s.fld .pwrTemp f 15 8))) s
  let s := (List.range Config.stackCount).foldl (fun (s : State) k =>
    let t := Nat.min (x.stackTemp.getD k 0) 255
    (s.setFld .hbmStack k 10 3 t).setFld .hbmStack k 2 2 (bit01 (decide (85 < t)))) s
  let s := s.showRails x
  let e := s.plat.dimmer.energyRem + x.watts
  (s.bump .pwrEnergy 0 (e / 100)).modPlat (fun p => { p with dimmer := { p.dimmer with energyRem := e % 100 } })

def State.modDimmer (s : State) (f : Dimmer → Dimmer) : State := s.modPlat (fun p => { p with dimmer := f p.dimmer })

/-- An event of a throttling episode (R530). -/
def State.dimmerEvent (s : State) (cause : Nat) : State :=
  (s.post 0x0050 1 none [w64 cause, w64 s.plat.dimmer.before, w64 s.plat.dimmer.lowest]).modDimmer (fun d =>
    { d with sinceEvent := 0, lowest := s.fld .clkCclk 0 11 0 })

/-- CCLK set (R524, R525, R530): its steps counted; the operating point that VDD_CORE gets for a frequency is a free value (log entry 12). -/
def State.setCclk (s : State) (mhz : Nat) : State :=
  let cur := s.fld .clkCclk 0 11 0
  if mhz = cur then s
  else
    let s := s.bump .pwrThrSteps 0 ((Nat.max mhz cur - Nat.min mhz cur) / 25)
    ((s.free.2.setFld .clkCclk 0 11 0 mhz).setFld .clkCclk 0 21 12 (650 + s.free.1.toNat % 201)).setFld .pwrStatus 0 31 31
      (bit01 (decide (mhz < s.fld .clkCclkRange 0 11 0)))

/-- A step down for a cause (R525, R526, R530): the first of an episode is posted. -/
def State.lower (s : State) (mhz cause : Nat) : State :=
  let cur := s.fld .clkCclk 0 11 0
  let s := (s.setCclk mhz).setFld .pwrStatus 0 30 28 cause
  if mhz = cur then s
  else if s.plat.dimmer.episode then s.modDimmer (fun d => { d with lowest := Nat.min d.lowest mhz })
  else (s.modDimmer (fun d => { d with episode := true, before := cur, lowest := mhz })).dimmerEvent cause

/-- The Dimmer acts on a sample (R525, R526): the emergency, then heat, then power, else a step up after 100 light samples. -/
def State.dim (s : State) (x : PowerSample) : State :=
  let cur := s.fld .clkCclk 0 11 0
  let lo := s.fld .clkCclkRange 0 11 0
  let hi := s.fld .clkCclkRange 0 23 12
  let limit := s.fld .pwrLimit 0 11 0
  let quiet (s : State) : State := s.modDimmer (fun d => { d with lowRun := 0 })
  if 105 ≤ x.junction then (quiet s).lower 800 4
  else if 100 ≤ x.junction then (quiet s).lower (Nat.max 800 (cur - 25)) 2
  else if 95 ≤ stackMax x then (quiet s).lower (Nat.max 800 (cur - 25)) 3
  else if limit < x.watts then
    (if lo < cur then (quiet s).lower (Nat.max lo (cur - 25)) 1 else (quiet s).lower (Nat.max 800 (cur - 25)) 5)
  else if hi < cur then (quiet s).setCclk hi
  else if x.watts * 100 ≤ 97 * limit ∧ x.junction < 98 then
    (if s.plat.dimmer.lowRun + 1 < 100 then s.modDimmer (fun d => { d with lowRun := d.lowRun + 1 })
    else (quiet s).setCclk (Nat.min hi (cur + 25)))
  else quiet s

/-- The end of an episode, its event every 100 ms, the time below MAX_MHZ (R530, R534). -/
def State.dimmerTime (s : State) : State :=
  let hi := s.fld .clkCclkRange 0 23 12
  if hi ≤ s.fld .clkCclk 0 11 0 then (s.setFld .pwrStatus 0 30 28 0).modDimmer (fun d => { d with episode := false, sinceEvent := 0 })
  else
    let s := s.bump .pwrThrNs 0 10000
    if !s.plat.dimmer.episode then s
    else if s.plat.dimmer.sinceEvent + 1 < 10000 then s.modDimmer (fun d => { d with sinceEvent := d.sinceEvent + 1 })
    else s.dimmerEvent (s.fld .pwrStatus 0 30 28)

/-- SAFE conditions (R526, R528, R542): cause, rail or sensor, and reading of the first that has lasted. -/
def State.safeCond (s : State) (x : PowerSample) : Option (Nat × Nat × Nat) :=
  let d := s.plat.dimmer
  if 10000 ≤ d.hotRun then some (1, 0, x.junction)
  else if 10000 ≤ d.stackRun then
    some (2, ((List.range Config.stackCount).find? (fun k => decide (100 ≤ x.stackTemp.getD k 0))).getD 0, stackMax x)
  else ((List.range 7).find? (fun r => decide (100 ≤ d.railRun.getD r 0))).map (fun r => (3, r, x.railMv.getD r 0))

/-- How long what leads to SAFE has been there (R526, R528, R542). -/
def State.countSafe (s : State) (x : PowerSample) : State :=
  let slow := s.plat.cclkStopped || decide (s.fld .clkCclk 0 11 0 = 800)
  let rails := (List.range 7).map (fun r => if s.railOut x r then s.plat.dimmer.railRun.getD r 0 + 1 else 0)
  s.modDimmer (fun d =>
    { d with
      hotRun := if 105 ≤ x.junction && slow then d.hotRun + 1 else 0
      stackRun := if 100 ≤ stackMax x then d.stackRun + 1 else 0
      railRun := rails })

/-- DIMMER_SAMPLE (R501, R525-R534, R542). -/
def execDimmerSample (x : PowerSample) (s : State) : Host.Outcome State Fault Refusal :=
  if !s.live then .next s
  else
    let s := (s.showSample x).countSafe x
    let s := if s.plat.cclkStopped then s else (s.dim x).dimmerTime
    let c := s.safeCond x
    let s := s.setFld .pwrStatus 0 32 32 (bit01 c.isSome)
    let calm := decide (x.junction < 105 ∧ stackMax x < 100) && (List.range 7).all (fun r => !s.railOut x r)
    let s := s.modPlat (fun p => { p with safeClear := if calm then p.safeClear + 1 else 0 })
    match c with
    | some (cause, unit, v) => .next (s.enterSafe cause unit v)
    | none => .next s

/-- SAFE_EXIT (R501): every SAFE condition has been absent for 10 s, a million samples. -/
def execSafeExit (s : State) : Host.Outcome State Fault Refusal :=
  if s.plat.dev = .safe ∧ 1000000 ≤ s.plat.safeClear then
    .next ((s.modPlat (fun p => { p with dev := .ready, cclkStopped := false, selfRefresh := false, safeCause := 0 })).setFld .pwrStatus 0 32 32 0)
  else .next s

/-- THERMAL_TRIP (R502, R503, R527): the trip is recorded if the supply lasts (a free value, log entry 12). -/
def execThermalTrip (s : State) : Host.Outcome State Fault Refusal :=
  if !s.live then .next s
  else
    let s := if s.plat.dev = .fault then s.gong 1 s.link.me s.rosterVersion 24 else s.enterFault 1
    .next (s.free.2.modPlat (fun p =>
      { p with
        cclkStopped := true, selfRefresh := true, txStopped := true, thermTrip := true, faultN := true
        flash := { p.flash with trip := p.flash.trip || s.free.1.getLsbD 0 } }))

/-- VR_ALERT (R544): a fault that a regulator reports, with its bus address. -/
def execVrAlert (reg : Nat) (status : BitVec 16) (mv : Nat) (s : State) : Host.Outcome State Fault Refusal :=
  if 7 ≤ reg then .fault .noSuchUnit
  else if s.live && decide (status ≠ 0) then .next (s.post 0x0051 1 none [w64 (0x40 + reg), w64 status.toNat, w64 mv]) else .next s

/-- DROOP_DETECT (R529): suppressed edges count; results do not change (R51). -/
def execDroopDetect (field edges : Nat) (s : State) : Host.Outcome State Fault Refusal :=
  if 4 ≤ field then .fault .noSuchUnit
  else if s.live && !s.plat.cclkStopped then .next (s.bump .pwrDroop 0 edges) else .next s

/-- The PCIe link goes down and trains again (R555). -/
def State.pcieDown (s : State) : State := s.satBump .pciLink 0 31 16 1

/-- PCIE_LINK_DOWN (R555). -/
def execPcieLinkDown (s : State) : Host.Outcome State Fault Refusal := if s.live then .next s.pcieDown else .next s

/-- A stack that no longer answers (R222, R507, R536): its channels retire at once, what they held is poisoned where a context owns it, and the
spill that moves with them is read for its errors (R256). A retirement that is still being copied starts its copy again. -/
def State.loseStack (s : State) (k : Nat) : State :=
  let chans := (List.range 32).map (fun j => 32 * k + j)
  let new := chans.filter (fun c => !s.mem.retiredChans.contains c)
  let lost (a : Nat) : Bool := chans.contains ((s.stackKey a) / 2 ^ 31 / 2)
  let gone := (s.mem.pages.flatMap (fun (e : Nat × Nat) => (List.range 8192).map (fun j => e.1 * pageBytes + 256 * j))).filter lost
  let s := gone.foldl (fun (s : State) a => s.stackPoison a 256) s
  let s := new.foldl (fun (s : State) c => s.logRepair ⟨4, c / 32, 2 * c, 0⟩) s
  let left := (match s.mem.copy with
    | some c => c.chans
    | none => []).filter (fun c => !new.contains c)
  let s := ({ s with mem := { s.mem with copy := some ⟨new, true⟩ } }).readMoved
  let s := (s.switchRemap new).setFld .hbmStack k 1 1 0
  if left.isEmpty then s else ({ s with mem := { s.mem with copy := some ⟨left, false⟩ } }).setFld .hbmCapacity 0 10 10 1

/-- PLL_LOCK_LOSS (R502, R507, R536, R540): what the PLL clocks fails. -/
def execPllLockLoss (pll : Nat) (s : State) : Host.Outcome State Fault Refusal :=
  if 25 ≤ pll then .fault .noSuchUnit
  else if !s.live then .next s
  else
    let s := s.setFld .clkPllStatus 0 pll pll 0
    if pll = 0 ∨ pll = 1 ∨ pll = 14 then .next (s.enterFault 9)
    else if pll < 14 then .next (s.loseStack (pll - 2))
    else if pll = 15 then .next s
    else if pll < 20 then .next (((List.range 24).filter (fun n => decide (n / 6 = pll - 16))).foldl State.portDown s)
    else if pll = 20 then .next s.pcieDown
    else .next (s.setFld .ethPort (pll - 21) 1 0 0)

end Sys2Proof.Machine
end

