-- ==== Sys2Proof/Machine/Flags.lean ====
section
/-! DEFINITION. The compares that write predicates (R106, R107): the machine's only flags. -/

namespace Sys2Proof.Machine

/-- The compares of opcodes 0x20-0x25, in the table's order. -/
inductive Cmp where
  | eq | ne | lt | le | ltu | leu
  deriving DecidableEq, Repr

/-- The compare's result. -/
def Cmp.eval (c : Cmp) (a b : W64) : Bool :=
  match c with
  | .eq => decide (a = b)
  | .ne => decide (a ≠ b)
  | .lt => a.slt b
  | .le => a.sle b
  | .ltu => a.ult b
  | .leu => a.ule b

end Sys2Proof.Machine
end

