-- ==== Sys2Proof/Machine/Scalar.lean ====
section
/-! DEFINITION. Classes 0x0 and 0x1: scalar and predicate instructions (R106-R108). -/

namespace Sys2Proof.Machine

/-- High half of the signed product (MULH). -/
def mulhS (a b : W64) : W64 := BitVec.ofInt 64 (a.toInt * b.toInt / 2 ^ 64)
/-- High half of the unsigned product (MULHU). -/
def mulhU (a b : W64) : W64 := BitVec.ofNat 64 (a.toNat * b.toNat / 2 ^ 64)
/-- Unsigned division and remainder with R106's results for a zero divisor. -/
def divuV (a b : W64) : W64 := if b = 0 then -1 else BitVec.ofNat 64 (a.toNat / b.toNat)
def remuV (a b : W64) : W64 := if b = 0 then a else BitVec.ofNat 64 (a.toNat % b.toNat)
/-- Signed division toward zero and its remainder (R106); −2^63 ÷ −1 wraps to −2^63. -/
def divV (a b : W64) : W64 := if b = 0 then -1 else BitVec.ofInt 64 (Int.tdiv a.toInt b.toInt)
def remV (a b : W64) : W64 := if b = 0 then a else BitVec.ofInt 64 (Int.tmod a.toInt b.toInt)
/-- Shift amount of a shift operand (R106, R107). -/
def shAmt (b : W64) : Nat := b.toNat % 64
/-- Leading zeros, 0-64. -/
def clzV (a : W64) : W64 := if a = 0 then 64 else BitVec.ofNat 64 (63 - Nat.log2 a.toNat)
/-- Set bits. -/
def popcV (a : W64) : W64 := BitVec.ofNat 64 (((List.range 64).filter (fun i => a.getLsbD i)).length)
def minS (a b : W64) : W64 := if a.slt b then a else b
def maxS (a b : W64) : W64 := if a.slt b then b else a
def minU (a b : W64) : W64 := if a.ult b then a else b
def maxU (a b : W64) : W64 := if a.ult b then b else a

/-- RD := f(RA, RB). -/
def rrr (p : Iss) (op : Nat) (rd ra rb : BitVec 5) (f : W64 → W64 → W64) (s : State) :
    Host.Outcome State Fault Refusal :=
  issueRd p 0 op [ra, rb] rd (fun t => f (t.reg ra) (t.reg rb)) s

/-- PD := compare of RA and RB. -/
def prr (p : Iss) (op : Nat) (pd : BitVec 3) (ra rb : BitVec 5) (c : Cmp) (s : State) :
    Host.Outcome State Fault Refusal :=
  issuePd p 0 op [ra, rb] pd (fun t => c.eval (t.reg ra) (t.reg rb)) s

/-- RD := f(RA, IMM). -/
def rri (p : Iss) (op : Nat) (rd ra : BitVec 5) (imm : W32) (f : W64 → W64 → W64) (s : State) :
    Host.Outcome State Fault Refusal :=
  issueRd p 1 op [ra] rd (fun t => f (t.reg ra) (sext imm)) s

/-- PD := compare of RA and IMM. -/
def pri (p : Iss) (op : Nat) (pd : BitVec 3) (ra : BitVec 5) (imm : W32) (c : Cmp) (s : State) :
    Host.Outcome State Fault Refusal :=
  issuePd p 1 op [ra] pd (fun t => c.eval (t.reg ra) (sext imm)) s

/-- ADD: RD := RA + RB (R106). -/
def execAdd (p : Iss) (rd ra rb : BitVec 5) (s : State) := rrr p 0x00 rd ra rb (· + ·) s
/-- SUB: RD := RA − RB (R106). -/
def execSub (p : Iss) (rd ra rb : BitVec 5) (s : State) := rrr p 0x01 rd ra rb (· - ·) s
/-- MUL: RD := low 64 bits of RA × RB (R106). -/
def execMul (p : Iss) (rd ra rb : BitVec 5) (s : State) := rrr p 0x02 rd ra rb (· * ·) s
/-- MULH: RD := high 64 bits of the signed product (R106). -/
def execMulh (p : Iss) (rd ra rb : BitVec 5) (s : State) := rrr p 0x03 rd ra rb mulhS s
/-- MULHU: RD := high 64 bits of the unsigned product (R106). -/
def execMulhu (p : Iss) (rd ra rb : BitVec 5) (s : State) := rrr p 0x04 rd ra rb mulhU s
/-- DIVU: RD := RA ÷ RB, unsigned; all ones for RB = 0 (R106). -/
def execDivu (p : Iss) (rd ra rb : BitVec 5) (s : State) := rrr p 0x05 rd ra rb divuV s
/-- REMU: RD := RA mod RB, unsigned; RA for RB = 0 (R106). -/
def execRemu (p : Iss) (rd ra rb : BitVec 5) (s : State) := rrr p 0x06 rd ra rb remuV s
/-- DIV: RD := RA ÷ RB, signed, toward zero, with the corners of `divV` (R106). -/
def execDiv (p : Iss) (rd ra rb : BitVec 5) (s : State) := rrr p 0x07 rd ra rb divV s
/-- REM: RD := the remainder of DIV, with the corners of `remV` (R106). -/
def execRem (p : Iss) (rd ra rb : BitVec 5) (s : State) := rrr p 0x08 rd ra rb remV s
/-- AND: RD := RA and RB (R106). -/
def execAnd (p : Iss) (rd ra rb : BitVec 5) (s : State) := rrr p 0x10 rd ra rb (· &&& ·) s
/-- OR: RD := RA or RB (R106). -/
def execOr (p : Iss) (rd ra rb : BitVec 5) (s : State) := rrr p 0x11 rd ra rb (· ||| ·) s
/-- XOR: RD := RA xor RB (R106). -/
def execXor (p : Iss) (rd ra rb : BitVec 5) (s : State) := rrr p 0x12 rd ra rb (· ^^^ ·) s
/-- SHL: RD := RA shifted left by RB[5:0] (R106). -/
def execShl (p : Iss) (rd ra rb : BitVec 5) (s : State) := rrr p 0x13 rd ra rb (fun a b => a <<< shAmt b) s
/-- SHR: RD := RA shifted right logically by RB[5:0] (R106). -/
def execShr (p : Iss) (rd ra rb : BitVec 5) (s : State) := rrr p 0x14 rd ra rb (fun a b => a >>> shAmt b) s
/-- SRA: RD := RA shifted right arithmetically by RB[5:0] (R106). -/
def execSra (p : Iss) (rd ra rb : BitVec 5) (s : State) := rrr p 0x15 rd ra rb (fun a b => a.sshiftRight (shAmt b)) s
/-- CLZ: RD := leading zero count of RA (R106). -/
def execClz (p : Iss) (rd ra : BitVec 5) (s : State) := issueRd p 0 0x16 [ra] rd (fun t => clzV (t.reg ra)) s
/-- POPC: RD := count of set bits of RA (R106). -/
def execPopc (p : Iss) (rd ra : BitVec 5) (s : State) := issueRd p 0 0x17 [ra] rd (fun t => popcV (t.reg ra)) s
/-- MIN: RD := signed minimum (R106). -/
def execMin (p : Iss) (rd ra rb : BitVec 5) (s : State) := rrr p 0x18 rd ra rb minS s
/-- MAX: RD := signed maximum (R106). -/
def execMax (p : Iss) (rd ra rb : BitVec 5) (s : State) := rrr p 0x19 rd ra rb maxS s
/-- MINU: RD := unsigned minimum (R106). -/
def execMinu (p : Iss) (rd ra rb : BitVec 5) (s : State) := rrr p 0x1A rd ra rb minU s
/-- MAXU: RD := unsigned maximum (R106). -/
def execMaxu (p : Iss) (rd ra rb : BitVec 5) (s : State) := rrr p 0x1B rd ra rb maxU s
/-- RD := RA where PA holds 1, else RB. -/
def execSel (p : Iss) (rd ra rb : BitVec 5) (pa : BitVec 3) (s : State) :=
  issueRd p 0 0x1C [ra, rb] rd (fun t => if t.pred pa then t.reg ra else t.reg rb) s
/-- CEQ: PD := (RA = RB) (R106). -/
def execCeq (p : Iss) (pd : BitVec 3) (ra rb : BitVec 5) (s : State) := prr p 0x20 pd ra rb .eq s
/-- CNE: PD := (RA ≠ RB) (R106). -/
def execCne (p : Iss) (pd : BitVec 3) (ra rb : BitVec 5) (s : State) := prr p 0x21 pd ra rb .ne s
/-- CLT: PD := (RA < RB), signed (R106). -/
def execClt (p : Iss) (pd : BitVec 3) (ra rb : BitVec 5) (s : State) := prr p 0x22 pd ra rb .lt s
/-- CLE: PD := (RA ≤ RB), signed (R106). -/
def execCle (p : Iss) (pd : BitVec 3) (ra rb : BitVec 5) (s : State) := prr p 0x23 pd ra rb .le s
/-- CLTU: PD := (RA < RB), unsigned (R106). -/
def execCltu (p : Iss) (pd : BitVec 3) (ra rb : BitVec 5) (s : State) := prr p 0x24 pd ra rb .ltu s
/-- CLEU: PD := (RA ≤ RB), unsigned (R106). -/
def execCleu (p : Iss) (pd : BitVec 3) (ra rb : BitVec 5) (s : State) := prr p 0x25 pd ra rb .leu s
/-- PAND: PD := PA and PB (R106). -/
def execPand (p : Iss) (pd pa pb : BitVec 3) (s : State) := issuePd p 0 0x30 [] pd (fun t => t.pred pa && t.pred pb) s
/-- POR: PD := PA or PB (R106). -/
def execPor (p : Iss) (pd pa pb : BitVec 3) (s : State) := issuePd p 0 0x31 [] pd (fun t => t.pred pa || t.pred pb) s
/-- PXOR: PD := PA xor PB (R106). -/
def execPxor (p : Iss) (pd pa pb : BitVec 3) (s : State) := issuePd p 0 0x32 [] pd (fun t => t.pred pa != t.pred pb) s
/-- PNOT: PD := not PA (R106). -/
def execPnot (p : Iss) (pd pa : BitVec 3) (s : State) := issuePd p 0 0x33 [] pd (fun t => !t.pred pa) s
/-- PRD: RD := p7…p0 zero-extended, p0 in bit 0 (R106). -/
def execPrd (p : Iss) (rd : BitVec 5) (s : State) := issueRd p 0 0x34 [] rd (fun t => t.preds.setWidth 64) s
/-- p0-p7 := RA[7:0]. -/
def execPwr (p : Iss) (ra : BitVec 5) (s : State) : Host.Outcome State Fault Refusal :=
  issue p 0 0x35 false [ra]
    (fun s t _ => .seq (s.modStage p.stage (fun x => { x with prm := { x.prm with preds := (t.prm.reg ra).setWidth 8 } })))
    s
/-- RD := a special value (R108); a reserved SPEC is illegal at decode; a read of the CCLK count draws a free value. -/
def execRdspec (p : Iss) (rd : BitVec 5) (spec : BitVec 8) (s : State) : Host.Outcome State Fault Refusal :=
  issue p 0 0x38 (decide (spec.toNat ∉ [0, 1, 2, 3, 4, 5, 6, 0x10, 0x11, 0x12, 0x13])) [rd]
    (fun s _ i =>
      match specValue s p.stage i spec with
      | none => .fault s .illegal 0
      | some v =>
        .seq ({ s with freeCtr := if spec = 0x13 then s.freeCtr + 1 else s.freeCtr }.setReg p.stage rd v)) s

/-- ADDI: RD := RA + IMM (R107). -/
def execAddi (p : Iss) (rd ra : BitVec 5) (imm : W32) (s : State) := rri p 0x00 rd ra imm (· + ·) s
/-- ANDI: RD := RA and IMM (R107). -/
def execAndi (p : Iss) (rd ra : BitVec 5) (imm : W32) (s : State) := rri p 0x01 rd ra imm (· &&& ·) s
/-- ORI: RD := RA or IMM (R107). -/
def execOri (p : Iss) (rd ra : BitVec 5) (imm : W32) (s : State) := rri p 0x02 rd ra imm (· ||| ·) s
/-- XORI: RD := RA xor IMM (R107). -/
def execXori (p : Iss) (rd ra : BitVec 5) (imm : W32) (s : State) := rri p 0x03 rd ra imm (· ^^^ ·) s
/-- SHLI: RD := RA shifted left by IMM[5:0] (R107). -/
def execShli (p : Iss) (rd ra : BitVec 5) (imm : W32) (s : State) := rri p 0x04 rd ra imm (fun a b => a <<< shAmt b) s
/-- SHRI: RD := RA shifted right logically by IMM[5:0] (R107). -/
def execShri (p : Iss) (rd ra : BitVec 5) (imm : W32) (s : State) := rri p 0x05 rd ra imm (fun a b => a >>> shAmt b) s
/-- SRAI: RD := RA shifted right arithmetically by IMM[5:0] (R107). -/
def execSrai (p : Iss) (rd ra : BitVec 5) (imm : W32) (s : State) :=
  rri p 0x06 rd ra imm (fun a b => a.sshiftRight (shAmt b)) s
/-- MOVI: RD := IMM, sign-extended (R107). -/
def execMovi (p : Iss) (rd : BitVec 5) (imm : W32) (s : State) := issueRd p 1 0x08 [] rd (fun _ => sext imm) s
/-- RD[63:32] := IMM; RD[31:0] unchanged. -/
def execMovhi (p : Iss) (rd : BitVec 5) (imm : W32) (s : State) :=
  issueRd p 1 0x09 [] rd (fun t => imm ++ (t.reg rd).setWidth 32) s
/-- CEQI: PD := (RA = IMM) (R107). -/
def execCeqi (p : Iss) (pd : BitVec 3) (ra : BitVec 5) (imm : W32) (s : State) := pri p 0x10 pd ra imm .eq s
/-- CNEI: PD := (RA ≠ IMM) (R107). -/
def execCnei (p : Iss) (pd : BitVec 3) (ra : BitVec 5) (imm : W32) (s : State) := pri p 0x11 pd ra imm .ne s
/-- CLTI: PD := (RA < IMM), signed (R107). -/
def execClti (p : Iss) (pd : BitVec 3) (ra : BitVec 5) (imm : W32) (s : State) := pri p 0x12 pd ra imm .lt s
/-- CLEI: PD := (RA ≤ IMM), signed (R107). -/
def execClei (p : Iss) (pd : BitVec 3) (ra : BitVec 5) (imm : W32) (s : State) := pri p 0x13 pd ra imm .le s
/-- CLTUI: PD := (RA < IMM), unsigned (R107). -/
def execCltui (p : Iss) (pd : BitVec 3) (ra : BitVec 5) (imm : W32) (s : State) := pri p 0x14 pd ra imm .ltu s
/-- CLEUI: PD := (RA ≤ IMM), unsigned (R107). -/
def execCleui (p : Iss) (pd : BitVec 3) (ra : BitVec 5) (imm : W32) (s : State) := pri p 0x15 pd ra imm .leu s

end Sys2Proof.Machine
end

