-- ==== Sys2Proof/Machine/ScalarMem.lean ====
section
/-! DEFINITION. Class 0x3: scalar loads and stores in the data region (R94, R103, R113, R114). -/

namespace Sys2Proof.Machine

/-- The address of a class 0x3 access (R113). -/
def effAddr (t : Prm) (ra : BitVec 5) (off : W32) : W64 := t.reg ra + sext off

/-- A load of `len` bytes: misaligned or outside the data region an address fault; a poisoned word a poison fault; RD is
then unchanged (R113, R114). -/
def load (p : Iss) (op len : Nat) (rd ra : BitVec 5) (off : W32) (ext : Nat → W64) (s : State) :
    Host.Outcome State Fault Refusal :=
  issue p 3 op false [rd, ra]
    (fun s t i =>
      let a := effAddr t.prm ra off
      if a.toNat % len = 0 ∧ i.inData a len = true then
        match s.apRead p.stage (i.dataAddr a.toNat) len 1 with
        | (bs, bad, s) => if bad then .fault s .poison 0 else .seq (s.setReg p.stage rd (ext (ofLe bs)))
      else .fault s .address a) s

/-- A store of the low `len` bytes of RD (R113). -/
def store (p : Iss) (op len : Nat) (rd ra : BitVec 5) (off : W32) (s : State) : Host.Outcome State Fault Refusal :=
  issue p 3 op false [rd, ra]
    (fun s t i =>
      let a := effAddr t.prm ra off
      if a.toNat % len = 0 ∧ i.inData a len = true then
        .seq (s.apWrite p.stage (i.dataAddr a.toNat) 1 (leBytes len (t.prm.reg rd).toNat))
      else .fault s .address a) s

/-- LDB: RD := the sign-extended byte (R113). -/
def execLdb (p : Iss) (rd ra : BitVec 5) (off : W32) (s : State) :=
  load p 0x00 1 rd ra off (fun x => (BitVec.ofNat 8 x).signExtend 64) s
/-- LDH: RD := the sign-extended 16 bits (R113). -/
def execLdh (p : Iss) (rd ra : BitVec 5) (off : W32) (s : State) :=
  load p 0x01 2 rd ra off (fun x => (BitVec.ofNat 16 x).signExtend 64) s
/-- LDW: RD := the sign-extended 32 bits (R113). -/
def execLdw (p : Iss) (rd ra : BitVec 5) (off : W32) (s : State) :=
  load p 0x02 4 rd ra off (fun x => (BitVec.ofNat 32 x).signExtend 64) s
/-- LDD: RD := the 64 bits (R113). -/
def execLdd (p : Iss) (rd ra : BitVec 5) (off : W32) (s : State) := load p 0x03 8 rd ra off w64 s
/-- LDBU: RD := the zero-extended byte (R113). -/
def execLdbu (p : Iss) (rd ra : BitVec 5) (off : W32) (s : State) := load p 0x04 1 rd ra off w64 s
/-- LDHU: RD := the zero-extended 16 bits (R113). -/
def execLdhu (p : Iss) (rd ra : BitVec 5) (off : W32) (s : State) := load p 0x05 2 rd ra off w64 s
/-- LDWU: RD := the zero-extended 32 bits (R113). -/
def execLdwu (p : Iss) (rd ra : BitVec 5) (off : W32) (s : State) := load p 0x06 4 rd ra off w64 s
/-- STB: stores RD[7:0] (R113). -/
def execStb (p : Iss) (rd ra : BitVec 5) (off : W32) (s : State) := store p 0x08 1 rd ra off s
/-- STH: stores RD[15:0] (R113). -/
def execSth (p : Iss) (rd ra : BitVec 5) (off : W32) (s : State) := store p 0x09 2 rd ra off s
/-- STW: stores RD[31:0] (R113). -/
def execStw (p : Iss) (rd ra : BitVec 5) (off : W32) (s : State) := store p 0x0A 4 rd ra off s
/-- STD: stores RD (R113). -/
def execStd (p : Iss) (rd ra : BitVec 5) (off : W32) (s : State) := store p 0x0B 8 rd ra off s

end Sys2Proof.Machine
end

