-- ==== Sys2Proof/Machine/TimeCmds.lean ====
section
/-! DEFINITION. Time: PPS, PTP, holdover, and how CLK_TIME is steered (R522, R523, R536, R552). The sign of the offset, how fast an offset is
slewed and what an unlocked source shows are log entry 25. -/

namespace Sys2Proof.Machine

/-- The source in force (R522): without the Ethernet block PTP counts as free-running. -/
def State.timeSrc (s : State) : Nat := if s.fld .clkTimeCfg 0 1 0 = 1 ∧ s.hasEth = false then 0 else s.fld .clkTimeCfg 0 1 0

def State.modTime (s : State) (f : TimeSt → TimeSt) : State := s.modPlat (fun p => { p with time := f p.time })

/-- A measured offset of CLK_TIME from its source (R523, R536): shown saturating; locked once `need` in a row stay below 1 µs; what lies more
than 1 ms behind is stepped, everything else left to slewing. -/
def State.discipline (s : State) (off : Int) (need : Nat) : State :=
  let shown : Int := if off < -2147483648 then -2147483648 else if 2147483647 < off then 2147483647 else off
  let good := if -1000 < off ∧ off < 1000 then s.plat.time.good + 1 else 0
  let s := (s.setFld .clkTimeStatus 0 63 32 (BitVec.ofInt 32 shown).toNat).setFld .clkTimeStatus 0 1 0 (if need ≤ good then 2 else 1)
  let step := decide (off < -1000000)
  let s := s.modTime (fun t => { t with good := good, slew := if step then 0 else -off })
  if step then s.wr .clkTime 0 (s.now + BitVec.ofInt 64 (-off)) else s

/-- PPS_EDGE (R522, R523, R552): an edge of at least 100 ns, not less than 0.9 s after the last; with a count of seconds it gives the time, and
the next edge is one second on. -/
def execPpsEdge (wide : Bool) (s : State) : Host.Outcome State Fault Refusal :=
  let early := match s.plat.time.lastEdge with
    | some t => decide ((s.now - t).toNat < 900000000)
    | none => false
  if !s.live || !wide || early || decide (s.timeSrc ≠ 2) then .next s
  else
    let at' := s.now
    let s := match s.plat.time.setSec with
      | some n => (s.discipline ((at'.toNat : Int) - (n.toNat * 1000000000 : Nat)) 3).modTime (fun t => { t with setSec := some (n + 1) })
      | none => s
    .next (s.modTime (fun t => { t with lastEdge := some (if s.plat.time.setSec.isSome then s.now else at') }))

/-- PTP_SYNC (R522, R523): arrival time less sending time of a Sync; the path delay last measured is taken off. -/
def execPtpSync (offset : Int) (s : State) : Host.Outcome State Fault Refusal :=
  if !s.live || decide (s.timeSrc ≠ 1) then .next s
  else
    let s := s.discipline (offset - s.plat.time.delay) 16
    .next (s.modTime (fun t => { t with lastEdge := some s.now }))

/-- DELAY_RESP (R522): the end-to-end path delay. -/
def execDelayResp (delay : Int) (s : State) : Host.Outcome State Fault Refusal :=
  if !s.live || decide (s.timeSrc ≠ 1) then .next s else .next (s.modTime (fun t => { t with delay := delay }))

/-- TIME_HOLDOVER (R523): 10 s without a Sync or an edge. -/
def execTimeHoldover (s : State) : Host.Outcome State Fault Refusal :=
  let long := match s.plat.time.lastEdge with
    | some t => decide (10000000000 ≤ (s.now - t).toNat)
    | none => false
  if s.live && decide (s.timeSrc = 1 ∨ s.timeSrc = 2) && long then .next ((s.setFld .clkTimeStatus 0 1 0 3).modTime (fun t => { t with good := 0, slew := 0 }))
  else .next s

/-- What one available Stage adds to the Stage Manager's counters in a nanosecond (R319-R321, R335): it has no holder, a fill launch holds it, or
a lead launch does, whose waits go into the figures of its pipeline stage. -/
def State.stageNs (s : State) (n : Nat) (t : State) : State :=
  match (s.stage n).inst with
  | none => t.bump .smgIdle 0 1
  | some i =>
    if !i.lead then t.bump .smgFillTime 0 1
    else
      let p := ((s.launch? i.launch).map (fun (x : Launch) => x.sheet)).getD 0
      let held := s.waits n
      let t := if held && s.sendHeld i (s.stage n).sh.ops then t.bump .smgPipeUp p 1 else t
      let t := if held && s.takeHeld i (s.stage n).sh.ops then t.bump .smgPipeDown p 1 else t
      t.modSched (fun q =>
        { q with
          busyNs := if held then q.busyNs else aput p (mget 0 q.busyNs p + 1) q.busyNs
          issueNs := if (s.stage n).prm.wait = .run then q.issueNs + 1 else q.issueNs })

/-- A packet of channel `v` waits for credit at some port (R396). -/
def State.vcStalled (s : State) (v : Nat) : Bool := s.link.ports.any (fun x => s.portUp x.1 && x.2.stalled v)

/-- A nanosecond of every available Stage, of the lead's compute launches that wait for copies and of the channels that wait for credit (R335,
R396). -/
def State.countNs (s : State) : State :=
  let t := ((List.range 144).filter s.stageAvail).foldl (fun t n => s.stageNs n t) s
  let t := ((List.range 8).filter s.vcStalled).foldl (fun t v => t.bump .lnkVcStall v 1) t
  match s.leadCtx with
  | some c => t.bump .smgGatherStall 0 (s.gatherHeld c)
  | none => t

/-- Whether a lead write waits for the copy-on-write pool in this nanosecond of a save that streams is a free value (R442, R456, log entry 10). -/
def State.cowNs (s : State) : State :=
  if s.leadCtx.isSome && s.pbk.save.any (fun v => !v.own) then
    match s.free with
    | (k, s) => s.bump .pbkCowStall 0 (k.toNat % 2)
  else s

/-- One TCLK cycle (R319-R321, R335, R442, R522, R523): a nanosecond; while an offset is slewed, one in 2,000 counts twice or not at all. The Stage
Manager counts from its start on (R506). -/
def State.tclk (s : State) : State :=
  let s := (if s.booting then s else s.countNs).cowNs
  let d := s.plat.time.slew
  let turn := decide (s.plat.time.cycles % 2000 = 0)
  let c : Int := if !turn then 0 else if 0 < d then 1 else if d < 0 then -1 else 0
  (s.wr .clkTime 0 (s.now + BitVec.ofInt 64 (1 + c))).modTime (fun t => { t with slew := d - c, cycles := t.cycles + 1 })

end Sys2Proof.Machine
end

