-- ==== Sys2Proof/Machine/Vector.lean ====
section
/-! DEFINITION. Issue of the vector classes 0x6, 0x7 and 0x8: decode checks and the Snare queue (R102, R147, R156, R157,
R159-R161, R165). -/

namespace Sys2Proof.Machine

/-- Issue into the Snare queue, which stalls the Prompter while it holds 16 instructions; the Snare works off what it can
at once. -/
def issueV (p : Iss) (cls op : Nat) (bad : Bool) (uses : List (BitVec 5)) (mk : Prm → VInst) (s : State) :
    Host.Outcome State Fault Refusal :=
  issue p cls op bad uses
    (fun s t _ =>
      if t.sn.queue.length ≥ 16 then .full
      else
        .seq (s.modStage p.stage (fun x =>
          { x with sn := { x.sn with queue := x.sn.queue ++ [⟨⟨t.prm.pc, cls, op⟩, mk t.prm, false, []⟩] } })))
    s

/-- The Snare runs after an issue that gave a next state. -/
def thenSnare (n : Nat) : Host.Outcome State Fault Refusal → Host.Outcome State Fault Refusal
  | .next s => .next (s.snareRun n)
  | o => o

/-- The registers that sources name when one of them is the scalar register (R147). -/
def srUse (srcs : List Nat) (sr : BitVec 5) : List (BitVec 5) := if srcs.contains 10 then [sr] else []

/-- An elementwise instruction (R156, R157). -/
def issueEw (p : Iss) (op : Nat) (f : EwOp) (o : VOp) (s : State) : Host.Outcome State Fault Refusal :=
  thenSnare p.stage
    (issueV p 6 op (rowsBad o.row0 o.nr || !isTile o.vd.toNat || (f.srcs o).any (fun c => decide (10 < c)))
      (srUse (f.srcs o) o.sr) (fun t => .ew f o (t.reg o.sr)) s)

/-- A reduction (R156, R159). -/
def issueRed (p : Iss) (op : Nat) (f : RedOp) (o : VOp) (s : State) : Host.Outcome State Fault Refusal :=
  let vd := o.vd.toNat
  let vdOk := if f.byRow then decide (vd = 8 ∨ vd = 9) else decide (vd = 6 ∨ vd = 7)
  thenSnare p.stage
    (issueV p 6 op (rowsBad o.row0 o.nr || !vdOk || decide (10 < o.sa.toNat)) (srUse [o.sa.toNat] o.sr)
      (fun t => .red f o (t.reg o.sr)) s)

/-- VADD: the elementwise operation `EwOp.add` (R157). -/
def execVadd (p : Iss) (o : VOp) (s : State) := issueEw p 0x00 .add o s
/-- VSUB: the elementwise operation `EwOp.sub` (R157). -/
def execVsub (p : Iss) (o : VOp) (s : State) := issueEw p 0x01 .sub o s
/-- VMUL: the elementwise operation `EwOp.mul` (R157). -/
def execVmul (p : Iss) (o : VOp) (s : State) := issueEw p 0x02 .mul o s
/-- VFMA: the elementwise operation `EwOp.fma` (R157). -/
def execVfma (p : Iss) (o : VOp) (s : State) := issueEw p 0x03 .fma o s
/-- VFMS: the elementwise operation `EwOp.fms` (R157). -/
def execVfms (p : Iss) (o : VOp) (s : State) := issueEw p 0x04 .fms o s
/-- VFNMA: the elementwise operation `EwOp.fnma` (R157). -/
def execVfnma (p : Iss) (o : VOp) (s : State) := issueEw p 0x05 .fnma o s
/-- VMIN: the elementwise operation `EwOp.min` (R157). -/
def execVmin (p : Iss) (o : VOp) (s : State) := issueEw p 0x08 .min o s
/-- VMAX: the elementwise operation `EwOp.max` (R157). -/
def execVmax (p : Iss) (o : VOp) (s : State) := issueEw p 0x09 .max o s
/-- VABS: the elementwise operation `EwOp.abs` (R157). -/
def execVabs (p : Iss) (o : VOp) (s : State) := issueEw p 0x0A .abs o s
/-- VNEG: the elementwise operation `EwOp.neg` (R157). -/
def execVneg (p : Iss) (o : VOp) (s : State) := issueEw p 0x0B .neg o s
/-- VCPY: the elementwise operation `EwOp.cpy` (R157). -/
def execVcpy (p : Iss) (o : VOp) (s : State) := issueEw p 0x0C .cpy o s
/-- VCEQ: the elementwise operation `EwOp.ceq` (R157). -/
def execVceq (p : Iss) (o : VOp) (s : State) := issueEw p 0x10 .ceq o s
/-- VCNE: the elementwise operation `EwOp.cne` (R157). -/
def execVcne (p : Iss) (o : VOp) (s : State) := issueEw p 0x11 .cne o s
/-- VCLT: the elementwise operation `EwOp.clt` (R157). -/
def execVclt (p : Iss) (o : VOp) (s : State) := issueEw p 0x12 .clt o s
/-- VCLE: the elementwise operation `EwOp.cle` (R157). -/
def execVcle (p : Iss) (o : VOp) (s : State) := issueEw p 0x13 .cle o s
/-- VCNAN: the elementwise operation `EwOp.cnan` (R157). -/
def execVcnan (p : Iss) (o : VOp) (s : State) := issueEw p 0x14 .cnan o s
/-- VSEL: the elementwise operation `EwOp.sel` (R157). -/
def execVsel (p : Iss) (o : VOp) (s : State) := issueEw p 0x15 .sel o s
/-- VEXP: the elementwise operation `EwOp.exp` (R157, R158). -/
def execVexp (p : Iss) (o : VOp) (s : State) := issueEw p 0x18 .exp o s
/-- VRCP: the elementwise operation `EwOp.rcp` (R157, R158). -/
def execVrcp (p : Iss) (o : VOp) (s : State) := issueEw p 0x19 .rcp o s
/-- VRSQ: the elementwise operation `EwOp.rsq` (R157, R158). -/
def execVrsq (p : Iss) (o : VOp) (s : State) := issueEw p 0x1A .rsq o s
/-- VRSUM: the reduction `RedOp.rsum` (R157, R159). -/
def execVrsum (p : Iss) (o : VOp) (s : State) := issueRed p 0x20 .rsum o s
/-- VRMAX: the reduction `RedOp.rmax` (R157, R159). -/
def execVrmax (p : Iss) (o : VOp) (s : State) := issueRed p 0x21 .rmax o s
/-- VRAMAX: the reduction `RedOp.ramax` (R157, R159). -/
def execVramax (p : Iss) (o : VOp) (s : State) := issueRed p 0x22 .ramax o s
/-- VCSUM: the reduction `RedOp.csum` (R157, R159). -/
def execVcsum (p : Iss) (o : VOp) (s : State) := issueRed p 0x24 .csum o s
/-- VCMAX: the reduction `RedOp.cmax` (R157, R159). -/
def execVcmax (p : Iss) (o : VOp) (s : State) := issueRed p 0x25 .cmax o s
/-- VCAMAX: the reduction `RedOp.camax` (R157, R159). -/
def execVcamax (p : Iss) (o : VOp) (s : State) := issueRed p 0x26 .camax o s

/-- A buffer that begins a pair: vb0, vb2 or vb4 (R150, R160). -/
def pairBuf (b : BitVec 4) : Bool := decide (b = 0 ∨ b = 2 ∨ b = 4)

/-- VPOP: block BLK of the finished-tile queue into a tile buffer (R149, R160). -/
def execVpop (p : Iss) (vd : BitVec 4) (blk : BitVec 2) (s : State) : Host.Outcome State Fault Refusal :=
  thenSnare p.stage (issueV p 7 0x00 (!isTile vd.toNat) [] (fun _ => .pop vd.toNat blk.toNat) s)
/-- VPOPW: a wide block into a pair of tile buffers (R150, R160). -/
def execVpopw (p : Iss) (vd : BitVec 4) (blk : BitVec 2) (s : State) : Host.Outcome State Fault Refusal :=
  thenSnare p.stage (issueV p 7 0x01 (!pairBuf vd) [] (fun _ => .popw vd.toNat blk.toNat) s)
/-- VLD through the descriptor at RA (R160, R162, R163). -/
def execVld (p : Iss) (o : VMem) (s : State) : Host.Outcome State Fault Refusal :=
  thenSnare p.stage (issueV p 7 0x04 (rowsBad o.row0 o.nr || !isTile o.vd.toNat) [o.ra] (fun t => .ld o (t.reg o.ra)) s)
/-- VST through the descriptor at RA (R160, R162, R164). -/
def execVst (p : Iss) (o : VMem) (s : State) : Host.Outcome State Fault Refusal :=
  thenSnare p.stage (issueV p 7 0x05 (rowsBad o.row0 o.nr || !isTile o.vd.toNat) [o.ra] (fun t => .st o (t.reg o.ra)) s)
/-- VLDW: VLD of a pair of tile buffers (R160, R164). -/
def execVldw (p : Iss) (o : VMem) (s : State) : Host.Outcome State Fault Refusal :=
  thenSnare p.stage (issueV p 7 0x06 (rowsBad o.row0 o.nr || !pairBuf o.vd) [o.ra] (fun t => .ldw o (t.reg o.ra)) s)
/-- VSTW: VST of a pair of tile buffers (R160, R164). -/
def execVstw (p : Iss) (o : VMem) (s : State) : Host.Outcome State Fault Refusal :=
  thenSnare p.stage (issueV p 7 0x07 (rowsBad o.row0 o.nr || !pairBuf o.vd) [o.ra] (fun t => .stw o (t.reg o.ra)) s)

/-- A broadcast register's code (R147). -/
def isBcast (b : BitVec 4) : Bool := decide (6 ≤ b.toNat ∧ b.toNat ≤ 9)

/-- VBLD: a broadcast register from the data region (R160). -/
def execVbld (p : Iss) (b : BitVec 4) (ra : BitVec 5) (s : State) : Host.Outcome State Fault Refusal :=
  thenSnare p.stage (issueV p 7 0x08 (!isBcast b) [ra] (fun t => .bld b.toNat (t.reg ra)) s)
/-- VBST: a broadcast register into the data region (R160). -/
def execVbst (p : Iss) (b : BitVec 4) (ra : BitVec 5) (s : State) : Host.Outcome State Fault Refusal :=
  thenSnare p.stage (issueV p 7 0x09 (!isBcast b) [ra] (fun t => .bst b.toNat (t.reg ra)) s)

/-- VBROW and VBCOL have no SR field, so source code 0xA names no register there: it is refused with the reserved codes
(log entry 17). -/
def execVbrow (p : Iss) (b sa : BitVec 4) (row : BitVec 6) (s : State) : Host.Outcome State Fault Refusal :=
  thenSnare p.stage
    (issueV p 7 0x0A (!decide (b = 6 ∨ b = 7) || decide (9 < sa.toNat)) [] (fun _ => .brow b.toNat sa.toNat row.toNat) s)
/-- VBCOL: column COL of SA into a per-row register; source code 0xA is refused (R160, log entry 17). -/
def execVbcol (p : Iss) (b sa : BitVec 4) (col : BitVec 8) (s : State) : Host.Outcome State Fault Refusal :=
  thenSnare p.stage
    (issueV p 7 0x0B (!decide (b = 8 ∨ b = 9) || decide (9 < sa.toNat)) [] (fun _ => .bcol b.toNat sa.toNat col.toNat) s)
/-- VRVSET: the row-valid bits of VD := RA (R160). -/
def execVrvset (p : Iss) (vd : BitVec 4) (ra : BitVec 5) (s : State) : Host.Outcome State Fault Refusal :=
  thenSnare p.stage (issueV p 7 0x0C (!isTile vd.toNat) [ra] (fun t => .rvset vd.toNat (t.reg ra)) s)
/-- VRVGET: RD := the row-valid bits of VA (R160). -/
def execVrvget (p : Iss) (va : BitVec 4) (rd : BitVec 5) (s : State) : Host.Outcome State Fault Refusal :=
  thenSnare p.stage (issueV p 7 0x0D (!isTile va.toNat) [rd] (fun _ => .rvget va.toNat rd) s)
/-- VSIG: adds N to SEM when the earlier Snare instructions have completed (R160, R166). -/
def execVsig (p : Iss) (sem : BitVec 6) (val : BitVec 16) (s : State) : Host.Outcome State Fault Refusal :=
  thenSnare p.stage (issueV p 7 0x10 false [] (fun _ => .sig sem.toNat val.toNat) s)

/-- VRNG: keyed random numbers into VD (R161, R171). -/
def execVrng (p : Iss) (o : VMem) (s : State) : Host.Outcome State Fault Refusal :=
  thenSnare p.stage (issueV p 8 0x00 (rowsBad o.row0 o.nr || !isTile o.vd.toNat) [o.ra] (fun t => .rng o (t.reg o.ra)) s)

/-- VDROP: source code 0xA is refused (R161). -/
def execVdrop (p : Iss) (o : VMem) (sa : BitVec 4) (sr : BitVec 5) (s : State) : Host.Outcome State Fault Refusal :=
  thenSnare p.stage
    (issueV p 8 0x01 (rowsBad o.row0 o.nr || !isTile o.vd.toNat || decide (9 < sa.toNat)) [o.ra, sr]
      (fun t => .drop o sa.toNat (t.reg o.ra) (t.reg sr)) s)

/-- VTOPK: `ncol` and `kk` are the fields NCOL − 1 and K − 1 (R161, R165). -/
def execVtopk (p : Iss) (vd sa : BitVec 4) (row0 nr : BitVec 6) (ncol : BitVec 8) (kk : BitVec 3) (s : State) :
    Host.Outcome State Fault Refusal :=
  thenSnare p.stage
    (issueV p 8 0x04 (rowsBad row0 nr || !isTile vd.toNat || decide (9 < sa.toNat) || decide (sa = vd)) []
      (fun _ => .topk vd.toNat sa.toNat row0.toNat nr.toNat (ncol.toNat + 1) (kk.toNat + 1)) s)

/-- VMOM: tile buffers only, VM and VV distinct (R161). -/
def execVmom (p : Iss) (vm vg vv : BitVec 4) (row0 nr : BitVec 6) (sr : BitVec 5) (s : State) :
    Host.Outcome State Fault Refusal :=
  thenSnare p.stage
    (issueV p 8 0x08 (rowsBad row0 nr || !isTile vm.toNat || !isTile vg.toNat || !isTile vv.toNat || decide (vm = vv))
      [sr] (fun t => .mom vm.toNat vg.toNat vv.toNat row0.toNat nr.toNat (t.reg sr)) s)

/-- VUPD: tile buffers only, VW, VM and VV distinct (R161). -/
def execVupd (p : Iss) (vw vm vv vg : BitVec 4) (row0 nr : BitVec 6) (sr : BitVec 5) (s : State) :
    Host.Outcome State Fault Refusal :=
  thenSnare p.stage
    (issueV p 8 0x09 (rowsBad row0 nr || !isTile vw.toNat || !isTile vm.toNat || !isTile vv.toNat || !isTile vg.toNat
        || decide (vw = vm) || decide (vw = vv) || decide (vm = vv))
      [sr] (fun t => .upd vw.toNat vm.toNat vv.toNat vg.toNat row0.toNat nr.toNat (t.reg sr)) s)

/-- VTLY: adds the rows of SA to the tally that SR names (R161, R179). -/
def execVtly (p : Iss) (sa : BitVec 4) (row0 nr : BitVec 6) (sr : BitVec 5) (s : State) :
    Host.Outcome State Fault Refusal :=
  thenSnare p.stage
    (issueV p 8 0x0C (rowsBad row0 nr || decide (9 < sa.toNat)) [sr]
      (fun t => .tly sa.toNat row0.toNat nr.toNat (t.reg sr)) s)

/-- VTLYC: adds RC to the overflow count of the tag that SR names (R161, R179); `decode8` refuses its row range past 63. -/
def execVtlyc (p : Iss) (sr rc : BitVec 5) (s : State) : Host.Outcome State Fault Refusal :=
  thenSnare p.stage (issueV p 8 0x0D false [sr, rc] (fun t => .tlyc (t.reg sr) (t.reg rc)) s)

end Sys2Proof.Machine
end

