-- ==== Sys2Proof/Machine/Dispatch.lean ====
section
/-! DEFINITION. The dispatch: one arm per command, each one direct call of its meaning. -/

namespace Sys2Proof.Machine

def exec (i : Instr) (s : State) : Host.Outcome State Fault Refusal :=
  match i with
  | .add p rd ra rb => Sys2Proof.Machine.execAdd p rd ra rb s
  | .sub p rd ra rb => Sys2Proof.Machine.execSub p rd ra rb s
  | .mul p rd ra rb => Sys2Proof.Machine.execMul p rd ra rb s
  | .mulh p rd ra rb => Sys2Proof.Machine.execMulh p rd ra rb s
  | .mulhu p rd ra rb => Sys2Proof.Machine.execMulhu p rd ra rb s
  | .divu p rd ra rb => Sys2Proof.Machine.execDivu p rd ra rb s
  | .remu p rd ra rb => Sys2Proof.Machine.execRemu p rd ra rb s
  | .div p rd ra rb => Sys2Proof.Machine.execDiv p rd ra rb s
  | .rem p rd ra rb => Sys2Proof.Machine.execRem p rd ra rb s
  | .and p rd ra rb => Sys2Proof.Machine.execAnd p rd ra rb s
  | .or p rd ra rb => Sys2Proof.Machine.execOr p rd ra rb s
  | .xor p rd ra rb => Sys2Proof.Machine.execXor p rd ra rb s
  | .shl p rd ra rb => Sys2Proof.Machine.execShl p rd ra rb s
  | .shr p rd ra rb => Sys2Proof.Machine.execShr p rd ra rb s
  | .sra p rd ra rb => Sys2Proof.Machine.execSra p rd ra rb s
  | .clz p rd ra => Sys2Proof.Machine.execClz p rd ra s
  | .popc p rd ra => Sys2Proof.Machine.execPopc p rd ra s
  | .min p rd ra rb => Sys2Proof.Machine.execMin p rd ra rb s
  | .max p rd ra rb => Sys2Proof.Machine.execMax p rd ra rb s
  | .minu p rd ra rb => Sys2Proof.Machine.execMinu p rd ra rb s
  | .maxu p rd ra rb => Sys2Proof.Machine.execMaxu p rd ra rb s
  | .sel p rd ra rb pa => Sys2Proof.Machine.execSel p rd ra rb pa s
  | .ceq p pd ra rb => Sys2Proof.Machine.execCeq p pd ra rb s
  | .cne p pd ra rb => Sys2Proof.Machine.execCne p pd ra rb s
  | .clt p pd ra rb => Sys2Proof.Machine.execClt p pd ra rb s
  | .cle p pd ra rb => Sys2Proof.Machine.execCle p pd ra rb s
  | .cltu p pd ra rb => Sys2Proof.Machine.execCltu p pd ra rb s
  | .cleu p pd ra rb => Sys2Proof.Machine.execCleu p pd ra rb s
  | .pand p pd pa pb => Sys2Proof.Machine.execPand p pd pa pb s
  | .por p pd pa pb => Sys2Proof.Machine.execPor p pd pa pb s
  | .pxor p pd pa pb => Sys2Proof.Machine.execPxor p pd pa pb s
  | .pnot p pd pa => Sys2Proof.Machine.execPnot p pd pa s
  | .prd p rd => Sys2Proof.Machine.execPrd p rd s
  | .pwr p ra => Sys2Proof.Machine.execPwr p ra s
  | .rdspec p rd spec => Sys2Proof.Machine.execRdspec p rd spec s
  | .addi p rd ra imm => Sys2Proof.Machine.execAddi p rd ra imm s
  | .andi p rd ra imm => Sys2Proof.Machine.execAndi p rd ra imm s
  | .ori p rd ra imm => Sys2Proof.Machine.execOri p rd ra imm s
  | .xori p rd ra imm => Sys2Proof.Machine.execXori p rd ra imm s
  | .shli p rd ra imm => Sys2Proof.Machine.execShli p rd ra imm s
  | .shri p rd ra imm => Sys2Proof.Machine.execShri p rd ra imm s
  | .srai p rd ra imm => Sys2Proof.Machine.execSrai p rd ra imm s
  | .movi p rd imm => Sys2Proof.Machine.execMovi p rd imm s
  | .movhi p rd imm => Sys2Proof.Machine.execMovhi p rd imm s
  | .ceqi p pd ra imm => Sys2Proof.Machine.execCeqi p pd ra imm s
  | .cnei p pd ra imm => Sys2Proof.Machine.execCnei p pd ra imm s
  | .clti p pd ra imm => Sys2Proof.Machine.execClti p pd ra imm s
  | .clei p pd ra imm => Sys2Proof.Machine.execClei p pd ra imm s
  | .cltui p pd ra imm => Sys2Proof.Machine.execCltui p pd ra imm s
  | .cleui p pd ra imm => Sys2Proof.Machine.execCleui p pd ra imm s
  | .nop p => Sys2Proof.Machine.execNop p s
  | .br p off => Sys2Proof.Machine.execBr p off s
  | .call p rd off => Sys2Proof.Machine.execCall p rd off s
  | .jr p ra => Sys2Proof.Machine.execJr p ra s
  | .loop p ra off => Sys2Proof.Machine.execLoop p ra off s
  | .endK p => Sys2Proof.Machine.execEndK p s
  | .endComplete n => Sys2Proof.Machine.execEndComplete n s
  | .trap p off => Sys2Proof.Machine.execTrap p off s
  | .ldb p rd ra off => Sys2Proof.Machine.execLdb p rd ra off s
  | .ldh p rd ra off => Sys2Proof.Machine.execLdh p rd ra off s
  | .ldw p rd ra off => Sys2Proof.Machine.execLdw p rd ra off s
  | .ldd p rd ra off => Sys2Proof.Machine.execLdd p rd ra off s
  | .ldbu p rd ra off => Sys2Proof.Machine.execLdbu p rd ra off s
  | .ldhu p rd ra off => Sys2Proof.Machine.execLdhu p rd ra off s
  | .ldwu p rd ra off => Sys2Proof.Machine.execLdwu p rd ra off s
  | .stb p rd ra off => Sys2Proof.Machine.execStb p rd ra off s
  | .sth p rd ra off => Sys2Proof.Machine.execSth p rd ra off s
  | .stw p rd ra off => Sys2Proof.Machine.execStw p rd ra off s
  | .std p rd ra off => Sys2Proof.Machine.execStd p rd ra off s
  | .wld p wt tile scl spk => Sys2Proof.Machine.execWld p wt tile scl spk s
  | .wldStart n => Sys2Proof.Machine.execWldStart n s
  | .wldComplete n => Sys2Proof.Machine.execWldComplete n s
  | .azero p slot wide mreg mimm mr => Sys2Proof.Machine.execAzero p slot wide mreg mimm mr s
  | .azeroStart n => Sys2Proof.Machine.execAzeroStart n s
  | .mma p f => Sys2Proof.Machine.execMma p f s
  | .mmaStart n => Sys2Proof.Machine.execMmaStart n s
  | .mmaRowEnter n => Sys2Proof.Machine.execMmaRowEnter n s
  | .mmaRowWrite n => Sys2Proof.Machine.execMmaRowWrite n s
  | .drain p slot desc => Sys2Proof.Machine.execDrain p slot desc s
  | .drainStart n => Sys2Proof.Machine.execDrainStart n s
  | .drainBlockReadout n => Sys2Proof.Machine.execDrainBlockReadout n s
  | .drainBlockEnqueue n => Sys2Proof.Machine.execDrainBlockEnqueue n s
  | .roll p slot hnd dslot xdev amask => Sys2Proof.Machine.execRoll p slot hnd dslot xdev amask s
  | .racc p slot hnd xdev amask => Sys2Proof.Machine.execRacc p slot hnd xdev amask s
  | .raccStart n => Sys2Proof.Machine.execRaccStart n s
  | .rollGrant n => Sys2Proof.Machine.execRollGrant n s
  | .rollReadout n => Sys2Proof.Machine.execRollReadout n s
  | .rollIn n => Sys2Proof.Machine.execRollIn n s
  | .matrixWaitLimit n service => Sys2Proof.Machine.execMatrixWaitLimit n service s
  | .dmov p f => Sys2Proof.Machine.execDmov p f s
  | .dgath p f => Sys2Proof.Machine.execDgath p f s
  | .dscat p f => Sys2Proof.Machine.execDscat p f s
  | .drel p f => Sys2Proof.Machine.execDrel p f s
  | .stagehandComplete n j => Sys2Proof.Machine.execStagehandComplete n j s
  | .semsig p sem ra val remote => Sys2Proof.Machine.execSemsig p sem ra val remote s
  | .remoteSemsig n j => Sys2Proof.Machine.execRemoteSemsig n j s
  | .semwait p sem val => Sys2Proof.Machine.execSemwait p sem val s
  | .semwaitSatisfy n => Sys2Proof.Machine.execSemwaitSatisfy n s
  | .semset p sem val => Sys2Proof.Machine.execSemset p sem val s
  | .semrd p sem rd => Sys2Proof.Machine.execSemrd p sem rd s
  | .fence p mask => Sys2Proof.Machine.execFence p mask s
  | .fenceSatisfy n => Sys2Proof.Machine.execFenceSatisfy n s
  | .curtwait p rd => Sys2Proof.Machine.execCurtwait p rd s
  | .curtwaitResume n => Sys2Proof.Machine.execCurtwaitResume n s
  | .syncWaitLimit n => Sys2Proof.Machine.execSyncWaitLimit n s
  | .belw p ra pd => Sys2Proof.Machine.execBelw p ra pd s
  | .belr p rd pd => Sys2Proof.Machine.execBelr p rd pd s
  | .belt p pd dir => Sys2Proof.Machine.execBelt p pd dir s
  | .vadd p o => Sys2Proof.Machine.execVadd p o s
  | .vsub p o => Sys2Proof.Machine.execVsub p o s
  | .vmul p o => Sys2Proof.Machine.execVmul p o s
  | .vfma p o => Sys2Proof.Machine.execVfma p o s
  | .vfms p o => Sys2Proof.Machine.execVfms p o s
  | .vfnma p o => Sys2Proof.Machine.execVfnma p o s
  | .vmin p o => Sys2Proof.Machine.execVmin p o s
  | .vmax p o => Sys2Proof.Machine.execVmax p o s
  | .vabs p o => Sys2Proof.Machine.execVabs p o s
  | .vneg p o => Sys2Proof.Machine.execVneg p o s
  | .vcpy p o => Sys2Proof.Machine.execVcpy p o s
  | .vceq p o => Sys2Proof.Machine.execVceq p o s
  | .vcne p o => Sys2Proof.Machine.execVcne p o s
  | .vclt p o => Sys2Proof.Machine.execVclt p o s
  | .vcle p o => Sys2Proof.Machine.execVcle p o s
  | .vcnan p o => Sys2Proof.Machine.execVcnan p o s
  | .vsel p o => Sys2Proof.Machine.execVsel p o s
  | .vexp p o => Sys2Proof.Machine.execVexp p o s
  | .vrcp p o => Sys2Proof.Machine.execVrcp p o s
  | .vrsq p o => Sys2Proof.Machine.execVrsq p o s
  | .vrsum p o => Sys2Proof.Machine.execVrsum p o s
  | .vrmax p o => Sys2Proof.Machine.execVrmax p o s
  | .vramax p o => Sys2Proof.Machine.execVramax p o s
  | .vcsum p o => Sys2Proof.Machine.execVcsum p o s
  | .vcmax p o => Sys2Proof.Machine.execVcmax p o s
  | .vcamax p o => Sys2Proof.Machine.execVcamax p o s
  | .vpop p vd blk => Sys2Proof.Machine.execVpop p vd blk s
  | .vpopw p vd blk => Sys2Proof.Machine.execVpopw p vd blk s
  | .vld p o => Sys2Proof.Machine.execVld p o s
  | .vst p o => Sys2Proof.Machine.execVst p o s
  | .vldw p o => Sys2Proof.Machine.execVldw p o s
  | .vstw p o => Sys2Proof.Machine.execVstw p o s
  | .vbld p b ra => Sys2Proof.Machine.execVbld p b ra s
  | .vbst p b ra => Sys2Proof.Machine.execVbst p b ra s
  | .vbrow p b sa row => Sys2Proof.Machine.execVbrow p b sa row s
  | .vbcol p b sa col => Sys2Proof.Machine.execVbcol p b sa col s
  | .vrvset p vd ra => Sys2Proof.Machine.execVrvset p vd ra s
  | .vrvget p va rd => Sys2Proof.Machine.execVrvget p va rd s
  | .vsig p sem val => Sys2Proof.Machine.execVsig p sem val s
  | .vrng p o => Sys2Proof.Machine.execVrng p o s
  | .vdrop p o sa sr => Sys2Proof.Machine.execVdrop p o sa sr s
  | .vtopk p vd sa row0 nr ncol kk => Sys2Proof.Machine.execVtopk p vd sa row0 nr ncol kk s
  | .vmom p vm vg vv row0 nr sr => Sys2Proof.Machine.execVmom p vm vg vv row0 nr sr s
  | .vupd p vw vm vv vg row0 nr sr => Sys2Proof.Machine.execVupd p vw vm vv vg row0 nr sr s
  | .vtly p sa row0 nr sr => Sys2Proof.Machine.execVtly p sa row0 nr sr s
  | .vtlyc p sr rc => Sys2Proof.Machine.execVtlyc p sr rc s
  | .snarePopWaitLimit n => Sys2Proof.Machine.execSnarePopWaitLimit n s
  | .launchStart launch seats => Sys2Proof.Machine.execLaunchStart launch seats s
  | .leadWantsStage launch stages => Sys2Proof.Machine.execLeadWantsStage launch stages s
  | .hardPreempt launch => Sys2Proof.Machine.execHardPreempt launch s
  | .swapOut ctx => Sys2Proof.Machine.execSwapOut ctx s
  | .swapIn ctx cache scratch => Sys2Proof.Machine.execSwapIn ctx cache scratch s
  | .swapComplete ctx ns => Sys2Proof.Machine.execSwapComplete ctx ns s
  | .stageRetire n cause => Sys2Proof.Machine.execStageRetire n cause s
  | .curtainArrive => Sys2Proof.Machine.execCurtainArrive s
  | .curtainExchangeUp port p m => Sys2Proof.Machine.execCurtainExchangeUp port p m s
  | .curtainExchangeDown port p m => Sys2Proof.Machine.execCurtainExchangeDown port p m s
  | .curtainOpen => Sys2Proof.Machine.execCurtainOpen s
  | .curtainSyncEnd => Sys2Proof.Machine.execCurtainSyncEnd s
  | .tallyCombineUp port p t => Sys2Proof.Machine.execTallyCombineUp port p t s
  | .tallyCombineDown port p t => Sys2Proof.Machine.execTallyCombineDown port p t s
  | .bar2Read off len => Sys2Proof.Machine.execBar2Read off len s
  | .bar2Write off data => Sys2Proof.Machine.execBar2Write off data s
  | .rdmaRequest ep write pa len data => Sys2Proof.Machine.execRdmaRequest ep write pa len data s
  | .roceSend ep => Sys2Proof.Machine.execRoceSend ep s
  | .cacheAccess pa write => Sys2Proof.Machine.execCacheAccess pa write s
  | .requestAdmit j => Sys2Proof.Machine.execRequestAdmit j s
  | .cacheSetWaitLimit j => Sys2Proof.Machine.execCacheSetWaitLimit j s
  | .reduceWrite w n j => Sys2Proof.Machine.execReduceWrite w n j s
  | .reduceRefuseLimit n j => Sys2Proof.Machine.execReduceRefuseLimit n j s
  | .scrubRead level addr => Sys2Proof.Machine.execScrubRead level addr s
  | .softRemapInstall stack pc row => Sys2Proof.Machine.execSoftRemapInstall stack pc row s
  | .pageRetire page target => Sys2Proof.Machine.execPageRetire page target s
  | .channelRetire ch => Sys2Proof.Machine.execChannelRetire ch s
  | .channelCopyDone => Sys2Proof.Machine.execChannelCopyDone s
  | .credit port counts => Sys2Proof.Machine.execCredit port counts s
  | .nak port seq => Sys2Proof.Machine.execNak port seq s
  | .heartbeat port state dev ver step => Sys2Proof.Machine.execHeartbeat port state dev ver step s
  | .width port agree lanes seq => Sys2Proof.Machine.execWidth port agree lanes seq s
  | .bell port b gen word => Sys2Proof.Machine.execBell port b gen word s
  | .bellTaken port b gen => Sys2Proof.Machine.execBellTaken port b gen s
  | .gong port cause dev ver => Sys2Proof.Machine.execGong port cause dev ver s
  | .packetForward port p => Sys2Proof.Machine.execPacketForward port p s
  | .rollBlock port p => Sys2Proof.Machine.execRollBlock port p s
  | .chunk port p => Sys2Proof.Machine.execChunk port p s
  | .pipe port p => Sys2Proof.Machine.execPipe port p s
  | .dispatch port p => Sys2Proof.Machine.execDispatch port p s
  | .gatherReq port p => Sys2Proof.Machine.execGatherReq port p s
  | .gatherData port p => Sys2Proof.Machine.execGatherData port p s
  | .fill port p => Sys2Proof.Machine.execFill port p s
  | .grant port p => Sys2Proof.Machine.execGrant port p s
  | .e2eAck port p => Sys2Proof.Machine.execE2eAck port p s
  | .peerCmd port p c => Sys2Proof.Machine.execPeerCmd port p c s
  | .callPropose port p d => Sys2Proof.Machine.execCallPropose port p d s
  | .callAccept port p ballot => Sys2Proof.Machine.execCallAccept port p ballot s
  | .callReject port p ballot => Sys2Proof.Machine.execCallReject port p ballot s
  | .callCommit port p ballot => Sys2Proof.Machine.execCallCommit port p ballot s
  | .callAbort port p ballot => Sys2Proof.Machine.execCallAbort port p ballot s
  | .stateReq port p => Sys2Proof.Machine.execStateReq port p s
  | .stateData port p => Sys2Proof.Machine.execStateData port p s
  | .teeTotal port p => Sys2Proof.Machine.execTeeTotal port p s
  | .parityDelta port p => Sys2Proof.Machine.execParityDelta port p s
  | .parityRead port p => Sys2Proof.Machine.execParityRead port p s
  | .replPut port p => Sys2Proof.Machine.execReplPut port p s
  | .logPut port p => Sys2Proof.Machine.execLogPut port p s
  | .logGet port p => Sys2Proof.Machine.execLogGet port p s
  | .suspect port p => Sys2Proof.Machine.execSuspect port p s
  | .quorumQuery port p => Sys2Proof.Machine.execQuorumQuery port p s
  | .quorumAnswer port p => Sys2Proof.Machine.execQuorumAnswer port p s
  | .scrubDigest port p => Sys2Proof.Machine.execScrubDigest port p s
  | .saveDone port p => Sys2Proof.Machine.execSaveDone port p s
  | .admitReq port p ident => Sys2Proof.Machine.execAdmitReq port p ident s
  | .linkResendTimeout port => Sys2Proof.Machine.execLinkResendTimeout port s
  | .portSilenceTimeout port => Sys2Proof.Machine.execPortSilenceTimeout port s
  | .laneLockLoss port lane => Sys2Proof.Machine.execLaneLockLoss port lane s
  | .laneWindowEnd port syms => Sys2Proof.Machine.execLaneWindowEnd port syms s
  | .e2eTimeout dst vc flow => Sys2Proof.Machine.execE2eTimeout dst vc flow s
  | .e2eAckTimer src vc flow => Sys2Proof.Machine.execE2eAckTimer src vc flow s
  | .heartbeatSend => Sys2Proof.Machine.execHeartbeatSend s
  | .heartbeatInterval => Sys2Proof.Machine.execHeartbeatInterval s
  | .opticsPoll port ok temp warn alarm => Sys2Proof.Machine.execOpticsPoll port ok temp warn alarm s
  | .moduleRemoved port => Sys2Proof.Machine.execModuleRemoved port s
  | .autoRetrain => Sys2Proof.Machine.execAutoRetrain s
  | .retrainTestEnd port lane pass => Sys2Proof.Machine.execRetrainTestEnd port lane pass s
  | .routeTableReady => Sys2Proof.Machine.execRouteTableReady s
  | .linkBellWrite port b word => Sys2Proof.Machine.execLinkBellWrite port b word s
  | .callSilenceTimeout dev => Sys2Proof.Machine.execCallSilenceTimeout dev s
  | .quorumTimeout => Sys2Proof.Machine.execQuorumTimeout s
  | .isolationTimeout => Sys2Proof.Machine.execIsolationTimeout s
  | .recastStart dev cause => Sys2Proof.Machine.execRecastStart dev cause s
  | .phaseOverrun => Sys2Proof.Machine.execPhaseOverrun s
  | .collectiveStart launch => Sys2Proof.Machine.execCollectiveStart launch s
  | .engineChainStep inst chain => Sys2Proof.Machine.execEngineChainStep inst chain s
  | .collectiveWaitLimit inst => Sys2Proof.Machine.execCollectiveWaitLimit inst s
  | .shardRetryTimeout n j => Sys2Proof.Machine.execShardRetryTimeout n j s
  | .shardDeclareTimeout n j => Sys2Proof.Machine.execShardDeclareTimeout n j s
  | .saveStreamDone => Sys2Proof.Machine.execSaveStreamDone s
  | .identify c => Sys2Proof.Machine.execIdentify c s
  | .getCaps c => Sys2Proof.Machine.execGetCaps c s
  | .setConfig c => Sys2Proof.Machine.execSetConfig c s
  | .commitStaged c => Sys2Proof.Machine.execCommitStaged c s
  | .enterQuiesced c => Sys2Proof.Machine.execEnterQuiesced c s
  | .leaveQuiesced c => Sys2Proof.Machine.execLeaveQuiesced c s
  | .resetUnitDevice c => Sys2Proof.Machine.execResetUnitDevice c s
  | .resetUnitBooth c => Sys2Proof.Machine.execResetUnitBooth c s
  | .resetUnitStage c => Sys2Proof.Machine.execResetUnitStage c s
  | .resetUnitLinkPort c => Sys2Proof.Machine.execResetUnitLinkPort c s
  | .resetUnitEthPort c => Sys2Proof.Machine.execResetUnitEthPort c s
  | .loadScore c score => Sys2Proof.Machine.execLoadScore c score s
  | .contextCreate c => Sys2Proof.Machine.execContextCreate c s
  | .contextDestroy c => Sys2Proof.Machine.execContextDestroy c s
  | .contextSuspend c => Sys2Proof.Machine.execContextSuspend c s
  | .contextResume c => Sys2Proof.Machine.execContextResume c s
  | .cueSheetSet c => Sys2Proof.Machine.execCueSheetSet c s
  | .rosterSet c => Sys2Proof.Machine.execRosterSet c s
  | .rosterGet c => Sys2Proof.Machine.execRosterGet c s
  | .admitDev c => Sys2Proof.Machine.execAdmitDev c s
  | .release c => Sys2Proof.Machine.execRelease c s
  | .shardLoad c => Sys2Proof.Machine.execShardLoad c s
  | .weightPointerSwitch c => Sys2Proof.Machine.execWeightPointerSwitch c s
  | .snapshotSave c => Sys2Proof.Machine.execSnapshotSave c s
  | .snapshotSaveRegion c => Sys2Proof.Machine.execSnapshotSaveRegion c s
  | .snapshotRestore c => Sys2Proof.Machine.execSnapshotRestore c s
  | .selfTest c => Sys2Proof.Machine.execSelfTest c s
  | .calibrate c => Sys2Proof.Machine.execCalibrate c s
  | .laneRetrain c => Sys2Proof.Machine.execLaneRetrain c s
  | .telemetryRead c => Sys2Proof.Machine.execTelemetryRead c s
  | .tallyRead c => Sys2Proof.Machine.execTallyRead c s
  | .eventLogRead c => Sys2Proof.Machine.execEventLogRead c s
  | .powerLimitSet c => Sys2Proof.Machine.execPowerLimitSet c s
  | .firmwareStage c => Sys2Proof.Machine.execFirmwareStage c s
  | .firmwareActivate c => Sys2Proof.Machine.execFirmwareActivate c s
  | .firmwareRollback c => Sys2Proof.Machine.execFirmwareRollback c s
  | .commandDeferredComplete seq slot e => Sys2Proof.Machine.execCommandDeferredComplete seq slot e s
  | .doorbell k h => Sys2Proof.Machine.execDoorbell k h s
  | .slotEnable k v => Sys2Proof.Machine.execSlotEnable k v s
  | .slotDisable k => Sys2Proof.Machine.execSlotDisable k s
  | .evqEnable v => Sys2Proof.Machine.execEvqEnable v s
  | .cqCoalesceTimer k => Sys2Proof.Machine.execCqCoalesceTimer k s
  | .h2fBellWrite j w => Sys2Proof.Machine.execH2fBellWrite j w s
  | .h2fBellTake j => Sys2Proof.Machine.execH2fBellTake j s
  | .f2hBellRead j => Sys2Proof.Machine.execF2hBellRead j s
  | .p2fBellTake n => Sys2Proof.Machine.execP2fBellTake n s
  | .tlyRingEnable v => Sys2Proof.Machine.execTlyRingEnable v s
  | .endpointEnable j v => Sys2Proof.Machine.execEndpointEnable j v s
  | .endpointDisable j => Sys2Proof.Machine.execEndpointDisable j s
  | .lastTripClear => Sys2Proof.Machine.execLastTripClear s
  | .rcRegisterRead off half => Sys2Proof.Machine.execRcRegisterRead off half s
  | .registerWrite off half v => Sys2Proof.Machine.execRegisterWrite off half v s
  | .pwrgoodRise railsOk => Sys2Proof.Machine.execPwrgoodRise railsOk s
  | .pwrgoodFall => Sys2Proof.Machine.execPwrgoodFall s
  | .perstAssert => Sys2Proof.Machine.execPerstAssert s
  | .perstDeassert => Sys2Proof.Machine.execPerstDeassert s
  | .bootRomDone pllOk fuseOk => Sys2Proof.Machine.execBootRomDone pllOk fuseOk s
  | .firmwareAuthDone => Sys2Proof.Machine.execFirmwareAuthDone s
  | .sramTestDone badStages sharedOk => Sys2Proof.Machine.execSramTestDone badStages sharedOk s
  | .stageTestDone badStages => Sys2Proof.Machine.execStageTestDone badStages s
  | .stackTrainingDone badChannels badPages serials => Sys2Proof.Machine.execStackTrainingDone badChannels badPages serials s
  | .linkTrainingDone lanes partners => Sys2Proof.Machine.execLinkTrainingDone lanes partners s
  | .ethTimeDone up => Sys2Proof.Machine.execEthTimeDone up s
  | .serviceStartDone => Sys2Proof.Machine.execServiceStartDone s
  | .ethPortRetrain e ok => Sys2Proof.Machine.execEthPortRetrain e ok s
  | .dimmerSample x => Sys2Proof.Machine.execDimmerSample x s
  | .safeExit => Sys2Proof.Machine.execSafeExit s
  | .thermalTrip => Sys2Proof.Machine.execThermalTrip s
  | .vrAlert reg status mv => Sys2Proof.Machine.execVrAlert reg status mv s
  | .droopDetect field edges => Sys2Proof.Machine.execDroopDetect field edges s
  | .pllLockLoss pll => Sys2Proof.Machine.execPllLockLoss pll s
  | .ppsEdge wide => Sys2Proof.Machine.execPpsEdge wide s
  | .ptpSync offset => Sys2Proof.Machine.execPtpSync offset s
  | .timeHoldover => Sys2Proof.Machine.execTimeHoldover s
  | .sensorSample => Sys2Proof.Machine.execSensorSample s
  | .setEndpointId eid => Sys2Proof.Machine.execSetEndpointId eid s
  | .setEventReceiver eid => Sys2Proof.Machine.execSetEventReceiver eid s
  | .rdmaRetryTimeout ep => Sys2Proof.Machine.execRdmaRetryTimeout ep s
  | .ecnCeArrival ep => Sys2Proof.Machine.execEcnCeArrival ep s
  | .cnpReceive ep => Sys2Proof.Machine.execCnpReceive ep s
  | .rateRecoveryTimer ep => Sys2Proof.Machine.execRateRecoveryTimer ep s
  | .readId => Sys2Proof.Machine.execReadId s
  | .status => Sys2Proof.Machine.execStatus s
  | .write off data => Sys2Proof.Machine.execWrite off data s
  | .check => Sys2Proof.Machine.execCheck s
  | .bypass => Sys2Proof.Machine.execBypass s
  | .idcode => Sys2Proof.Machine.execIdcode s
  | .samplePreload v => Sys2Proof.Machine.execSamplePreload v s
  | .extest => Sys2Proof.Machine.execExtest s
  | .clamp => Sys2Proof.Machine.execClamp s
  | .highz => Sys2Proof.Machine.execHighz s
  | .flit port bytes => Sys2Proof.Machine.execFlit port bytes s
  | .rdmaResponse ep fatal data => Sys2Proof.Machine.execRdmaResponse ep fatal data s
  | .orderedReadWaitLimit n j => Sys2Proof.Machine.execOrderedReadWaitLimit n j s
  | .snareInstructionComplete n => Sys2Proof.Machine.execSnareInstructionComplete n s
  | .pcieLinkDown => Sys2Proof.Machine.execPcieLinkDown s
  | .linkBellRead port b => Sys2Proof.Machine.execLinkBellRead port b s
  | .delayResp delay => Sys2Proof.Machine.execDelayResp delay s

end Sys2Proof.Machine
end

