-- ==== Sys2Proof/Machine/Tick.lean ====
section
/-! DEFINITION. What the device does when no command waits: the next Prompter that can issue fetches its instruction, and between two rounds of the
Prompters TCLK advances (R95, R101, R110, R522; log entry 3). -/

namespace Sys2Proof.Machine

/-- The instruction fetch of Stage `n` (R95, R101, R110): a poisoned word is a poison fault, a word that spells no instruction an illegal-instruction
fault, every other word the instruction it spells, put in the queue. -/
def State.fetch (s : State) (n : Nat) (i : Inst) : State :=
  let pc := (s.stage n).prm.pc
  match s.apRead n (i.codeBase + pc) 8 1 with
  | (bs, bad, s) =>
    let w := w64 (ofLe bs)
    let org : Origin := ⟨pc, wordClass w, wordOp w⟩
    if bad then s.kernelFault n ⟨.poison, org, 0, none⟩
    else match decodeKernel n w with
      | .ok c => { s with pending := s.pending ++ [c] }
      | .error _ => s.kernelFault n ⟨.illegal, org, 0, none⟩

/-- The first Stage from `turn` on whose Prompter can issue. -/
def State.nextStage (s : State) : Option (Nat × Inst) :=
  (s.stages.find? (fun e => decide (s.turn ≤ e.1 ∧ e.1 < 144) && e.2.canIssue)).bind (fun e => e.2.inst.map (fun i => (e.1, i)))

/-- Fill contexts with no launch left take up what the host has submitted (R293, log entry 15). -/
def State.fillWork (s : State) : State :=
  (s.sched.ctxs.filter (fun c => !c.lead && c.score.isSome && !c.suspended
    && !s.sched.launches.any (fun x => decide (x.ctx = c.num)))).foldl (fun (s : State) c => s.takeWork c.num) s

/-- A round of the Prompters ends: accesses whose sets have a way again, dispatches whose rows are free and submitted work go on (R208, R283,
R293), and TCLK advances (R522). -/
def State.roundEnd (s : State) : State := s.settleWaiters.serveRows.fillWork.tclk

/-- One tick (log entry 3). -/
def tick (s : State) : State :=
  match s.nextStage with
  | some (n, i) => { s with turn := n + 1 }.fetch n i
  | none => if s.live then { s.roundEnd with turn := 0 } else { s with turn := 0 }

end Sys2Proof.Machine
end

