-- ==== Sys2Proof/Machine/Blocks.lean ====
section
/-! DEFINITION. What expert and attention blocks compute of the Snare's own element operations, as the manual's pseudocode gives it: slots
(R280, R281), the fold of partial attention states (R284). The kernels of a Score do it instruction by instruction. -/

namespace Sys2Proof.Machine

/-- One pair's turn (R280): the next slot of its expert while that has one of its `c`, else overflow. -/
def takeSlot (c : Nat) (acc : List Nat × List (Option Nat)) (x : Nat) : List Nat × List (Option Nat) :=
  let n := acc.1.getD x 0
  if n < c then (setAt acc.1 x (n + 1), acc.2 ++ [some n]) else (acc.1, acc.2 ++ [none])

/-- Slots of the pairs (token, choice) in the order of R280: all first choices by ascending token, then all second ones; `experts` names the
expert of each pair in that order, and `none` is an overflow. -/
def slotsOf (c e : Nat) (experts : List Nat) : List (Option Nat) := (experts.foldl (takeSlot c) (List.replicate e 0, [])).2

/-- Overflowed pairs, which VTLYC adds to the block's tag (R280). -/
def overflows (slots : List (Option Nat)) : Nat := (slots.filter (fun x => x.isNone)).length

/-- The row a pair is dispatched to, from the source's row base at the expert's home (R281). -/
def slotRow (base : Nat) (slot : Option Nat) : Option Nat := slot.map (fun n => base + n)

/-- A token's output (R281): its kept choices' rows weighted by their gates, in ascending choice, a sequence of VFMA from +0. -/
def gateSum (kept : List (W32 × W32)) : W32 := kept.foldl (fun acc x => EwOp.eval .fma x.1 x.2 acc) 0

/-- A query row's attention state (R284): maximum, sum of exponentials, weighted values. -/
structure AttnState where
  m : W32
  l : W32
  o : List W32
  deriving DecidableEq, Repr

/-- One key block's partial state folded in (R284). -/
def attnCombine (s b : AttnState) : AttnState :=
  let mx := EwOp.eval .max s.m b.m 0
  if mx = ninf32 then s
  else
    let a := EwOp.eval .exp (EwOp.eval .sub s.m mx 0) 0 0
    let w := EwOp.eval .exp (EwOp.eval .sub b.m mx 0) 0 0
    { m := mx
      l := EwOp.eval .fma s.l a (EwOp.eval .mul b.l w 0)
      o := (s.o.zip b.o).map (fun x => EwOp.eval .fma x.1 a (EwOp.eval .mul x.2 w 0)) }

/-- The fold over a query block's key blocks in ascending index, from an empty state of `n` values (R284). -/
def attnFold (n : Nat) (blocks : List AttnState) : AttnState := blocks.foldl attnCombine ⟨ninf32, 0, List.replicate n 0⟩

end Sys2Proof.Machine
end

