-- ==== Sys2Proof/WellFormed.lean ====
section
/-! DEFINITION. Well-formed commands: unit numbers the device has (R2, R4, R340, R458, R490, R497, R521), fields inside their widths (R340,
R344), and the two instructions whose fields share bits (R131, R161). -/

namespace Sys2Proof

/-- The issuing Stage exists (R4). -/
def Iss.ok (p : Iss) : Bool := decide (p.stage < 144)

/-- The slot or port a Camod command arrives on exists (R458, R469). -/
def CmdSrc.ok : CmdSrc → Bool
  | .slot k => decide (k < 64)
  | .smbus _ => true
  | .link port _ => decide (port < 24)
  | .eth port _ => decide (port < 4)

/-- A packet's header fields are inside their widths, its payload has 1 to 4,096 bytes (R344). -/
def Pkt.ok (p : Pkt) : Bool :=
  decide (p.dst < 65536 ∧ p.src < 65536 ∧ p.vc < 8 ∧ p.hop < 8 ∧ p.ty < 64 ∧ p.flow < 16 ∧ p.e2e < 2 ^ 32 ∧ p.rver < 65536
    ∧ p.aux16 < 65536 ∧ 0 < p.data.length ∧ p.data.length ≤ 4096)

/-- A command the device can be given. -/
def Instr.wf : Instr → Bool
  | .add p _ _ _ => p.ok
  | .sub p _ _ _ => p.ok
  | .mul p _ _ _ => p.ok
  | .mulh p _ _ _ => p.ok
  | .mulhu p _ _ _ => p.ok
  | .divu p _ _ _ => p.ok
  | .remu p _ _ _ => p.ok
  | .div p _ _ _ => p.ok
  | .rem p _ _ _ => p.ok
  | .and p _ _ _ => p.ok
  | .or p _ _ _ => p.ok
  | .xor p _ _ _ => p.ok
  | .shl p _ _ _ => p.ok
  | .shr p _ _ _ => p.ok
  | .sra p _ _ _ => p.ok
  | .clz p _ _ => p.ok
  | .popc p _ _ => p.ok
  | .min p _ _ _ => p.ok
  | .max p _ _ _ => p.ok
  | .minu p _ _ _ => p.ok
  | .maxu p _ _ _ => p.ok
  | .sel p _ _ _ _ => p.ok
  | .ceq p _ _ _ => p.ok
  | .cne p _ _ _ => p.ok
  | .clt p _ _ _ => p.ok
  | .cle p _ _ _ => p.ok
  | .cltu p _ _ _ => p.ok
  | .cleu p _ _ _ => p.ok
  | .pand p _ _ _ => p.ok
  | .por p _ _ _ => p.ok
  | .pxor p _ _ _ => p.ok
  | .pnot p _ _ => p.ok
  | .prd p _ => p.ok
  | .pwr p _ => p.ok
  | .rdspec p _ _ => p.ok
  | .addi p _ _ _ => p.ok
  | .andi p _ _ _ => p.ok
  | .ori p _ _ _ => p.ok
  | .xori p _ _ _ => p.ok
  | .shli p _ _ _ => p.ok
  | .shri p _ _ _ => p.ok
  | .srai p _ _ _ => p.ok
  | .movi p _ _ => p.ok
  | .movhi p _ _ => p.ok
  | .ceqi p _ _ _ => p.ok
  | .cnei p _ _ _ => p.ok
  | .clti p _ _ _ => p.ok
  | .clei p _ _ _ => p.ok
  | .cltui p _ _ _ => p.ok
  | .cleui p _ _ _ => p.ok
  | .nop p => p.ok
  | .br p _ => p.ok
  | .call p _ _ => p.ok
  | .jr p _ => p.ok
  | .loop p _ _ => p.ok
  | .endK p => p.ok
  | .endComplete n => decide (n < 144)
  | .trap p _ => p.ok
  | .ldb p _ _ _ => p.ok
  | .ldh p _ _ _ => p.ok
  | .ldw p _ _ _ => p.ok
  | .ldd p _ _ _ => p.ok
  | .ldbu p _ _ _ => p.ok
  | .ldhu p _ _ _ => p.ok
  | .ldwu p _ _ _ => p.ok
  | .stb p _ _ _ => p.ok
  | .sth p _ _ _ => p.ok
  | .stw p _ _ _ => p.ok
  | .std p _ _ _ => p.ok
  | .wld p _ _ _ _ => p.ok
  | .wldStart n => decide (n < 144)
  | .wldComplete n => decide (n < 144)
  | .azero p _ _ _ _ _ => p.ok
  | .azeroStart n => decide (n < 144)
  | .mma p _ => p.ok
  | .mmaStart n => decide (n < 144)
  | .mmaRowEnter n => decide (n < 144)
  | .mmaRowWrite n => decide (n < 144)
  | .drain p _ _ => p.ok
  | .drainStart n => decide (n < 144)
  | .drainBlockReadout n => decide (n < 144)
  | .drainBlockEnqueue n => decide (n < 144)
  | .roll p _ _ _ _ _ => p.ok
  | .racc p _ _ _ _ => p.ok
  | .raccStart n => decide (n < 144)
  | .rollGrant n => decide (n < 144)
  | .rollReadout n => decide (n < 144)
  | .rollIn n => decide (n < 144)
  | .matrixWaitLimit n _ => decide (n < 144)
  | .dmov p _ => p.ok
  | .dgath p _ => p.ok
  | .dscat p _ => p.ok
  | .drel p _ => p.ok
  | .stagehandComplete n _ => decide (n < 144)
  | .semsig p _ _ _ _ => p.ok
  | .remoteSemsig n _ => decide (n < 144)
  | .semwait p _ _ => p.ok
  | .semwaitSatisfy n => decide (n < 144)
  | .semset p _ _ => p.ok
  | .semrd p _ _ => p.ok
  | .fence p _ => p.ok
  | .fenceSatisfy n => decide (n < 144)
  | .curtwait p _ => p.ok
  | .curtwaitResume n => decide (n < 144)
  | .syncWaitLimit n => decide (n < 144)
  | .belw p _ _ => p.ok
  | .belr p rd pd => p.ok && decide (pd = rd.extractLsb' 1 3)
  | .belt p _ _ => p.ok
  | .vadd p _ => p.ok
  | .vsub p _ => p.ok
  | .vmul p _ => p.ok
  | .vfma p _ => p.ok
  | .vfms p _ => p.ok
  | .vfnma p _ => p.ok
  | .vmin p _ => p.ok
  | .vmax p _ => p.ok
  | .vabs p _ => p.ok
  | .vneg p _ => p.ok
  | .vcpy p _ => p.ok
  | .vceq p _ => p.ok
  | .vcne p _ => p.ok
  | .vclt p _ => p.ok
  | .vcle p _ => p.ok
  | .vcnan p _ => p.ok
  | .vsel p _ => p.ok
  | .vexp p _ => p.ok
  | .vrcp p _ => p.ok
  | .vrsq p _ => p.ok
  | .vrsum p _ => p.ok
  | .vrmax p _ => p.ok
  | .vramax p _ => p.ok
  | .vcsum p _ => p.ok
  | .vcmax p _ => p.ok
  | .vcamax p _ => p.ok
  | .vpop p _ _ => p.ok
  | .vpopw p _ _ => p.ok
  | .vld p _ => p.ok
  | .vst p _ => p.ok
  | .vldw p _ => p.ok
  | .vstw p _ => p.ok
  | .vbld p _ _ => p.ok
  | .vbst p _ _ => p.ok
  | .vbrow p _ _ _ => p.ok
  | .vbcol p _ _ _ => p.ok
  | .vrvset p _ _ => p.ok
  | .vrvget p _ _ => p.ok
  | .vsig p _ _ => p.ok
  | .vrng p _ => p.ok
  | .vdrop p o sa _ => p.ok && decide (sa.extractLsb' 0 2 = o.ra.extractLsb' 3 2)
  | .vtopk p _ _ _ _ _ _ => p.ok
  | .vmom p _ _ _ _ _ _ => p.ok
  | .vupd p _ _ _ _ _ _ _ => p.ok
  | .vtly p _ _ _ _ => p.ok
  | .vtlyc p _ _ => p.ok
  | .snarePopWaitLimit n => decide (n < 144)
  | .launchStart _ _ => true
  | .leadWantsStage _ _ => true
  | .hardPreempt _ => true
  | .swapOut _ => true
  | .swapIn _ _ _ => true
  | .swapComplete _ _ => true
  | .stageRetire n _ => decide (n < 144)
  | .curtainArrive => true
  | .curtainExchangeUp port p _ => decide (port < 24) && p.ok
  | .curtainExchangeDown port p _ => decide (port < 24) && p.ok
  | .curtainOpen => true
  | .curtainSyncEnd => true
  | .tallyCombineUp port p _ => decide (port < 24) && p.ok
  | .tallyCombineDown port p _ => decide (port < 24) && p.ok
  | .bar2Read _ _ => true
  | .bar2Write _ _ => true
  | .rdmaRequest ep _ _ _ _ => decide (ep < 256)
  | .roceSend ep => decide (ep < 256)
  | .cacheAccess _ _ => true
  | .requestAdmit _ => true
  | .cacheSetWaitLimit _ => true
  | .reduceWrite _ n _ => decide (n < 144)
  | .reduceRefuseLimit n _ => decide (n < 144)
  | .scrubRead _ _ => true
  | .softRemapInstall _ _ _ => true
  | .pageRetire _ _ => true
  | .channelRetire ch => decide (2 * ch + 1 < 64 * Config.stackCount)
  | .channelCopyDone => true
  | .credit port counts => decide (port < 24) && decide (counts.length = 8)
  | .nak port _ => decide (port < 24)
  | .heartbeat port _ _ _ _ => decide (port < 24)
  | .width port _ _ _ => decide (port < 24)
  | .bell port _ _ _ => decide (port < 24)
  | .bellTaken port _ _ => decide (port < 24)
  | .gong port _ _ _ => decide (port < 24)
  | .packetForward port p => decide (port < 24) && p.ok
  | .rollBlock port p => decide (port < 24) && p.ok
  | .chunk port p => decide (port < 24) && p.ok
  | .pipe port p => decide (port < 24) && p.ok
  | .dispatch port p => decide (port < 24) && p.ok
  | .gatherReq port p => decide (port < 24) && p.ok
  | .gatherData port p => decide (port < 24) && p.ok
  | .fill port p => decide (port < 24) && p.ok
  | .grant port p => decide (port < 24) && p.ok
  | .e2eAck port p => decide (port < 24) && p.ok
  | .peerCmd port p _ => decide (port < 24) && p.ok
  | .callPropose port p _ => decide (port < 24) && p.ok
  | .callAccept port p _ => decide (port < 24) && p.ok
  | .callReject port p _ => decide (port < 24) && p.ok
  | .callCommit port p _ => decide (port < 24) && p.ok
  | .callAbort port p _ => decide (port < 24) && p.ok
  | .stateReq port p => decide (port < 24) && p.ok
  | .stateData port p => decide (port < 24) && p.ok
  | .teeTotal port p => decide (port < 24) && p.ok
  | .parityDelta port p => decide (port < 24) && p.ok
  | .parityRead port p => decide (port < 24) && p.ok
  | .replPut port p => decide (port < 24) && p.ok
  | .logPut port p => decide (port < 24) && p.ok
  | .logGet port p => decide (port < 24) && p.ok
  | .suspect port p => decide (port < 24) && p.ok
  | .quorumQuery port p => decide (port < 24) && p.ok
  | .quorumAnswer port p => decide (port < 24) && p.ok
  | .scrubDigest port p => decide (port < 24) && p.ok
  | .saveDone port p => decide (port < 24) && p.ok
  | .admitReq port p _ => decide (port < 24) && p.ok
  | .linkResendTimeout port => decide (port < 24)
  | .portSilenceTimeout port => decide (port < 24)
  | .laneLockLoss port lane => decide (port < 24) && decide (lane < 8)
  | .laneWindowEnd port _ => decide (port < 24)
  | .e2eTimeout _ _ _ => true
  | .e2eAckTimer _ _ _ => true
  | .heartbeatSend => true
  | .heartbeatInterval => true
  | .opticsPoll port _ _ _ _ => decide (port < 24)
  | .moduleRemoved port => decide (port < 24)
  | .autoRetrain => true
  | .retrainTestEnd port lane pass => decide (port < 24) && decide (lane < 8) && decide (pass.peer < 24)
  | .routeTableReady => true
  | .linkBellWrite port _ _ => decide (port < 24)
  | .callSilenceTimeout _ => true
  | .quorumTimeout => true
  | .isolationTimeout => true
  | .recastStart _ _ => true
  | .phaseOverrun => true
  | .collectiveStart _ => true
  | .engineChainStep _ _ => true
  | .collectiveWaitLimit _ => true
  | .shardRetryTimeout n _ => decide (n ≤ 144)
  | .shardDeclareTimeout n _ => decide (n ≤ 144)
  | .saveStreamDone => true
  | .identify c => c.ok
  | .getCaps c => c.ok
  | .setConfig c => c.ok
  | .commitStaged c => c.ok
  | .enterQuiesced c => c.ok
  | .leaveQuiesced c => c.ok
  | .resetUnitDevice c => c.ok
  | .resetUnitBooth c => c.ok
  | .resetUnitStage c => c.ok
  | .resetUnitLinkPort c => c.ok
  | .resetUnitEthPort c => c.ok
  | .loadScore c _ => c.ok
  | .contextCreate c => c.ok
  | .contextDestroy c => c.ok
  | .contextSuspend c => c.ok
  | .contextResume c => c.ok
  | .cueSheetSet c => c.ok
  | .rosterSet c => c.ok
  | .rosterGet c => c.ok
  | .admitDev c => c.ok
  | .release c => c.ok
  | .shardLoad c => c.ok
  | .weightPointerSwitch c => c.ok
  | .snapshotSave c => c.ok
  | .snapshotSaveRegion c => c.ok
  | .snapshotRestore c => c.ok
  | .selfTest c => c.ok
  | .calibrate c => c.ok
  | .laneRetrain c => c.ok
  | .telemetryRead c => c.ok
  | .tallyRead c => c.ok
  | .eventLogRead c => c.ok
  | .powerLimitSet c => c.ok
  | .firmwareStage c => c.ok
  | .firmwareActivate c => c.ok
  | .firmwareRollback c => c.ok
  | .commandDeferredComplete _ _ _ => true
  | .doorbell k _ => decide (k < 64)
  | .slotEnable k _ => decide (k < 64)
  | .slotDisable k => decide (k < 64)
  | .evqEnable _ => true
  | .cqCoalesceTimer k => decide (k < 64)
  | .h2fBellWrite i _ => decide (i < 16)
  | .h2fBellTake i => decide (i < 16)
  | .f2hBellRead i => decide (i < 16)
  | .p2fBellTake n => decide (n < 144)
  | .tlyRingEnable _ => true
  | .endpointEnable i _ => decide (i < 256)
  | .endpointDisable i => decide (i < 256)
  | .lastTripClear => true
  | .rcRegisterRead off _ => decide (off % 8 = 0)
  | .registerWrite off _ _ => decide (off % 8 = 0)
  | .pwrgoodRise _ => true
  | .pwrgoodFall => true
  | .perstAssert => true
  | .perstDeassert => true
  | .bootRomDone _ _ => true
  | .firmwareAuthDone => true
  | .sramTestDone _ _ => true
  | .stageTestDone _ => true
  | .stackTrainingDone _ _ _ => true
  | .linkTrainingDone _ _ => true
  | .ethTimeDone _ => true
  | .serviceStartDone => true
  | .ethPortRetrain e _ => decide (e < 4)
  | .dimmerSample x => decide (x.railMv.length = 7 ∧ x.railAmps.length = 7)
  | .safeExit => true
  | .thermalTrip => true
  | .vrAlert reg _ _ => decide (reg < 7)
  | .droopDetect field _ => decide (field < 4)
  | .pllLockLoss pll => decide (pll < 25)
  | .ppsEdge _ => true
  | .ptpSync _ => true
  | .timeHoldover => true
  | .sensorSample => true
  | .setEndpointId _ => true
  | .setEventReceiver _ => true
  | .rdmaRetryTimeout ep => decide (ep < 256)
  | .ecnCeArrival ep => decide (ep < 256)
  | .cnpReceive ep => decide (ep < 256)
  | .rateRecoveryTimer ep => decide (ep < 256)
  | .readId => true
  | .status => true
  | .write _ _ => true
  | .check => true
  | .bypass => true
  | .idcode => true
  | .samplePreload _ => true
  | .extest => true
  | .clamp => true
  | .highz => true
  | .flit port bytes => decide (port < 24) && decide (bytes.bytes.length = 256) && (bytes.bad || !bytes.first)
  | .rdmaResponse ep _ _ => decide (ep < 256)
  | .orderedReadWaitLimit n _ => decide (n < 144)
  | .snareInstructionComplete n => decide (n < 144)
  | .pcieLinkDown => true
  | .linkBellRead port _ => decide (port < 24)
  | .delayResp _ => true

end Sys2Proof
end

