-- ==== Sys2Proof/Safety.lean ====
section
/-! DEFINITION. What counts as a safe run, and the terms the statements are said in: when an instruction issues, what sequential flow and a
frame are, the canonical form, when a packet of a link or of a Camod port is taken. -/

namespace Sys2Proof.Safety

open Sys2Proof.Machine

/-- A state from which the next step answers a next state. -/
def CanStep (s : State) : Prop := ∃ t, step s = .next t

/-- The outcome is this next state. -/
abbrev Next (o : Host.Outcome State Fault Refusal) (t : State) : Prop := o = .next t

/-- The stored registers, the Stages and the sparse data of each Stage's Prompter and Apron stand in their one canonical form. -/
def Canon (s : State) : Prop :=
  mwf 0 s.regs = true ∧ mwf Stage.idle s.stages = true
    ∧ ∀ n, mwf 0 (s.stage n).prm.regs = true ∧ mwf 0 (s.stage n).ap.bytes = true ∧ mwf 0 (s.stage n).ap.ecc = true
      ∧ mwf 0 (s.stage n).sh.sems = true

/-- Prompter `p.stage` runs kernel instance `i`, waits for nothing, no queued VRVGET still owes a register of `uses`, and the guard of `p` lets the
instruction execute (R99-R101). -/
structure Issues (s : State) (p : Iss) (i : Inst) (uses : List (BitVec 5)) : Prop where
  inRange : p.stage < 144
  held : (s.stage p.stage).inst = some i
  can : (s.stage p.stage).canIssue = true
  ready : uses.any (s.stage p.stage).regBusy = false
  guard : (s.stage p.stage).prm.guarded p = true

/-- A code-region offset an instruction can be fetched from (R94, R110). -/
def Fetchable (i : Inst) (a : W64) : Prop := a.toNat < i.codeSize ∧ a.toNat % 8 = 0

/-- Sequential flow from the PC of Stage `n`, loops included (R111), stays where an instruction can be fetched. -/
def SeqIn (s : State) (n : Nat) (i : Inst) : Prop :=
  Fetchable i (w64 (nextPc (s.stage n).prm.pc (s.stage n).prm.loops).1)

/-- Nothing outside Stage `n` changes but one more retired instruction in STG_PRM_RETIRED of that Stage (R144). -/
structure Outside (s t : State) (n : Nat) : Prop where
  retired : t.rd .stgPrmRetired n = s.rd .stgPrmRetired n + 1
  regs : ∀ off, off ≠ Reg.off .stgPrmRetired n → mget 0 t.regs off = mget 0 s.regs off
  others : ∀ m, m ≠ n → t.stage m = s.stage m
  pending : t.pending = s.pending
  mem : t.mem = s.mem
  sched : t.sched = s.sched
  link : t.link = s.link
  pbk : t.pbk = s.pbk
  booth : t.booth = s.booth
  plat : t.plat = s.plat
  turn : t.turn = s.turn

/-- Nothing but the Prompter of Stage `n` and its count of retired instructions changes: the Stage keeps its kernel, matrix arrays, Snare,
Stagehand, semaphores, Apron, Tally and random counters. -/
structure PrompterOnly (s t : State) (n : Nat) : Prop where
  outside : Outside s t n
  stage : t.stage n = { s.stage n with prm := (t.stage n).prm }

/-- Sequential flow: the Prompter runs on at the next PC with the loop stack R111 gives. -/
structure FlowsOn (s t : State) (n : Nat) : Prop where
  pc : (t.stage n).prm.pc = (nextPc (s.stage n).prm.pc (s.stage n).prm.loops).1
  loops : (t.stage n).prm.loops = (nextPc (s.stage n).prm.pc (s.stage n).prm.loops).2
  wait : (t.stage n).prm.wait = .run

/-- A taken branch: the Prompter runs on at `a`, having left the loops whose body `a` is outside of (R109, R111). -/
structure Branches (s t : State) (n : Nat) (a : W64) : Prop where
  pc : (t.stage n).prm.pc = a.toNat
  loops : (t.stage n).prm.loops = popLoops a.toNat (s.stage n).prm.loops
  wait : (t.stage n).prm.wait = .run

/-- Every scalar register of Stage `n` but `rd` as before; `rd` holds `v`, s0 still 0 (R96). -/
structure RegIs (s t : State) (n : Nat) (rd : BitVec 5) (v : W64) : Prop where
  value : (t.stage n).prm.reg rd = if rd = 0 then 0 else v
  others : ∀ r, r ≠ rd → (t.stage n).prm.reg r = (s.stage n).prm.reg r

/-- Every predicate of Stage `n` but `pd` as before; `pd` holds `b`. -/
structure PredIs (s t : State) (n : Nat) (pd : BitVec 3) (b : Bool) : Prop where
  value : (t.stage n).prm.pred pd = b
  others : ∀ q, q ≠ pd → (t.stage n).prm.pred q = (s.stage n).prm.pred q

/-- No scalar register and no predicate of Stage `n` changes. -/
structure FileKept (s t : State) (n : Nat) : Prop where
  regs : ∀ r, (t.stage n).prm.reg r = (s.stage n).prm.reg r
  preds : (t.stage n).prm.preds = (s.stage n).prm.preds

/-- The outcome of an instruction of Stage `n` that writes scalar register `rd` with `v` and nothing else. -/
def WritesReg (s : State) (n : Nat) (rd : BitVec 5) (v : W64) (o : Host.Outcome State Fault Refusal) : Prop :=
  ∃ t, o = .next t ∧ RegIs s t n rd v ∧ (t.stage n).prm.preds = (s.stage n).prm.preds ∧ FlowsOn s t n ∧ PrompterOnly s t n
    ∧ t.freeCtr = s.freeCtr

/-- The outcome of an instruction of Stage `n` that writes predicate `pd` with `b` and nothing else. -/
def WritesPred (s : State) (n : Nat) (pd : BitVec 3) (b : Bool) (o : Host.Outcome State Fault Refusal) : Prop :=
  ∃ t, o = .next t ∧ PredIs s t n pd b ∧ (∀ r, (t.stage n).prm.reg r = (s.stage n).prm.reg r) ∧ FlowsOn s t n ∧ PrompterOnly s t n
    ∧ t.freeCtr = s.freeCtr

/-- The state in which an issued instruction executes: its place recorded for the fault registers, one more instruction retired (R138, R144). -/
def started (s : State) (p : Iss) (cls op : Nat) : State :=
  (s.modStage p.stage (fun t => { t with prm := { t.prm with org := ⟨(s.stage p.stage).prm.pc, cls, op⟩ } })).bump .stgPrmRetired p.stage 1

/-- The bytes of a Stage's Apron from `a` on are clean: no unit of them holds an error (R229). -/
def CleanApron (t : Stage) (a len : Nat) : Prop := ∀ w, a / 8 ≤ w → w < (a + len + 7) / 8 → mget 0 t.ap.ecc w = 0

/-- A byte of the Apron of Stage `n`. -/
def apByte (s : State) (n a : Nat) : Byte := mget 0 (s.stage n).ap.bytes a

/-- The number that `len` bytes of the Apron of Stage `n` spell, least significant first (R7). -/
def apNumber (s : State) (n a len : Nat) : Nat := ofLe ((List.range len).map (fun k => apByte s n (a + k)))

/-- The address of a class 0x3 access, RA + OFF (R113). -/
def accessAddr (s : State) (n : Nat) (ra : BitVec 5) (off : W32) : W64 := (s.stage n).prm.reg ra + off.signExtend 64

/-- A naturally aligned access inside the data region, to bytes without an error (R94, R113, R229). -/
structure Reaches (s : State) (n : Nat) (i : Inst) (a : W64) (len : Nat) : Prop where
  aligned : a.toNat % len = 0
  inside : a.toNat + len ≤ i.dataSize
  clean : CleanApron (s.stage n) (i.dataBase + a.toNat) len

/-- The outcome of an instruction of Stage `n` that writes `len` bytes of the Apron from `a` on, little-endian from `v`, and nothing else: every
other byte of memory reads as before. -/
def StoresAt (s : State) (n a len : Nat) (v : W64) (o : Host.Outcome State Fault Refusal) : Prop :=
  ∃ t, o = .next t ∧ (∀ k, k < len → apByte t n (a + k) = BitVec.ofNat 8 (v.toNat / 256 ^ k))
    ∧ (∀ b, (b < a ∨ a + len ≤ b) → apByte t n b = apByte s n b) ∧ FileKept s t n ∧ FlowsOn s t n ∧ Outside s t n ∧ t.freeCtr = s.freeCtr
    ∧ t.stage n = { s.stage n with prm := (t.stage n).prm, ap := { (s.stage n).ap with bytes := (t.stage n).ap.bytes } }

/-- The outcome of an instruction of Stage `n` that a queue of the Stage takes: `f` is what the queue's unit becomes; every register, predicate and
other unit keeps its value, and the Prompter flows on in sequence. -/
def Enqueues (s : State) (n : Nat) (f : Stage → Stage) (o : Host.Outcome State Fault Refusal) : Prop :=
  ∃ t, o = .next t ∧ FileKept s t n ∧ FlowsOn s t n ∧ Outside s t n ∧ t.freeCtr = s.freeCtr
    ∧ t.stage n = { f (s.stage n) with prm := (t.stage n).prm }

/-- Element `col` of row `r` of the source a code names: a tile buffer, a row or column broadcast register, the scalar register (R146, R147). -/
def srcElem (t : Stage) (sr : W64) (code r col : Nat) : W32 :=
  if code ≤ 5 then mget 0 t.sn.vb (16384 * code + 256 * r + col)
  else if code ≤ 7 then mget 0 t.sn.bv (256 * (code - 6) + col)
  else if code ≤ 9 then mget 0 t.sn.bv (512 + 64 * (code - 8) + r)
  else sr.setWidth 32

/-- The row-valid bit of a tile buffer; the other sources count as valid (R148, R159). -/
def srcValid (t : Stage) (code r : Nat) : Bool := decide (5 < code) || (mget 0 t.sn.valid code).getLsbD r

/-- The Snare of Stage `n` is idle, its queue empty, and no word it holds has an error; its storage stands in its one form. -/
structure SnareIdle (s : State) (n : Nat) : Prop where
  queue : (s.stage n).sn.queue = []
  vbClean : (s.stage n).sn.vbEcc = []
  bvClean : (s.stage n).sn.bvEcc = []
  vb : mwf 0 (s.stage n).sn.vb = true
  bv : mwf 0 (s.stage n).sn.bv = true
  valid : mwf 0 (s.stage n).sn.valid = true

/-- The Snare of Stage `n` has worked off an instruction that it had just been given: its Prompter flowed on, no register, predicate or
byte of memory changed, and the instruction stands done in the queue. -/
structure SnareDid (s t : State) (n : Nat) (v : VInst) (cls op : Nat) : Prop where
  queue : (t.stage n).sn.queue = [⟨⟨(s.stage n).prm.pc, cls, op⟩, v, true, []⟩]
  file : FileKept s t n
  flow : FlowsOn s t n
  others : ∀ m, m ≠ n → t.stage m = s.stage m
  rest : t.stage n = { s.stage n with prm := (t.stage n).prm, sn := (t.stage n).sn }
  mem : t.mem = s.mem

/-- The outcome of issuing the vector instruction `v` (R102, R147, R152): it joins the Snare queue, its scalars captured, the Prompter flows on,
and the Snare runs on; where the Snare was idle, the outcome is the instruction worked off: its rows, its counters, its place in the queue
kept until it completes, or the fault it meets. -/
def SnareTakes (s : State) (n : Nat) (i : Inst) (v : VInst) (cls op : Nat) (o : Host.Outcome State Fault Refusal) : Prop :=
  ∃ t, Enqueues s n (fun x => { x with sn := { x.sn with queue := x.sn.queue ++ [⟨⟨(s.stage n).prm.pc, cls, op⟩, v, false, []⟩] } }) (.next t)
    ∧ o = .next (t.snareRun n)
    ∧ ((s.stage n).sn.queue = [] → ∀ u ws, v.run n i t = .ok u ws →
        o = .next ((u.snareMark n 0 ws).snareCount n (t.stage n).sn.queue v v.rows v.rows))
    ∧ ((s.stage n).sn.queue = [] → ∀ u ws f x k, v.run n i t = .fault u ws f x k →
        o = .next ((((u.landWrites n (u.stage n).sn.pendingWrites).landWrites n ws).snareCount n (t.stage n).sn.queue v (k - 1) (Nat.min k v.rows)).kernelFault n
          ⟨f, ⟨(s.stage n).prm.pc, cls, op⟩, x, none⟩))
    ∧ ((s.stage n).sn.queue = [] → v.run n i t = .hold → o = .next (t.stall .stgSnrStallPop n))

/-- A full queue holds the instruction: the Prompter waits at it and tries again, and STALL_Q rises by the cycles waited, a free value (R55, R101, R144, log entry 10). -/
def stalled (s : State) (n cls op : Nat) : State :=
  (s.modStage n (fun t => { t with prm := { t.prm with wait := .queue, org := ⟨(s.stage n).prm.pc, cls, op⟩ } })).stall .stgPrmStallQ n

/-- A link packet of type `ty` on port `n` is for this device and in order: the port is up, the header legal, the channel its type's, the Roster
version the one in force where the channel carries step traffic, the number the next of its flow (R345, R346, R349, R356). -/
structure Arrives (s : State) (n : Nat) (p : Pkt) (ty : Nat) : Prop where
  port : n < 24
  up : s.portUp n = true
  wire : p.wire = true
  mine : p.dst = s.link.me
  type : p.ty = ty
  channel : typeVc ty = some p.vc
  version : 2 < p.vc ∨ p.rver = ((s.bump .lnkRxBytes n p.data.length).freeCredit n p.vc p.flits).rver
  order : (((s.bump .lnkRxBytes n p.data.length).freeCredit n p.vc p.flits).rxFlow p.src p.vc p.flow).next = p.e2e

/-- The state after the link has taken such a packet: its bytes counted, its buffer freed, its number passed, and every sixteenth packet
of a flow acknowledged (R346, R348, R349). -/
def taken (s : State) (n : Nat) (p : Pkt) : State :=
  let s := (s.bump .lnkRxBytes n p.data.length).freeCredit n p.vc p.flits
  let x := s.rxFlow p.src p.vc p.flow
  let y := { x with next := (x.next + 1) % 2 ^ 32, owed := x.owed + 1 }
  if y.owed ≥ 16 then (s.putRx { y with owed := 0 }).sendAck p.src p.vc p.flow y.next false else s.putRx y

/-- Source `c` brings the Camod packet `k`, `t` the state that has moved past it; every check that comes before the command's own rule passes
(R458-R464, R467, R469, R470), and the opcode is `op`. -/
structure Admits (s : State) (c : CmdSrc) (op : Nat) (t : State) (k : Cmd) : Prop where
  brought : s.nextCmd c = some (t, some k)
  passes : t.checks k = none
  opcode : k.op = op

end Sys2Proof.Safety
end

