-- ==== Sys2Proof/Certificates/Slice0/Obligations.lean ====
section
/-! DEFINITION. The statements for the provers. -/

open Sys2Proof Sys2Proof.Machine Sys2Proof.Safety

/-- ADD … MAXU and SEL (R106): RD takes the table's value of RA and RB, s0 stays 0; every other register, every predicate, the rest of the Stage and
of the device keep their values, and the Prompter runs on in sequence. -/
def Obligations.ScalarRegisterOperations : Prop :=
  ∀ (p : Iss) (i : Inst) (rd ra rb : BitVec 5) (s : State), Canon s → Issues s p i [rd, ra, rb] → SeqIn s p.stage i →
    let a := (s.stage p.stage).prm.reg ra
    let b := (s.stage p.stage).prm.reg rb
    let w := WritesReg s p.stage rd
    w (a + b) (exec (.add p rd ra rb) s) ∧ w (a - b) (exec (.sub p rd ra rb) s) ∧ w (a * b) (exec (.mul p rd ra rb) s)
    ∧ w (BitVec.ofInt 64 (a.toInt * b.toInt / 2 ^ 64)) (exec (.mulh p rd ra rb) s)
    ∧ w (BitVec.ofNat 64 (a.toNat * b.toNat / 2 ^ 64)) (exec (.mulhu p rd ra rb) s)
    ∧ w (if b = 0 then BitVec.allOnes 64 else a / b) (exec (.divu p rd ra rb) s)
    ∧ w (if b = 0 then a else a % b) (exec (.remu p rd ra rb) s)
    ∧ w (if b = 0 then BitVec.allOnes 64 else BitVec.ofInt 64 (a.toInt.tdiv b.toInt)) (exec (.div p rd ra rb) s)
    ∧ w (if b = 0 then a else BitVec.ofInt 64 (a.toInt.tmod b.toInt)) (exec (.rem p rd ra rb) s)
    ∧ w (a &&& b) (exec (.and p rd ra rb) s) ∧ w (a ||| b) (exec (.or p rd ra rb) s) ∧ w (a ^^^ b) (exec (.xor p rd ra rb) s)
    ∧ w (a <<< (b.toNat % 64)) (exec (.shl p rd ra rb) s) ∧ w (a >>> (b.toNat % 64)) (exec (.shr p rd ra rb) s)
    ∧ w (a.sshiftRight (b.toNat % 64)) (exec (.sra p rd ra rb) s)
    ∧ w (if a.toInt ≤ b.toInt then a else b) (exec (.min p rd ra rb) s)
    ∧ w (if a.toInt ≤ b.toInt then b else a) (exec (.max p rd ra rb) s)
    ∧ w (if a.toNat ≤ b.toNat then a else b) (exec (.minu p rd ra rb) s)
    ∧ w (if a.toNat ≤ b.toNat then b else a) (exec (.maxu p rd ra rb) s)
    ∧ ∀ q : BitVec 3, w (if (s.stage p.stage).prm.pred q then a else b) (exec (.sel p rd ra rb q) s)

/-- CLZ, POPC and PRD (R106): leading zeros 0-64, set bits, the eight predicates in [7:0].

RDSPEC (R108): each special value; the CCLK count is a free value (log entry 12) and any other SPEC an illegal-instruction fault that
leaves RD alone. -/
def Obligations.CountsAndSpecialValues : Prop :=
  (∀ (p : Iss) (i : Inst) (rd ra : BitVec 5) (s : State), Canon s →
    (Issues s p i [rd, ra] → SeqIn s p.stage i →
      let a := (s.stage p.stage).prm.reg ra
      (∃ k : Nat, k ≤ 64 ∧ (∀ j, j < k → a.getLsbD (63 - j) = false) ∧ (k < 64 → a.getLsbD (63 - k) = true)
        ∧ WritesReg s p.stage rd (BitVec.ofNat 64 k) (exec (.clz p rd ra) s))
      ∧ WritesReg s p.stage rd (BitVec.ofNat 64 (Finset.univ.filter (fun j : Fin 64 => a.getLsbD j.val = true)).card) (exec (.popc p rd ra) s))
    ∧ (Issues s p i [rd] → SeqIn s p.stage i → ∃ v : W64, (∀ q : BitVec 3, v.getLsbD q.toNat = (s.stage p.stage).prm.pred q) ∧ v.toNat < 256
        ∧ WritesReg s p.stage rd v (exec (.prd p rd) s)))
  ∧ (∀ (p : Iss) (i : Inst) (rd : BitVec 5) (s : State), Canon s → Issues s p i [rd] →
    let w := fun (spec : BitVec 8) (v : W64) => WritesReg s p.stage rd v (exec (.rdspec p rd spec) s)
    (SeqIn s p.stage i →
      w 0x00 (if i.lead then BitVec.ofNat 64 i.vrank else 0) ∧ w 0x01 i.mb ∧ w 0x02 (if i.lead then BitVec.ofNat 64 i.step else 0)
      ∧ w 0x03 (BitVec.ofNat 64 i.index) ∧ w 0x04 (BitVec.ofNat 64 i.count) ∧ w 0x05 (BitVec.ofNat 64 i.ctx)
      ∧ w 0x06 (if i.lead then 1 else 0) ∧ w 0x10 (BitVec.ofNat 64 p.stage) ∧ w 0x11 (BitVec.ofNat 64 s.link.me) ∧ w 0x12 (s.rd .clkTime)
      ∧ ∃ (t : State) (v : W64), exec (.rdspec p rd 0x13) s = .next t ∧ RegIs s t p.stage rd v ∧ FlowsOn s t p.stage ∧ PrompterOnly s t p.stage)
    ∧ ∀ spec : BitVec 8, spec ∉ ([0x00, 0x01, 0x02, 0x03, 0x04, 0x05, 0x06, 0x10, 0x11, 0x12, 0x13] : List (BitVec 8)) →
        exec (.rdspec p rd spec) s = .next (s.kernelFault p.stage ⟨.illegal, ⟨(s.stage p.stage).prm.pc, 0, 0x38⟩, 0, none⟩))

/-- The compares and the predicate operations write PD alone (R106, R107), PWR the eight predicates from RA[7:0]. -/
def Obligations.CompareAndPredicateOperations : Prop :=
  ∀ (p : Iss) (i : Inst) (pd qa qb : BitVec 3) (ra rb : BitVec 5) (imm : W32) (s : State), Canon s →
    let a := (s.stage p.stage).prm.reg ra
    let b := (s.stage p.stage).prm.reg rb
    let c := imm.signExtend 64
    let x := (s.stage p.stage).prm.pred qa
    let y := (s.stage p.stage).prm.pred qb
    let w := WritesPred s p.stage pd
    (Issues s p i [ra, rb] → SeqIn s p.stage i →
      w (decide (a = b)) (exec (.ceq p pd ra rb) s) ∧ w (decide (a ≠ b)) (exec (.cne p pd ra rb) s)
      ∧ w (decide (a.toInt < b.toInt)) (exec (.clt p pd ra rb) s) ∧ w (decide (a.toInt ≤ b.toInt)) (exec (.cle p pd ra rb) s)
      ∧ w (decide (a.toNat < b.toNat)) (exec (.cltu p pd ra rb) s) ∧ w (decide (a.toNat ≤ b.toNat)) (exec (.cleu p pd ra rb) s))
    ∧ (Issues s p i [ra] → SeqIn s p.stage i →
      w (decide (a = c)) (exec (.ceqi p pd ra imm) s) ∧ w (decide (a ≠ c)) (exec (.cnei p pd ra imm) s)
      ∧ w (decide (a.toInt < c.toInt)) (exec (.clti p pd ra imm) s) ∧ w (decide (a.toInt ≤ c.toInt)) (exec (.clei p pd ra imm) s)
      ∧ w (decide (a.toNat < c.toNat)) (exec (.cltui p pd ra imm) s) ∧ w (decide (a.toNat ≤ c.toNat)) (exec (.cleui p pd ra imm) s)
      ∧ ∃ t, exec (.pwr p ra) s = .next t ∧ (∀ q : BitVec 3, (t.stage p.stage).prm.pred q = a.getLsbD q.toNat)
          ∧ (∀ r, (t.stage p.stage).prm.reg r = (s.stage p.stage).prm.reg r) ∧ FlowsOn s t p.stage ∧ PrompterOnly s t p.stage)
    ∧ (Issues s p i [] → SeqIn s p.stage i →
      w (x && y) (exec (.pand p pd qa qb) s) ∧ w (x || y) (exec (.por p pd qa qb) s) ∧ w (x != y) (exec (.pxor p pd qa qb) s)
      ∧ w (!x) (exec (.pnot p pd qa) s))

/-- ADDI … MOVHI (R107): IMM sign-extended, shift amounts IMM[5:0]; RD alone changes. -/
def Obligations.ScalarImmediateOperations : Prop :=
  ∀ (p : Iss) (i : Inst) (rd ra : BitVec 5) (imm : W32) (s : State), Canon s →
    let a := (s.stage p.stage).prm.reg ra
    let c := imm.signExtend 64
    let k := imm.toNat % 64
    let w := WritesReg s p.stage rd
    (Issues s p i [rd, ra] → SeqIn s p.stage i →
      w (a + c) (exec (.addi p rd ra imm) s) ∧ w (a &&& c) (exec (.andi p rd ra imm) s) ∧ w (a ||| c) (exec (.ori p rd ra imm) s)
      ∧ w (a ^^^ c) (exec (.xori p rd ra imm) s) ∧ w (a <<< k) (exec (.shli p rd ra imm) s) ∧ w (a >>> k) (exec (.shri p rd ra imm) s)
      ∧ w (a.sshiftRight k) (exec (.srai p rd ra imm) s))
    ∧ (Issues s p i [rd] → SeqIn s p.stage i →
      w c (exec (.movi p rd imm) s)
      ∧ w (BitVec.ofNat 64 (imm.toNat * 2 ^ 32 + ((s.stage p.stage).prm.reg rd).toNat % 2 ^ 32)) (exec (.movhi p rd imm) s))

/-- A guard that is off (R99, R100): the instruction has no effect but to be passed: the Prompter flows on in sequence, and only the count of retired
instructions changes. One instruction of each kind: a register write, a load, a store, a branch, a trap, a signal, an END. -/
def Obligations.GuardOffPassesOver : Prop :=
  ∀ (p : Iss) (i : Inst) (rd ra rb : BitVec 5) (off : W32) (sem : BitVec 6) (val : BitVec 16) (s : State), Canon s →
    p.stage < 144 → (s.stage p.stage).inst = some i → (s.stage p.stage).canIssue = true →
    [rd, ra, rb].any (s.stage p.stage).regBusy = false → (s.stage p.stage).prm.guarded p = false → SeqIn s p.stage i →
    ∀ c ∈ [Instr.add p rd ra rb, .ldd p rd ra off, .std p rd ra off, .br p off, .trap p off, .semsig p sem ra val false, .endK p],
      ∃ t, exec c s = .next t ∧ FileKept s t p.stage ∧ FlowsOn s t p.stage ∧ PrompterOnly s t p.stage ∧ t.freeCtr = s.freeCtr

/-- NOP, BR, CALL and JR (R109, R111): the branch target is PC + 8 × OFF, JR's is RA; CALL writes the return offset to RD; a taken branch leaves the
loops whose body the target is outside of.

LOOP (R111): a positive count pushes an entry over the body that ends at PC + 8 × OFF and goes on at the next instruction; a count of 0 skips the
body; with four entries active it is an illegal-instruction fault. -/
def Obligations.BranchesAndLoops : Prop :=
  (∀ (p : Iss) (i : Inst) (rd ra : BitVec 5) (off : W32) (s : State), Canon s →
    let pc := (s.stage p.stage).prm.pc
    let a := BitVec.ofNat 64 pc + 8 * off.signExtend 64
    (Issues s p i [] → SeqIn s p.stage i →
      ∃ t, exec (.nop p) s = .next t ∧ FileKept s t p.stage ∧ FlowsOn s t p.stage ∧ PrompterOnly s t p.stage)
    ∧ (Issues s p i [] → Fetchable i a →
      ∃ t, exec (.br p off) s = .next t ∧ FileKept s t p.stage ∧ Branches s t p.stage a ∧ PrompterOnly s t p.stage)
    ∧ (Issues s p i [rd] → Fetchable i a → (∀ e ∈ (s.stage p.stage).prm.loops, pc < e.first ∨ e.last < pc) →
      ∃ t, exec (.call p rd off) s = .next t ∧ RegIs s t p.stage rd (BitVec.ofNat 64 (pc + 8))
        ∧ (t.stage p.stage).prm.preds = (s.stage p.stage).prm.preds ∧ Branches s t p.stage a ∧ PrompterOnly s t p.stage)
    ∧ (Issues s p i [ra] → Fetchable i ((s.stage p.stage).prm.reg ra) →
      ∃ t, exec (.jr p ra) s = .next t ∧ FileKept s t p.stage ∧ Branches s t p.stage ((s.stage p.stage).prm.reg ra) ∧ PrompterOnly s t p.stage))
  ∧ (∀ (p : Iss) (i : Inst) (ra : BitVec 5) (off : W32) (s : State), Canon s → Issues s p i [ra] → 0 < off.toInt →
    let x := (s.stage p.stage).prm
    let last := x.pc + 8 * off.toNat
    let n := (x.reg ra).toNat
    x.pc < 2 ^ 23 →
      (0 < n → x.loops.length < 4 → Fetchable i (BitVec.ofNat 64 (x.pc + 8)) →
        ∃ t, exec (.loop p ra off) s = .next t ∧ (t.stage p.stage).prm.pc = x.pc + 8
          ∧ (t.stage p.stage).prm.loops = ⟨x.pc + 8, last, n⟩ :: x.loops ∧ FileKept s t p.stage ∧ PrompterOnly s t p.stage)
      ∧ (n = 0 → Fetchable i (BitVec.ofNat 64 (nextPc last x.loops).1) →
        ∃ t, exec (.loop p ra off) s = .next t ∧ (t.stage p.stage).prm.pc = (nextPc last x.loops).1
          ∧ (t.stage p.stage).prm.loops = (nextPc last x.loops).2 ∧ FileKept s t p.stage ∧ PrompterOnly s t p.stage)
      ∧ (0 < n → 4 ≤ x.loops.length →
        exec (.loop p ra off) s = .next ((started s p 2 4).kernelFault p.stage ⟨.illegal, ⟨x.pc, 2, 4⟩, 0, none⟩)))

/-- END makes the Prompter wait, END_COMPLETE ends the instance once R112 holds, reporting a slot left open with cause 0x0E; TRAP raises the trap
fault with its code (R109, R112, R136). -/
def Obligations.KernelsEndAndTrap : Prop :=
  ∀ (p : Iss) (i : Inst) (off : W32) (s : State), Canon s →
    (Issues s p i [] →
      (∃ t, exec (.endK p) s = .next t ∧ (t.stage p.stage).prm.wait = .ending ∧ FileKept s t p.stage ∧ PrompterOnly s t p.stage)
      ∧ exec (.trap p off) s = .next ((started s p 2 7).kernelFault p.stage
          ⟨.trap, ⟨(s.stage p.stage).prm.pc, 2, 7⟩, BitVec.ofNat 64 (off.toNat % 65536), none⟩))
    ∧ ∀ n, n < 144 → (s.stage n).endReady = true →
        let leftOpen := (s.stage n).mx.slots.any (fun e => e.2.opened)
        let u := if leftOpen then s.kernelFault n ⟨.leftOpen, (s.stage n).prm.org, 0, none⟩ else s
        exec (.endComplete n) s = .next (if u.leadOn n then (u.instDone n).afterLead else u.instDone n)

/-- LDB … LDWU (R113, R114): RD takes the bytes at RA + OFF, sign- or zero-extended; nothing else changes. -/
def Obligations.LoadsReadTheDataRegion : Prop :=
  ∀ (p : Iss) (i : Inst) (rd ra : BitVec 5) (off : W32) (s : State), Canon s → Issues s p i [rd, ra] → SeqIn s p.stage i →
    let a := accessAddr s p.stage ra off
    let x := fun len => apNumber s p.stage (i.dataBase + a.toNat) len
    let w := WritesReg s p.stage rd
    (Reaches s p.stage i a 1 → w ((BitVec.ofNat 8 (x 1)).signExtend 64) (exec (.ldb p rd ra off) s)
      ∧ w (BitVec.ofNat 64 (x 1)) (exec (.ldbu p rd ra off) s))
    ∧ (Reaches s p.stage i a 2 → w ((BitVec.ofNat 16 (x 2)).signExtend 64) (exec (.ldh p rd ra off) s)
      ∧ w (BitVec.ofNat 64 (x 2)) (exec (.ldhu p rd ra off) s))
    ∧ (Reaches s p.stage i a 4 → w ((BitVec.ofNat 32 (x 4)).signExtend 64) (exec (.ldw p rd ra off) s)
      ∧ w (BitVec.ofNat 64 (x 4)) (exec (.ldwu p rd ra off) s))
    ∧ (Reaches s p.stage i a 8 → w (BitVec.ofNat 64 (x 8)) (exec (.ldd p rd ra off) s))

/-- STB, STH, STW, STD (R113): the low bytes of RD go to RA + OFF, and every other byte of the Apron, every register and every other unit
keeps its value. -/
def Obligations.StoresWriteTheirBytesOnly : Prop :=
  ∀ (p : Iss) (i : Inst) (rd ra : BitVec 5) (off : W32) (s : State), Canon s → Issues s p i [rd, ra] → SeqIn s p.stage i →
    let a := accessAddr s p.stage ra off
    let v := (s.stage p.stage).prm.reg rd
    let w := fun len => StoresAt s p.stage (i.dataBase + a.toNat) len v
    (Reaches s p.stage i a 1 → w 1 (exec (.stb p rd ra off) s)) ∧ (Reaches s p.stage i a 2 → w 2 (exec (.sth p rd ra off) s))
    ∧ (Reaches s p.stage i a 4 → w 4 (exec (.stw p rd ra off) s)) ∧ (Reaches s p.stage i a 8 → w 8 (exec (.std p rd ra off) s))

/-- A class 0x3 access that is misaligned or leaves the data region is an address fault with the address in STG_FAULT_INFO, before RD or memory
is touched (R94, R113, R142). -/
def Obligations.BadAccessesFault : Prop :=
  ∀ (p : Iss) (i : Inst) (rd ra : BitVec 5) (off : W32) (s : State), Issues s p i [rd, ra] →
    let a := accessAddr s p.stage ra off
    ∀ x ∈ [(Instr.ldb p rd ra off, 0x00, 1), (.ldh p rd ra off, 0x01, 2), (.ldw p rd ra off, 0x02, 4), (.ldd p rd ra off, 0x03, 8),
        (.ldbu p rd ra off, 0x04, 1), (.ldhu p rd ra off, 0x05, 2), (.ldwu p rd ra off, 0x06, 4), (.stb p rd ra off, 0x08, 1),
        (.sth p rd ra off, 0x09, 2), (.stw p rd ra off, 0x0A, 4), (.std p rd ra off, 0x0B, 8)],
      a.toNat % x.2.2 ≠ 0 ∨ i.dataSize < a.toNat + x.2.2 →
        exec x.1 s = .next ((started s p 3 x.2.1).kernelFault p.stage ⟨.address, ⟨(s.stage p.stage).prm.pc, 3, x.2.1⟩, a, none⟩)

/-- The fault registers (R136, R141, R142): while STG_FAULT.VALID is clear a fault fills STG_FAULT, STG_FAULT_PC and STG_FAULT_INFO with its cause,
class, opcode, context, lead mark, place and information, and leaves OVERFLOW as it is; while it is set only OVERFLOW is set; no other register
changes. -/
def Obligations.FirstFaultIsKept : Prop :=
  ∀ (n : Nat) (i : Inst) (f : KFault) (s : State), Canon s → n < 144 → i.ctx < 16 → f.org.cls < 16 → f.org.op < 256 →
    let t := s.recordFault n i f
    (s.fld .stgFault n 25 25 = 0 →
      t.fld .stgFault n 7 0 = f.cause.code ∧ t.fld .stgFault n 11 8 = f.org.cls ∧ t.fld .stgFault n 19 12 = f.org.op
      ∧ t.fld .stgFault n 23 20 = i.ctx ∧ t.fld .stgFault n 24 24 = (if i.lead then 1 else 0) ∧ t.fld .stgFault n 25 25 = 1
      ∧ t.fld .stgFault n 26 26 = s.fld .stgFault n 26 26 ∧ t.rd .stgFaultPc n = BitVec.ofNat 64 (f.org.pc % 2 ^ 23) ∧ t.rd .stgFaultInfo n = f.info)
    ∧ (s.fld .stgFault n 25 25 = 1 →
      (∀ k, k < 64 → (t.rd .stgFault n).getLsbD k = (if k = 26 then true else (s.rd .stgFault n).getLsbD k))
      ∧ t.rd .stgFaultPc n = s.rd .stgFaultPc n ∧ t.rd .stgFaultInfo n = s.rd .stgFaultInfo n)
    ∧ (∀ off, off ≠ Reg.off .stgFault n → off ≠ Reg.off .stgFaultPc n → off ≠ Reg.off .stgFaultInfo n → mget 0 t.regs off = mget 0 s.regs off)
    ∧ { t with regs := s.regs } = s

/-- SEMSET, SEMRD, SEMSIG and SEMWAIT on a semaphore of the Stage (R131, R132): SEMSET sets it, SEMRD reads it, SEMSIG adds to it, SEMWAIT with SEM ≥ N
subtracts N and goes on, otherwise the Prompter waits with the semaphore unchanged; every other semaphore keeps its value.

A semaphore never passes 65,535 (R132): SEMSIG beyond it, and a remote signal to an instance the launch does not have, are semaphore faults
that name the semaphore. -/
def Obligations.Semaphores : Prop :=
  (∀ (p : Iss) (i : Inst) (rd : BitVec 5) (sem : BitVec 6) (val : BitVec 16) (s : State), Canon s → SeqIn s p.stage i →
    let x := (s.stage p.stage).sem sem.toNat
    let w := fun (v : BitVec 16) (o : Host.Outcome State Fault Refusal) => ∃ t, o = .next t ∧ (t.stage p.stage).sem sem.toNat = v
      ∧ (∀ k, k ≠ sem.toNat → (t.stage p.stage).sem k = (s.stage p.stage).sem k) ∧ FileKept s t p.stage ∧ FlowsOn s t p.stage
      ∧ Outside s t p.stage ∧ t.freeCtr = s.freeCtr
      ∧ t.stage p.stage = { s.stage p.stage with prm := (t.stage p.stage).prm, sh := { (s.stage p.stage).sh with sems := (t.stage p.stage).sh.sems } }
    (Issues s p i [] →
      w val (exec (.semset p sem val) s)
      ∧ (∀ ra, x.toNat + val.toNat ≤ 65535 → w (x + val) (exec (.semsig p sem ra val false) s))
      ∧ (val ≤ x → w (x - val) (exec (.semwait p sem val) s))
      ∧ (x < val → ∃ t, exec (.semwait p sem val) s = .next t ∧ (t.stage p.stage).prm.wait = .sem sem.toNat val.toNat
          ∧ (t.stage p.stage).sh = (s.stage p.stage).sh ∧ FileKept s t p.stage))
    ∧ (Issues s p i [rd] → WritesReg s p.stage rd (x.setWidth 64) (exec (.semrd p sem rd) s)))
  ∧ (∀ (p : Iss) (i : Inst) (ra : BitVec 5) (sem : BitVec 6) (val : BitVec 16) (s : State),
    let f : KFault := ⟨.semaphore, ⟨(s.stage p.stage).prm.pc, 0xA, 0⟩, BitVec.ofNat 64 sem.toNat, none⟩
    (Issues s p i [] → 65535 < ((s.stage p.stage).sem sem.toNat).toNat + val.toNat →
      exec (.semsig p sem ra val false) s = .next ((started s p 0xA 0).kernelFault p.stage f))
    ∧ (Issues s p i [ra] → i.count ≤ ((s.stage p.stage).prm.reg ra).toNat →
      exec (.semsig p sem ra val true) s = .next ((started s p 0xA 0).kernelFault p.stage f)))

/-- A remote SEMSIG sends its signal, and REMOTE_SEMSIG delivers the oldest signal to a semaphore: it leaves the sender, raises the semaphore of the
Stage that runs the instance, and has no effect where the instance has ended (R133). -/
def Obligations.RemoteSignalsTravel : Prop :=
  ∀ (s : State), Canon s →
    (∀ (p : Iss) (i : Inst) (ra : BitVec 5) (sem : BitVec 6) (val : BitVec 16), Issues s p i [ra] → SeqIn s p.stage i →
      ((s.stage p.stage).prm.reg ra).toNat < i.count →
        ∃ t, exec (.semsig p sem ra val true) s = .next t
          ∧ (t.stage p.stage).sh = { (s.stage p.stage).sh with
              remote := (s.stage p.stage).sh.remote ++ [⟨i.launch, ((s.stage p.stage).prm.reg ra).toNat, sem.toNat, val.toNat⟩] }
          ∧ FileKept s t p.stage ∧ FlowsOn s t p.stage ∧ Outside s t p.stage)
    ∧ (∀ (n m : Nat) (r : RemSig) (rest : List RemSig), n < 144 → (s.stage n).sh.remote = r :: rest → s.instStage r.launch r.inst = some m →
        m ≠ n → ((s.stage m).sem r.sem).toNat + r.n ≤ 65535 →
        ∃ t, exec (.remoteSemsig n 0) s = .next t ∧ (t.stage n).sh.remote = rest
          ∧ (t.stage m).sem r.sem = BitVec.ofNat 16 (((s.stage m).sem r.sem).toNat + r.n)
          ∧ (∀ k, k ≠ r.sem → (t.stage m).sem k = (s.stage m).sem k) ∧ (∀ k, k ≠ n → k ≠ m → t.stage k = s.stage k) ∧ t.regs = s.regs)
    ∧ (∀ (n : Nat) (r : RemSig) (rest : List RemSig), n < 144 → (s.stage n).sh.remote = r :: rest → s.instStage r.launch r.inst = none →
        ∃ t, exec (.remoteSemsig n 0) s = .next t ∧ (t.stage n).sh.remote = rest ∧ (∀ k, k ≠ n → t.stage k = s.stage k) ∧ t.regs = s.regs)

/-- FENCE and CURTWAIT wait, and their waits end (R131, R134, R135): a FENCE whose kinds of work are all complete goes on at once; otherwise the
Prompter waits until FENCE_SATISFY, a SEMWAIT until SEMWAIT_SATISFY, a CURTWAIT of the lead until the step after its kernel's has opened, whose number RD takes; a
SEMWAIT or FENCE still unsatisfied after 10 ms is a wait-limit fault, and a satisfied one none. STALL_SYNC rises by the cycles waited, a
free value (log entry 10). -/
def Obligations.WaitsBeginAndEnd : Prop :=
  ∀ (s : State), Canon s →
    (∀ (p : Iss) (i : Inst) (mask : BitVec 6), Issues s p i [] → SeqIn s p.stage i →
      ((s.stage p.stage).fenceOk mask = true → ∃ t, exec (.fence p mask) s = .next t ∧ FileKept s t p.stage ∧ FlowsOn s t p.stage ∧ PrompterOnly s t p.stage)
      ∧ ((s.stage p.stage).fenceOk mask = false → ∃ t, exec (.fence p mask) s = .next t ∧ (t.stage p.stage).prm.wait = .fence mask ∧ FileKept s t p.stage))
    ∧ (∀ (p : Iss) (i : Inst) (rd : BitVec 5), Issues s p i [rd] →
      (i.lead = true → ∃ t, exec (.curtwait p rd) s = .next t ∧ (t.stage p.stage).prm.wait = .curtain rd ∧ FileKept s t p.stage ∧ PrompterOnly s t p.stage)
      ∧ (i.lead = false → exec (.curtwait p rd) s = .next ((started s p 0xA 0x10).kernelFault p.stage
          ⟨.illegal, ⟨(s.stage p.stage).prm.pc, 0xA, 0x10⟩, 0, none⟩)))
    ∧ (∀ (n : Nat) (i : Inst), n < 144 → (s.stage n).inst = some i → Fetchable i (BitVec.ofNat 64 (s.stage n).prm.pc) →
      (∀ k v, (s.stage n).prm.wait = .sem k v → v ≤ ((s.stage n).sem k).toNat →
        ∃ t, exec (.semwaitSatisfy n) s = .next t ∧ (t.stage n).sem k = BitVec.ofNat 16 (((s.stage n).sem k).toNat - v)
          ∧ (t.stage n).prm = { (s.stage n).prm with wait := .run } ∧ (∀ m, m ≠ n → t.stage m = s.stage m)
          ∧ ∀ off, off ≠ Reg.off .stgPrmStallSync n → mget 0 t.regs off = mget 0 s.regs off)
      ∧ (∀ mask, (s.stage n).prm.wait = .fence mask → (s.stage n).fenceOk mask = true →
        ∃ t, exec (.fenceSatisfy n) s = .next t ∧ t.stage n = { s.stage n with prm := { (s.stage n).prm with wait := .run } }
          ∧ (∀ m, m ≠ n → t.stage m = s.stage m) ∧ ∀ off, off ≠ Reg.off .stgPrmStallSync n → mget 0 t.regs off = mget 0 s.regs off)
      ∧ (∀ rd, (s.stage n).prm.wait = .curtain rd → i.step < s.sched.step →
        ∃ t, exec (.curtwaitResume n) s = .next t ∧ RegIs s t n rd (BitVec.ofNat 64 s.sched.step) ∧ (t.stage n).prm.wait = .run
          ∧ (t.stage n).prm.preds = (s.stage n).prm.preds ∧ (∀ m, m ≠ n → t.stage m = s.stage m) ∧ t.regs = s.regs)
      ∧ (∀ k v mask, ((s.stage n).prm.wait = .sem k v ∧ ((s.stage n).sem k).toNat < v)
            ∨ ((s.stage n).prm.wait = .fence mask ∧ (s.stage n).fenceOk mask = false) →
        exec (.syncWaitLimit n) s = .next ((s.stall .stgPrmStallSync n).kernelFault n ⟨.waitLimit, (s.stage n).prm.org, 0, none⟩))
      ∧ (∀ k v mask, ((s.stage n).prm.wait = .sem k v ∧ v ≤ ((s.stage n).sem k).toNat)
            ∨ ((s.stage n).prm.wait = .fence mask ∧ (s.stage n).fenceOk mask = true) → exec (.syncWaitLimit n) s = .next s))

/-- BELW, BELR and BELT (R131, R491): a word goes into an empty Prompter-to-Booth Bell and PD tells so; a FULL one keeps its word, sets its overrun
flag and PD is 0; BELR takes the word of a FULL Booth-to-Prompter Bell and clears it; BELT reads a FULL flag. -/
def Obligations.PrompterBells : Prop :=
  ∀ (p : Iss) (i : Inst) (ra rd : BitVec 5) (pd : BitVec 3) (dir : Bool) (s : State), Canon s → mwf Bell.clear s.booth.bellP2F = true →
    mwf Bell.clear s.booth.bellF2P = true → SeqIn s p.stage i →
    let n := p.stage
    let b := mget Bell.clear s.booth.bellP2F n
    let f := mget Bell.clear s.booth.bellF2P n
    (Issues s p i [ra] →
      (b.full = false → ∃ t, exec (.belw p ra pd) s = .next t ∧ mget Bell.clear t.booth.bellP2F n = ⟨true, (s.stage n).prm.reg ra⟩
        ∧ (∀ k, k ≠ n → mget Bell.clear t.booth.bellP2F k = mget Bell.clear s.booth.bellP2F k) ∧ PredIs s t n pd true ∧ FlowsOn s t n)
      ∧ (b.full = true → ∃ t, exec (.belw p ra pd) s = .next t ∧ t.booth = s.booth ∧ t.fld .belOvrP2f (n / 64) (n % 64) (n % 64) = 1
        ∧ PredIs s t n pd false ∧ FlowsOn s t n))
    ∧ (Issues s p i [rd] →
      (f.full = true → ∃ t, exec (.belr p rd pd) s = .next t ∧ mget Bell.clear t.booth.bellF2P n = Bell.clear ∧ RegIs s t n rd f.word
        ∧ PredIs s t n pd true ∧ FlowsOn s t n)
      ∧ (f.full = false → ∃ t, exec (.belr p rd pd) s = .next t ∧ t.booth = s.booth ∧ RegIs s t n rd 0 ∧ PredIs s t n pd false ∧ FlowsOn s t n))
    ∧ (Issues s p i [] → WritesPred s n pd (if dir then f.full else b.full) (exec (.belt p pd dir) s))

/-- WLD, AZERO, MMA, DRAIN, ROLL and RACC join their queue with the scalars captured at issue, a WLD at its head passing on to the weight port
where that holds none pending (R57), or wait at a full one; an MMA of a reserved format code
is an illegal-instruction fault and a ROLL or RACC whose handle names no segment a Roll-shape fault (R31, R55, R102, R115-R119). -/
def Obligations.MatrixInstructionsJoinTheirQueues : Prop :=
  ∀ (p : Iss) (i : Inst) (s : State), Canon s → SeqIn s p.stage i →
    let n := p.stage
    let g := (s.stage n).prm.reg
    let pc := (s.stage n).prm.pc
    let q := (s.stage n).prm.seq
    let feed := fun op x => Enqueues s n (fun t => { t with mx := Mxa.toPort { t.mx with feed := t.mx.feed ++ [⟨⟨pc, 4, op⟩, q, x⟩] } })
    let svc := fun op x => Enqueues s n (fun t => { t with mx := { t.mx with svc := t.mx.svc ++ [⟨⟨pc, 5, op⟩, q, x⟩] } })
    let rows := fun (mreg : Bool) (mimm : BitVec 8) (mr : BitVec 5) => if mreg then (g mr).toNat else mimm.toNat + 1
    (∀ wt tile scl spk, Issues s p i [tile, scl] →
      ((s.stage n).mx.feed.length < 8 → feed 0 (.wld wt (g tile) (g scl) spk) (exec (.wld p wt tile scl spk) s))
      ∧ (8 ≤ (s.stage n).mx.feed.length → exec (.wld p wt tile scl spk) s = .next (stalled s n 4 0)))
    ∧ (∀ slot wide mreg mimm mr, Issues s p i (if mreg then [mr] else []) →
      ((s.stage n).mx.feed.length < 8 →
        feed 1 (.azero slot.toNat wide (rows mreg mimm mr)) (exec (.azero p slot wide mreg mimm mr) s))
      ∧ (8 ≤ (s.stage n).mx.feed.length → exec (.azero p slot wide mreg mimm mr) s = .next (stalled s n 4 1)))
    ∧ (∀ f : MmaFields, Issues s p i (f.desc :: f.mask :: (if f.mreg then [f.mr] else [])) →
      (f.fmt.toNat ≤ 0xC → (s.stage n).mx.feed.length < 8 →
        feed 2 (.mma f.acc f.slot.toNat f.wt (g f.desc) (g f.mask) f.amask.toNat f.fmt.toNat (rows f.mreg f.mimm f.mr)) (exec (.mma p f) s))
      ∧ (f.fmt.toNat ≤ 0xC → 8 ≤ (s.stage n).mx.feed.length → exec (.mma p f) s = .next (stalled s n 4 2))
      ∧ (0xC < f.fmt.toNat → exec (.mma p f) s = .next (s.kernelFault n ⟨.illegal, ⟨pc, 4, 2⟩, 0, none⟩)))
    ∧ (∀ slot desc, Issues s p i [desc] →
      ((s.stage n).mx.svc.length < 8 → svc 0 (.drain slot.toNat (g desc)) (exec (.drain p slot desc) s))
      ∧ (8 ≤ (s.stage n).mx.svc.length → exec (.drain p slot desc) s = .next (stalled s n 5 0)))
    ∧ (∀ slot hnd dslot xdev amask, Issues s p i [hnd] → 8 ≤ (s.stage n).mx.svc.length →
      exec (.roll p slot hnd dslot xdev amask) s = .next (stalled s n 5 1)
      ∧ exec (.racc p slot hnd xdev amask) s = .next (stalled s n 5 2))
    ∧ (∀ slot hnd dslot xdev amask, Issues s p i [hnd] → (s.stage n).mx.svc.length < 8 →
      (s.hndOk i (g hnd) xdev = true →
        svc 1 (.roll slot.toNat (g hnd) dslot.toNat xdev amask.toNat) (exec (.roll p slot hnd dslot xdev amask) s)
        ∧ svc 2 (.racc slot.toNat (g hnd) xdev amask.toNat) (exec (.racc p slot hnd xdev amask) s))
      ∧ (s.hndOk i (g hnd) xdev = false →
        exec (.roll p slot hnd dslot xdev amask) s = .next ((started s p 5 1).kernelFault n ⟨.rollShape, ⟨pc, 5, 1⟩, 0, none⟩)
        ∧ exec (.racc p slot hnd xdev amask) s = .next ((started s p 5 2).kernelFault n ⟨.rollShape, ⟨pc, 5, 2⟩, 0, none⟩)))

/-- An AZERO that names an open slot (R69): it waits, the slot as it is, while a DRAIN or ROLL of that slot stands earlier in the service queue, and
raises a slot-open fault where none does; once the slot is closed it opens it afresh: M rows, every fed bit clear, every entry +0. Of the free row
blocks it takes the lowest-numbered, and a WLD behind it may pass on to the weight port (log entry 26). -/
def Obligations.AzeroOpensSlotsAfresh : Prop :=
  ∀ (n : Nat) (i : Inst) (e : FeedEnt) (rest : List FeedEnt) (slot m : Nat) (wide : Bool) (s : State), Canon s →
    n < 144 → (s.stage n).inst = some i → (s.stage n).mx.feed = e :: rest → e.op = .azero slot wide m → 0 < m →
    m ≤ (if wide then 128 else 256) →
    let x := (s.stage n).mx
    let need := (m + 15) / 16 * (if wide then 2 else 1)
    ((x.slot slot).opened = true → x.closing slot e.seq = true → exec (.azeroStart n) s = .next s)
    ∧ ((x.slot slot).opened = true → x.closing slot e.seq = false →
        exec (.azeroStart n) s = .next (s.kernelFault n ⟨.slotOpen, e.org, BitVec.ofNat 64 slot, none⟩))
    ∧ ((x.slot slot).opened = false → need ≤ x.freeBlocks.length →
        ∃ t, exec (.azeroStart n) s = .next t ∧ (t.stage n).mx.feed = (Mxa.toPort { x with feed := rest }).feed
          ∧ (t.stage n).mx.slot slot = ⟨true, wide, m, x.freeBlocks.take need, []⟩
          ∧ (∀ k, k ≠ slot → (t.stage n).mx.slot k = x.slot k)
          ∧ (∀ a b r c, a < 4 → b ∈ x.freeBlocks.take need → r < 16 → c < 256 → mget 0 (t.stage n).mx.acc (accKey a b r c) = 0)
          ∧ (∀ k, (∀ a b r c, a < 4 → b ∈ x.freeBlocks.take need → r < 16 → c < 256 → k ≠ accKey a b r c) →
              mget 0 (t.stage n).mx.acc k = mget 0 x.acc k)
          ∧ (∀ k, k ≠ n → t.stage k = s.stage k) ∧ t.regs = s.regs)

/-- An AZERO that finds too few free blocks waits while queued DRAINs and ROLLs will free enough of them, and is an accumulator-overcommit fault
otherwise; a row count R67 does not admit is a slot-shape fault (R67, R68, R116). STALL_SLOT rises by the cycles waited, a free value (log
entry 10). -/
def Obligations.AzeroWaitsForBlocks : Prop :=
  ∀ (n : Nat) (i : Inst) (e : FeedEnt) (rest : List FeedEnt) (slot m : Nat) (wide : Bool) (s : State),
    n < 144 → (s.stage n).inst = some i → (s.stage n).mx.feed = e :: rest → e.op = .azero slot wide m →
    let x := (s.stage n).mx
    let need := (m + 15) / 16 * (if wide then 2 else 1)
    (m = 0 ∨ (if wide then 128 else 256) < m →
      exec (.azeroStart n) s = .next (s.kernelFault n ⟨.slotShape, e.org, BitVec.ofNat 64 slot, none⟩))
    ∧ (0 < m → m ≤ (if wide then 128 else 256) → (x.slot slot).opened = false → x.freeBlocks.length < need →
        (need ≤ x.freeBlocks.length + x.willFree → exec (.azeroStart n) s = .next (s.stall .stgMxaStallSlot n))
        ∧ (x.freeBlocks.length + x.willFree < need →
          exec (.azeroStart n) s = .next (s.kernelFault n ⟨.overcommit, e.org, BitVec.ofNat 64 slot, none⟩)))

/-- The weight port (R57, R58): the WLD it holds pending starts once the port is free and no MMA streams from its register; tile and plane are read, the register
holds no tile until WLD_COMPLETE puts them there. STALL_BANK counts the CCLK in which its own lines meet on a bank (R199; in which order they come:
log entry 26). -/
def Obligations.WeightTilesLoad : Prop :=
  ∀ (n : Nat) (s : State), n < 144 →
    (∀ (i : Inst) (e : FeedEnt) (wt spk : Bool) (tile scl : W64) (bs ps : List Byte) (s1 s2 : State),
      (s.stage n).inst = some i → (s.stage n).mx.pend = some e → e.op = .wld wt tile scl spk → (s.stage n).mx.port = none →
      (∀ r, (s.stage n).mx.mma = some r → r.wt ≠ wt) → tile.toNat % 1024 = 0 → tile.toNat + 16384 ≤ i.dataSize →
      s.apRead n (i.dataBase + tile.toNat) 16384 0 = (bs, false, s1) →
      ((scl = 0 ∧ ps = [] ∧ s2 = s1) ∨ (scl ≠ 0 ∧ scl.toNat % 64 = 0 ∧ scl.toNat + (if spk then 1024 else 512) ≤ i.dataSize
        ∧ s1.apRead n (i.dataBase + scl.toNat) (if spk then 1024 else 512) 0 = (ps, false, s2))) →
      let own := if scl = 0 then 0 else wldHold (i.dataBase + tile.toNat) (i.dataBase + scl.toNat) (if spk then 1024 else 512)
      exec (.wldStart n) s = .next ((s2.bump .stgMxaStallBank n own).modStage n (fun t =>
        { t with mx := Mxa.toPort { t.mx.setWt wt { t.mx.wt wt with valid := false } with
          port := some ⟨e.seq, wt, ⟨true, mlist 0 0 bs, decide (scl ≠ 0), spk, mlist 0 0 ps⟩, own, 0⟩, pend := none } })))
    ∧ (∀ l, Canon s → (s.stage n).mx.port = some l →
        ∃ t, exec (.wldComplete n) s = .next t ∧ (t.stage n).mx.wt l.wt = l.data ∧ (t.stage n).mx.wt (!l.wt) = (s.stage n).mx.wt (!l.wt)
          ∧ (t.stage n).mx.port = none ∧ (∀ k, k ≠ n → t.stage k = s.stage k) ∧ t.regs = s.regs)

/-- An MMA starts, streams and writes (R58-R66, R70, R71): with its register loaded, its slot open and every address legal it leaves the feed queue and
streams the rows its mask leaves; each ROW_ENTER takes the next row of every named array into the adder trees, STALL_BANK counting the reads
that meet on one Apron bank (R199; beside a weight tile on its way and a Roll-in's rows a free value more, log entry 10); ROW_WRITE puts the oldest group's results
into the slot. -/
def Obligations.MmaRowsStream : Prop :=
  ∀ (n : Nat) (s : State), n < 144 →
    (∀ (i : Inst) (e : FeedEnt) (rest : List FeedEnt) (acc wt : Bool) (slot amask fmt m : Nat) (desc mask : W64) (f : MmaFmt)
      (db mb : List (List Byte)) (s1 s2 : State),
      (s.stage n).inst = some i → (s.stage n).mx.feed = e :: rest → e.op = .mma acc slot wt desc mask amask fmt m → mmaFmt fmt = some f →
      (s.stage n).mx.mma = none → m ≤ 256 → ((s.stage n).mx.slot slot).opened = true → m ≤ ((s.stage n).mx.slot slot).m →
      (s.stage n).mx.wtComing wt = false → ((s.stage n).mx.wt wt).valid = true → (f.mx = true → ((s.stage n).mx.wt wt).scaled = true ∧ (f.k = 128 → ((s.stage n).mx.wt wt).big = true)) →
      let named := [0, 1, 2, 3].filter (fun a => amask.testBit a)
      desc.toNat % 64 = 0 → desc.toNat + 64 ≤ i.dataSize →
      State.apReads n (named.map (fun a => (i.dataBase + desc.toNat + 16 * a, 16))) s = (db, false, s1) →
      ((mask = 0 ∧ mb = [] ∧ s2 = s1) ∨ (mask ≠ 0 ∧ mask.toNat % 32 = 0 ∧ mask.toNat + 128 ≤ i.dataSize
        ∧ State.apReads n (named.map (fun a => (i.dataBase + mask.toNat + 32 * a, cdiv m 8))) s1 = (mb, false, s2))) →
      let ent := fun (a : Nat) => (((named.zip (db.map actEnt)).find? (fun x => decide (x.1 = a))).map (fun x => x.2)).getD ⟨0, 0, 0, 0⟩
      let left := named.zipIdx.map (fun x => (x.1, fedRows (mb.getD x.2 []) m))
      (∀ a ∈ named, (ent a).strideOk f = true) → (∀ x ∈ left, ∀ r ∈ x.2, (ent x.1).badRow i f r = none) →
      (left.any (fun x => !x.2.isEmpty)) = true →
      exec (.mmaStart n) s = .next ((s2.popFeed n).modStage n (fun t =>
        { t with mx := { t.mx with mma := some ⟨e.org, e.seq, acc, slot, wt, fmt, [0, 1, 2, 3].map ent, left⟩ } })))
    ∧ (∀ (i : Inst) (run : MmaRun) (f : MmaFmt) (fs : List RowFly) (s1 : State),
      (s.stage n).inst = some i → (s.stage n).mx.mma = some run → mmaFmt run.fmt = some f →
      let now := run.left.filterMap (fun x => x.2.head?.map (fun r => (x.1, r)))
      (run.acc = true → ∀ x ∈ now, ∀ y ∈ (s.stage n).mx.fly, ¬ (y.slot = run.slot ∧ y.array = x.1 ∧ y.row = x.2)) →
      State.enterRows n i run f (((s.stage n).mx.wt run.wt).cols f)
        (match (s.stage n).mx.fly.getLast? with | some y => y.grp + 1 | none => 0) now s = (some fs, s1) →
      let left := run.left.map (fun x => (x.1, x.2.drop 1))
      let s2 := s1.enterStalls n run (bankHold (run.banks i f now)) now
      exec (.mmaRowEnter n) s = .next (((s2.bump .stgMxaRows n now.length).bump .stgMxaBusy n 1).modStage n (fun t =>
        { t with mx := { t.mx with
          fly := t.mx.fly ++ fs
          mma := if left.all (fun x => x.2.isEmpty) then none else some { run with left := left } } })))
    ∧ (∀ y rest, (s.stage n).mx.fly = y :: rest →
      let due := (y :: rest).filter (fun z => decide (z.grp = y.grp))
      exec (.mmaRowWrite n) s = .next ((due.foldl (fun s z => s.putSlotRow n z.slot z.array z.row z.res) s).modStage n (fun t =>
        { t with mx := Mxa.noteReady { t.mx with fly := t.mx.fly.filter (fun z => decide (z.grp ≠ y.grp)) } })))

/-- A DRAIN starts, reads its slot block by block, each when the array's service port has served the uses that became ready before it (R86), and queues
the converted blocks (R71-R79): the last block closes the slot. One that names no array closes it at once (log entry 26), and a full finished-tile
queue holds it, STALL_QFULL rising by the cycles waited, a free value (log entry 10). -/
def Obligations.DrainsFillTheFinishedTileQueue : Prop :=
  ∀ (n : Nat) (s : State), n < 144 →
    (∀ (i : Inst) (e : SvcEnt) (rest : List SvcEnt) (slot : Nat) (desc : W64) (bs : List Byte) (d : DrainDesc) (s1 : State),
      (s.stage n).inst = some i → (s.stage n).mx.svc = e :: rest → e.op = .drain slot desc → (s.stage n).mx.svcRun = none →
      (s.stage n).mx.pendingInto slot e.seq = false → ((s.stage n).mx.slot slot).opened = true → desc.toNat % 32 = 0 →
      desc.toNat + 32 ≤ i.dataSize → s.apRead n (i.dataBase + desc.toNat) 32 0 = (bs, false, s1) →
      drainDesc i ((s.stage n).mx.slot slot).wide bs = some d →
      let left := readoutOrder d.arrays ((s.stage n).mx.slot slot).groups (decide (d.outFmt = 1))
      exec (.drainStart n) s = .next (if left.isEmpty then (s1.closeSlot n slot).popSvc n
        else s1.modStage n (fun t => { t with mx := Mxa.noteReady { t.mx with svcRun := some ⟨some d, left, none, true⟩ } })))
    ∧ (∀ (e : SvcEnt) (rest : List SvcEnt) (r : SvcRun) (d : DrainDesc) (a g : Nat) (lo : Bool) (left : List (Nat × Nat × Bool)) (b : Block) (s1 : State),
      (s.stage n).mx.svc = e :: rest → (s.stage n).mx.svcRun = some r → r.drain = some d → r.out = none → r.left = (a, g, lo) :: left →
      ((s.stage n).mx.ftq.length < 8 → (s.stage n).mx.mayUse none a = true →
        s.readBlock n ((s.stage n).mx.slot (e.op.closes.getD 0)) a g lo 16 = (b, s1) →
        exec (.drainBlockReadout n) s =
          .next (s1.modStage n (fun t => { t with mx := Mxa.used { t.mx with svcRun := some { r with out := some b } } none a })))
      ∧ ((s.stage n).mx.ftq.length < 8 → (s.stage n).mx.mayUse none a = false → exec (.drainBlockReadout n) s = .next s)
      ∧ (8 ≤ (s.stage n).mx.ftq.length → exec (.drainBlockReadout n) s = .next (s.stall .stgMxaStallQfull n)))
    ∧ (∀ (i : Inst) (e : SvcEnt) (rest : List SvcEnt) (r : SvcRun) (d : DrainDesc) (b : Block),
      (s.stage n).inst = some i → (s.stage n).mx.svc = e :: rest → (s.stage n).mx.svcRun = some r → r.drain = some d → r.out = some b →
      let slot := e.op.closes.getD 0
      let u := s.modStage n (fun t => { t with mx := Mxa.noteReady { t.mx with
        ftq := t.mx.ftq ++ [ftqEntry (s.seedOf i) i d ((s.stage n).mx.slot slot).wide b]
        svcRun := some { r with out := none, left := r.left.drop 1 } } })
      exec (.drainBlockEnqueue n) s = .next ((if r.left.length ≤ 1 then (u.closeSlot n slot).popSvc n else u).snareRun n))

/-- The Roll (R70, R81-R85, R87, R118): an RACC at the head opens its Roll-in and leaves the queue; a ROLL takes the grant of the RACC it pairs with on the
Stage of the next segment, slot shapes and arrays agreeing, and delivers its blocks one by one, the last of which closes its slot; ROLL_IN adds, of the blocks
that have arrived and whose array's port may serve them, the one that became ready first, none of whose rows an earlier pass still holds (R62, R86).

A matrix operation that has waited 10 ms is a wait-limit fault of that operation (R88, R138), an END that waits on blocks left in the finished-tile queue one
of the END (log entry 26). -/
def Obligations.RollsAndMatrixWaits : Prop :=
  (∀ (n : Nat) (s : State), n < 144 →
    (∀ (i : Inst) (e : SvcEnt) (rest : List SvcEnt) (slot amask : Nat) (hnd : W64),
      (s.stage n).inst = some i → (s.stage n).mx.svc = e :: rest → e.op = .racc slot hnd false amask → (s.stage n).mx.svcRun = none →
      (∀ q ∈ (s.stage n).mx.feed, q.seq < e.seq → ∀ w m, q.op ≠ .azero slot w m) → ((s.stage n).mx.slot slot).opened = true →
      let left := (readoutOrder amask ((s.stage n).mx.slot slot).groups false).length
      exec (.raccStart n) s = .next ((s.popSvc n).modStage n (fun t => { t with mx := { t.mx with
        rollIns := t.mx.rollIns ++ [⟨e.org, e.seq, slot, hnd, false, amask, false, [], left⟩] } })))
    ∧ (∀ (i : Inst) (e : SvcEnt) (rest : List SvcEnt) (slot dslot amask k m : Nat) (hnd : W64) (r : RollIn),
      (s.stage n).inst = some i → (s.stage n).mx.svc = e :: rest → e.op = .roll slot hnd dslot false amask → (s.stage n).mx.svcRun = none →
      (s.stage n).mx.pendingInto slot e.seq = false → ((s.stage n).mx.slot slot).opened = true → s.segInst i hnd = some k →
      s.instStage i.launch k = some m → (s.stage m).mx.rollIns.find? (fun r => rollPair hnd r && !r.granted) = some r →
      let x := (s.stage n).mx.slot slot
      let y := (s.stage m).mx.slot r.slot
      (r.slot = dslot ∧ y.wide = x.wide ∧ y.m = x.m ∧ r.amask = amask →
        exec (.rollGrant n) s = .next (((s.modRollIn m (fun q => rollPair hnd q && !q.granted) (fun q => { q with granted := true })).tidyRollIns
          m).rollBegin n slot amask x.groups))
      ∧ (¬ (r.slot = dslot ∧ y.wide = x.wide ∧ y.m = x.m ∧ r.amask = amask) →
        exec (.rollGrant n) s = .next ((((s.recordFault m ((s.stage m).inst.getD i) ⟨.rollShape, r.org, 0, none⟩).postFault m i.ctx).kernelFault n
          ⟨.rollShape, e.org, 0, none⟩).markFaulted m)))
    ∧ (∀ (i : Inst) (e : SvcEnt) (rest : List SvcEnt) (slot dslot amask k m a g : Nat) (lo : Bool) (hnd : W64) (run : SvcRun)
        (left : List (Nat × Nat × Bool)) (b : Block) (s1 : State),
      (s.stage n).inst = some i → (s.stage n).mx.svc = e :: rest → e.op = .roll slot hnd dslot false amask → (s.stage n).mx.svcRun = some run →
      run.left = (a, g, lo) :: left → (s.stage n).mx.mayUse none a = true → s.readBlock n ((s.stage n).mx.slot slot) a g lo 16 = (b, s1) → s1.segInst i hnd = some k →
      s1.instStage i.launch k = some m →
      let u := (s1.deliverBlock m (rollPair hnd) b).modStage n (fun t =>
        { t with mx := (Mxa.used { t.mx with svcRun := some { run with left := left } } none a).noteReady })
      exec (.rollReadout n) s = .next (if left.isEmpty then (u.closeSlot n slot).popSvc n else u))
    ∧ (∀ (r : RollIn) (b : Block) (s1 : State),
      let m := (s.stage n).mx.noteReady
      m.rollTurn.find? (fun x => !m.heldIn x.1.slot x.2) = some (r, b) →
      let u := (s.rollStalls n m m.rollTurn).modStage n (fun t => { t with mx := m.rollUsed r b })
      (State.addRows n (m.slot r.slot) r.slot b (List.range 16) u = (true, s1) →
        exec (.rollIn n) s = .next ((s1.modRollIn n (fun q => decide (q.seq = r.seq)) (fun q =>
          { q with arrived := q.arrived.drop 1, left := q.left - 1 })).tidyRollIns n))
      ∧ (State.addRows n (m.slot r.slot) r.slot b (List.range 16) u = (false, s1) →
        exec (.rollIn n) s = .next (s1.kernelFault n ⟨.poison, r.org, 0, none⟩))))
  ∧ (∀ (n : Nat) (i : Inst) (s : State), n < 144 → (s.stage n).inst = some i →
    (∀ e, (s.stage n).mx.pend = some e → exec (.matrixWaitLimit n false) s = .next (s.kernelFault n ⟨.waitLimit, e.org, 0, none⟩))
    ∧ (∀ e rest, (s.stage n).mx.pend = none → (s.stage n).mx.feed = e :: rest → exec (.matrixWaitLimit n false) s = .next (s.kernelFault n ⟨.waitLimit, e.org, 0, none⟩))
    ∧ (∀ r rest, (s.stage n).mx.rollIns = r :: rest → exec (.matrixWaitLimit n true) s = .next (s.kernelFault n ⟨.waitLimit, r.org, 0, none⟩))
    ∧ (∀ e rest, (s.stage n).mx.rollIns = [] → (s.stage n).mx.svc = e :: rest →
        exec (.matrixWaitLimit n true) s = .next (s.kernelFault n ⟨.waitLimit, e.org, 0, none⟩))
    ∧ ((s.stage n).mx.rollIns = [] → (s.stage n).mx.svc = [] → (s.stage n).prm.wait = .ending → (s.stage n).mx.ftq ≠ [] →
        exec (.matrixWaitLimit n true) s = .next (s.kernelFault n ⟨.waitLimit, (s.stage n).prm.org, 0, none⟩)))

/-- The elementwise instructions (R147, R148, R156-R158): with the Snare idle and no word in error, every element of every row of VD whose source rows
are valid takes the result of the operation on the sources' elements, its row-valid bit set; a row with an invalid source row keeps its elements and turns
invalid; every other element, bit and broadcast register keeps its value. VEXP, VRCP and VRSQ lie within the bounds of R158 (log entry 10).

The model's readings it rests on: log entry 17. -/
def Obligations.ElementwiseInstructionsCompute : Prop :=
  ∀ (p : Iss) (i : Inst) (o : VOp) (s : State), Canon s → SeqIn s p.stage i → SnareIdle s p.stage →
    o.row0.toNat + o.nr.toNat ≤ 63 → o.vd.toNat ≤ 5 →
    ∀ x ∈ ([(.vadd p o, .add, 0x00, 2, fun a b _ => f32add a b), (.vsub p o, .sub, 0x01, 2, fun a b _ => f32sub a b),
        (.vmul p o, .mul, 0x02, 2, fun a b _ => f32mul a b), (.vfma p o, .fma, 0x03, 3, fun a b c => f32fma a b c),
        (.vfms p o, .fms, 0x04, 3, fun a b c => f32fms a b c), (.vfnma p o, .fnma, 0x05, 3, fun a b c => f32fnma a b c),
        (.vmin p o, .min, 0x08, 2, fun a b _ => f32min a b), (.vmax p o, .max, 0x09, 2, fun a b _ => f32max a b),
        (.vabs p o, .abs, 0x0A, 1, fun a _ _ => f32abs a), (.vneg p o, .neg, 0x0B, 1, fun a _ _ => f32neg a),
        (.vcpy p o, .cpy, 0x0C, 1, fun a _ _ => f32cpy a),
        (.vceq p o, .ceq, 0x10, 2, fun a b _ => if f32eq a b then 0x3F800000 else 0),
        (.vcne p o, .cne, 0x11, 2, fun a b _ => if f32eq a b then 0 else 0x3F800000),
        (.vclt p o, .clt, 0x12, 2, fun a b _ => if f32lt a b then 0x3F800000 else 0),
        (.vcle p o, .cle, 0x13, 2, fun a b _ => if f32le a b then 0x3F800000 else 0),
        (.vcnan p o, .cnan, 0x14, 1, fun a _ _ => if isNan32 a then 0x3F800000 else 0),
        (.vsel p o, .sel, 0x15, 3, fun a b c => f32cpy (if (fv32 c).isZero then b else a)),
        (.vexp p o, .exp, 0x18, 1, fun a _ _ => exp32 (Config.approxBits 0 a) a),
        (.vrcp p o, .rcp, 0x19, 1, fun a _ _ => rcp32 (Config.approxBits 1 a) a),
        (.vrsq p o, .rsq, 0x1A, 1, fun a _ _ => rsq32 (Config.approxBits 2 a) a)] :
        List (Instr × EwOp × Nat × Nat × (W32 → W32 → W32 → W32))),
      let srcs := [o.sa.toNat, o.sb.toNat, o.sc.toNat].take x.2.2.2.1
      (∀ c ∈ srcs, c ≤ 10) → Issues s p i (if 10 ∈ srcs then [o.sr] else []) →
      let n := p.stage
      let sr := (s.stage n).prm.reg o.sr
      let e := fun k r c => if k < srcs.length then srcElem (s.stage n) sr (srcs.getD k 0) r c else 0
      let live := fun r => srcs.all (fun c => srcValid (s.stage n) c r)
      ∃ t, exec x.1 s = .next t ∧ SnareDid s t n (.ew x.2.1 o sr) 6 x.2.2.1 ∧ (t.stage n).sn.bv = (s.stage n).sn.bv
        ∧ (∀ r c, o.row0.toNat ≤ r → r ≤ o.row0.toNat + o.nr.toNat → c < 256 → live r = true →
            srcElem (t.stage n) 0 o.vd.toNat r c = x.2.2.2.2 (e 0 r c) (e 1 r c) (e 2 r c))
        ∧ (∀ k, (∀ r c, o.row0.toNat ≤ r → r ≤ o.row0.toNat + o.nr.toNat → c < 256 → live r = true → k ≠ 16384 * o.vd.toNat + 256 * r + c) →
            mget 0 (t.stage n).sn.vb k = mget 0 (s.stage n).sn.vb k)
        ∧ (∀ r, r < 64 → (mget 0 (t.stage n).sn.valid o.vd.toNat).getLsbD r =
            if o.row0.toNat ≤ r ∧ r ≤ o.row0.toNat + o.nr.toNat then live r else (mget 0 (s.stage n).sn.valid o.vd.toNat).getLsbD r)
        ∧ (∀ b, b ≠ o.vd.toNat → mget 0 (t.stage n).sn.valid b = mget 0 (s.stage n).sn.valid b)

/-- The reductions (R45, R159): VRSUM, VRMAX, VRAMAX put the pairwise tree of each row's 256 elements into element r of bvc0 or bvc1, VCSUM,
VCMAX, VCAMAX that of each column over buffer rows 0-63 into bvr0 or bvr1, combined with the old element where ACC is set; an excluded row counts as +0 or,
for the maxima, −∞. Nothing else in the Snare's storage changes.

The model's readings it rests on: log entry 17. -/
def Obligations.ReductionsCompute : Prop :=
  ∀ (p : Iss) (i : Inst) (o : VOp) (s : State), Canon s → SeqIn s p.stage i → SnareIdle s p.stage →
    o.row0.toNat + o.nr.toNat ≤ 63 → o.sa.toNat ≤ 10 → Issues s p i (if o.sa.toNat = 10 then [o.sr] else []) →
    let n := p.stage
    let sr := (s.stage n).prm.reg o.sr
    let e := srcElem (s.stage n) sr o.sa.toNat
    let live := fun r => decide (o.row0.toNat ≤ r ∧ r ≤ o.row0.toNat + o.nr.toNat) && srcValid (s.stage n) o.sa.toNat r
    let id : W32 → W32 := fun x => x
    let kept := fun (t : State) => (t.stage n).sn.vb = (s.stage n).sn.vb ∧ (t.stage n).sn.valid = (s.stage n).sn.valid
    (o.vd = 8 ∨ o.vd = 9 →
      ∀ x ∈ ([(.vrsum p o, .rsum, 0x20, f32add, 0, id), (.vrmax p o, .rmax, 0x21, f32max, 0xFF800000, id),
          (.vramax p o, .ramax, 0x22, f32max, 0, f32abs)] : List (Instr × RedOp × Nat × (W32 → W32 → W32) × W32 × (W32 → W32))),
        let base := 512 + 64 * (o.vd.toNat - 8)
        let res := fun r => if live r then pairTree x.2.2.2.1 x.2.2.2.2.1 8 ((List.range 256).map (fun c => x.2.2.2.2.2 (e r c))) else x.2.2.2.2.1
        ∃ t, exec x.1 s = .next t ∧ SnareDid s t n (.red x.2.1 o sr) 6 x.2.2.1 ∧ kept t
          ∧ (∀ r, o.row0.toNat ≤ r → r ≤ o.row0.toNat + o.nr.toNat →
              mget 0 (t.stage n).sn.bv (base + r) = if o.acc then x.2.2.2.1 (mget 0 (s.stage n).sn.bv (base + r)) (res r) else res r)
          ∧ (∀ k, k < base + o.row0.toNat ∨ base + o.row0.toNat + o.nr.toNat < k → mget 0 (t.stage n).sn.bv k = mget 0 (s.stage n).sn.bv k))
    ∧ (o.vd = 6 ∨ o.vd = 7 →
      ∀ x ∈ ([(.vcsum p o, .csum, 0x24, f32add, 0, id), (.vcmax p o, .cmax, 0x25, f32max, 0xFF800000, id),
          (.vcamax p o, .camax, 0x26, f32max, 0, f32abs)] : List (Instr × RedOp × Nat × (W32 → W32 → W32) × W32 × (W32 → W32))),
        let base := 256 * (o.vd.toNat - 6)
        let res := fun c => pairTree x.2.2.2.1 x.2.2.2.2.1 6 ((List.range 64).map (fun r => if live r then x.2.2.2.2.2 (e r c) else x.2.2.2.2.1))
        ∃ t, exec x.1 s = .next t ∧ SnareDid s t n (.red x.2.1 o sr) 6 x.2.2.1 ∧ kept t
          ∧ (∀ c, c < 256 →
              mget 0 (t.stage n).sn.bv (base + c) = if o.acc then x.2.2.2.1 (mget 0 (s.stage n).sn.bv (base + c)) (res c) else res c)
          ∧ (∀ k, k < base ∨ base + 256 ≤ k → mget 0 (t.stage n).sn.bv k = mget 0 (s.stage n).sn.bv k))

/-- The vector moves of class 0x7 (R149, R150, R160, R166): each joins the Snare queue with its scalars captured and is worked off there.

The drawing, selecting, updating and tallying instructions of class 0x8 (R161, R165, R171-R175, R179) join the Snare queue likewise.

What expert and attention blocks compute of them (R280, R284): of the pairs of a source in their order, one whose expert has fewer than c pairs before it
takes their number as its slot, any other overflows; a fully masked key block leaves a fresh attention state as it is.

The model's readings it rests on: log entry 17. -/
def Obligations.VectorMovesAndUpdatesJoinTheSnare : Prop :=
  (∀ (p : Iss) (i : Inst) (s : State), Canon s → SeqIn s p.stage i → (s.stage p.stage).sn.queue.length < 16 →
    let n := p.stage
    let g := (s.stage n).prm.reg
    let w := SnareTakes s n i
    (∀ (vd : BitVec 4) (blk : BitVec 2), Issues s p i [] →
      (vd.toNat ≤ 5 → w (.pop vd.toNat blk.toNat) 7 0x00 (exec (.vpop p vd blk) s))
      ∧ (vd = 0 ∨ vd = 2 ∨ vd = 4 → w (.popw vd.toNat blk.toNat) 7 0x01 (exec (.vpopw p vd blk) s)))
    ∧ (∀ o : VMem, Issues s p i [o.ra] → o.row0.toNat + o.nr.toNat ≤ 63 →
      (o.vd.toNat ≤ 5 → w (.ld o (g o.ra)) 7 0x04 (exec (.vld p o) s) ∧ w (.st o (g o.ra)) 7 0x05 (exec (.vst p o) s))
      ∧ (o.vd = 0 ∨ o.vd = 2 ∨ o.vd = 4 → w (.ldw o (g o.ra)) 7 0x06 (exec (.vldw p o) s) ∧ w (.stw o (g o.ra)) 7 0x07 (exec (.vstw p o) s)))
    ∧ (∀ (b : BitVec 4) (ra : BitVec 5), Issues s p i [ra] →
      (6 ≤ b.toNat → b.toNat ≤ 9 → w (.bld b.toNat (g ra)) 7 0x08 (exec (.vbld p b ra) s) ∧ w (.bst b.toNat (g ra)) 7 0x09 (exec (.vbst p b ra) s))
      ∧ (b.toNat ≤ 5 → w (.rvset b.toNat (g ra)) 7 0x0C (exec (.vrvset p b ra) s) ∧ w (.rvget b.toNat ra) 7 0x0D (exec (.vrvget p b ra) s)))
    ∧ (∀ (b sa : BitVec 4) (row : BitVec 6) (col : BitVec 8), Issues s p i [] → sa.toNat ≤ 9 →
      (b = 6 ∨ b = 7 → w (.brow b.toNat sa.toNat row.toNat) 7 0x0A (exec (.vbrow p b sa row) s))
      ∧ (b = 8 ∨ b = 9 → w (.bcol b.toNat sa.toNat col.toNat) 7 0x0B (exec (.vbcol p b sa col) s)))
    ∧ (∀ (sem : BitVec 6) (val : BitVec 16), Issues s p i [] → w (.sig sem.toNat val.toNat) 7 0x10 (exec (.vsig p sem val) s)))
  ∧ (∀ (p : Iss) (i : Inst) (s : State), Canon s → SeqIn s p.stage i → (s.stage p.stage).sn.queue.length < 16 →
    let n := p.stage
    let g := (s.stage n).prm.reg
    let w := SnareTakes s n i
    (∀ o : VMem, o.row0.toNat + o.nr.toNat ≤ 63 → o.vd.toNat ≤ 5 →
      (Issues s p i [o.ra] → w (.rng o (g o.ra)) 8 0x00 (exec (.vrng p o) s))
      ∧ ∀ (sa : BitVec 4) (sr : BitVec 5), sa.toNat ≤ 9 → Issues s p i [o.ra, sr] → w (.drop o sa.toNat (g o.ra) (g sr)) 8 0x01 (exec (.vdrop p o sa sr) s))
    ∧ (∀ (a b c d : BitVec 4) (row0 nr : BitVec 6) (ncol : BitVec 8) (kk : BitVec 3) (sr rc : BitVec 5), row0.toNat + nr.toNat ≤ 63 →
      (Issues s p i [] → a.toNat ≤ 5 → b.toNat ≤ 9 → b ≠ a →
        w (.topk a.toNat b.toNat row0.toNat nr.toNat (ncol.toNat + 1) (kk.toNat + 1)) 8 0x04 (exec (.vtopk p a b row0 nr ncol kk) s))
      ∧ (Issues s p i [sr] → a.toNat ≤ 5 → b.toNat ≤ 5 → c.toNat ≤ 5 → a ≠ c →
        w (.mom a.toNat b.toNat c.toNat row0.toNat nr.toNat (g sr)) 8 0x08 (exec (.vmom p a b c row0 nr sr) s))
      ∧ (Issues s p i [sr] → a.toNat ≤ 5 → b.toNat ≤ 5 → c.toNat ≤ 5 → d.toNat ≤ 5 → a ≠ b → a ≠ c → b ≠ c →
        w (.upd a.toNat b.toNat c.toNat d.toNat row0.toNat nr.toNat (g sr)) 8 0x09 (exec (.vupd p a b c d row0 nr sr) s))
      ∧ (Issues s p i [sr] → a.toNat ≤ 9 → w (.tly a.toNat row0.toNat nr.toNat (g sr)) 8 0x0C (exec (.vtly p a row0 nr sr) s))
      ∧ (Issues s p i [sr, rc] → w (.tlyc (g sr) (g rc)) 8 0x0D (exec (.vtlyc p sr rc) s))))
  ∧ (∀ (c e : Nat) (xs : List Nat), (∀ x ∈ xs, x < e) → ∀ j x, xs[j]? = some x →
    let before := ((xs.take j).filter (fun y => decide (y = x))).length
    (slotsOf c e xs)[j]? = some (if before < c then some before else none))
  ∧ (∀ (n : Nat) (bs : List AttnState), (∀ b ∈ bs, b.m = 0xFF800000) → attnFold n bs = ⟨0xFF800000, 0, List.replicate n 0⟩)

/-- A vector instruction completes in order (R154, R166, R195): the oldest one worked off leaves the Snare queue, its bytes reach the Apron, a VSIG raises its
semaphore; a VPOP or VPOPW that has waited 10 ms for an entry is a wait-limit fault.

The model's readings it rests on: log entry 17. -/
def Obligations.SnareCompletesInOrder : Prop :=
  ∀ (n : Nat) (s : State), n < 144 →
    (∀ (e : SnEntry) (rest : List SnEntry), (s.stage n).sn.queue = e :: rest → e.done = true →
      let u := (s.modStage n (fun t => { t with sn := { t.sn with queue := rest } })).landWrites n e.writes
      (∀ sem k, e.ins = .sig sem k → exec (.snareInstructionComplete n) s = .next (u.semAdd n sem k e.org))
      ∧ ((∀ sem k, e.ins ≠ .sig sem k) → exec (.snareInstructionComplete n) s = .next u))
    ∧ (∀ (done : List SnEntry) (e : SnEntry) (rest : List SnEntry) (vd blk : Nat), (s.stage n).sn.queue = done ++ e :: rest →
      (∀ x ∈ done, x.done = true) → e.done = false → e.ins = .pop vd blk ∨ e.ins = .popw vd blk →
      exec (.snarePopWaitLimit n) s = .next (s.kernelFault n ⟨.waitLimit, e.org, 0, none⟩))

/-- DMOV, DGATH, DSCAT and DREL (R120-R122): the 64-byte descriptor is copied from the data region, the instruction joins the Stage's outstanding transfers, the
Prompter flows on and the Stagehand starts what is among its first eight; with 32 outstanding the Prompter waits; a misplaced descriptor is an address fault, taken at issue (log entry 27), a poisoned one a poison
fault.

The model's readings it rests on: log entries 18, 27. -/
def Obligations.StagehandInstructionsStart : Prop :=
  ∀ (p : Iss) (i : Inst) (f : ShFields) (s : State), Issues s p i [f.desc] →
    let n := p.stage
    let x := (s.stage n).prm
    let d := x.reg f.desc
    ∀ c ∈ [(Instr.dmov p f, 0), (.dgath p f, 1), (.dscat p f, 2), (.drel p f, 3)],
      (32 ≤ (s.stage n).sh.ops.length → exec c.1 s = .next ((stalled s n 9 c.2).kick n))
      ∧ ((s.stage n).sh.ops.length < 32 → d.toNat % 64 = 0 → d.toNat + 64 ≤ i.dataSize → ∀ bs s1,
          (started s p 9 c.2).apRead n (i.dataBase + d.toNat) 64 3 = (bs, false, s1) →
          exec c.1 s = .next (((s1.modStage n (fun t => { t with
            prm := { t.prm with seq := t.prm.seq + 1 }
            sh := { t.sh with ops := t.sh.ops ++
              [⟨⟨t.prm.pc, 9, c.2⟩, leWords 8 bs, i.dataBase + d.toNat, f.sem.toNat, f.nosig, 0, none, none, 0, false, t.prm.seq,
                false, 8⟩] } })).goSeq n x.pc 9 c.2).kick n))
      ∧ ((s.stage n).sh.ops.length < 32 → d.toNat % 64 = 0 → d.toNat + 64 ≤ i.dataSize → ∀ bs s1,
          (started s p 9 c.2).apRead n (i.dataBase + d.toNat) 64 3 = (bs, true, s1) →
          exec c.1 s = .next ((s1.kernelFault n ⟨.poison, ⟨x.pc, 9, c.2⟩, 0, none⟩).kick n))
      ∧ ((s.stage n).sh.ops.length < 32 → d.toNat % 64 ≠ 0 ∨ i.dataSize < d.toNat + 64 →
          exec c.1 s = .next (((started s p 9 c.2).kernelFault n ⟨.address, ⟨x.pc, 9, c.2⟩, d, none⟩).kick n))

/-- A transfer completes (R121, R125-R130, R285): a DMOV or DSCAT whose rows can be moved moves them, writes its status back and raises its semaphore; one to other
devices is done when what it sent is acknowledged; a DMOV from the Ensemble puts the payload in place and frees its queue; a DGATH whose data is there
checks its version, writes its copy and the copy's stamp; a DREL removes the pin it names, if there is one; a reducing transfer completes once every line is applied; a transfer R125 finds fault with faults and writes
nothing to its destination.

Reducing writes and the Stagehand's limits (R126, R128, R137, R209-R216, R265, R419): the next write of a reducing transfer that its line takes counts towards
it; a poisoned source faults; a write refused for 10 ms and a read an ordered line holds 10 ms are wait-limit faults; a gather without data is asked for again,
and at DECLARE_US its source is reported suspect.

The model's readings it rests on: log entries 16, 18, 27. -/
def Obligations.TransfersAndTheirLimits : Prop :=
  (∀ (n k : Nat) (x : Inst) (o : ShOp) (s : State), n < 144 →
    let u := s.kick n
    (u.stage n).inst = some x → ((u.stage n).sh.ops.take 8)[k]? = some o → o.dead = false →
    let d := shDesc o.desc
    let op := o.org.op
    (∀ c info, u.shCheck n x op d o.list = some (c, info) → exec (.stagehandComplete n k) s = .next (u.shFault n o d c info none))
    ∧ (u.shCheck n x op d o.list = none →
      (op = 3 →
        let named := fun (q : Pin) => decide (q.ctx = x.ctx ∧ q.tensor = tenOf d.src ∧ q.off = offOf d.src ∧ q.len = d.len * d.rows)
        let own := fun (q : Pin) => named q && decide (q.vrank = x.vrank ∧ q.mb = x.mb.toNat)
        (∀ q, u.sched.pins.find? own = some q ∨ (u.sched.pins.find? own = none ∧ u.sched.pins.find? named = some q) →
          exec (.stagehandComplete n k) s = .next ((u.modSched (fun y => { y with pins := y.pins.erase q })).shDone n o d none))
        ∧ (u.sched.pins.find? named = none → exec (.stagehandComplete n k) s = .next (u.shDone n o d none)))
      ∧ (op = 1 → ∀ bs ok st crc v, u.shardHere n x o d = .inl (bs, ok, st, crc, v) →
        (ok = true → d.matching = true → ¬ (st % 2 ^ 32 = d.verStep ∧ crc = d.verCrc) →
          exec (.stagehandComplete n k) s = .next ((if x.lead then v.redirect x d else v).shFault n o d .version 0 none))
        ∧ (ok = false ∨ d.matching = false ∨ (st % 2 ^ 32 = d.verStep ∧ crc = d.verCrc) → ∀ t, v.landShard n x d bs st crc = .inl t →
          exec (.stagehandComplete n k) s = .next (if ok then t.shDone n o d (if d.matching then none else some (st, crc))
            else t.shFault n o d .poison 0 (t.shItem x d))))
      ∧ (op = 0 → d.red = 0 → d.srcSp = 2 → ∀ m, u.payloadFor x d = some m →
        (m.total ≠ d.len * d.rows → exec (.stagehandComplete n k) s = .next (u.shFault n o d .tensor d.src none))
        ∧ (m.total = d.len * d.rows → ∀ t,
          State.writeRows n x d ((List.range d.rows).map (fun r => (r * d.dstride, (m.data.drop (r * d.len)).take d.len))) u = .inl t →
          exec (.stagehandComplete n k) s = .next ((t.takePipe m (!x.lead) (t.ensIdOf x d.ens)).shDone n o d none)))
      ∧ (op = 0 ∨ op = 2 → d.red = 0 → ¬ (op = 0 ∧ d.srcSp = 2) → d.dstSp = 2 → o.sent = true →
        u.inFlight (fun q => decide (q = .transfer n o.id)) = false → ∀ rows v, State.readRows n x d (List.range d.rows) u = .inl (rows, true, v) →
          (op = 0 → exec (.stagehandComplete n k) s = .next (u.shDone n o d none))
          ∧ (op = 2 → ∀ t, v.ownRows n x o d rows = .inl t → exec (.stagehandComplete n k) s = .next ((t.noteRows x o d rows).shDone n o d none)))
      ∧ (op = 0 ∨ op = 2 → d.red ≠ 0 → (u.redPieces n x o d).length ≤ o.lines → exec (.stagehandComplete n k) s = .next (u.shDone n o d none))
      ∧ (op = 0 ∨ op = 2 → d.red = 0 → ¬ (op = 0 ∧ d.srcSp = 2) → d.dstSp ≠ 2 →
          (∀ t, u.copyRows n x o d (d.rowsOf o.list) = .done t → exec (.stagehandComplete n k) s = .next (t.shDone n o d none))
          ∧ (∀ t, u.copyRows n x o d (d.rowsOf o.list) = .poison t →
            exec (.stagehandComplete n k) s = .next (t.shFault n o d .poison 0 (t.shItem x d))))))
  ∧ (∀ (n k : Nat) (s : State), n < 144 →
    (∀ (w : RedWrite) (x : Inst) (o : ShOp) (d : ShD) (v : RedWrite) (a : Nat) (bad : Bool) (s1 : State),
      s.nextRed n k = some (x, o, d, v, a, bad, s1) →
      (bad = true → exec (.reduceWrite w n k) s = .next (s1.shFault n o d .poison 0 (s1.shItem x d)))
      ∧ ∀ t, s1.redDecl x w.tensor = some t → bad = false → { w with poison := false } = v →
          (∀ s2, s1.reduce x.lead t a w.red w.key w.data w.poison = .taken s2 →
            exec (.reduceWrite w n k) s = .next (s2.modOp n o.id (fun o => { o with lines := o.lines + 1 })))
          ∧ (∀ s2, s1.reduce x.lead t a w.red w.key w.data w.poison = .refused s2 → exec (.reduceWrite w n k) s = .next s2))
    ∧ (∀ (x : Inst) (o : ShOp) (d : ShD) (v : RedWrite) (a : Nat) (bad : Bool) (s1 s2 : State) (t : TensorDecl),
      s.nextRed n k = some (x, o, d, v, a, bad, s1) → s1.redDecl x v.tensor = some t →
      s1.reduce x.lead t a v.red v.key v.data v.poison = .refused s2 →
      exec (.reduceRefuseLimit n k) s = .next (s.shFault n o d .waitLimit 0 none))
    ∧ (∀ (x : Inst) (o : ShOp), (s.stage n).inst = some x → ((s.stage n).sh.ops.take 8)[k]? = some o →
      let d := shDesc o.desc
      (s.shCheck n x o.org.op d o.list = none → s.heldByOrder n x d = true →
        exec (.orderedReadWaitLimit n k) s = .next (s.shFault n o d .waitLimit 0 none))
      ∧ (o.org.op = 1 → o.sent = true → o.dead = false → (∀ y, o.arrived = some y → y.1.length ≠ d.len * d.rows) →
        exec (.shardRetryTimeout n k) s = .next (s.regather n x o d)
        ∧ ∀ dev, s.peerOf x d d.member = some dev →
            exec (.shardDeclareTimeout n k) s = .next ((s.bump .pbkShardDeclare 0 1).reportSuspect dev 3)))
    ∧ (∀ q, s.pbk.reqs[k]? = some q → exec (.shardRetryTimeout 144 k) s = .next (s.reask q)
        ∧ exec (.shardDeclareTimeout 144 k) s = .next ((s.bump .pbkShardDeclare 0 1).reportSuspect q.src 3)))

/-- LAUNCH_START (R81, R293, R305, R306, R413): a fill launch whose dependencies are done and whose context is resident takes free Stages no lead waits for,
while fewer than 64 launches run: its weight set is counted in, each instance is seated, and the launch runs. A lead launch that R306 lets start begins its
micro-batches' logs first and waits for the mirror's answer; once they have begun its copies and activations are placed, its inputs supplied, and it starts,
its entry taken off the wants and the wait counted. Consecutive segments of a chain sit on adjacent Stages where they can.

Preemption and swapping (R204, R298, R311-R313, R316-R318): a lead short of Stages claims the free ones of its share and those of fill launches and rings their
Prompters; at HARD_PREEMPT the fill launch that holds one stops; a fill context R316 chooses leaves residence, its scratch contents in its stack pages;
another enters on free segments, gets them back with its generators, and counts as swapped in when its copy is done; a Stage retired for a cause of R298 leaves the Blocking.

The model's readings it rests on: log entries 18, 19. -/
def Obligations.LaunchesAndSwaps : Prop :=
  (∀ (launch : Nat) (seats : List Seat) (x : Launch) (c : Ctx) (k : KernelDecl) (sc : Score) (s : State),
    s.launch? launch = some x → s.ctx? x.ctx = some c → s.kernelOf x = some k → c.score = some sc → s.seatsOk k seats = true →
    (∀ w ∈ s.sched.wants, w.1 ≠ launch → ∀ y ∈ seats, y.stage ∉ w.2.2) → s.plat.dev = .run ∨ s.plat.dev = .recast →
    let run := fun (v : State) =>
      let v := seats.zipIdx.foldl (fun s p => s.seatInst c sc k x s.sched.step p) v
      let v := match v.sched.wants.find? (fun w => decide (w.1 = launch)) with
        | some w => (v.modSched (fun q => { q with wants := q.wants.erase w })).bump .smgLeadWait 0 (v.now.toNat - w.2.1)
        | none => v
      v.modLaunch launch (fun y => { y with
        state := 1, stages := seats.map (fun (z : Seat) => z.stage), left := k.instances, started := v.now.toNat, tally := tallyEmpty, tags := [] })
    (c.lead = false → x.state = 0 → c.suspended = false → c.resident = true → s.depsDone x = true → s.sched.swapIn ≠ some c.num →
      (s.sched.launches.filter (fun y => decide (y.state = 1))).length < 64 → s.adjOk sc x ((List.range 144).filter s.stageAvail) seats = true →
      exec (.launchStart launch seats) s = .next (run (s.takeWset c x)))
    ∧ (c.lead = true → s.leadMay c x k.instances = true → x.kind ≠ 4 → (∀ y ∈ seats, y.stage ∈ s.shareOf x.sheet) →
      s.adjOk sc x (s.shareOf x.sheet) seats = true →
      let u := (s.begins x).foldl (fun (v : State) i => v.logBegin c i) s
      (s.begins x ≠ [] → s.mirror.isSome = true → exec (.launchStart launch seats) s = .next u)
      ∧ (s.begins x = [] ∨ s.mirror = none → exec (.launchStart launch seats) s = .next (run ((u.placeWork c sc x).supply c x)).endRecast)))
  ∧ (∀ (s : State),
    (∀ (launch : Nat) (stages : List Nat) (x : Launch) (c : Ctx) (k : KernelDecl), s.launch? launch = some x → s.ctx? x.ctx = some c →
      s.kernelOf x = some k → c.lead = true → s.leadMay c x k.instances = true → (∀ w ∈ s.sched.wants, w.1 ≠ launch) →
      let claimed := s.sched.wants.flatMap (fun w => w.2.2)
      let share := (s.shareOf x.sheet).filter (fun n => s.stageAvail n && !claimed.contains n)
      let free := (share.filter (fun n => (s.stage n).inst.isNone)).take k.instances
      let fills := s.sched.launches.filter (fun y => decide (y.state = 1 ∧ y.ctx ≠ c.num) && !y.stages.any (fun n => claimed.contains n))
      let pick := pickFill share fills.length (k.instances - free.length) fills
      free.length < k.instances → (∀ n, n ∈ free ++ pick ↔ n ∈ stages) → pick ≠ [] →
      let u := s.modSched (fun q => { q with wants := q.wants ++ [(launch, s.now.toNat, free ++ pick)] })
      exec (.leadWantsStage launch stages) s = .next (u.modBooth (fun b => { b with bellF2P := pick.foldl (fun m n => ring m n 1) b.bellF2P })))
    ∧ (∀ (launch : Nat) (x : Launch), s.launch? launch = some x → x.state = 1 → s.leadCtx.map (fun (c : Ctx) => c.num) ≠ some x.ctx →
      (∃ w ∈ s.sched.wants, ∃ n ∈ w.2.2, n ∈ x.stages) → exec (.hardPreempt launch) s = .next (s.stopFill x))
    ∧ (∀ (ctx nx : Nat) (c y : Ctx), s.ctx? ctx = some c → s.swapNext = some nx → s.swapVictim = some ctx → s.ctx? nx = some y →
      (3 ≤ s.fillResident.length ∧ ∀ z ∈ s.fillResident, s.runnable z = false)
        ∨ (s.fillResident.length < 3 ∧ s.freeSegs < y.cacheSegs + y.scratchSegs) →
      (s.swapRoom c).isSome = true → exec (.swapOut ctx) s = .next (s.swapOutNow c))
    ∧ (∀ (ctx : Nat) (c : Ctx) (cache scratch : BitVec 16), s.ctx? ctx = some c → s.swapNext = some ctx → s.fillResident.length < 3 →
      s.sched.swapIn = none → popMask cache = c.cacheSegs → popMask scratch = c.scratchSegs → cache &&& scratch = 0 →
      (cache ||| scratch) &&& s.sched.ctxs.foldl (fun m (y : Ctx) => m ||| y.cacheMask ||| y.scratchMask) (0 : BitVec 16) = 0 →
      let mv := c.saved.map (fun x => (x.2.1, unpackPos scratch x.1, x.2.2))
      let t := c.savedRng.foldl (fun (v : State) x => v.modStage x.1 (fun z =>
        { z with rng := x.2.foldl (fun m (e : Nat × BitVec 128) => mset 0 m e.1 e.2) z.rng })) s
      let u := (t.modCtx ctx (fun y => { y with scratchMask := scratch })).moveRuns mv
      exec (.swapIn ctx cache scratch) s = .next (((u.modCtx ctx (fun y => { y with
          resident := true, saved := [], savedRng := [], cacheMask := cache
          tensors := y.tensors.map (TensorPlace.follow mv), since := u.now.toNat })).modSched
            (fun q => { q with swapIn := some ctx, swapOut := [] })).blockGen 5))
    ∧ (∀ (ctx ns : Nat), Canon s → s.sched.swapIn = some ctx → ns < 2 ^ 64 →
      ∃ t, exec (.swapComplete ctx ns) s = .next t ∧ t.sched = { s.sched with swapIn := none } ∧ t.rd .smgSwap 0 = s.rd .smgSwap 0 + 1
        ∧ (t.rd .smgSwapMax 0).toNat = Nat.max (s.rd .smgSwapMax 0).toNat ns
        ∧ (∀ off, off ≠ Reg.off .smgSwap 0 → off ≠ Reg.off .smgSwapMax 0 → mget 0 t.regs off = mget 0 s.regs off) ∧ t.stages = s.stages ∧ t.mem = s.mem)
    ∧ (∀ n cause, n < 144 → 1 ≤ cause → cause ≤ 4 → (cause = 2 → s.fourUes n = true) → exec (.stageRetire n cause) s = .next ((s.retire n cause).rescueApron n)))

/-- The Curtain (R181, R308, R309, R378-R380, R551): a device that may arrive contributes its record; its first Curtain opens step one, a later one the next step,
when the exchange is complete and no Call is due; the pulse on CURTAIN_SYNC ends and nothing else changes; a child's record joins, or waits where it
comes under a Roster version not yet in force, the parent's complete record is taken, and the Tally goes up and down the tree likewise.

The model's readings it rests on: log entries 16, 20. -/
def Obligations.CurtainsOpen : Prop :=
  ∀ (s : State),
    (∀ (r : Roster), s.link.roster = some r → s.mayArrive r = true →
      exec .curtainArrive s = .next (((s.markReady.modLink (fun k => { k with curtain := 1, linkSent := k.linkChanged, linkChanged := false })).takeMsg s.link.me
        (s.markReady.ownMsg r)).tryExchange).endRecast)
    ∧ (∀ (c : Ctx) (r : Roster), s.leadCtx = some c → s.link.roster = some r → s.link.call = none → s.pbk.restoring = none →
      (s.sched.begun = false → c.score.isSome = true → s.link.callDone ≠ none ∨ (1 ≤ r.version ∧ (r.entry s.link.me).isSome = true) → exec .curtainOpen s = .next s.openFirst)
      ∧ (s.sched.begun = true → s.link.curtain = 2 → s.pbk.recast = none → ∀ m, s.link.record = some m → s.needsCall r m = false →
        exec .curtainOpen s = .next (s.openNext m)))
    ∧ exec .curtainSyncEnd s = .next { s with plat := { s.plat with curtainSync := false } }
    ∧ (∀ (port : Nat) (p : Pkt) (m : CurtainMsg) (t : Tally) (r : Roster), Arrives s port p 0x13 →
      let u := taken s port p
      u.link.roster = some r →
      (p.aux16 = 0 →
        (p.src ∈ r.kids u.link.me → p.src ∉ u.link.curtFrom → m.version = r.version →
          exec (.curtainExchangeUp port p m) s = .next ((u.takeMsg p.src m).tryExchange).reportUnreachable)
        ∧ (r.version < m.version → exec (.curtainExchangeUp port p m) s =
          .next (u.modLink (fun k => { k with curtHeld := k.curtHeld.filter (fun x => decide (x.1 ≠ p.src)) ++ [(p.src, m)] })).reportUnreachable))
      ∧ (p.aux16 = 1 → r.parent u.link.me = some p.src → u.link.curtain = 1 → m.version = r.version →
        exec (.curtainExchangeDown port p m) s = .next (u.exchangeDone m).reportUnreachable)
      ∧ (p.aux16 = 2 → (r.entry u.link.me).isSome = true → (if u.sched.begun then u.sched.ring.step else 0) ≤ p.aux64.toNat →
        let key := 65536 * p.aux64.toNat + p.src
        exec (.tallyCombineUp port p t) s = .next ((u.modSched (fun q => { q with jobTally := q.jobTally.filter (fun x => decide (x.1 ≠ key)) ++ [(key, t)] })).tryTally).reportUnreachable)
      ∧ (p.aux16 = 3 → r.parent u.link.me = some p.src → p.aux64.toNat = u.sched.ring.step → u.sched.tallySent = true →
        exec (.tallyCombineDown port p t) s = .next (u.tallyDone t).reportUnreachable))

/-- Collectives (R381-R387): one that is well formed starts with its members, each granted room; a step that can be made is made; after 10 ms without
progress the launch ends with a wait-limit fault.

The model's readings it rests on: log entries 16, 18. -/
def Obligations.CollectivesRun : Prop :=
  ∀ (s : State),
    (∀ (launch : Nat) (x : Launch) (c : Ctx) (sc : Score) (ws : List W64), s.launch? launch = some x → s.ctx? x.ctx = some c → c.score = some sc →
      sc.colls[x.kernel]? = some ws → c.lead = true → x.kind = 4 → s.leadMay c x 0 = true → s.plat.dev = .run ∨ s.plat.dev = .recast →
      ((s.link.colls.map (fun (k : Coll) => k.launch)).eraseDups).length < 16 →
      let op := bitsOf (ws.getD 0 0) 3 0
      let len := bitsOf (ws.getD 3 0) 31 0
      let role := bitsOf (ws.getD 0 0) 9 4
      let sets := ((s.collRanks c x).map (fun v => (s.membersOf true c.num v role).map (fun (m : Nat × Nat) => m.1))).eraseDups
      let u := (s.modLaunch launch (fun y => { y with state := 1, started := s.now.toNat })).endRecast
      (3 < op ∨ len % 256 ≠ 0 ∨ len = 0 ∨ (op = 0 ∧ bitsOf (ws.getD 0 0) 11 10 = 0) →
        exec (.collectiveStart launch) s = .next (u.collFault launch .descriptor none))
      ∧ (¬ (3 < op ∨ len % 256 ≠ 0 ∨ len = 0 ∨ (op = 0 ∧ bitsOf (ws.getD 0 0) 11 10 = 0)) →
        let bare : List Coll := sets.map (fun ms => ⟨x.kernel % 65536 + u.sched.step % 65536 * 65536, launch, ws, ms, [], [], [], [], []⟩)
        let ks := bare.map (fun k => { k with next := (u.collMine k).map (fun m => (m, 0)) })
        let v := u.modLink (fun l => { l with colls := l.colls ++ ks })
        exec (.collectiveStart launch) s = .next ((ks.foldl (fun s k => s.grantStart k) v).endColls launch)))
    ∧ (∀ (inst chain : Nat),
      let ks := s.link.colls.filter (fun k => decide (k.inst = inst))
      let first := ks.findSome? (fun k => (s.collStep k.idle chain).map (fun t => (k.launch, t)))
      (∀ l t, first = some (l, t) → exec (.engineChainStep inst chain) s = .next (t.endColls l))
      ∧ (first = none → exec (.engineChainStep inst chain) s = .next (((ks.map (fun (k : Coll) => k.launch)).eraseDups).foldl
          (fun s l => s.endColls l) (ks.foldl (fun s k => s.pumpColl k) s))))
    ∧ (∀ (inst : Nat) (k : Coll), s.link.colls.find? (fun k => decide (k.inst = inst)) = some k →
        exec (.collectiveWaitLimit inst) s = .next (s.collFault k.launch .waitLimit none))

/-- The flit layer (R341-R343, R348, R364): CREDIT returns credit, NAK and the resend timer send again from a sequence number on; a flit whose
codewords, CRC and sequence number are good acknowledges what it names, and one that carries packets or records moves the number expected next; any other
flit is discarded, and a codeword beyond correction counted;
a heartbeat is noted, and one goes out on every port each interval.

Lanes and ports (R341, R351, R357-R363): a lane that loses lock retires; the symbol counts of a window are counted and judged; a silent port goes down; an agreed
width is applied at the flit it names, a proposed one of 8, 6 or 4 lanes that are good here is taken and agreed to; the optics' bytes are kept, alarms retire
and warnings mark lanes; a module that is gone takes its port down; a retrain test puts its lane back or into RETIRED.

The model's readings it rests on: log entries 16, 18. -/
def Obligations.FlitsLanesAndPorts : Prop :=
  (∀ (n : Nat) (s : State), n < 24 →
    (s.portUp n = true →
      (∀ counts, exec (.credit n counts) s = .next ((s.modPort n (fun p => { p with cred := creditVcs p.cred counts })).pump n).reportUnreachable)
      ∧ (∀ seq, exec (.nak n seq) s = .next (s.resendFrom n seq).reportUnreachable)
      ∧ (∀ k rest, (s.port n).kept = k :: rest → exec (.linkResendTimeout n) s = .next (s.resendFrom n k.1).reportUnreachable)
      ∧ (∀ st dev ver step, exec (.heartbeat n st dev ver step) s =
          .next (s.modPort n (fun p => { p with heard := true, missed := 0, beat := some s.now, lastState := st })).reportUnreachable)
      ∧ (∀ (bytes : List Byte) (bad first : Bool),
          let good := bad = false ∧ bytes.length = 256 ∧ ofLe (bytes.drop 252) = (crc32 (bytes.take 252)).toNat
          let h := ofLe (bytes.take 4)
          let ack := h / 32 % 2048
          let v := s.bump .lnkFecUncorr n (if first then 1 else 0)
          (¬ good → exec (.flit n ⟨bytes, bad, first⟩) s = .next (v.discardFlit n).reportUnreachable)
          ∧ (good → h / 2 ^ 30 = 3 → exec (.flit n ⟨bytes, bad, first⟩) s = .next (v.discardFlit n).reportUnreachable)
          ∧ (good → h / 2 ^ 30 < 2 → h / 2 ^ 16 % 2048 ≠ (s.port n).rxSeq → exec (.flit n ⟨bytes, bad, first⟩) s = .next (v.discardFlit n).reportUnreachable)
          ∧ (good → h / 2 ^ 30 = 2 →
              exec (.flit n ⟨bytes, bad, first⟩) s = .next (((v.modPort n (fun p => p.acked ack)).switchWidth n).pump n).reportUnreachable)
          ∧ (good → h / 2 ^ 30 < 2 → h / 2 ^ 16 % 2048 = (s.port n).rxSeq →
              exec (.flit n ⟨bytes, bad, first⟩) s = .next (((v.modPort n (fun p =>
                { p.acked ack with rxSeq := ((p.acked ack).rxSeq + 1) % 2048, naked := false })).switchWidth n).pump n).reportUnreachable)))
    ∧ exec .heartbeatSend s = .next ((List.range 24).foldl (fun s k =>
        s.sendCtl k (recHeartbeat (devCode s.plat.dev) s.link.me s.rosterVersion s.sched.step)) s)
    ∧ (let u := (List.range 24).foldl State.beatInterval s
      (∀ k, k < 24 → u.partnerDev k ≠ none → (u.port k).missed < 8) → exec .heartbeatInterval s = .next u))
  ∧ (∀ (n : Nat) (s : State), n < 24 →
    (∀ lane, lane < 8 → exec (.laneLockLoss n lane) s = .next ((s.setFld .lnkLane (8 * n + lane) 42 42 0).retireLane n lane).reportUnreachable)
    ∧ (∀ syms, exec (.laneWindowEnd n syms) s =
        .next (syms.zipIdx.foldl (fun s x => s.laneWindow n x) (s.bump .lnkFecCorr n syms.sum)).reportUnreachable)
    ∧ exec (.portSilenceTimeout n) s = .next (s.portDown n).reportUnreachable
    ∧ (s.portUp n = true →
      (∀ m seq, (s.port n).width = some m →
        exec (.width n true m seq) s = .next ((s.modPort n (fun p => { p with switchAt := some seq })).switchWidth n).reportUnreachable)
      ∧ (∀ m seq, popLanes m = 8 ∨ popLanes m = 6 ∨ popLanes m = 4 →
        let u := (s.partnerRetired n m).foldl (fun s l => s.markRetired n l) s
        ((∀ l, l < 8 → m.getLsbD l = true → l ∈ u.goodLanes n) →
          exec (.width n false m seq) s = .next (((u.sendCtl n (recWidth true m (((u.port n).txSeq + (u.port n).ctlq.length / 15 + 1) % 2048))).applyWidth
            n m).reWidth n).reportUnreachable)
        ∧ ((∃ l, l < 8 ∧ m.getLsbD l = true ∧ l ∉ u.goodLanes n) → exec (.width n false m seq) s = .next (u.reWidth n).reportUnreachable)))
    ∧ (s.fld .lnkOptics n 24 24 = 1 →
      (∀ temp warn alarm : BitVec 8,
        let u := ((((s.setFld .lnkOptics n 7 0 temp.toNat).setFld .lnkOptics n 15 8 warn.toNat).setFld .lnkOptics n 23 16 alarm.toNat).setFld
          .lnkOptics n 25 25 0).modPort n (fun p => { p with readErr := 0 })
        exec (.opticsPoll n true temp warn alarm) s = .next ((List.range 8).foldl (fun s l =>
          if alarm.getLsbD l then s.retireLane n l else if warn.getLsbD l then s.pendLane n l else s) u).reportUnreachable)
      ∧ (∀ temp warn alarm : BitVec 8,
        let u := (s.setFld .lnkOptics n 25 25 1).modPort n (fun p => { p with readErr := p.readErr + 1 })
        exec (.opticsPoll n false temp warn alarm) s = .next (if 10 ≤ (u.port n).readErr then u.portDown n else u).reportUnreachable)
      ∧ exec (.moduleRemoved n) s = .next ((((s.setFld .lnkOptics n 24 24 0).setFld .lnkPort n 31 31 0).modPort n (fun p =>
          { p with txOff := 0 })).portDown n).reportUnreachable)
    ∧ (s.fld .lnkOptics n 24 24 = 0 → ∀ temp : BitVec 8,
        exec (.opticsPoll n true temp 0 0) s = .next (((((((s.setFld .lnkOptics n 24 24 1).setFld .lnkPort n 31 31 1).modPort n (fun p =>
          { p with txOff := BitVec.ofNat 8 (s.fld .lnkPort n 22 15) })).setFld .lnkOptics n 7 0 temp.toNat).setFld .lnkOptics n 15 8 0).setFld .lnkOptics n 23 16
          0).setFld .lnkOptics n 25 25 0 |>.modPort n (fun p => { p with readErr := 0 })).reportUnreachable)
    ∧ (s.fld .lnkCfg 0 20 20 = 1 → exec .autoRetrain s = .next ((List.range 24).foldl (fun s k => s.startRetrain k (s.autoLanes k) true) s))
    ∧ (∀ lane x ident peer, lane < 8 → s.link.retrain.find? (fun x => decide (x.1 / 8 = n)) = some x → x.1 = 8 * n + lane →
      let u := (s.modLink (fun k => { k with retrain := k.retrain.erase x })).modPort n (fun p =>
        { p with recs := p.recs.filter (fun r => decide (r.1 ≠ lane)) ++ [(lane, ident, peer)] })
      exec (.retrainTestEnd n lane ⟨false, ident, peer⟩) s = .next ((u.markRetired n lane).startRetrain n [] true).reportUnreachable
      ∧ (u.leadCtx = none → exec (.retrainTestEnd n lane ⟨true, ident, peer⟩) s = .next ((u.lanesPass [x]).startRetrain n [] true).reportUnreachable)
      ∧ (u.leadCtx ≠ none → exec (.retrainTestEnd n lane ⟨true, ident, peer⟩) s =
          .next ((u.modLink (fun k => { k with passedLanes := k.passedLanes ++ [x] })).startRetrain n [] true).reportUnreachable))
    ∧ (∀ r, s.link.roster = some r → exec .routeTableReady s = .next { s with link := { s.link with
        nextRoutes := some (((s.link.callDone.map (fun (x : Proposal × Roster) => x.2)).getD r).routeTable s.link.me) } }))

/-- Forwarding and the end-to-end flows (R339, R353-R355): a packet for another device goes on with its hop count raised, and is discarded at seven
hops; one of a reserved type, or on another channel than its type's, is discarded; a flow without an acknowledgment sends everything again, sixteen times at most; an acknowledgment that is owed goes out; one that arrives
takes what it covers off the flow.

The model's readings it rests on: log entry 16. -/
def Obligations.FlowsAreKeptInOrder : Prop :=
  ∀ (s : State),
    (∀ (n : Nat) (p : Pkt), n < 24 → s.portUp n = true → p.wire = true → p.dst ≠ s.link.me ∨ typeVc p.ty = none →
      let u := s.bump .lnkRxBytes n p.data.length
      (p.hop = 7 ∨ typeVc p.ty ≠ some p.vc → exec (.packetForward n p) s = .next ((u.bump .lnkDiscard 0 1).freeCredit n p.vc p.flits).reportUnreachable)
      ∧ (p.hop < 7 → typeVc p.ty = some p.vc → exec (.packetForward n p) s = .next (u.routeOut { p with hop := p.hop + 1 } (some n)).reportUnreachable))
    ∧ (∀ (dst vc flow : Nat), (s.txFlow dst vc flow).unacked ≠ [] →
      let f := s.txFlow dst vc flow
      (f.tries < 15 → exec (.e2eTimeout dst vc flow) s = .next ((s.putTx { f with tries := f.tries + 1 }).resendFlow f).reportUnreachable)
      ∧ (15 ≤ f.tries → exec (.e2eTimeout dst vc flow) s = .next ((s.endFlow f).unreach dst).reportUnreachable))
    ∧ (∀ (src vc flow : Nat), (s.rxFlow src vc flow).owed ≠ 0 →
      let x := s.rxFlow src vc flow
      exec (.e2eAckTimer src vc flow) s = .next ((s.putRx { x with owed := 0 }).sendAck src vc flow x.next false).reportUnreachable)
    ∧ (∀ (n : Nat) (p : Pkt), n < 24 → s.portUp n = true → p.wire = true → p.dst = s.link.me → p.ty = 0x11 → typeVc 0x11 = some p.vc →
      let u := (s.bump .lnkRxBytes n p.data.length).freeCredit n p.vc p.flits
      2 < p.vc ∨ p.rver = u.rver → p.aux16 < 2 ^ 15 →
      let f := u.txFlow p.src (p.aux16 / 16 % 8) (p.aux16 % 16)
      let k := p.aux64.toNat % 2 ^ 32
      (∃ x ∈ f.unacked, seqBefore x.pkt.e2e k = true) →
        exec (.e2eAck n p) s = .next (u.putTx { f with unacked := f.unacked.filter (fun x => !seqBefore x.pkt.e2e k), tries := 0 }).reportUnreachable)

/-- Link Bells and the Gong (R365, R388, R491, R493): a word written goes out once and waits in its register until the far side has taken it; a FULL one stays and sets
its overrun flag; a word that arrives is kept until it is read, a repeat is not kept twice; reading it tells the sender; a gong heard first is passed on.

The model's readings it rests on: log entry 18. -/
def Obligations.LinkBellsAndGong : Prop :=
  ∀ (n : Nat) (b : BitVec 2) (s : State), n < 24 →
    let i := 4 * n + b.toNat
    (∀ word,
      ((mget Bell.clear s.booth.bellLO i).full = true → exec (.linkBellWrite n b word) s = .next (s.setFlag .belOvrLo i).reportUnreachable)
      ∧ ((mget Bell.clear s.booth.bellLO i).full = false →
        let g := !(s.port n).loGen.getLsbD b.toNat
        exec (.linkBellWrite n b word) s = .next ((((s.modBooth (fun x => { x with bellLO := ring x.bellLO i word })).modPort n (fun p =>
          { p with loGen := p.loGen ^^^ (1#4 <<< b.toNat) })).sendCtl n (recBell b.toNat g word)).reportUnreachable)))
    ∧ (s.portUp n = true → ∀ gen word,
      ((s.port n).liGen.getD b.toNat none ≠ some gen →
        exec (.bell n b gen word) s = .next ((s.modPort n (fun p => { p with liGen := setAt p.liGen b.toNat (some gen) })).modBooth (fun x =>
          { x with bellLI := ring x.bellLI i word })).reportUnreachable)
      ∧ ((s.port n).liGen.getD b.toNat none = some gen →
        ((mget Bell.clear s.booth.bellLI i).full = true → exec (.bell n b gen word) s = .next s.reportUnreachable)
        ∧ ((mget Bell.clear s.booth.bellLI i).full = false → exec (.bell n b gen word) s = .next (s.sendCtl n (recBellTaken b.toNat gen)).reportUnreachable)))
    ∧ (s.portUp n = true → ∀ gen, (s.port n).loGen.getLsbD b.toNat = gen →
      exec (.bellTaken n b gen) s = .next (s.modBooth (fun x => { x with bellLO := mset Bell.clear x.bellLO i Bell.clear })).reportUnreachable)
    ∧ (let x := mget Bell.clear s.booth.bellLI i
      let u := s.modBooth (fun y => { y with readData := [x.word], bellLI := mset Bell.clear y.bellLI i Bell.clear })
      exec (.linkBellRead n b) s = .next (if x.full then u.sendCtl n (recBellTaken b.toNat (((s.port n).liGen.getD b.toNat none).getD false)) else u).reportUnreachable)
    ∧ (∀ cause dev ver r, s.portUp n = true → s.link.roster = some r → (r.entry dev).isSome = true → (dev, ver) ∉ s.link.gongs →
      exec (.gong n cause dev ver) s =
        .next (((s.modLink (fun k => { k with gongs := k.gongs ++ [(dev, ver)] })).gong cause dev ver n).reportSuspect dev 2).reportUnreachable)

/-- Data packets (R83, R127, R130, R270, R281, R283, R285, R345, R346, R349, R356, R382, R384): a packet of each type that arrives in order is delivered, whatever it
carries, and what it carries takes effect: a quarter of a Roll block joins those of its granted hop, and the last one delivers the block; chunk bytes join
their member's; a payload's piece joins the payload; a dispatched row is written into its instance, or waits while another occupies its reserved row; a
shard request is answered with the copy's bytes and stamp; shard bytes join their gather's; a grant of a payload frees its queue; a FILL packet is what the type
it names says.

The model's readings it rests on: log entry 16. -/
def Obligations.DataPacketsAreDelivered : Prop :=
  ∀ (n : Nat) (p : Pkt) (s : State),
    let u := taken s n p
    let next := fun (t : State) => (Host.Outcome.next t.reportUnreachable : Host.Outcome State Fault Refusal)
    (Arrives s n p 0x01 → exec (.rollBlock n p) s = next (u.onRollBlock p)
      ∧ ∀ h, u.link.hops.find? (fun h => decide (h.src = p.src ∧ h.chain = bitsOf p.aux64 31 0 ∧ h.seg = bitsOf p.aux64 47 32) && h.granted
          && u.hopLive h) = some h → bitsOf p.aux64 55 48 = h.next → p.data.length = 4096 →
        let q : Quarter := ⟨h.next, decide (bitsOf p.aux64 58 58 = 1), bitsOf p.aux64 57 56, (chunks 4 1024 p.data).map (fun b => BitVec.ofNat 32 (ofLe b)),
          BitVec.ofNat 16 p.aux16, (List.range 4).filter (fun i => p.aux64.getLsbD (59 + i))⟩
        let qs := h.quarters.filter (fun y => !decide (y.lo = q.lo ∧ y.part = q.part)) ++ [q]
        qs.length < (if h.wide then 8 else 4) → exec (.rollBlock n p) s = next (u.modLink (fun k =>
          { k with hops := k.hops.map (fun x => if x = h then { h with quarters := qs } else x) })))
    ∧ (Arrives s n p 0x02 → exec (.chunk n p) s = next (u.onChunk p)
      ∧ ∀ k, u.link.colls.find? (fun k => decide (k.inst = bitsOf p.aux64 31 0) && k.members.contains (p.num 1 4)) = some k →
        let m := k.members.idxOf (p.num 1 4)
        let key := fun (x : Nat × Nat × Nat × List Byte) => decide (x.1 = p.num 0 1 ∧ x.2.1 = bitsOf p.aux64 47 32 ∧ x.2.2.1 = m)
        let had := ((k.parts.find? key).map (fun (x : Nat × Nat × Nat × List Byte) => x.2.2.2)).getD []
        bitsOf p.aux64 63 48 = had.length / 4000 % 2 ^ 16 → u.collHost k m = u.link.me → (had ++ p.data.drop 5).length < k.chunk →
        exec (.chunk n p) s = next (u.putColl { k with
          parts := k.parts.filter (fun x => !key x) ++ [(p.num 0 1, bitsOf p.aux64 47 32, m, had ++ p.data.drop 5)] }))
    ∧ (Arrives s n p 0x03 → exec (.pipe n p) s = next (u.onPipe p false)
      ∧ ∀ c, u.leadCtx = some c → p.aux16 ≠ 1 →
        let m : PipeMsg := ⟨c.num, p.num 4 4, p.num 8 4, p.num 12 8, p.num 20 4, p.num 24 8, p.num 32 8, p.src, []⟩
        let same := fun (x : PipeMsg) => decide ({ x with data := [] } = m)
        let had := ((u.link.pipeIn.find? same).map (fun (x : PipeMsg) => x.data)).getD []
        u.link.pipeTaken = [] → p.num 40 8 = had.length → (had ++ p.data.drop 48).length < m.total →
        exec (.pipe n p) s = next (u.modLink (fun k => { k with
          pipeIn := k.pipeIn.filter (fun x => !same x) ++ [{ m with data := had ++ p.data.drop 48 }] })))
    ∧ (Arrives s n p 0x04 →
      (s.rowHeld p = true → exec (.dispatch n p) s = next (s.modLink (fun k => { k with rowsWait := k.rowsWait ++ [(n, p)] })))
      ∧ (s.rowHeld p = false → exec (.dispatch n p) s = next (u.onDispatch p false)
        ∧ ∀ c d l, u.leadCtx = some c → p.aux16 ≠ 2 ^ 15 → p.aux16 ≠ 1 → u.ctx? c.num = some c → c.decl (p.num 20 4) = some d → d.act = false →
          c.resolveW (u.remoteKey c (p.num 20 4) (p.num 8 4) (p.num 12 8)) (p.num 20 4) (p.num 24 8) (p.data.drop 48).length = some l →
          (u.putRuns l (p.data.drop 48)).rowRegion p false = none → p.num 40 8 + (p.data.drop 48).length < p.num 32 8 →
          exec (.dispatch n p) s = next (u.putRuns l (p.data.drop 48))))
    ∧ (Arrives s n p 0x05 → exec (.gatherReq n p) s = next (u.onGatherReq p false)
      ∧ ∀ c l st bs v, u.leadCtx = some c → p.num 50 1 ≠ 1 → p.aux16 ≠ 144 → (∀ q ∈ u.pbk.reqs, ¬ (q.vr = p.num 4 4 ∧ q.tensor = p.num 8 4)) →
        u.shardRuns c (p.num 4 4) (p.num 8 4) (p.num 42 8) (p.num 12 8) (p.num 20 8) (p.num 28 4) (p.num 32 8) none (p.num 67 8) = some (l, st) →
        readShard 4 l u = .inl (bs, true, v) →
        exec (.gatherReq n p) s = next (v.sendShard false (p.num 40 2) p.aux16 p.aux64.toNat (v.stampFor true st bs) bs))
    ∧ (Arrives s n p 0x06 → exec (.gatherData n p) s = next (u.onGatherData p)
      ∧ ∀ i o, p.aux16 < 144 → (u.stage p.aux16).inst = some i →
        (u.stage p.aux16).sh.ops.find? (fun o => decide (o.id = p.aux64.toNat ∧ o.org.op = 1)) = some o → p.num 0 8 ≠ noCopy →
        let d := shDesc o.desc
        let had := match o.arrived with | some a => a.1 | none => []
        p.num 24 8 = had.length → (had ++ p.data.drop 32).length < d.len * d.rows →
        exec (.gatherData n p) s = next (u.modOp p.aux16 o.id (fun o =>
          { o with arrived := some (had ++ p.data.drop 32, p.num 0 8, w64 (p.num 8 8), w64 (p.num 16 8)) })))
    ∧ (Arrives s n p 0x10 → exec (.grant n p) s = next (u.onGrant p false)
      ∧ ∀ c, u.leadCtx = some c → p.aux16 = 3 → exec (.grant n p) s = next ((u.modLink (fun k =>
          { k with pipeOut := k.pipeOut.erase (c.num, p.num 4 4, p.num 8 4, p.aux64.toNat) })).kickAll))
    ∧ (Arrives s n p 0x08 →
      let q : Pkt := { p with aux16 := p.num 0 2, data := p.data.drop 2 }
      (s.rowHeld p = true → exec (.fill n p) s = next (s.modLink (fun k => { k with rowsWait := k.rowsWait ++ [(n, p)] })))
      ∧ (s.rowHeld p = false →
        (p.aux64.getLsbD 63 = true → exec (.fill n p) s = next (u.onRollBlock { p with aux64 := p.aux64 &&& ~~~(w64 (2 ^ 63)) }))
        ∧ (p.aux64.getLsbD 63 = false →
          (p.aux16 = 0x03 → exec (.fill n p) s = next (u.onPipe q true)) ∧ (p.aux16 = 0x04 → exec (.fill n p) s = next (u.onDispatch q true))
          ∧ (p.aux16 = 0x05 → exec (.fill n p) s = next (u.onGatherReq q true)) ∧ (p.aux16 = 0x06 → exec (.fill n p) s = next (u.onGatherData q))
          ∧ (p.aux16 = 0x10 → exec (.fill n p) s = next (u.onGrant q true)))))

/-- The Call (R374-R377): a proposal is answered, an answer of a child counts towards this device's own, a rejection or an abort ends the Call, the
coordinator's commit puts the next Roster in force; a child that stays silent is reported, and at the coordinator ends the Call.

The model's readings it rests on: log entries 16, 18. -/
def Obligations.CallsAreAnswered : Prop :=
  ∀ (n : Nat) (p : Pkt) (s : State),
    let u := taken s n p
    (Arrives s n p 0x12 → ∀ x, s.link.roster.isSome = true ∨ x.base = none → exec (.callPropose n p x) s = .next (u.onPropose x).reportUnreachable)
    ∧ (Arrives s n p 0x12 → ∀ (k : CallSt) (b : Nat), u.link.call = some k → b = k.prop.ballot →
      (p.src ∈ k.next.kids u.link.me →
        (p.aux16 < 256 → exec (.callAccept n p b) s = .next ((u.modLink (fun x => { x with call := some { k with answered := k.answered ++ [p.src] } })).tryAnswer).reportUnreachable)
        ∧ (k.coordinator = true → exec (.callReject n p b) s = .next (u.abortCall).reportUnreachable)
        ∧ (k.coordinator = false → k.rejected = false → ∀ up, k.next.parent u.link.me = some up →
          exec (.callReject n p b) s = .next ((u.modLink (fun x => { x with call := some { k with rejected := true } })).sendCall up 2 b (.reject b)).reportUnreachable))
      ∧ (k.coordinator = false →
        (p.aux16 < 256 → exec (.callCommit n p b) s = .next (u.commitCall k).reportUnreachable) ∧ exec (.callAbort n p b) s = .next (u.abortCall).reportUnreachable))
    ∧ (∀ (k : CallSt) (dev : Nat), s.link.call = some k → dev ∈ k.next.kids s.link.me → dev ∉ k.answered →
      exec (.callSilenceTimeout dev) s = .next (if k.coordinator then
        (if k.prop.version = 1 then (s.abortCall.reportSuspect dev 1).firstCall else s.abortCall.reportSuspect dev 1) else s.reportSuspect dev 1))

/-- Suspicion, the quorum and the Recast (R422-R427, R431): a device named suspect is looked into by the coordinator or reported on to it; it asks the
others whether they hear the device, an answer counts once, and when all have answered or the time is over the outcome stands; a device that hears nobody for
1 ms enters FAULT with cause 6; a Recast begins on each device once the failure is confirmed; a phase that overruns puts the device into FAULT with cause 2.

The model's readings it rests on: log entries 12, 16, 18. -/
def Obligations.FailuresAreConfirmed : Prop :=
  ∀ (s : State),
    (∀ (n : Nat) (p : Pkt) (r : Roster),
      let u := taken s n p
      Arrives s n p 0x07 → u.link.roster = some r → (r.entry p.src).isSome = true →
      (p.aux16 % 256 = 0x09 → ¬ (p.aux64.toNat = noDev ∧ p.num 0 1 = 4) → p.aux64.toNat ≠ u.link.me →
        exec (.suspect n p) s = .next (if u.coordBut [p.aux64.toNat] = some u.link.me then u.suspectAt p.aux64.toNat (p.num 0 1)
            else u.reportSuspect p.aux64.toNat (p.num 0 1)).reportUnreachable)
      ∧ (p.aux16 % 256 = 0x0A → exec (.quorumQuery n p) s = .next (u.resil p.src 0x0B p.aux64 [if u.alive p.aux64.toNat then 1 else 0]).reportUnreachable)
      ∧ (p.aux16 % 256 = 0x0B → ∀ q, u.pbk.queries.find? (fun q => decide (q.dev = p.aux64.toNat)) = some q → p.src ∈ q.asked →
          (∀ a ∈ q.answers, a.1 ≠ p.src) →
          let q' := { q with answers := q.answers ++ [(p.src, decide (p.num 0 1 = 1))] }
          let v := u.modPbk (fun x => { x with queries := x.queries.map (fun (y : Query) => if y.dev = q.dev then q' else y) })
          exec (.quorumAnswer n p) s = .next (if q'.asked.length ≤ q'.answers.length then v.settleQuery q' else v).reportUnreachable))
    ∧ (∀ q rest, s.pbk.queries = q :: rest → exec .quorumTimeout s = .next (s.settleQuery q))
    ∧ (∀ r : Roster, s.link.roster = some r → 2 ≤ r.devs.length →
        (∀ k t, k < 24 → (s.port k).beat = some t → 1000000 ≤ (s.now - t).toNat) → exec .isolationTimeout s = .next (s.enterFault 6))
    ∧ (∀ (dev cause : Nat) (r : Roster), s.link.roster = some r → (r.entry dev).isSome = true → dev ≠ s.link.me → cause < 4 →
        s.plat.dev ≠ .safe → s.plat.dev ≠ .fault →
        (s.coordBut [dev] ≠ some s.link.me → exec (.recastStart dev cause) s = .next (s.recastBegin dev cause))
        ∧ (s.coordBut [dev] = some s.link.me → (dev, cause) ∈ s.pbk.confirmed →
          exec (.recastStart dev cause) s = .next (s.recastBegin dev cause).proposeRecast.tryAnswer))
    ∧ (∀ c, s.phaseNow = some c → exec .phaseOverrun s = .next ((s.romStart.post 0x0003 3 none [c]).enterFault 2))

/-- The Prompt Book's packets (R404-R419, R428, R438-R443): each kind of resilience packet from a device of the Roster is handed to its part of the Prompt Book;
a log record is kept, a request for the log answered with the records of its rank; a save ends where every device has streamed its part; a request to be
admitted is kept by the coordinator and passed on by the others.

The model's readings it rests on: log entry 16. -/
def Obligations.ProtectionPacketsAreKept : Prop :=
  ∀ (s : State),
    (∀ (n : Nat) (p : Pkt) (r : Roster),
      let u := taken s n p
      Arrives s n p 0x07 → u.link.roster = some r → (r.entry p.src).isSome = true →
      (p.aux16 % 256 = 0x01 → exec (.stateReq n p) s = .next (u.onStateReq p).reportUnreachable)
      ∧ (p.aux16 % 256 = 0x02 → exec (.stateData n p) s = .next (u.onStateData p).reportUnreachable)
      ∧ (p.aux16 % 256 = 0x03 → exec (.teeTotal n p) s = .next (u.onTotal p).reportUnreachable)
      ∧ (p.aux16 % 256 = 0x04 → exec (.parityDelta n p) s = .next (u.onDelta p).reportUnreachable)
      ∧ (p.aux16 % 256 = 0x05 → exec (.parityRead n p) s = .next (u.onParityRead p).reportUnreachable)
      ∧ (p.aux16 % 256 = 0x06 → exec (.replPut n p) s = .next (u.onReplica p).reportUnreachable)
      ∧ (p.aux16 % 256 = 0x0C → exec (.scrubDigest n p) s = .next (u.onScrub p).reportUnreachable)
      ∧ (p.aux16 % 256 = 0x07 → (u.bump .pbkLogBytes 0 p.data.length).sched.step ≤ p.num 0 8 →
        exec (.logPut n p) s = .next ((u.bump .pbkLogBytes 0 p.data.length).modPbk (fun x => { x with
          log := x.log ++ [⟨p.aux64.toNat % 2 ^ 32, p.aux64.toNat / 2 ^ 32, p.num 0 8, p.data.drop 8⟩] })).reportUnreachable)
      ∧ (p.aux16 = 0x08 → exec (.logGet n p) s = .next ((u.pbk.log.filter (fun x => decide (x.vr = p.aux64.toNat))).foldl (fun u x =>
          u.resil p.src 0x108 (w64 (x.vr + x.mb * 2 ^ 32)) (leBytes 8 x.step ++ x.data)) u |>.resil p.src 0x308 p.aux64 []).reportUnreachable)
      ∧ (p.aux16 = 0x108 → exec (.logGet n p) s = .next (u.onLogEntry (p.aux64.toNat % 2 ^ 32) (p.aux64.toNat / 2 ^ 32) (p.data.drop 8)).reportUnreachable)
      ∧ (p.aux16 = 0x308 → exec (.logGet n p) s =
          .next (u.modPbk (fun x => { x with logAsked := x.logAsked.filter (fun v => decide (p.aux64 ≠ w64 v)) })).reportUnreachable)
      ∧ (p.aux16 = 0x0D → ∀ v, u.pbk.save = some v → v.step = p.aux64.toNat → exec (.saveDone n p) s = .next (u.takeDone (digestsFrom 112 p.data)).reportUnreachable))
    ∧ (∀ (n : Nat) (p : Pkt) (ident : W64) (c : Nat),
      let u := taken s n p
      Arrives s n p 0x07 → p.dst ≠ noDev → p.aux16 = 0x0E → u.coord = some c →
      (c = u.link.me → exec (.admitReq n p ident) s = .next (u.modPbk (fun x => { x with
          admitReqs := x.admitReqs.filter (fun y => decide (y.1 ≠ ident)) ++ [(ident, p.data)] })).reportUnreachable)
      ∧ (c ≠ u.link.me → exec (.admitReq n p ident) s = .next (u.resil c 0x0E ident p.data).reportUnreachable))
    ∧ (∀ (v : SaveSt) (r : Roster), s.pbk.save = some v → s.link.roster = some r → (∀ x ∈ s.plat.xfers, x.kind ≠ 2) →
        (v.own = true → v.done ≠ [] → exec .saveStreamDone s = .next ((r.nums.filter (fun d => decide (d ≠ s.link.me))).foldl
          (fun s d => s.resil d 0x10D (w64 v.step) []) (s.saveOver v)))
        ∧ (v.own = false →
          let t := s.modPbk (fun p => { p with save := some { v with own := true } })
          t.coord = some t.link.me → exec .saveStreamDone s = .next t.trySave))

/-- Host accesses and the Wings (R197, R206-R208, R225, R226, R232, R243, R244): a BAR2 read answers with the bytes, marked where one is poisoned, or as unsupported where nothing is
mapped, and only after the host's earlier writes are visible; a BAR2 write goes piece by piece; an access to a stack line is served at once or waits for its
tokens or its controller's turn, a read of a line in the middle of its ordered sequence waits; a queued request is served once its bucket and its turn let it;
an access that has waited for a set full of pinned lines is made past the cache, or, for a kernel, faults where the set is still full.

The model's readings it rests on: log entry 8. -/
def Obligations.MemoryAccessesComplete : Prop :=
  ∀ (s : State),
    (∀ (off len : Nat), s.barLive = true → 0 < len → off + len ≤ 2 ^ 36 →
      let u := s.settleHost
      (∀ bs t, u.memRead 4 false (u.bar2Addr off) len = .inl (bs, [], t) → exec (.bar2Read off len) s = .next (t.hostAnswer 0 bs))
      ∧ (∀ bs b bad t, u.memRead 4 false (u.bar2Addr off) len = .inl (bs, b :: bad, t) → exec (.bar2Read off len) s = .next (t.hostAnswer 2 bs))
      ∧ (u.memRead 4 false (u.bar2Addr off) len = .inr .unmapped → exec (.bar2Read off len) s = .next (u.hostAnswer 1 []))
      ∧ (u.memRead 4 false (u.bar2Addr off) len = .inr .pinned ∨ u.memRead 4 false (u.bar2Addr off) len = .inr .ordered →
        exec (.bar2Read off len) s = .next (u.addWaiter ⟨u.pageOwner (u.bar2Addr off), u.bar2Addr off, len, none, none⟩)))
    ∧ (∀ (off : Nat) (data : List Byte), s.barLive = true → off + data.length ≤ 2 ^ 36 →
        exec (.bar2Write off data) s = .next (hostPieces (piecesOf (s.bar2Addr off) data.length) data s))
    ∧ (∀ (pa : Nat) (write : Option (List Byte)), s.place pa = .stack → (∀ bs, write = some bs → bs ≠ [] ∧ pa % 256 + bs.length ≤ 256) →
      (write = none → s.midSeq (pa / 256) = false) →
      (s.stackNeed pa write = none → exec (.cacheAccess pa write) s = .next (s.sliceServe pa write))
      ∧ ∀ w k, s.stackNeed pa write = some (w, k) →
        let r : MemReq := ⟨s.pageOwner pa, pa, match write with | some bs => bs.length | none => 64 - pa % 64, write, none⟩
        (s.admissible r.ctx w k = true → s.isNext r = true → exec (.cacheAccess pa write) s = .next (s.serveReq r))
        ∧ (s.admissible r.ctx w k = false ∨ s.isNext r = false →
          exec (.cacheAccess pa write) s = .next { s with mem := { s.mem with queue := s.mem.queue ++ [r] } }))
    ∧ (∀ (pa : Nat), s.place pa = .stack → s.midSeq (pa / 256) = true → exec (.cacheAccess pa none) s = .next s)
    ∧ (∀ (i : Nat) (r : MemReq), s.mem.queue[i]? = some r →
        let t := s.passFclk (s.waitFclk (bucketOf r.ctx r.data.isSome) r.bytes)
        (t.isNext r = true → exec (.requestAdmit i) s = .next (({ t with mem := { t.mem with queue := dropAt t.mem.queue i } }).serveReq r))
        ∧ (t.isNext r = false → exec (.requestAdmit i) s = .next s))
    ∧ (∀ (i : Nat) (r : MemReq), s.mem.waiters[i]? = some r →
        let t := { s with mem := { s.mem with waiters := dropAt s.mem.waiters i } }
        (r.kernel = none → exec (.cacheSetWaitLimit i) s = .next (t.serveWaiter r))
        ∧ ∀ n pc cls op, r.kernel = some (n, pc, cls, op) →
            exec (.cacheSetWaitLimit i) s = .next (if s.blocked r then t.kernelFault n ⟨.waitLimit, ⟨pc, cls, op⟩, 0, none⟩ else t))

/-- Scrubbing and repair (R222, R234-R240): the scrubber reads and corrects a word of an Apron, a line of the Wings, a block of a stack; a failing row is
remapped where spares are left, its page retired where none are, a channel with too many retired pages copied away and its addresses remapped when
the copy is done.

The model's readings it rests on: log entry 12. -/
def Obligations.ScrubbingAndRepair : Prop :=
  ∀ (s : State),
    (∀ (addr n off : Nat) (bs : List Byte) (bad : Bool) (t : State), s.place addr = .apron n off →
      s.apRead n (off / 8 * 8) 8 5 = (bs, bad, t) →
      exec (.scrubRead 0 addr) s = .next (t.scrubEvent (!(eccScan (s.stage n).ap.ecc (off / 8) 1).ue.isEmpty) 0 (addr / 8 * 8)))
    ∧ (∀ (addr o : Nat) (bs : List Byte) (bad : List Nat) (t : State), s.place addr = .scratch o → s.fld .wngScrub 0 12 12 = 1 →
      s.scratchRead (o / 256 * 256) 256 = (bs, bad, t) →
      exec (.scrubRead 1 addr) s = .next (t.scrubEvent (!(eccScan s.mem.scratchEcc (o / 256 * 16) 16).ue.isEmpty) 1 (addr / 256 * 256)))
    ∧ (∀ (addr : Nat) (f : Bool) (t : State), s.place addr = .stack → s.fld .hbmScrub 0 8 8 = 1 →
      let g := addr / 256 * 256
      scrubBlocks [g, g + 64, g + 128, g + 192] ((s.charge 16 false 256).stackMoved g 256 false) = (f, t) →
      exec (.scrubRead 2 addr) s = .next (t.scrubEvent f 2 g))
    ∧ (∀ (pc row : Nat), (pc, row) ∈ s.mem.failing → s.softOk pc row = true →
      let t := settleBlocks (s.rowPlaces pc row) s
      let bank := Config.bankOf pc row
      (∃ r ∈ t.mem.hard, r.pc = pc ∧ Config.bankOf pc r.row = bank) →
      exec (.softRemapInstall (pc / 64) pc row) s =
        .next ((({ t with mem := { t.mem with remaps := t.mem.remaps ++ [(⟨2, pc / 64, pc, row⟩ : Repair)] } }).logRepair ⟨2, pc / 64, pc, row⟩).rowDone pc row))
    ∧ (∀ (page target : Nat) (x : Nat × Nat), s.mem.failing.find? (fun x => (s.rowPages x.1 x.2).contains page && !s.softOk x.1 x.2) = some x →
      page ∉ s.mem.retiredPages → (∀ p ∈ s.mem.pendPages, p.1 ≠ page ∧ p.2 ≠ target) → s.mem.retiredPages.length + s.mem.pendPages.length < 4096 →
      s.freePage target = true → page ≠ target →
      (s.leadCtx.isSome = true → exec (.pageRetire page target) s = .next { s with mem := { s.mem with pendPages := s.mem.pendPages ++ [(page, target)] } })
      ∧ (s.leadCtx = none → exec (.pageRetire page target) s = .next (s.retirePage page target)))
    ∧ (∀ (ch : Nat), 2 * ch + 1 < pcCount → s.fld .hbmRepairCfg 0 16 8 < s.chanPages ch → ch ∉ s.mem.retiredChans → s.mem.copy = none →
      exec (.channelRetire ch) s = .next ((({ s with mem := { s.mem with copy := some ⟨[ch], false⟩ } }).setFld .hbmCapacity 0 10 10 1).logRepair
        ⟨4, ch / 32, 2 * ch, 0⟩))
    ∧ (∀ (c : ChanCopy), s.mem.copy = some c → c.ended = false → s.pbk.recast = none →
      let u := s.copyChannels c.chans
      (u.leadCtx.isSome = true → exec .channelCopyDone s = .next { u with mem := { u.mem with copy := some { c with ended := true } } })
      ∧ (u.leadCtx = none → exec .channelCopyDone s = .next (u.switchRemap c.chans)))

/-- The storage Ethernet (R471, R558-R560): a request outside what a transfer opened is refused with a NAK, one inside it writes or reads device memory; a send is
refused; an answer moves the endpoint's oldest transfer on, an error fails it; the eighth silence fails it, an earlier one counts a retransmission; a congestion
mark sends one notification per interval, a notification halves the rate, the timer raises it again.

The model's readings it rests on: log entry 22. -/
def Obligations.StorageTransfersMove : Prop :=
  ∀ (ep : Nat) (s : State), ep < 256 → s.epState ep = 1 →
    (s.hasEth = true →
      (∀ (pa : Nat) (data : List Byte),
        let u := s.ethMoved ep false data.length
        let v := u.setEp ep { u.ep ep with recvPsn := psnNext (u.ep ep).recvPsn data.length }
        let mine := v.plat.xfers.any (fun x => decide (x.ep = ep) && x.opened && x.covers pa data.length) && v.mapped pa data.length
        (mine = false → exec (.rdmaRequest ep true pa 0 data) s = .next (v.nak ep 0))
        ∧ (mine = true → ∀ t, v.memWrite 4 pa data = .inl t → exec (.rdmaRequest ep true pa 0 data) s = .next t))
      ∧ (∀ (pa len : Nat) (bs : List Byte) (t : State),
        let v := s.setEp ep { s.ep ep with recvPsn := psnNext (s.ep ep).recvPsn len }
        (v.plat.xfers.any (fun x => decide (x.ep = ep) && x.opened && x.covers pa len) && v.mapped pa len) = true →
        v.memRead 4 false pa len = .inl (bs, [], t) → exec (.rdmaRequest ep false pa len []) s = .next ((t.ethMoved ep true len).hostAnswer 0 bs))
      ∧ exec (.roceSend ep) s = .next (s.nak ep 0)
      ∧ ((s.ep ep).cnpSent = false → exec (.ecnCeArrival ep) s = .next (s.setEp ep { s.ep ep with cnpSent := true, cnps := (s.ep ep).cnps + 1 }))
      ∧ exec (.cnpReceive ep) s = .next (s.setEp ep { s.ep ep with rate := Nat.max 1 ((s.ep ep).rate / 2) })
      ∧ exec (.rateRecoveryTimer ep) s = .next (s.setEp ep { s.ep ep with rate := Nat.min 100 ((s.ep ep).rate + 1), cnpSent := false }))
    ∧ (∀ x, s.xferOn ep = some x →
      (∀ data, exec (.rdmaResponse ep true data) s = .next (s.failEp ep))
      ∧ (∀ data,
        let n := if x.write then x.len else Nat.min data.length x.len
        let u := s.ethMoved ep x.write n
        let v := u.setEp ep { u.ep ep with retries := 0, sendPsn := psnNext (u.ep ep).sendPsn n }
        (x.write = true → exec (.rdmaResponse ep false data) s = .next ((if x.kind = 2 then v.bump .pbkSaveBytes 0 n else v).modPlat (fun p => { p with xfers := p.xfers.filter (fun y => decide (y ≠ x)) })))
        ∧ (x.write = false → exec (.rdmaResponse ep false data) s = .next ((v.xferData x data).stepRestore x.kind)))
      ∧ ((s.ep ep).retries < 7 →
          exec (.rdmaRetryTimeout ep) s = .next ((s.setEp ep { s.ep ep with retries := (s.ep ep).retries + 1 }).bump .ethRetx 0 1))
      ∧ (7 ≤ (s.ep ep).retries → exec (.rdmaRetryTimeout ep) s = .next (s.failEp ep)))

/-- Commands that read (R186-R190, R464, R473, R479, R482, R486, R518): IDENTIFY gives the 128 identity bytes, GET_CAPS the five capability registers,
TELEMETRY_READ the listed registers, TALLY_READ the tag's figures, EVENT_LOG_READ the oldest records from a number on, ROSTER_GET the Roster in force or,
where OLD asks for it, the one before, and to a neighbour likewise; each outcome is the command's first completion entry.

The model's readings it rests on: log entries 12, 21. -/
def Obligations.ReadingCommandsGiveTheirData : Prop :=
  ∀ (c : CmdSrc) (t : State) (k : Cmd) (s : State),
    (Admits s c 0x01 t k → exec (.identify c) s = .next (t.finish k (t.gives t.identity)))
    ∧ (Admits s c 0x02 t k → exec (.getCaps c) s = .next (t.finish k (t.gives (wordsLe [t.rd .capUnits, t.rd .capStages, t.rd .capStacks, t.rd .capLinks, t.rd .capFormats]))))
    ∧ (Admits s c 0x50 t k → let n := k.w 0 7 0
        (0 < n → n ≤ 119 →
          let r := t.readList (decide (k.w 0 8 8 = 1)) ((List.range n).map (fun j => (k.word (1 + j)).toNat))
          exec (.telemetryRead c) s = .next (t.finish k (r.2.gives r.1)))
        ∧ (n = 0 ∨ 119 < n → exec (.telemetryRead c) s = .next (t.finish k (t.fails 0x11))))
    ∧ (Admits s c 0x51 t k → exec (.tallyRead c) s = .next (t.finish k (t.gives (t.tallyAnswer (k.w 0 11 0) (k.w 0 27 16)))))
    ∧ (Admits s c 0x52 t k → let n := k.w 1 12 0
        0 < n → n ≤ 4096 → ∀ e rest, t.booth.log = e :: rest →
          let es := (t.booth.log.filter (fun (e : Event) => decide ((k.word 0).toNat ≤ e.seqno))).take n
          exec (.eventLogRead c) s = .next (t.finish k { t.gives (es.flatMap (fun (e : Event) => wordsLe e.words)) with count := some es.length, r1 := w64 e.seqno }))
    ∧ (Admits s c 0x21 t k →
        (k.w 0 0 0 = 1 → ∀ r, t.link.prevRoster = some r → exec (.rosterGet c) s = .next (t.finish k (t.gives (r.bytes r.digest))))
        ∧ (k.w 0 0 0 = 0 → t.link.call = none → ∀ r, t.link.roster = some r → exec (.rosterGet c) s = .next (t.finish k (t.gives (r.bytes r.digest)))))
    ∧ (∀ (n : Nat) (p : Pkt) (x : Packet), p.aux16 = 0 →
        let u := taken s n p
        let q : Cmd := ⟨65 + n, x.hdr, x.params, x.paramErr⟩
        Arrives s n p 0x14 → u.taking = true → u.checks q = none → ∀ a, (u.finish q (u.rosterGet q)).booth.answer = some a →
        exec (.peerCmd n p x) s = .next ((u.finish q (u.rosterGet q)).peerAnswer p.src a).reportUnreachable)

/-- Configuration commands (R483-R485, R531, R532): SET_CONFIG checks all its entries, then applies or stages them; COMMIT_CONFIG commits what is staged at once where
no lead runs, enters QUIESCED where every context is suspended and nothing moves, leaves it for READY or RUN; POWER_LIMIT_SET takes 1,200 to 2,400 W.

What every command is checked for first (R4, R463, R467, R469): an opcode not listed completes with BAD_OPCODE, one its port or slot may not send with DENIED, and
in SAFE and FAULT any command but five with DEVICE_FAULT; the state is the one that has passed the packet, but for that completion.

The model's readings it rests on: log entry 21. -/
def Obligations.ConfigurationAndChecks : Prop :=
  (∀ (c : CmdSrc) (t : State) (k : Cmd) (s : State),
    (Admits s c 0x03 t k → exec (.setConfig c) s = .next (t.finish k (t.setConfig k)))
    ∧ (Admits s c 0x04 t k →
      (k.w 0 1 0 = 0 →
        (t.plat.dev = .quiesced ∨ t.leadCtx = none ∨ (∃ x, t.leadCtx = some x ∧ x.suspended = true) → exec (.commitStaged c) s = .next (t.finish k t.commitStaged.ok))
        ∧ (t.plat.dev ≠ .quiesced → ∀ x, t.leadCtx = some x → x.suspended = false → exec (.commitStaged c) s = .next (t.finish k (t.staged k))))
      ∧ (k.w 0 1 0 = 1 →
        (t.plat.dev = .ready ∨ t.plat.dev = .run → (∀ x ∈ t.sched.ctxs, x.suspended = true) → t.pbk.recast = none → t.transferring = false →
          exec (.enterQuiesced c) s = .next (t.finish k ({ t with plat := { t.plat with dev := .quiesced } } : State).ok))
        ∧ (t.plat.dev = .quiesced → exec (.enterQuiesced c) s = .next (t.finish k t.ok))
        ∧ (t.plat.dev ≠ .quiesced → (∃ x ∈ t.sched.ctxs, x.suspended = false) → exec (.enterQuiesced c) s = .next (t.finish k (t.fails 0x13))))
      ∧ (k.w 0 1 0 = 2 →
        (t.plat.dev = .quiesced → exec (.leaveQuiesced c) s = .next (t.finish k ({ t with plat := { t.plat with dev := if t.sched.ctxs.isEmpty then .ready else .run } } : State).ok))
        ∧ (t.plat.dev ≠ .quiesced → exec (.leaveQuiesced c) s = .next (t.finish k t.ok))))
    ∧ (Admits s c 0x60 t k → let w := k.w 0 11 0
      (1200 ≤ w → w ≤ 2400 → exec (.powerLimitSet c) s = .next (t.finish k (t.setFld .pwrLimit 0 11 0 w).ok))
      ∧ (w < 1200 ∨ 2400 < w → exec (.powerLimitSet c) s = .next (t.finish k (t.fails 0x11)))))
  ∧ (∀ (c : CmdSrc) (t : State) (k : Cmd) (s : State), s.nextCmd c = some (t, some k) →
    (k.op ∉ listedOps → exec (.identify c) s = .next (t.finish k (t.fails 0x10)))
    ∧ (k.op ∈ listedOps → k.hdrOk = true →
      (k.op = 0x03 → 64 ≤ k.src → exec (.setConfig c) s = .next (t.finish k { t.fails 0x12 with r1 := 1 }))
      ∧ (k.op = 0x03 → k.src < 64 → (t.rd .bthSlotCfg k.src).getLsbD (16 + classOfOp 0x03) = false →
          exec (.setConfig c) s = .next (t.finish k { t.fails 0x12 with r1 := 2 }))
      ∧ (k.op = 0x60 → k.src < 64 → (t.rd .bthSlotCfg k.src).getLsbD (16 + classOfOp 0x60) = true → k.ctxOpt = none →
          t.plat.dev = .safe ∨ t.plat.dev = .fault → exec (.powerLimitSet c) s = .next (t.finish k (t.fails 0x30)))))

/-- RESET_UNIT (R475, R501, R504): unit 0 completes with OK and the device resets with cause 2; unit 1 restarts the Booth; a Stage, a link port and an
Ethernet port reset with their bounds; FORCE is needed while a lead is registered outside QUIESCED; an absent unit is refused, nothing changed (R4).

The model's readings it rests on: log entry 21. -/
def Obligations.ResetUnitCommands : Prop :=
  ∀ (c : CmdSrc) (t : State) (k : Cmd) (s : State), Admits s c 0x08 t k →
    let n := k.w 0 15 8
    let free := k.w 0 16 16 = 0 ∧ (t.leadCtx = none ∨ t.plat.dev = .quiesced)
    (k.w 0 3 0 = 0 →
      (free → let u := t.finish k t.ok
        exec (.resetUnitDevice c) s = .next ((u.warmReset 2).modBooth (fun b => { b with answer := u.booth.answer })))
      ∧ (k.w 0 16 16 = 0 → t.leadCtx.isSome = true → t.plat.dev ≠ .quiesced → exec (.resetUnitDevice c) s = .next (t.finish k (t.fails 0x14))))
    ∧ (k.w 0 3 0 = 1 → free → exec (.resetUnitBooth c) s = .next (t.finish k (({ t with booth := { t.booth with resetting := true } } : State).accept k 350000)))
    ∧ (k.w 0 3 0 = 2 →
      (n < 144 → Config.stageFused n = true → (∀ r ∈ t.sched.retired, r.1 ≠ n) → (t.stage n).inst = none →
        let u := (t.modStage n (fun x => { Stage.idle with ap := x.ap, ues := x.ues })).modBooth (fun b =>
          { b with bellF2P := mset Bell.clear b.bellF2P n Bell.clear, bellP2F := mset Bell.clear b.bellP2F n Bell.clear })
        exec (.resetUnitStage c) s = .next (t.finish k (u.accept k 25000)))
      ∧ (144 ≤ n → exec (.resetUnitStage c) s = .next (t.finish k (t.fails 0x15)))
      ∧ (∀ i, n < 144 → Config.stageFused n = true → (∀ r ∈ t.sched.retired, r.1 ≠ n) → (t.stage n).inst = some i → i.lead = true →
        exec (.resetUnitStage c) s = .next (t.finish k (t.fails 0x13))))
    ∧ (k.w 0 3 0 = 3 →
      (t.hasPort n = true → exec (.resetUnitLinkPort c) s = .next (t.finish k ((((t.portDown n).setFld .lnkPort n 2 0 1).modLink (fun l =>
        { l with retrain := l.retrain.filter (fun x => decide (x.1 / 8 ≠ n)) })).accept k 2000000)))
      ∧ (t.hasPort n = false → exec (.resetUnitLinkPort c) s = .next (t.finish k (t.fails 0x15))))
    ∧ (k.w 0 3 0 = 4 →
      (t.hasEth = true → n < 4 → let u := t.setFld .ethPort n 1 0 1
        exec (.resetUnitEthPort c) s = .next (t.finish k ((u.modPlat (fun p => { p with eps := p.eps.filter (fun x => decide (u.fld .ethEpCfg x.1 2 1 ≠ n)) })).accept k 2000000)))
      ∧ (t.hasEth = false ∨ 4 ≤ n → exec (.resetUnitEthPort c) s = .next (t.finish k (t.fails 0x15))))

/-- Job commands (R290, R294, R301-R303, R399, R473, R474, R476): CONTEXT_CREATE takes the lowest free number; DESTROY removes, SUSPEND stops a fill context at once and a
lead at its Curtain, RESUME puts tensors into scratch segments it has gained
and lets it run again; CUE_SHEET_SET stages a sheet for a step not yet opened; LOAD_SCORE is accepted for a context without a Score.

The model's readings it rests on: log entries 2, 19, 21. -/
def Obligations.JobCommands : Prop :=
  ∀ (c : CmdSrc) (t : State) (k : Cmd) (s : State),
    (Admits s c 0x11 t k → t.quiesced = false → 0 < k.w 0 31 16 → k.w 0 31 16 ≤ 1152 → 0 < k.w 3 31 16 → 0 < k.w 3 63 48 → k.w 3 14 0 ≤ 30720 →
      k.w 3 46 32 ≤ 30720 → t.sched.ctxs.length < 16 →
      let lead := decide (k.w 0 0 0 = 1)
      let segs := k.w 0 8 4 + k.w 0 13 9
      let resident := lead || decide (t.fillResident.length < 3)
      let leadSegs := match t.leadCtx with
        | some x => popMask x.cacheMask + popMask x.scratchMask
        | none => 0
      let num := lowestFree (t.sched.ctxs.map (fun (x : Ctx) => x.num))
      ((lead = false ∨ t.leadCtx = none) → 0 < segs → segs ≤ (if resident then t.freeSegs else 16 - leadSegs) → 512 * k.w 0 31 16 ≤ t.pagesLeft →
        exec (.contextCreate c) s = .next (t.finish k ((t.createCtx k num resident).ok (w64 num))))
      ∧ (lead = true → t.leadCtx.isSome = true → exec (.contextCreate c) s = .next (t.finish k (t.fails 0x11))))
    ∧ (∀ x, t.ctx? k.ctx = some x →
      (Admits s c 0x12 t k →
        (x.lead = false ∨ x.suspended = true → exec (.contextDestroy c) s = .next (t.finish k (t.destroyCtx k.ctx).ok))
        ∧ (x.lead = true → x.suspended = false → exec (.contextDestroy c) s = .next (t.finish k (t.fails 0x13))))
      ∧ (Admits s c 0x13 t k → x.suspended = false →
        (x.lead = true → exec (.contextSuspend c) s = .next (t.finish k ({ t with sched := { t.sched with leadStop := true } } |>.staged k)))
        ∧ (x.lead = false → exec (.contextSuspend c) s = .next (t.finish k ((t.stopCtx k.ctx).suspend k.ctx 1).ok)))
      ∧ (Admits s c 0x14 t k → t.quiesced = false → x.suspended = true →
        (x.suspCause = 4 → exec (.contextResume c) s = .next (t.finish k (t.fails 0x13)))
        ∧ (x.suspCause ≠ 4 → x.lead = true → exec (.contextResume c) s = .next (t.finish k ((t.fillScratch x).resumeLead k.ctx).ok))
        ∧ (x.suspCause ≠ 4 → x.lead = false → exec (.contextResume c) s =
            .next (t.finish k ((t.fillScratch x).modCtx k.ctx (fun y => { y with suspended := false, suspCause := 0, resumed := true })).ok)))
      ∧ (Admits s c 0x15 t k → ∀ sc h, x.score = some sc → x.shape = some h →
        let p := k.w 0 5 0
        let n := k.w 0 28 16
        let sh := sheetOf n (k.params.drop 2)
        x.lead = true → p < h.pp → 2 + 2 * n ≤ k.params.length → sheetOk sc sh = true → t.stepOpened (k.word 1).toNat = false →
        (∀ y ∈ t.sched.staged, y.p ≠ p) →
        exec (.cueSheetSet c) s = .next (t.finish k ((t.modSched (fun q => { q with staged := q.staged ++ [⟨p, (k.word 1).toNat, sh⟩] })).staged k p)))
      ∧ (Admits s c 0x10 t k → ∀ score, t.quiesced = false →
        (x.score = none → (x.lead = false ∨ (shapeOf (k.word 6) (k.word 7)).isSome = true) →
          exec (.loadScore c score) s = .next (t.finish k (t.accept k (2000 + cdiv (k.w 1 31 0) 16000) (fun f => { f with score := some score }))))
        ∧ (x.score.isSome = true → exec (.loadScore c score) s = .next (t.finish k (t.fails 0x13)))))

/-- Roster and data commands (R260, R263, R438, R439, R440, R445, R471, R473, R477, R478): ROSTER_SET gives a lead its first Roster, which must fit the shape of a
loaded Score, and calls the devices, or a fill context its Ensembles; ADMIT and RELEASE begin a change of membership; SHARD_LOAD, SNAPSHOT_RESTORE and SNAPSHOT_SAVE open their transfers; a switch makes a loaded weight set
current and frees the one before.

The model's readings it rests on: log entries 16, 21, 22. -/
def Obligations.RosterAndDataCommands : Prop :=
  ∀ (c : CmdSrc) (t : State) (k : Cmd) (s : State),
    (Admits s c 0x20 t k → ∀ x r digest n, t.ctx? k.ctx = some x → rosterFrom (wordsLe k.params) = some (r, digest, n) →
      let bs := (wordsLe k.params).take n
      let crc := crc64 (bs.take 40 ++ leBytes 8 0 ++ bs.drop 48)
      (crc ≠ digest → exec (.rosterSet c) s = .next (t.finish k (t.fails 0x20)))
      ∧ (crc = digest → x.lead = true → t.rosterVersion = 0 → rosterOk r digest bs = true → (∀ h, x.shape = some h → rosterFits h r = true) →
        ∀ e, r.devs.find? (fun e => decide (e.ident = t.rd .idnDevid)) = some e →
          let u := t.finish k ((t.setRoster r e.number).accept k 30000000)
          (u.ctx? k.ctx).map (fun (x : Ctx) => x.lead) = some true → exec (.rosterSet c) s = .next u.firstCall)
      ∧ (crc = digest → x.lead = true → t.rosterVersion = 0 → (∃ h, x.shape = some h ∧ rosterFits h r = false) →
        exec (.rosterSet c) s = .next (t.finish k (t.fails 0x11)))
      ∧ (crc = digest → x.lead = false →
        (t.link.roster.map (fun (q : Roster) => q.ensOf t.hosted)).getD 0 + (t.link.fillEns.filter (fun y => decide (y.1 ≠ k.ctx))).length
          + r.ens.length ≤ 64 → (∀ y ∈ r.ens, 2 ≤ y.members ∧ y.members ≤ 4096) →
        let u := t.finish k (t.setFillEns k.ctx r.ens).ok
        (u.ctx? k.ctx).map (fun (x : Ctx) => x.lead) = some false → exec (.rosterSet c) s = .next u))
    ∧ (Admits s c 0x22 t k → ∀ x, t.ctx? k.ctx = some x → x.lead = true → x.score.isSome = true → t.link.roster = none → t.plat.tested = true →
      k.w 1 16 0 ≤ 65536 → t.pbk.admitting = none →
      exec (.admitDev c) s = .next (t.finish k (((t.modPbk (fun p => { p with admitting := some (k.word 0, k.w 1 16 0) })).sendAdmitReq (k.w 1 16 0)).accept k 0)))
    ∧ (Admits s c 0x23 t k → ∀ r, t.link.roster = some r → (∃ e ∈ r.devs, e.number ≠ t.link.me) → t.pbk.releasing = false → t.pbk.admitting = none →
      exec (.release c) s = .next (t.finish k ((t.modPbk (fun p => { p with releasing := true })).staged k)))
    ∧ (Admits s c 0x30 t k → ∀ x, t.ctx? k.ctx = some x → k.w 0 0 0 = 0 ∨ t.epBad (k.w 0 15 8) = none → t.quiesced = false → shardTarget x k = true →
      (x.lead = false ∨ t.sched.begun = false) → (k.fill = false ∨ setInUse x (k.w 0 17 16) = false) →
      exec (.shardLoad c) s = .next (t.finish k ((t.openShard k x).accept k (1000 + cdiv k.len 1000))))
    ∧ (Admits s c 0x31 t k → ∀ x y, t.ctx? k.ctx = some x → x.lead = false → x.wsets.find? (fun y => decide (y.num = k.w 0 1 0)) = some y →
      (y.bad ≠ [] → exec (.weightPointerSwitch c) s = .next (t.finish k (t.fails 0x20)))
      ∧ (y.bad = [] → y.loaded = true → y.current = false →
        let old := (x.wsets.filter (fun z => z.current)).map (fun (z : WSet) => z.num)
        let u := t.modCtx x.num (fun z => { z with wsets := z.wsets.map (fun (v : WSet) => { v with current := decide (v.num = k.w 0 1 0) }) })
        exec (.weightPointerSwitch c) s = .next (t.finish k (old.foldl (fun (s : State) n => s.freeWset x.num n) u).ok)))
    ∧ (Admits s c 0x32 t k → t.saveBad k = none →
      (k.w 0 17 17 = 0 → k.w 0 16 16 = 0 → exec (.snapshotSave c) s = .next (t.finish k ((t.modPbk (fun p => { p with region := some k.region, saveAsked := some false })).accept k 0
        (fun f => { f with curtain := true }))))
      ∧ (k.w 0 17 17 = 1 → exec (.snapshotSaveRegion c) s = .next (t.finish k (t.modPbk (fun p => { p with region := some k.region })).ok)))
    ∧ (Admits s c 0x33 t k → ∀ x h, t.epBad (k.w 0 15 8) = none → t.leadCtx = some x → x.shape = some h → t.quiesced = false →
      (t.sched.begun = false ∨ x.suspended = true) → t.pbk.restoring = none → t.link.roster.isSome = true →
      let slot := k.w 0 1 0
      let xs := (if slot = 3 then [0, 1] else [slot]).map (fun n =>
        Xfer.load (k.w 0 15 8) ((k.word 1).toNat + n * t.slotBytes h.vranks) (k.w 2 31 0) (8 * 2 ^ 20) (65536 + n) k.seq 1 [] [])
      let u := (t.modPbk (fun p => { p with restoring := some slot })).modPlat (fun p => { p with xfers := p.xfers ++ xs })
      exec (.snapshotRestore c) s = .next (t.finish k (u.accept k (1000 + cdiv (h.vranks * u.objectBytes) 1000))))

/-- Tests and firmware (R473, R480, R481, R508-R513): SELF_TEST and CALIBRATE of an available Stage take it out at once, or in RUN at the Curtain; LANE_RETRAIN takes up
the retired lanes it names; a stage is accepted up to 32 MiB; ACTIVATE swaps the staged image in, ROLLBACK the previous one unless its version is too old; a
deferred command ends as its opcode's rule says.

The model's readings it rests on: log entries 11, 21. -/
def Obligations.TestAndFirmwareCommands : Prop :=
  ∀ (c : CmdSrc) (t : State) (k : Cmd) (s : State),
    let n := k.w 0 15 8
    (Admits s c 0x40 t k → k.w 0 3 0 = 1 →
      (t.stageBad n = none → t.testBusy = false → exec (.selfTest c) s = .next (t.finish k (t.beginTest k [n] 25000)))
      ∧ (t.stageBad n = none → t.testBusy = true → exec (.selfTest c) s = .next (t.finish k (t.fails 0x13)))
      ∧ (∀ st, t.stageBad n = some st → exec (.selfTest c) s = .next (t.finish k (t.fails st))))
    ∧ (Admits s c 0x41 t k → k.w 0 3 0 = 1 →
      (t.stageBad n = none → t.testBusy = false → exec (.calibrate c) s = .next (t.finish k (t.beginTest k [n] 25000)))
      ∧ (∀ st, t.stageBad n = some st → exec (.calibrate c) s = .next (t.finish k (t.fails st))))
    ∧ (Admits s c 0x42 t k → let p := k.w 0 4 0
      let ls := lanesOf (k.w 0 15 8)
      t.hasPort p = true → ls ≠ [] →
      exec (.laneRetrain c) s = .next (t.finish k ((t.startRetrain p (ls.filter (fun l => decide (t.fld .lnkPort p (15 + l) (15 + l) = 1 ∨ t.fld .lnkPort p 2 0 = 4))) false).accept k
        (200000 * ls.length))))
    ∧ (Admits s c 0x70 t k → let len := k.w 1 31 0
      (0 < len → len ≤ 2 ^ 25 → exec (.firmwareStage c) s = .next (t.finish k (t.accept k 20000000)))
      ∧ (len = 0 ∨ 2 ^ 25 < len → exec (.firmwareStage c) s = .next (t.finish k (t.fails 0x11))))
    ∧ (Admits s c 0x71 t k →
      (k.w 0 0 0 = 0 →
        (t.mayActivate = true → ∀ i, t.plat.flash.staging = some i →
          let u := t.modPlat (fun p => { p with flash := { (if p.flash.selB then { p.flash with imgA := some i } else { p.flash with imgB := some i }) with
            selB := !p.flash.selB, staging := none } })
          exec (.firmwareActivate c) s = .next (t.finish k (u.boothRestart.accept k 350000)))
        ∧ (t.mayActivate = true → t.plat.flash.staging = none → exec (.firmwareActivate c) s = .next (t.finish k (t.fails 0x21)))
        ∧ (t.mayActivate = false → exec (.firmwareActivate c) s = .next (t.finish k (t.fails 0x14))))
      ∧ (k.w 0 0 0 = 1 → t.mayActivate = true → ∀ i, t.plat.flash.other = some i →
        exec (.firmwareRollback c) s = .next (t.finish k (if t.fld .idnSvnFloor 0 15 0 ≤ bitsOf (Config.imageVersion i.bytes) 63 48
          then (t.modPlat (fun p => { p with flash := { p.flash with selB := !p.flash.selB } })).boothRestart.accept k 350000
          else t.fails 0x21))))
    ∧ (∀ (f : InFlight) (e : Ending), s.booth.inflight.find? (fun x => decide (x.src = f.src ∧ x.seq = f.seq)) = some f →
      exec (.commandDeferredComplete f.seq f.src e) s = .next (s.endFly f e))

/-- A target outside the code region, or past its end in sequence, is a fetch fault raised as the target would be fetched; the branch itself completes, CALL's
return offset written first (R110). -/
def Obligations.BadTargetsFault : Prop :=
  ∀ (p : Iss) (i : Inst) (rd ra : BitVec 5) (off : W32) (s : State), Canon s →
    let n := p.stage
    let pc := (s.stage n).prm.pc
    let a := BitVec.ofNat 64 pc + 8 * off.signExtend 64
    let f := fun (op : Nat) (x : W64) => (⟨.fetch, ⟨pc, 2, op⟩, x, none⟩ : KFault)
    (Issues s p i [] → ¬ Fetchable i a → ∃ t, exec (.br p off) s = .next (t.kernelFault n (f 1 a)) ∧ FileKept s t n ∧ Branches s t n a ∧ PrompterOnly s t n)
    ∧ (Issues s p i [rd] → ¬ Fetchable i a → (∀ e ∈ (s.stage n).prm.loops, pc < e.first ∨ e.last < pc) →
      ∃ t, exec (.call p rd off) s = .next (t.kernelFault n (f 2 a)) ∧ RegIs s t n rd (BitVec.ofNat 64 (pc + 8)) ∧ Branches s t n a ∧ PrompterOnly s t n)
    ∧ (Issues s p i [ra] → let x := (s.stage n).prm.reg ra
      ¬ Fetchable i x → ∃ t, exec (.jr p ra) s = .next (t.kernelFault n (f 3 x)) ∧ FileKept s t n ∧ Branches s t n x ∧ PrompterOnly s t n)
    ∧ (Issues s p i [] → ¬ SeqIn s n i → ∃ t, exec (.nop p) s = .next (t.kernelFault n
        (f 0 (w64 (nextPc (s.stage n).prm.pc (s.stage n).prm.loops).1))) ∧ FileKept s t n ∧ FlowsOn s t n ∧ PrompterOnly s t n)

/-- A BAR0 offset at which no register is defined, and a register of an absent block: a read returns zero and a write is discarded; neither changes anything but
what the host has read, the host's earlier writes that wait being made visible before a read (R244), and no error is raised (R5, R8). -/
def Obligations.UndefinedOffsetsReadZero : Prop :=
  ∀ (off : Nat) (half : Option Bool) (v : W64) (s : State), s.barLive = true → off % 8 = 0 → off < 2 ^ 28 →
    (findReg off = none ∨ ∃ r i, findReg off = some (r, i) ∧ r.absent i = true) →
    exec (.rcRegisterRead off half) s = .next { s.settleHost with booth := { s.settleHost.booth with readData := [0] } }
    ∧ exec (.registerWrite off half v) s = .next s

/-- A register of the tables: a read gives its value, once the host's earlier writes that wait are visible, but for the bits of write-only fields, and takes
the RC fields' bits read to zero (the free counter may move on: the next read of STG_SNR_STATUS is free again, log entry 10); a write of a register with
no rule of its own changes the RW bits the access covers, and clears the W1C bits written with 1 (R7, R9, R10).

The model's readings it rests on: log entry 23. -/
def Obligations.RegistersReadAndWrite : Prop :=
  ∀ (off i : Nat) (r : Reg) (half : Option Bool) (v : W64) (s : State), Canon s → s.barLive = true → s.booting = false → off % 8 = 0 → off < 2 ^ 28 →
    findReg off = some (r, i) → r.absent i = false →
    let lanes : W64 := match half with | none => BitVec.allOnes 64 | some false => 0xFFFFFFFF | some true => 0xFFFFFFFF00000000
    let mask := fun (a : Acc) => w64 (accMask r.desc.fields (fun b => decide (b = a)))
    let u := s.settleHost
    let seen := u.view r i &&& w64 (accMask r.desc.fields (fun a => decide (a ≠ .wo)))
    (r ≠ .belF2hData → Canon u → u.booting = false → ∃ t, exec (.rcRegisterRead off half) s = .next t
      ∧ t.booth = { u.booth with readData := [match half with | none => seen | some false => seen &&& 0xFFFFFFFF | some true => seen >>> 32] }
      ∧ t.rd r i = u.rd r i &&& ~~~(mask .rc &&& lanes) ∧ (∀ k, k ≠ r.off i → mget 0 t.regs k = mget 0 u.regs k)
      ∧ { t with regs := u.regs, booth := u.booth, freeCtr := u.freeCtr } = u)
    ∧ (r ∈ ([.pciBar2Base, .bthPinCfg, .bthGpio, .smgTqSel, .wngScrub, .hbmScrub, .hbmRepairCfg, .belOvrHost, .belOvrP2f, .belOvrF2p, .belOvrLo, .stgFault] : List Reg) → r.outOfRange (masked (s.rd r i) lanes
          (match half with | some true => v <<< 32 | _ => v)) = 0 →
      ∃ t, exec (.registerWrite off half v) s = .next t
        ∧ (let x := match half with | some true => v <<< 32 | _ => v
          let m := mask .rw &&& lanes
          t.rd r i = (((s.rd r i &&& ~~~m) ||| (x &&& m)) &&& ~~~(mask .w1c &&& lanes &&& x)))
        ∧ (∀ k, k ≠ r.off i → mget 0 t.regs k = mget 0 s.regs k) ∧ { t with regs := s.regs } = s)

/-- Command slots and rings (R188, R457, R458, R461, R488, R489, R496, R517, R559, R563): a doorbell moves the head of an enabled slot, stops it with an error where
it names no entry, and does nothing to a disabled one; EN starts and ends a slot, the event queue, the Tally ring, an endpoint; a completion not yet signalled
raises its vector when it is old enough; writing 1 to LAST_TRIP clears it.

Host Bells (R489, R491, R494, R499): a word the host writes is kept in a clear Bell and lost with an overrun flag in a FULL one; Uzokel takes it, vector
66 is raised, and Bell 0's word comes back through F2H Bell 0; the host's read of an F2H Bell gives its word and clears it; a word of a Prompter is taken into
the event log.

The model's readings it rests on: log entry 23. -/
def Obligations.SlotsRingsAndHostBells : Prop :=
  (∀ (s : State), s.barLive = true →
    (∀ (k : Nat) (h : BitVec 16), k < 64 →
      (s.fld .bthSlotCfg k 0 0 = 1 → h.toNat < s.sqSize k → exec (.doorbell k h) s = .next (s.setSlot k { s.slot k with head := h.toNat }))
      ∧ (s.fld .bthSlotCfg k 0 0 = 1 → s.sqSize k ≤ h.toNat → exec (.doorbell k h) s = .next (s.slotError k 1))
      ∧ (s.fld .bthSlotCfg k 0 0 = 0 → exec (.doorbell k h) s = .next s))
    ∧ (∀ (k : Nat) (v : W64), k < 64 →
      (s.fld .bthSlotCfg k 0 0 = 0 → v.getLsbD 0 = true → exec (.slotEnable k v) s = .next (s.enableSlot k (BitVec.allOnes 64) v))
      ∧ (s.fld .bthSlotCfg k 0 0 = 1 →
        exec (.slotDisable k) s = .next (s.disableSlot k (BitVec.allOnes 64) (s.rd .bthSlotCfg k &&& ~~~1)))
      ∧ (s.fld .bthCqIrq k 0 0 = 1 → s.fld .bthCqIrq k 23 9 ≠ 0 → 0 < (s.slot k).unsignalled →
        exec (.cqCoalesceTimer k) s = .next ((s.setSlot k { s.slot k with unsignalled := 0 }).msi k)))
    ∧ (s.booting = false → ∀ (v : W64), v.getLsbD 0 = true →
      (s.fld .bthEvqCfg 0 0 0 = 0 → exec (.evqEnable v) s = .next (s.writeEvqCfg (BitVec.allOnes 64) v))
      ∧ (s.fld .tlyCtrl 0 0 0 = 0 → exec (.tlyRingEnable v) s = .next (s.writeTlyCtrl (BitVec.allOnes 64) v))
      ∧ ∀ i, i < 256 → Reg.absent .ethEpCfg i = false →
        (s.fld .ethEpCfg i 0 0 = 0 → exec (.endpointEnable i v) s = .next (s.enableEp i (BitVec.allOnes 64) v))
        ∧ (s.fld .ethEpCfg i 0 0 = 1 → exec (.endpointDisable i) s = .next (s.disableEp i (BitVec.allOnes 64) (s.rd .ethEpCfg i &&& ~~~1))))
    ∧ exec .lastTripClear s = .next { s with plat := { s.plat with flash := { s.plat.flash with trip := false } } })
  ∧ (∀ (s : State),
    (∀ (i : Nat) (w : W64), i < 16 → s.barLive = true → s.booting = false →
      let b := mget Bell.clear s.booth.bellH2F i
      (b.full = false → exec (.h2fBellWrite i w) s = .next { s with booth := { s.booth with
        bellH2F := mset Bell.clear s.booth.bellH2F i ⟨true, w⟩, lastH2F := mset 0 s.booth.lastH2F i w } })
      ∧ (b.full = true → exec (.h2fBellWrite i w) s = .next (s.setFlag .belOvrHost i))
      ∧ (let u := s.settleHost
        u.booting = false → exec (.f2hBellRead i) s = .next { u with booth := { u.booth with
          readData := [(mget Bell.clear u.booth.bellF2H i).word], bellF2H := mset Bell.clear u.booth.bellF2H i Bell.clear } }))
    ∧ (∀ i, i < 16 → s.taking = true → (mget Bell.clear s.booth.bellH2F i).full = true →
      let u := (s.modBooth (fun x => { x with bellH2F := mset Bell.clear x.bellH2F i Bell.clear })).msi 66
      (i ≠ 0 → exec (.h2fBellTake i) s = .next u)
      ∧ (i = 0 → (mget Bell.clear s.booth.bellF2H 0).full = false →
        exec (.h2fBellTake i) s = .next ((u.modBooth (fun x => { x with
          bellF2H := mset Bell.clear x.bellF2H 0 ⟨true, (mget Bell.clear s.booth.bellH2F 0).word⟩ })).msi 65)))
    ∧ (∀ n, n < 144 → s.taking = true →
      (s.fld .bthEvqCfg 0 0 0 = 0 ∨ (s.fld .bthEvqHead 0 15 0 + 1) % 2 ^ s.fld .bthEvqCfg 0 7 3 ≠ s.fld .bthEvqTail 0 15 0 % 2 ^ s.fld .bthEvqCfg 0 7 3) →
      exec (.p2fBellTake n) s = .next (s.takeP2f n)))

/-- The boot (R338, R500, R501, R504-R509, R514, R546, R547): PWRGOOD rising is a power-on reset, which keeps the repair log and the boot flash and begins the boot unless
PERST_N is asserted; its fall leaves the device off; PERST_N resets a device that has power warm, its event log kept, and holds it, and the boot begins as it
is deasserted. A boot ROM phase with a rail out of its window, a reference clock absent or bad fuses enters FAULT with cause 9; firmware authentication runs the
active image, or else the previous one, which it makes active, and without an image that passes is FAULT with cause 7; a bad Stage is retired with cause 1, fewer
than 32 left are FAULT with cause 3, a bad shared memory with cause 8. Each phase's end starts the next, the stack, link and Ethernet phases side by side: a channel
that fails is retired, a port with four lanes and one partner comes up, any other stays down; the last phase leaves READY. An Ethernet port that is down tries again.

The model's readings it rests on: log entries 7, 11, 12, 21. -/
def Obligations.TheBoot : Prop :=
  ∀ (s : State),
    (∀ ok, s.plat.pwrgood = false →
      let u := ({ s with plat := { s.plat with pwrgood := true, railsOk := ok } } : State).powerReset
      exec (.pwrgoodRise ok) s = .next u ∧ u.plat.dev = (if s.plat.perst then .off else .boot) ∧ u.plat.phase = (if s.plat.perst then [] else [1])
        ∧ u.plat.pwrgood = true ∧ u.plat.railsOk = ok ∧ u.booth.log = [] ∧ u.stages = [] ∧ u.sched.ctxs = [] ∧ u.mem.log = s.mem.log
        ∧ u.plat.flash = s.plat.flash)
    ∧ (Canon s → s.plat.pwrgood = true → ∃ t, exec .pwrgoodFall s = .next t ∧ t.plat.dev = .off ∧ t.plat.pwrgood = false ∧ t.stages = [] ∧ t.sched.ctxs = []
        ∧ t.plat.cclkStopped = true ∧ t.plat.selfRefresh = true ∧ t.plat.txStopped = true ∧ t.plat.thermTrip = false ∧ t.plat.faultN = s.plat.faultN
        ∧ t.booth.log = [] ∧ t.mem.log = s.mem.log ∧ t.plat.flash = s.plat.flash ∧ t.rd .idnSvnFloor 0 = s.rd .idnSvnFloor 0)
    ∧ (s.plat.perst = false →
      let v : State := { s with plat := { s.plat with perst := true } }
      (s.plat.dev ≠ .off → let u := v.warmReset 1
        exec .perstAssert s = .next u ∧ u.plat.dev = .boot ∧ u.plat.phase = [] ∧ u.plat.perst = true ∧ u.plat.resetCause = 1 ∧ u.stages = [] ∧ u.sched.ctxs = []
          ∧ u.mem.log = s.mem.log ∧ u.plat.flash = s.plat.flash ∧ (1 ∉ s.plat.phase → u.booth.log = s.booth.log))
      ∧ (s.plat.dev = .off → exec .perstAssert s = .next v))
    ∧ (s.plat.perst = true →
      (s.plat.pwrgood = true → exec .perstDeassert s = .next ({ s with plat := { s.plat with
        perst := false, dev := .boot, phase := [1], phaseStart := [(1, s.now)] } }))
      ∧ (s.plat.pwrgood = false → exec .perstDeassert s = .next { s with plat := { s.plat with perst := false } }))
    ∧ (s.inPhase 1 = true → ∀ pll fuse,
      ((pll && fuse && s.plat.railsOk) = true → exec (.bootRomDone pll fuse) s =
        .next ((((s.endPhase 1).setFld .clkPllStatus 0 24 0 0x1FFFFFF).setFld .pciLink 0 8 0 (6 + 16 * 2 ^ 3 + 2 ^ 8)).beginPhase 2))
      ∧ ((pll && fuse && s.plat.railsOk) = false → exec (.bootRomDone pll fuse) s = .next (s.romStart.enterFault 9)))
    ∧ (s.inPhase 2 = true →
      let passes := fun (x : Option Image) => x.any s.imagePasses
      let run := fun (u : State) => ((u.endPhase 2).modPlat (fun p => { p with dev := .test, runFw := imageVer p.flash.active })).beginPhase 3
      exec .firmwareAuthDone s = .next (if passes s.plat.flash.active then run s
        else if passes s.plat.flash.other then run (s.modPlat (fun p => { p with
          flash := { p.flash with selB := !p.flash.selB }, bootEvents := p.bootEvents ++ [(2, 0)] }))
        else s.enterFault 7))
    ∧ (let left := fun (bad : List Nat) (k : Nat) (next : List Nat) =>
        let u := bad.foldl State.bootRetire s
        if u.availCount < 32 then u.enterFault 3 else next.foldl State.beginPhase (u.endPhase k)
      (s.inPhase 3 = true → ∀ bad, exec (.sramTestDone bad true) s = .next (left bad 3 [4]) ∧ exec (.sramTestDone bad false) s = .next (s.enterFault 8))
      ∧ (s.inPhase 4 = true → ∀ bad, exec (.stageTestDone bad) s = .next (left bad 4 [5, 6, 7]))
      ∧ ∀ n, Config.stageFused n = true → (∀ r ∈ s.sched.retired, r.1 ≠ n) → (s.bootRetire n).sched.retired = s.sched.retired ++ [(n, 1)])
    ∧ (s.inPhase 5 = true → ∀ chans pages serials, ∃ t : State, exec (.stackTrainingDone chans pages serials) s = .next (t.endParallel 5)
        ∧ t.mem.retiredChans = (List.range (pcCount / 2)).filter (fun c => chans.contains c)
        ∧ (∀ g, g ∈ t.mem.retiredPages ↔ g ∈ pages ∧ ∃ r ∈ s.mem.log, r.kind = 3 ∧ r.row = g)
        ∧ (chans = [] → t.mem.log = s.mem.log) ∧ t.mem.remaps = remapsLeft t.mem.log ∧ t.plat.phase = s.plat.phase ∧ t.stages = s.stages)
    ∧ (s.inPhase 6 = true → ∀ lanes partners, exec (.linkTrainingDone lanes partners) s =
        .next (((List.range 24).foldl (fun t n => if s.hasPort n then t.trainPort n (lanes.getD n 0) (partners.getD n none) else t) s).endParallel 6))
    ∧ (Canon s → ∀ n m x, n < 24 → let t := s.trainPort n m x
        (4 ≤ popLanes m → x ≠ none → t.fld .lnkPort n 2 0 = 2) ∧ (popLanes m < 4 ∨ x = none → t.fld .lnkPort n 2 0 = 4))
    ∧ (s.inPhase 7 = true → ∀ up : BitVec 4, exec (.ethTimeDone up) s = .next ((if s.hasEth then
        (List.range 4).foldl (fun (t : State) e => t.setFld .ethPort e 1 0 (if up.getLsbD e then 2 else 0)) s else s).endParallel 7))
    ∧ (∀ k, (∀ x ∈ s.plat.phase, x = k) → (s.endParallel k).plat.phase = [8])
    ∧ (s.inPhase 8 = true →
      let u := (s.endPhase 8).modPlat (fun p => { p with dev := .ready })
      let v := match s.plat.flash.active with | some i => u.runImage i | none => u
      ∃ t, exec .serviceStartDone s = .next t ∧ t.plat.dev = .ready ∧ t.plat.bootEvents = []
        ∧ t = (s.plat.bootEvents.foldl State.bootPost v).modPlat (fun p => { p with bootEvents := [] }))
    ∧ (∀ e ok, e < 4 → s.fld .ethPort e 1 0 = 0 → s.hasEth = true → s.plat.dev ≠ .off → s.booting = false →
        exec (.ethPortRetrain e ok) s = .next (s.setFld .ethPort e 1 0 (if ok then 2 else 0)))

/-- Power, heat and clocks (R524-R530, R536, R550, R555): a Dimmer sample is shown and counted, the clock set by it, and SAFE entered where a condition of R528 holds;
SAFE is left after 10 s without one; a thermal trip stops the clock, refreshes the stacks, turns the transmitters off and drives THERMTRIP_N until PWRGOOD falls; a
regulator alert posts its event, a droop counts its edges, each PLL's loss takes down what it clocks, PCIe going down is handled as a change of the link.

The model's readings it rests on: log entries 12, 24. -/
def Obligations.PowerHeatAndClocks : Prop :=
  ∀ (s : State), s.live = true →
    (∀ x : PowerSample,
      let u := (s.showSample x).countSafe x
      let u := if u.plat.cclkStopped then u else (u.dim x).dimmerTime
      let c := u.safeCond x
      let v := u.setFld .pwrStatus 0 32 32 (bit01 c.isSome)
      let calm := decide (x.junction < 105 ∧ stackMax x < 100) && (List.range 7).all (fun r => !v.railOut x r)
      let w : State := { v with plat := { v.plat with safeClear := if calm then v.plat.safeClear + 1 else 0 } }
      (c = none → exec (.dimmerSample x) s = .next w)
      ∧ ∀ cause unit reading, c = some (cause, unit, reading) → exec (.dimmerSample x) s = .next (w.enterSafe cause unit reading))
    ∧ (s.plat.dev = .safe → 1000000 ≤ s.plat.safeClear →
        exec .safeExit s = .next ((s.modPlat (fun p => { p with dev := .ready, cclkStopped := false, selfRefresh := false, safeCause := 0 })).setFld
          .pwrStatus 0 32 32 0))
    ∧ (∃ t, exec .thermalTrip s = .next t ∧ t.plat.cclkStopped = true ∧ t.plat.selfRefresh = true ∧ t.plat.txStopped = true ∧ t.plat.thermTrip = true
        ∧ t.plat.faultN = true)
    ∧ (∀ reg status mv, reg < 7 → status ≠ 0 → exec (.vrAlert reg status mv) s = .next (s.post 0x0051 1 none [w64 (0x40 + reg), w64 status.toNat, w64 mv]))
    ∧ (∀ field edges, Canon s → field < 4 → s.plat.cclkStopped = false → ∃ t, exec (.droopDetect field edges) s = .next t
        ∧ t.rd .pwrDroop 0 = s.rd .pwrDroop 0 + BitVec.ofNat 64 edges ∧ (∀ k, k ≠ Reg.off .pwrDroop 0 → mget 0 t.regs k = mget 0 s.regs k)
        ∧ { t with regs := s.regs } = s)
    ∧ exec .pcieLinkDown s = .next s.pcieDown
    ∧ (∀ n, n < 25 → let u := s.setFld .clkPllStatus 0 n n 0
        (n = 0 ∨ n = 1 ∨ n = 14 → exec (.pllLockLoss n) s = .next (u.enterFault 9))
        ∧ (2 ≤ n → n < 14 → exec (.pllLockLoss n) s = .next (u.loseStack (n - 2)))
        ∧ (n = 15 → exec (.pllLockLoss n) s = .next u)
        ∧ (16 ≤ n → n < 20 → exec (.pllLockLoss n) s = .next (((List.range 24).filter (fun k => decide (k / 6 = n - 16))).foldl State.portDown u))
        ∧ (n = 20 → exec (.pllLockLoss n) s = .next u.pcieDown)
        ∧ (21 ≤ n → exec (.pllLockLoss n) s = .next (u.setFld .ethPort (n - 21) 1 0 0)))

/-- Time (R522, R523, R552): an edge of PPS_IN that is wide enough and not early disciplines TCLK to the second that was set, the next one counted on; a PTP message
disciplines it by its offset less the path delay, which a delay response gives; ten seconds without a reference is holdover.

The management port, the recovery port and the TAP (R511, R565-R568): sensors are sampled and report a change of their level to the receiver that was set; the recovery
target gives its identity and status, takes up to 256 bytes at a time into its 32 MiB and, in FAULT with cause 7, puts an image that passes into area A and resets; each
JTAG instruction selects its register and what drives the pins.

The model's readings it rests on: log entries 11, 12, 25. -/
def Obligations.TimeManagementAndTap : Prop :=
  (∀ (s : State), s.live = true →
    (s.timeSrc = 2 → (∀ t, s.plat.time.lastEdge = some t → 900000000 ≤ (s.now - t).toNat) →
      (∀ k, s.plat.time.setSec = some k →
        let u := (s.discipline ((s.now.toNat : Int) - (k.toNat * 1000000000 : Nat)) 3).modTime (fun t => { t with setSec := some (k + 1) })
        u.plat.time.setSec.isSome = true → exec (.ppsEdge true) s = .next (u.modTime (fun t => { t with lastEdge := some u.now })))
      ∧ (s.plat.time.setSec = none → exec (.ppsEdge true) s = .next (s.modTime (fun t => { t with lastEdge := some s.now }))))
    ∧ exec (.ppsEdge false) s = .next s
    ∧ (s.timeSrc = 1 →
      (∀ offset, let u := s.discipline (offset - s.plat.time.delay) 16
        exec (.ptpSync offset) s = .next (u.modTime (fun t => { t with lastEdge := some u.now })))
      ∧ (∀ delay, exec (.delayResp delay) s = .next { s with plat := { s.plat with time := { s.plat.time with delay := delay } } }))
    ∧ (s.timeSrc = 1 ∨ s.timeSrc = 2 → ∀ t, s.plat.time.lastEdge = some t → 10000000000 ≤ (s.now - t).toNat →
        exec .timeHoldover s = .next ((s.setFld .clkTimeStatus 0 1 0 3).modTime (fun t => { t with good := 0, slew := 0 }))))
  ∧ (∀ (s : State),
    (s.managed = true →
      (s.plat.ports.sensors = [] ∨ s.plat.ports.eventReceiver = 0 →
        exec .sensorSample s = .next { s with plat := { s.plat with ports := { s.plat.ports with sensors := s.sensorValues } } })
      ∧ ∀ eid, exec (.setEventReceiver eid) s = .next { s with plat := { s.plat with ports := { s.plat.ports with eventReceiver := eid } } })
    ∧ (s.barLive = true → ∀ eid, exec (.setEndpointId eid) s = .next { s with plat := { s.plat with ports := { s.plat.ports with mctpEid := eid } } })
    ∧ (s.plat.dev ≠ .off →
      (∃ t, exec .readId s = .next t ∧ t.plat.ports.spiOut = (leBytes 8 (s.rd .idnDevid).toNat).reverse
        ∧ { t with plat := { t.plat with ports := { t.plat.ports with spiOut := s.plat.ports.spiOut } } } = s)
      ∧ ∃ t, exec .status s = .next t ∧ t.plat.ports.spiOut = [BitVec.ofNat 8 (s.plat.ports.spiStatus + if s.recovering then 8 else 0)]
        ∧ { t with plat := { t.plat with ports := { t.plat.ports with spiOut := s.plat.ports.spiOut } } } = s)
    ∧ (s.recovering = true →
      (∀ (off : W32) (data : List Byte), data ≠ [] → data.length ≤ 256 →
        (2 ^ 25 < off.toNat + data.length → exec (.write off data) s =
          .next (s.modPorts (fun p => { p with spiStatus := p.spiStatus ||| 4 })))
        ∧ (off.toNat + data.length ≤ 2 ^ 25 → exec (.write off data) s = .next (s.modPorts (fun p => { p with
            spiBuf := msetRun 0 p.spiBuf off.toNat data, spiLen := Nat.max p.spiLen (off.toNat + data.length)
            spiStatus := if off = 0 then p.spiStatus &&& 3 else p.spiStatus }))))
      ∧ (let i : Image := ⟨mgetRun 0 s.plat.ports.spiBuf 0 s.plat.ports.spiLen⟩
        if s.imagePasses i then ∃ (cause : Nat) (u : State), u.plat.flash = { s.plat.flash with imgA := some i, selB := false }
          ∧ { u with plat := s.plat, freeCtr := s.freeCtr } = s
          ∧ exec .check s = .next ((u.warmReset cause).modPorts (fun p => { p with spiStatus := 2 }))
        else exec .check s = .next (s.modPorts (fun p => { p with spiBuf := [], spiLen := 0, spiStatus := 4 }))))
    ∧ (s.plat.pwrgood = true →
      let tap := fun (code : Nat) (driven high : Bool) (o : Host.Outcome State Fault Refusal) => ∃ t, o = .next t
        ∧ t.plat.ports.jtagInstr = code ∧ t.plat.ports.jtagDriven = driven ∧ t.plat.ports.jtagHigh = high
        ∧ t.regs = s.regs ∧ t.stages = s.stages ∧ t.mem = s.mem ∧ t.booth = s.booth ∧ t.link = s.link ∧ t.sched = s.sched ∧ t.pbk = s.pbk
      tap 3 false false (exec .bypass s) ∧ tap 2 false false (exec .idcode s) ∧ (∀ v, tap 1 false false (exec (.samplePreload v) s))
      ∧ tap 0 true false (exec .extest s) ∧ tap 4 true false (exec .clamp s) ∧ tap 5 false true (exec .highz s)))

/-- A step takes the command at the front of the queue and performs it with the queue's rest; with no command waiting the device ticks: the next Prompter that
can issue fetches its instruction, whose word, if it spells one, joins the queue (R95, R110; the model's choice, log entry 3). -/
def Obligations.StepRunsTheFrontCommand : Prop :=
  ∀ (s : State),
    (∀ (c : Instr) (rest : List Instr), s.pending = c :: rest → step s = exec c { s with pending := rest })
    ∧ (s.pending = [] → step s = .next (tick s))
    ∧ (s.pending = [] → ∀ (n : Nat) (i : Inst) (c : Instr), s.nextStage = some (n, i) →
        let a := i.codeBase + (s.stage n).prm.pc
        CleanApron (s.stage n) a 8 → Canon s → decodeKernel n (BitVec.ofNat 64 (apNumber s n a 8)) = .ok c →
        ∃ t, step s = .next t ∧ t.pending = [c] ∧ t.turn = n + 1 ∧ t.regs = s.regs ∧ ∀ k, t.stage k = s.stage k)

/-- Every well-formed command completes: it answers a next state, never a fault or a refusal. -/
def Obligations.WellFormedCommandsComplete : Prop :=  ∀ (c : Instr) (s : State), c.wf = true → ∃ t, exec c s = .next t

/-- Decoding undoes encoding (R99, R106-R117, R120, R131, R156, R160, R161): every well-formed instruction of the Prompter, with any operands and any guard, is
the one its word spells at its Stage. -/
def Obligations.DecodingUndoesEncoding : Prop :=
  ∀ (c : Instr) (w : W64), c.wf = true → encodeKernel c = some w → ∃ n, decodeKernel n w = .ok c

/-- Words written out from the tables spell the instructions they stand for (R95, R99, R106, R107, R109, R113, R115, R117, R120, R131, R156, R160); a word of a
reserved class is no instruction (R101), nor is a VTLYC whose row range ends past row 63 (R161). -/
def Obligations.WordsDecodeRight : Prop :=
  ∀ n : Nat, let p : Iss := ⟨n, false, false, 0⟩
    decodeKernel n 0x00000C2200000000 = .ok (.add p 3 1 2)
    ∧ decodeKernel n 0x000D8C2200000000 = .ok (.add ⟨n, true, true, 3⟩ 3 1 2)
    ∧ decodeKernel n 0x10801400FFFFFFFF = .ok (.movi p 5 0xFFFFFFFF)
    ∧ decodeKernel n 0x20100000FFFFFFFF = .ok (.br p 0xFFFFFFFF)
    ∧ decodeKernel n 0x30B01D0000000010 = .ok (.std p 7 8 16)
    ∧ decodeKernel n 0x402006707803C000 = .ok (.mma p ⟨false, 1, true, 7, 0, 0xF, 0, false, 15, 0⟩)
    ∧ decodeKernel n 0x5000089000000000 = .ok (.drain p 2 9)
    ∧ decodeKernel n 0x6000091808280000 = .ok (.vadd p ⟨1, 2, 3, 0, 4, 5, 0, false⟩)
    ∧ decodeKernel n 0x7000120000000000 = .ok (.vpop p 2 1)
    ∧ decodeKernel n 0x80D000000000C040 = .ok (.vtlyc p 3 4)
    ∧ decodeKernel n 0x80D000007E08C040 = .error (.rowRange 0x8 0x0D)
    ∧ decodeKernel n 0x90000A6800000000 = .ok (.dmov p ⟨5, 6, true⟩)
    ∧ decodeKernel n 0xA0000E2012348000 = .ok (.semsig p 7 2 0x1234 true)
    ∧ (∀ w : W64, 0xB000000000000000 ≤ w → decodeKernel n w = .error (.reservedClass (w.toNat / 2 ^ 60)))

/-- The one form of State (the stored registers, the Stages, each Prompter's registers, each Apron, the semaphores) is kept by every step that runs an instruction of
class 0x0 or 0x1, whatever its operands, its guard and the state of its Prompter, as long as sequential flow stays in the code region; such a step always completes, and
leaves the loops of that Prompter no more numerous. -/
def Obligations.ScalarStepsKeepTheForm : Prop :=
  ∀ (p : Iss) (rd ra rb : BitVec 5) (pd qa qb : BitVec 3) (imm : W32) (rest : List Instr) (s : State), p.stage < 144 → Canon s →
    (∀ i, (s.stage p.stage).inst = some i → SeqIn s p.stage i) →
    ∀ c ∈ ([.add p rd ra rb, .sub p rd ra rb, .mul p rd ra rb, .mulh p rd ra rb, .mulhu p rd ra rb, .divu p rd ra rb, .remu p rd ra rb, .div p rd ra rb,
        .rem p rd ra rb, .and p rd ra rb, .or p rd ra rb, .xor p rd ra rb, .shl p rd ra rb, .shr p rd ra rb, .sra p rd ra rb, .clz p rd ra, .popc p rd ra,
        .min p rd ra rb, .max p rd ra rb, .minu p rd ra rb, .maxu p rd ra rb, .sel p rd ra rb qa, .ceq p pd ra rb, .cne p pd ra rb, .clt p pd ra rb,
        .cle p pd ra rb, .cltu p pd ra rb, .cleu p pd ra rb, .pand p pd qa qb, .por p pd qa qb, .pxor p pd qa qb, .pnot p pd qa, .prd p rd, .pwr p ra,
        .addi p rd ra imm, .andi p rd ra imm, .ori p rd ra imm, .xori p rd ra imm, .shli p rd ra imm, .shri p rd ra imm, .srai p rd ra imm, .movi p rd imm,
        .movhi p rd imm, .ceqi p pd ra imm, .cnei p pd ra imm, .clti p pd ra imm, .clei p pd ra imm, .cltui p pd ra imm, .cleui p pd ra imm] : List Instr),
      s.pending = c :: rest → ∃ t, step s = .next t ∧ Canon t ∧ t.pending = rest ∧ (t.stage p.stage).prm.loops.length ≤ (s.stage p.stage).prm.loops.length

/-- What a power-on reset with PERST_N deasserted leaves (R10, R501, R504, R506): BOOT in the boot ROM phase, no command waiting, every register at the value of its
table, no kernel, no context, no Roster, an empty event log, every pin of a fault released, in the one form of State.

The model's readings it rests on: log entries 5, 6, 7. -/
def Obligations.ResetLeavesTheDevice : Prop :=
  Canon State.reset ∧ State.reset.pending = [] ∧ (∀ r i, State.reset.rd r i = regReset r i) ∧ (∀ n, (State.reset.stage n).inst = none)
    ∧ State.reset.plat.dev = .boot ∧ State.reset.plat.phase = [1] ∧ State.reset.sched.ctxs = [] ∧ State.reset.link.roster = none
    ∧ State.reset.booth.log = [] ∧ State.reset.plat.faultN = false ∧ State.reset.plat.thermTrip = false ∧ State.reset.mem.lines = []
end

