-- ==== Sys2Proof/Laws/Map.lean ====
section
/-! SUPPORT. The operations over sparse data, once: writes keep the canonical form, a read after a write gives what was written, and every
other key reads as before. -/

namespace Sys2Proof.Machine

variable {α : Type} [DecidableEq α] {d : α}

theorem mwfFrom_mono {m : SMap α} {lo lo' : Nat} (h : mwfFrom d lo m = true) (hl : lo' ≤ lo) : mwfFrom d lo' m = true := by
  cases m with
  | nil => rfl
  | cons e t =>
    obtain ⟨j, v⟩ := e
    simp only [mwfFrom, Bool.and_eq_true, decide_eq_true_eq] at h ⊢
    exact ⟨⟨by omega, h.1.2⟩, h.2⟩

/-- A key below every listed one reads as the default. -/
theorem mget_of_lt {m : SMap α} {lo k : Nat} (h : mwfFrom d lo m = true) (hk : k < lo) : mget d m k = d := by
  induction m generalizing lo with
  | nil => rfl
  | cons e t ih =>
    obtain ⟨j, v⟩ := e
    simp only [mwfFrom, Bool.and_eq_true, decide_eq_true_eq] at h
    have hj : j ≠ k := by omega
    simp only [mget, hj, if_false]
    exact ih h.2 (by omega)

theorem mset_wfFrom {m : SMap α} {lo k : Nat} {v : α} (h : mwfFrom d lo m = true) (hk : lo ≤ k) : mwfFrom d lo (mset d m k v) = true := by
  induction m generalizing lo with
  | nil =>
    by_cases hv : v = d <;> simp [mset, mwfFrom, hv, hk]
  | cons e t ih =>
    obtain ⟨j, w⟩ := e
    have h0 := h
    simp only [mwfFrom, Bool.and_eq_true, decide_eq_true_eq] at h
    unfold mset
    split
    · next hlt =>
      split
      · exact h0
      · next hv =>
        simp only [mwfFrom, Bool.and_eq_true, decide_eq_true_eq]
        exact ⟨⟨hk, hv⟩, ⟨⟨by omega, h.1.2⟩, h.2⟩⟩
    · split
      · next heq =>
        split
        · exact mwfFrom_mono h.2 (by omega)
        · next hv =>
          subst heq
          simp only [mwfFrom, Bool.and_eq_true, decide_eq_true_eq]
          exact ⟨⟨hk, hv⟩, h.2⟩
      · simp only [mwfFrom, Bool.and_eq_true, decide_eq_true_eq]
        exact ⟨h.1, ih h.2 (by omega)⟩

/-- A write keeps the canonical form. -/
theorem mset_wf {m : SMap α} {k : Nat} {v : α} (h : mwf d m = true) : mwf d (mset d m k v) = true :=
  mset_wfFrom h (Nat.zero_le k)

/-- A write leaves every other key alone, canonical or not. -/
theorem mget_mset_ne (m : SMap α) {k j : Nat} (v : α) (h : j ≠ k) : mget d (mset d m k v) j = mget d m j := by
  induction m with
  | nil =>
    unfold mset
    split
    · rfl
    · simp [mget, Ne.symm h]
  | cons e t ih =>
    obtain ⟨a, w⟩ := e
    unfold mset
    split
    · split
      · rfl
      · simp [mget, Ne.symm h]
    · split
      · next heq =>
        subst heq
        split <;> simp [mget, Ne.symm h]
      · simp only [mget]
        split
        · rfl
        · exact ih

/-- A read after a write gives what was written. -/
theorem mget_mset_same {m : SMap α} (k : Nat) (v : α) (h : mwf d m = true) : mget d (mset d m k v) k = v := by
  suffices H : ∀ lo, mwfFrom d lo m = true → mget d (mset d m k v) k = v from H 0 h
  clear h
  induction m with
  | nil =>
    intro lo _
    by_cases hv : v = d <;> simp [mset, mget, hv]
  | cons e t ih =>
    intro lo h
    obtain ⟨j, w⟩ := e
    have h0 := h
    simp only [mwfFrom, Bool.and_eq_true, decide_eq_true_eq] at h
    unfold mset
    split
    · next hlt =>
      split
      · next hv =>
        subst hv
        have hj : j ≠ k := by omega
        simp only [mget, hj, if_false]
        exact mget_of_lt h.2 (by omega)
      · simp [mget]
    · split
      · next heq =>
        subst heq
        split
        · next hv => subst hv; exact mget_of_lt h.2 (by omega)
        · simp [mget]
      · next hne => simp only [mget, Ne.symm hne, if_false]; exact ih (j + 1) h.2

theorem mget_mset {m : SMap α} (k j : Nat) (v : α) (h : mwf d m = true) : mget d (mset d m k v) j = if j = k then v else mget d m j := by
  split
  · next e => subst e; exact mget_mset_same j v h
  · next e => exact mget_mset_ne m v e

theorem mwfFrom_filter {m : SMap α} {lo : Nat} (p : Nat × α → Bool) (h : mwfFrom d lo m = true) : mwfFrom d lo (m.filter p) = true := by
  induction m generalizing lo with
  | nil => rfl
  | cons e t ih =>
    obtain ⟨j, v⟩ := e
    simp only [mwfFrom, Bool.and_eq_true, decide_eq_true_eq] at h
    simp only [List.filter_cons]
    split
    · simp only [mwfFrom, Bool.and_eq_true, decide_eq_true_eq]
      exact ⟨h.1, ih h.2⟩
    · exact mwfFrom_mono (ih h.2) (by omega)

/-- Dropping a range keeps the canonical form. -/
theorem mdrop_wf {m : SMap α} (lo hi : Nat) (h : mwf d m = true) : mwf d (mdrop m lo hi) = true := mwfFrom_filter _ h

theorem mlist_wfFrom (k : Nat) (vs : List α) : mwfFrom d k (mlist d k vs) = true := by
  induction vs generalizing k with
  | nil => rfl
  | cons v t ih =>
    unfold mlist
    split
    · exact mwfFrom_mono (ih (k + 1)) (by omega)
    · next hv =>
      simp only [mwfFrom, Bool.and_eq_true, decide_eq_true_eq]
      exact ⟨⟨Nat.le_refl k, hv⟩, ih (k + 1)⟩

theorem mwfFrom_append {a b : SMap α} {lo k : Nat} (ha : mwfFrom d lo a = true) (hk : ∀ e ∈ a, e.1 < k) (hl : lo ≤ k)
    (hb : mwfFrom d k b = true) : mwfFrom d lo (a ++ b) = true := by
  induction a generalizing lo with
  | nil => exact mwfFrom_mono hb hl
  | cons e t ih =>
    obtain ⟨j, v⟩ := e
    simp only [mwfFrom, Bool.and_eq_true, decide_eq_true_eq, List.cons_append] at ha ⊢
    have hj : j < k := hk (j, v) (by simp)
    exact ⟨ha.1, ih ha.2 (fun e he => hk e (by simp [he])) (by omega)⟩

theorem mlist_keys_lt (k : Nat) (vs : List α) : ∀ e ∈ mlist d k vs, e.1 < k + vs.length := by
  induction vs generalizing k with
  | nil => intro e he; simp [mlist] at he
  | cons v t ih =>
    intro e he
    simp only [mlist] at he
    split at he
    · have := ih (k + 1) e he; simp only [List.length_cons]; omega
    · simp only [List.mem_cons] at he
      rcases he with rfl | he
      · simp only [List.length_cons]; omega
      · have := ih (k + 1) e he; simp only [List.length_cons]; omega

theorem mwfFrom_filter_ge {m : SMap α} {lo k : Nat} (h : mwfFrom d lo m = true) :
    mwfFrom d k (m.filter (fun e => decide (k ≤ e.1))) = true := by
  induction m generalizing lo with
  | nil => rfl
  | cons e t ih =>
    obtain ⟨j, v⟩ := e
    simp only [mwfFrom, Bool.and_eq_true, decide_eq_true_eq] at h
    simp only [List.filter_cons]
    split
    · next hj =>
      simp only [decide_eq_true_eq] at hj
      simp only [mwfFrom, Bool.and_eq_true, decide_eq_true_eq]
      exact ⟨⟨hj, h.1.2⟩, mwfFrom_filter _ h.2⟩
    · exact ih h.2

/-- A run written keeps the canonical form. -/
theorem msetRun_wf {m : SMap α} (k : Nat) (vs : List α) (h : mwf d m = true) : mwf d (msetRun d m k vs) = true := by
  unfold msetRun mwf
  refine mwfFrom_append (k := k + vs.length) ?_ ?_ (Nat.zero_le _) (mwfFrom_filter_ge h)
  · refine mwfFrom_append (k := k) (mwfFrom_filter _ h) ?_ (Nat.zero_le _) (mlist_wfFrom k vs)
    intro e he
    simpa using (List.mem_filter.mp he).2
  · intro e he
    rcases List.mem_append.mp he with h1 | h1
    · have := (List.mem_filter.mp h1).2
      simp only [decide_eq_true_eq] at this
      omega
    · exact mlist_keys_lt k vs e h1

theorem mclearRun_wf {m : SMap α} (k n : Nat) (h : mwf d m = true) : mwf d (mclearRun d m k n) = true := by
  induction n generalizing m k with
  | zero => exact h
  | succ n ih => exact ih (k + 1) (mset_wf h)

end Sys2Proof.Machine
end

