-- ==== Sys2Proof/Laws/State.lean ====
section
/-! SUPPORT. One lemma per field per update of the state: what an update leaves alone. -/

namespace Sys2Proof.Machine

@[simp] theorem State.wr_pending (s : State) (r : Reg) (i : Nat) (v : W64) : (s.wr r i v).pending = s.pending := rfl
@[simp] theorem State.wr_stages (s : State) (r : Reg) (i : Nat) (v : W64) : (s.wr r i v).stages = s.stages := rfl
@[simp] theorem State.wr_mem (s : State) (r : Reg) (i : Nat) (v : W64) : (s.wr r i v).mem = s.mem := rfl
@[simp] theorem State.wr_sched (s : State) (r : Reg) (i : Nat) (v : W64) : (s.wr r i v).sched = s.sched := rfl
@[simp] theorem State.wr_link (s : State) (r : Reg) (i : Nat) (v : W64) : (s.wr r i v).link = s.link := rfl
@[simp] theorem State.wr_pbk (s : State) (r : Reg) (i : Nat) (v : W64) : (s.wr r i v).pbk = s.pbk := rfl
@[simp] theorem State.wr_booth (s : State) (r : Reg) (i : Nat) (v : W64) : (s.wr r i v).booth = s.booth := rfl
@[simp] theorem State.wr_plat (s : State) (r : Reg) (i : Nat) (v : W64) : (s.wr r i v).plat = s.plat := rfl
@[simp] theorem State.wr_freeCtr (s : State) (r : Reg) (i : Nat) (v : W64) : (s.wr r i v).freeCtr = s.freeCtr := rfl
@[simp] theorem State.wr_turn (s : State) (r : Reg) (i : Nat) (v : W64) : (s.wr r i v).turn = s.turn := rfl

@[simp] theorem State.setFld_pending (s : State) (r : Reg) (i hi lo x : Nat) : (s.setFld r i hi lo x).pending = s.pending := rfl
@[simp] theorem State.setFld_stages (s : State) (r : Reg) (i hi lo x : Nat) : (s.setFld r i hi lo x).stages = s.stages := rfl
@[simp] theorem State.setFld_mem (s : State) (r : Reg) (i hi lo x : Nat) : (s.setFld r i hi lo x).mem = s.mem := rfl
@[simp] theorem State.setFld_sched (s : State) (r : Reg) (i hi lo x : Nat) : (s.setFld r i hi lo x).sched = s.sched := rfl
@[simp] theorem State.setFld_link (s : State) (r : Reg) (i hi lo x : Nat) : (s.setFld r i hi lo x).link = s.link := rfl
@[simp] theorem State.setFld_pbk (s : State) (r : Reg) (i hi lo x : Nat) : (s.setFld r i hi lo x).pbk = s.pbk := rfl
@[simp] theorem State.setFld_booth (s : State) (r : Reg) (i hi lo x : Nat) : (s.setFld r i hi lo x).booth = s.booth := rfl
@[simp] theorem State.setFld_plat (s : State) (r : Reg) (i hi lo x : Nat) : (s.setFld r i hi lo x).plat = s.plat := rfl
@[simp] theorem State.setFld_freeCtr (s : State) (r : Reg) (i hi lo x : Nat) : (s.setFld r i hi lo x).freeCtr = s.freeCtr := rfl
@[simp] theorem State.setFld_turn (s : State) (r : Reg) (i hi lo x : Nat) : (s.setFld r i hi lo x).turn = s.turn := rfl

@[simp] theorem State.bump_pending (s : State) (r : Reg) (i n : Nat) : (s.bump r i n).pending = s.pending := rfl
@[simp] theorem State.bump_stages (s : State) (r : Reg) (i n : Nat) : (s.bump r i n).stages = s.stages := rfl
@[simp] theorem State.bump_mem (s : State) (r : Reg) (i n : Nat) : (s.bump r i n).mem = s.mem := rfl
@[simp] theorem State.bump_sched (s : State) (r : Reg) (i n : Nat) : (s.bump r i n).sched = s.sched := rfl
@[simp] theorem State.bump_link (s : State) (r : Reg) (i n : Nat) : (s.bump r i n).link = s.link := rfl
@[simp] theorem State.bump_pbk (s : State) (r : Reg) (i n : Nat) : (s.bump r i n).pbk = s.pbk := rfl
@[simp] theorem State.bump_booth (s : State) (r : Reg) (i n : Nat) : (s.bump r i n).booth = s.booth := rfl
@[simp] theorem State.bump_plat (s : State) (r : Reg) (i n : Nat) : (s.bump r i n).plat = s.plat := rfl
@[simp] theorem State.bump_freeCtr (s : State) (r : Reg) (i n : Nat) : (s.bump r i n).freeCtr = s.freeCtr := rfl
@[simp] theorem State.bump_turn (s : State) (r : Reg) (i n : Nat) : (s.bump r i n).turn = s.turn := rfl

@[simp] theorem State.satBump_pending (s : State) (r : Reg) (i hi lo n : Nat) : (s.satBump r i hi lo n).pending = s.pending := rfl
@[simp] theorem State.satBump_stages (s : State) (r : Reg) (i hi lo n : Nat) : (s.satBump r i hi lo n).stages = s.stages := rfl
@[simp] theorem State.satBump_mem (s : State) (r : Reg) (i hi lo n : Nat) : (s.satBump r i hi lo n).mem = s.mem := rfl
@[simp] theorem State.satBump_sched (s : State) (r : Reg) (i hi lo n : Nat) : (s.satBump r i hi lo n).sched = s.sched := rfl
@[simp] theorem State.satBump_link (s : State) (r : Reg) (i hi lo n : Nat) : (s.satBump r i hi lo n).link = s.link := rfl
@[simp] theorem State.satBump_pbk (s : State) (r : Reg) (i hi lo n : Nat) : (s.satBump r i hi lo n).pbk = s.pbk := rfl
@[simp] theorem State.satBump_booth (s : State) (r : Reg) (i hi lo n : Nat) : (s.satBump r i hi lo n).booth = s.booth := rfl
@[simp] theorem State.satBump_plat (s : State) (r : Reg) (i hi lo n : Nat) : (s.satBump r i hi lo n).plat = s.plat := rfl
@[simp] theorem State.satBump_freeCtr (s : State) (r : Reg) (i hi lo n : Nat) : (s.satBump r i hi lo n).freeCtr = s.freeCtr := rfl
@[simp] theorem State.satBump_turn (s : State) (r : Reg) (i hi lo n : Nat) : (s.satBump r i hi lo n).turn = s.turn := rfl

@[simp] theorem State.resetReg_pending (s : State) (r : Reg) (i : Nat) : (s.resetReg r i).pending = s.pending := rfl
@[simp] theorem State.resetReg_stages (s : State) (r : Reg) (i : Nat) : (s.resetReg r i).stages = s.stages := rfl
@[simp] theorem State.resetReg_mem (s : State) (r : Reg) (i : Nat) : (s.resetReg r i).mem = s.mem := rfl
@[simp] theorem State.resetReg_sched (s : State) (r : Reg) (i : Nat) : (s.resetReg r i).sched = s.sched := rfl
@[simp] theorem State.resetReg_link (s : State) (r : Reg) (i : Nat) : (s.resetReg r i).link = s.link := rfl
@[simp] theorem State.resetReg_pbk (s : State) (r : Reg) (i : Nat) : (s.resetReg r i).pbk = s.pbk := rfl
@[simp] theorem State.resetReg_booth (s : State) (r : Reg) (i : Nat) : (s.resetReg r i).booth = s.booth := rfl
@[simp] theorem State.resetReg_plat (s : State) (r : Reg) (i : Nat) : (s.resetReg r i).plat = s.plat := rfl
@[simp] theorem State.resetReg_freeCtr (s : State) (r : Reg) (i : Nat) : (s.resetReg r i).freeCtr = s.freeCtr := rfl
@[simp] theorem State.resetReg_turn (s : State) (r : Reg) (i : Nat) : (s.resetReg r i).turn = s.turn := rfl

@[simp] theorem State.setFlag_pending (s : State) (r : Reg) (i : Nat) : (s.setFlag r i).pending = s.pending := rfl
@[simp] theorem State.setFlag_stages (s : State) (r : Reg) (i : Nat) : (s.setFlag r i).stages = s.stages := rfl
@[simp] theorem State.setFlag_mem (s : State) (r : Reg) (i : Nat) : (s.setFlag r i).mem = s.mem := rfl
@[simp] theorem State.setFlag_sched (s : State) (r : Reg) (i : Nat) : (s.setFlag r i).sched = s.sched := rfl
@[simp] theorem State.setFlag_link (s : State) (r : Reg) (i : Nat) : (s.setFlag r i).link = s.link := rfl
@[simp] theorem State.setFlag_pbk (s : State) (r : Reg) (i : Nat) : (s.setFlag r i).pbk = s.pbk := rfl
@[simp] theorem State.setFlag_booth (s : State) (r : Reg) (i : Nat) : (s.setFlag r i).booth = s.booth := rfl
@[simp] theorem State.setFlag_plat (s : State) (r : Reg) (i : Nat) : (s.setFlag r i).plat = s.plat := rfl
@[simp] theorem State.setFlag_freeCtr (s : State) (r : Reg) (i : Nat) : (s.setFlag r i).freeCtr = s.freeCtr := rfl
@[simp] theorem State.setFlag_turn (s : State) (r : Reg) (i : Nat) : (s.setFlag r i).turn = s.turn := rfl

@[simp] theorem State.setStage_pending (s : State) (n : Nat) (t : Stage) : (s.setStage n t).pending = s.pending := rfl
@[simp] theorem State.setStage_regs (s : State) (n : Nat) (t : Stage) : (s.setStage n t).regs = s.regs := rfl
@[simp] theorem State.setStage_mem (s : State) (n : Nat) (t : Stage) : (s.setStage n t).mem = s.mem := rfl
@[simp] theorem State.setStage_sched (s : State) (n : Nat) (t : Stage) : (s.setStage n t).sched = s.sched := rfl
@[simp] theorem State.setStage_link (s : State) (n : Nat) (t : Stage) : (s.setStage n t).link = s.link := rfl
@[simp] theorem State.setStage_pbk (s : State) (n : Nat) (t : Stage) : (s.setStage n t).pbk = s.pbk := rfl
@[simp] theorem State.setStage_booth (s : State) (n : Nat) (t : Stage) : (s.setStage n t).booth = s.booth := rfl
@[simp] theorem State.setStage_plat (s : State) (n : Nat) (t : Stage) : (s.setStage n t).plat = s.plat := rfl
@[simp] theorem State.setStage_freeCtr (s : State) (n : Nat) (t : Stage) : (s.setStage n t).freeCtr = s.freeCtr := rfl
@[simp] theorem State.setStage_turn (s : State) (n : Nat) (t : Stage) : (s.setStage n t).turn = s.turn := rfl

@[simp] theorem State.modStage_pending (s : State) (n : Nat) (f : Stage → Stage) : (s.modStage n f).pending = s.pending := rfl
@[simp] theorem State.modStage_regs (s : State) (n : Nat) (f : Stage → Stage) : (s.modStage n f).regs = s.regs := rfl
@[simp] theorem State.modStage_mem (s : State) (n : Nat) (f : Stage → Stage) : (s.modStage n f).mem = s.mem := rfl
@[simp] theorem State.modStage_sched (s : State) (n : Nat) (f : Stage → Stage) : (s.modStage n f).sched = s.sched := rfl
@[simp] theorem State.modStage_link (s : State) (n : Nat) (f : Stage → Stage) : (s.modStage n f).link = s.link := rfl
@[simp] theorem State.modStage_pbk (s : State) (n : Nat) (f : Stage → Stage) : (s.modStage n f).pbk = s.pbk := rfl
@[simp] theorem State.modStage_booth (s : State) (n : Nat) (f : Stage → Stage) : (s.modStage n f).booth = s.booth := rfl
@[simp] theorem State.modStage_plat (s : State) (n : Nat) (f : Stage → Stage) : (s.modStage n f).plat = s.plat := rfl
@[simp] theorem State.modStage_freeCtr (s : State) (n : Nat) (f : Stage → Stage) : (s.modStage n f).freeCtr = s.freeCtr := rfl
@[simp] theorem State.modStage_turn (s : State) (n : Nat) (f : Stage → Stage) : (s.modStage n f).turn = s.turn := rfl

@[simp] theorem State.setPc_pending (s : State) (n pc : Nat) (l : List LoopEnt) : (s.setPc n pc l).pending = s.pending := rfl
@[simp] theorem State.setPc_regs (s : State) (n pc : Nat) (l : List LoopEnt) : (s.setPc n pc l).regs = s.regs := rfl
@[simp] theorem State.setPc_mem (s : State) (n pc : Nat) (l : List LoopEnt) : (s.setPc n pc l).mem = s.mem := rfl
@[simp] theorem State.setPc_sched (s : State) (n pc : Nat) (l : List LoopEnt) : (s.setPc n pc l).sched = s.sched := rfl
@[simp] theorem State.setPc_link (s : State) (n pc : Nat) (l : List LoopEnt) : (s.setPc n pc l).link = s.link := rfl
@[simp] theorem State.setPc_pbk (s : State) (n pc : Nat) (l : List LoopEnt) : (s.setPc n pc l).pbk = s.pbk := rfl
@[simp] theorem State.setPc_booth (s : State) (n pc : Nat) (l : List LoopEnt) : (s.setPc n pc l).booth = s.booth := rfl
@[simp] theorem State.setPc_plat (s : State) (n pc : Nat) (l : List LoopEnt) : (s.setPc n pc l).plat = s.plat := rfl
@[simp] theorem State.setPc_freeCtr (s : State) (n pc : Nat) (l : List LoopEnt) : (s.setPc n pc l).freeCtr = s.freeCtr := rfl
@[simp] theorem State.setPc_turn (s : State) (n pc : Nat) (l : List LoopEnt) : (s.setPc n pc l).turn = s.turn := rfl

@[simp] theorem State.setReg_pending (s : State) (n : Nat) (r : BitVec 5) (v : W64) : (s.setReg n r v).pending = s.pending := rfl
@[simp] theorem State.setReg_regs (s : State) (n : Nat) (r : BitVec 5) (v : W64) : (s.setReg n r v).regs = s.regs := rfl
@[simp] theorem State.setReg_mem (s : State) (n : Nat) (r : BitVec 5) (v : W64) : (s.setReg n r v).mem = s.mem := rfl
@[simp] theorem State.setReg_sched (s : State) (n : Nat) (r : BitVec 5) (v : W64) : (s.setReg n r v).sched = s.sched := rfl
@[simp] theorem State.setReg_link (s : State) (n : Nat) (r : BitVec 5) (v : W64) : (s.setReg n r v).link = s.link := rfl
@[simp] theorem State.setReg_pbk (s : State) (n : Nat) (r : BitVec 5) (v : W64) : (s.setReg n r v).pbk = s.pbk := rfl
@[simp] theorem State.setReg_booth (s : State) (n : Nat) (r : BitVec 5) (v : W64) : (s.setReg n r v).booth = s.booth := rfl
@[simp] theorem State.setReg_plat (s : State) (n : Nat) (r : BitVec 5) (v : W64) : (s.setReg n r v).plat = s.plat := rfl
@[simp] theorem State.setReg_freeCtr (s : State) (n : Nat) (r : BitVec 5) (v : W64) : (s.setReg n r v).freeCtr = s.freeCtr := rfl
@[simp] theorem State.setReg_turn (s : State) (n : Nat) (r : BitVec 5) (v : W64) : (s.setReg n r v).turn = s.turn := rfl

@[simp] theorem State.setPred_pending (s : State) (n : Nat) (r : BitVec 3) (b : Bool) : (s.setPred n r b).pending = s.pending := rfl
@[simp] theorem State.setPred_regs (s : State) (n : Nat) (r : BitVec 3) (b : Bool) : (s.setPred n r b).regs = s.regs := rfl
@[simp] theorem State.setPred_mem (s : State) (n : Nat) (r : BitVec 3) (b : Bool) : (s.setPred n r b).mem = s.mem := rfl
@[simp] theorem State.setPred_sched (s : State) (n : Nat) (r : BitVec 3) (b : Bool) : (s.setPred n r b).sched = s.sched := rfl
@[simp] theorem State.setPred_link (s : State) (n : Nat) (r : BitVec 3) (b : Bool) : (s.setPred n r b).link = s.link := rfl
@[simp] theorem State.setPred_pbk (s : State) (n : Nat) (r : BitVec 3) (b : Bool) : (s.setPred n r b).pbk = s.pbk := rfl
@[simp] theorem State.setPred_booth (s : State) (n : Nat) (r : BitVec 3) (b : Bool) : (s.setPred n r b).booth = s.booth := rfl
@[simp] theorem State.setPred_plat (s : State) (n : Nat) (r : BitVec 3) (b : Bool) : (s.setPred n r b).plat = s.plat := rfl
@[simp] theorem State.setPred_freeCtr (s : State) (n : Nat) (r : BitVec 3) (b : Bool) : (s.setPred n r b).freeCtr = s.freeCtr := rfl
@[simp] theorem State.setPred_turn (s : State) (n : Nat) (r : BitVec 3) (b : Bool) : (s.setPred n r b).turn = s.turn := rfl

@[simp] theorem State.setSem_pending (s : State) (n i : Nat) (v : BitVec 16) : (s.setSem n i v).pending = s.pending := rfl
@[simp] theorem State.setSem_regs (s : State) (n i : Nat) (v : BitVec 16) : (s.setSem n i v).regs = s.regs := rfl
@[simp] theorem State.setSem_mem (s : State) (n i : Nat) (v : BitVec 16) : (s.setSem n i v).mem = s.mem := rfl
@[simp] theorem State.setSem_sched (s : State) (n i : Nat) (v : BitVec 16) : (s.setSem n i v).sched = s.sched := rfl
@[simp] theorem State.setSem_link (s : State) (n i : Nat) (v : BitVec 16) : (s.setSem n i v).link = s.link := rfl
@[simp] theorem State.setSem_pbk (s : State) (n i : Nat) (v : BitVec 16) : (s.setSem n i v).pbk = s.pbk := rfl
@[simp] theorem State.setSem_booth (s : State) (n i : Nat) (v : BitVec 16) : (s.setSem n i v).booth = s.booth := rfl
@[simp] theorem State.setSem_plat (s : State) (n i : Nat) (v : BitVec 16) : (s.setSem n i v).plat = s.plat := rfl
@[simp] theorem State.setSem_freeCtr (s : State) (n i : Nat) (v : BitVec 16) : (s.setSem n i v).freeCtr = s.freeCtr := rfl
@[simp] theorem State.setSem_turn (s : State) (n i : Nat) (v : BitVec 16) : (s.setSem n i v).turn = s.turn := rfl

@[simp] theorem State.modOp_pending (s : State) (n i : Nat) (f : ShOp → ShOp) : (s.modOp n i f).pending = s.pending := rfl
@[simp] theorem State.modOp_regs (s : State) (n i : Nat) (f : ShOp → ShOp) : (s.modOp n i f).regs = s.regs := rfl
@[simp] theorem State.modOp_mem (s : State) (n i : Nat) (f : ShOp → ShOp) : (s.modOp n i f).mem = s.mem := rfl
@[simp] theorem State.modOp_sched (s : State) (n i : Nat) (f : ShOp → ShOp) : (s.modOp n i f).sched = s.sched := rfl
@[simp] theorem State.modOp_link (s : State) (n i : Nat) (f : ShOp → ShOp) : (s.modOp n i f).link = s.link := rfl
@[simp] theorem State.modOp_pbk (s : State) (n i : Nat) (f : ShOp → ShOp) : (s.modOp n i f).pbk = s.pbk := rfl
@[simp] theorem State.modOp_booth (s : State) (n i : Nat) (f : ShOp → ShOp) : (s.modOp n i f).booth = s.booth := rfl
@[simp] theorem State.modOp_plat (s : State) (n i : Nat) (f : ShOp → ShOp) : (s.modOp n i f).plat = s.plat := rfl
@[simp] theorem State.modOp_freeCtr (s : State) (n i : Nat) (f : ShOp → ShOp) : (s.modOp n i f).freeCtr = s.freeCtr := rfl
@[simp] theorem State.modOp_turn (s : State) (n i : Nat) (f : ShOp → ShOp) : (s.modOp n i f).turn = s.turn := rfl

@[simp] theorem State.modRollIn_pending (s : State) (n : Nat) (p : RollIn → Bool) (f : RollIn → RollIn) : (s.modRollIn n p f).pending = s.pending := rfl
@[simp] theorem State.modRollIn_regs (s : State) (n : Nat) (p : RollIn → Bool) (f : RollIn → RollIn) : (s.modRollIn n p f).regs = s.regs := rfl
@[simp] theorem State.modRollIn_mem (s : State) (n : Nat) (p : RollIn → Bool) (f : RollIn → RollIn) : (s.modRollIn n p f).mem = s.mem := rfl
@[simp] theorem State.modRollIn_sched (s : State) (n : Nat) (p : RollIn → Bool) (f : RollIn → RollIn) : (s.modRollIn n p f).sched = s.sched := rfl
@[simp] theorem State.modRollIn_link (s : State) (n : Nat) (p : RollIn → Bool) (f : RollIn → RollIn) : (s.modRollIn n p f).link = s.link := rfl
@[simp] theorem State.modRollIn_pbk (s : State) (n : Nat) (p : RollIn → Bool) (f : RollIn → RollIn) : (s.modRollIn n p f).pbk = s.pbk := rfl
@[simp] theorem State.modRollIn_booth (s : State) (n : Nat) (p : RollIn → Bool) (f : RollIn → RollIn) : (s.modRollIn n p f).booth = s.booth := rfl
@[simp] theorem State.modRollIn_plat (s : State) (n : Nat) (p : RollIn → Bool) (f : RollIn → RollIn) : (s.modRollIn n p f).plat = s.plat := rfl
@[simp] theorem State.modRollIn_freeCtr (s : State) (n : Nat) (p : RollIn → Bool) (f : RollIn → RollIn) : (s.modRollIn n p f).freeCtr = s.freeCtr := rfl
@[simp] theorem State.modRollIn_turn (s : State) (n : Nat) (p : RollIn → Bool) (f : RollIn → RollIn) : (s.modRollIn n p f).turn = s.turn := rfl

@[simp] theorem State.msi_pending (s : State) (v : Nat) : (s.msi v).pending = s.pending := rfl
@[simp] theorem State.msi_regs (s : State) (v : Nat) : (s.msi v).regs = s.regs := rfl
@[simp] theorem State.msi_stages (s : State) (v : Nat) : (s.msi v).stages = s.stages := rfl
@[simp] theorem State.msi_mem (s : State) (v : Nat) : (s.msi v).mem = s.mem := rfl
@[simp] theorem State.msi_sched (s : State) (v : Nat) : (s.msi v).sched = s.sched := rfl
@[simp] theorem State.msi_link (s : State) (v : Nat) : (s.msi v).link = s.link := rfl
@[simp] theorem State.msi_pbk (s : State) (v : Nat) : (s.msi v).pbk = s.pbk := rfl
@[simp] theorem State.msi_plat (s : State) (v : Nat) : (s.msi v).plat = s.plat := rfl
@[simp] theorem State.msi_freeCtr (s : State) (v : Nat) : (s.msi v).freeCtr = s.freeCtr := rfl
@[simp] theorem State.msi_turn (s : State) (v : Nat) : (s.msi v).turn = s.turn := rfl

@[simp] theorem State.modCtx_pending (s : State) (c : Nat) (f : Ctx → Ctx) : (s.modCtx c f).pending = s.pending := rfl
@[simp] theorem State.modCtx_regs (s : State) (c : Nat) (f : Ctx → Ctx) : (s.modCtx c f).regs = s.regs := rfl
@[simp] theorem State.modCtx_stages (s : State) (c : Nat) (f : Ctx → Ctx) : (s.modCtx c f).stages = s.stages := rfl
@[simp] theorem State.modCtx_mem (s : State) (c : Nat) (f : Ctx → Ctx) : (s.modCtx c f).mem = s.mem := rfl
@[simp] theorem State.modCtx_link (s : State) (c : Nat) (f : Ctx → Ctx) : (s.modCtx c f).link = s.link := rfl
@[simp] theorem State.modCtx_pbk (s : State) (c : Nat) (f : Ctx → Ctx) : (s.modCtx c f).pbk = s.pbk := rfl
@[simp] theorem State.modCtx_booth (s : State) (c : Nat) (f : Ctx → Ctx) : (s.modCtx c f).booth = s.booth := rfl
@[simp] theorem State.modCtx_plat (s : State) (c : Nat) (f : Ctx → Ctx) : (s.modCtx c f).plat = s.plat := rfl
@[simp] theorem State.modCtx_freeCtr (s : State) (c : Nat) (f : Ctx → Ctx) : (s.modCtx c f).freeCtr = s.freeCtr := rfl
@[simp] theorem State.modCtx_turn (s : State) (c : Nat) (f : Ctx → Ctx) : (s.modCtx c f).turn = s.turn := rfl

@[simp] theorem State.modLaunch_pending (s : State) (l : Nat) (f : Launch → Launch) : (s.modLaunch l f).pending = s.pending := rfl
@[simp] theorem State.modLaunch_regs (s : State) (l : Nat) (f : Launch → Launch) : (s.modLaunch l f).regs = s.regs := rfl
@[simp] theorem State.modLaunch_stages (s : State) (l : Nat) (f : Launch → Launch) : (s.modLaunch l f).stages = s.stages := rfl
@[simp] theorem State.modLaunch_mem (s : State) (l : Nat) (f : Launch → Launch) : (s.modLaunch l f).mem = s.mem := rfl
@[simp] theorem State.modLaunch_link (s : State) (l : Nat) (f : Launch → Launch) : (s.modLaunch l f).link = s.link := rfl
@[simp] theorem State.modLaunch_pbk (s : State) (l : Nat) (f : Launch → Launch) : (s.modLaunch l f).pbk = s.pbk := rfl
@[simp] theorem State.modLaunch_booth (s : State) (l : Nat) (f : Launch → Launch) : (s.modLaunch l f).booth = s.booth := rfl
@[simp] theorem State.modLaunch_plat (s : State) (l : Nat) (f : Launch → Launch) : (s.modLaunch l f).plat = s.plat := rfl
@[simp] theorem State.modLaunch_freeCtr (s : State) (l : Nat) (f : Launch → Launch) : (s.modLaunch l f).freeCtr = s.freeCtr := rfl
@[simp] theorem State.modLaunch_turn (s : State) (l : Nat) (f : Launch → Launch) : (s.modLaunch l f).turn = s.turn := rfl

@[simp] theorem State.modPbk_pending (s : State) (f : PbkSt → PbkSt) : (s.modPbk f).pending = s.pending := rfl
@[simp] theorem State.modPbk_regs (s : State) (f : PbkSt → PbkSt) : (s.modPbk f).regs = s.regs := rfl
@[simp] theorem State.modPbk_stages (s : State) (f : PbkSt → PbkSt) : (s.modPbk f).stages = s.stages := rfl
@[simp] theorem State.modPbk_mem (s : State) (f : PbkSt → PbkSt) : (s.modPbk f).mem = s.mem := rfl
@[simp] theorem State.modPbk_sched (s : State) (f : PbkSt → PbkSt) : (s.modPbk f).sched = s.sched := rfl
@[simp] theorem State.modPbk_link (s : State) (f : PbkSt → PbkSt) : (s.modPbk f).link = s.link := rfl
@[simp] theorem State.modPbk_booth (s : State) (f : PbkSt → PbkSt) : (s.modPbk f).booth = s.booth := rfl
@[simp] theorem State.modPbk_plat (s : State) (f : PbkSt → PbkSt) : (s.modPbk f).plat = s.plat := rfl
@[simp] theorem State.modPbk_freeCtr (s : State) (f : PbkSt → PbkSt) : (s.modPbk f).freeCtr = s.freeCtr := rfl
@[simp] theorem State.modPbk_turn (s : State) (f : PbkSt → PbkSt) : (s.modPbk f).turn = s.turn := rfl

@[simp] theorem State.modLink_pending (s : State) (f : LinkSt → LinkSt) : (s.modLink f).pending = s.pending := rfl
@[simp] theorem State.modLink_regs (s : State) (f : LinkSt → LinkSt) : (s.modLink f).regs = s.regs := rfl
@[simp] theorem State.modLink_stages (s : State) (f : LinkSt → LinkSt) : (s.modLink f).stages = s.stages := rfl
@[simp] theorem State.modLink_mem (s : State) (f : LinkSt → LinkSt) : (s.modLink f).mem = s.mem := rfl
@[simp] theorem State.modLink_sched (s : State) (f : LinkSt → LinkSt) : (s.modLink f).sched = s.sched := rfl
@[simp] theorem State.modLink_pbk (s : State) (f : LinkSt → LinkSt) : (s.modLink f).pbk = s.pbk := rfl
@[simp] theorem State.modLink_booth (s : State) (f : LinkSt → LinkSt) : (s.modLink f).booth = s.booth := rfl
@[simp] theorem State.modLink_plat (s : State) (f : LinkSt → LinkSt) : (s.modLink f).plat = s.plat := rfl
@[simp] theorem State.modLink_freeCtr (s : State) (f : LinkSt → LinkSt) : (s.modLink f).freeCtr = s.freeCtr := rfl
@[simp] theorem State.modLink_turn (s : State) (f : LinkSt → LinkSt) : (s.modLink f).turn = s.turn := rfl

@[simp] theorem State.modSched_pending (s : State) (f : SchedSt → SchedSt) : (s.modSched f).pending = s.pending := rfl
@[simp] theorem State.modSched_regs (s : State) (f : SchedSt → SchedSt) : (s.modSched f).regs = s.regs := rfl
@[simp] theorem State.modSched_stages (s : State) (f : SchedSt → SchedSt) : (s.modSched f).stages = s.stages := rfl
@[simp] theorem State.modSched_mem (s : State) (f : SchedSt → SchedSt) : (s.modSched f).mem = s.mem := rfl
@[simp] theorem State.modSched_link (s : State) (f : SchedSt → SchedSt) : (s.modSched f).link = s.link := rfl
@[simp] theorem State.modSched_pbk (s : State) (f : SchedSt → SchedSt) : (s.modSched f).pbk = s.pbk := rfl
@[simp] theorem State.modSched_booth (s : State) (f : SchedSt → SchedSt) : (s.modSched f).booth = s.booth := rfl
@[simp] theorem State.modSched_plat (s : State) (f : SchedSt → SchedSt) : (s.modSched f).plat = s.plat := rfl
@[simp] theorem State.modSched_freeCtr (s : State) (f : SchedSt → SchedSt) : (s.modSched f).freeCtr = s.freeCtr := rfl
@[simp] theorem State.modSched_turn (s : State) (f : SchedSt → SchedSt) : (s.modSched f).turn = s.turn := rfl

@[simp] theorem State.modPlat_pending (s : State) (f : PlatSt → PlatSt) : (s.modPlat f).pending = s.pending := rfl
@[simp] theorem State.modPlat_regs (s : State) (f : PlatSt → PlatSt) : (s.modPlat f).regs = s.regs := rfl
@[simp] theorem State.modPlat_stages (s : State) (f : PlatSt → PlatSt) : (s.modPlat f).stages = s.stages := rfl
@[simp] theorem State.modPlat_mem (s : State) (f : PlatSt → PlatSt) : (s.modPlat f).mem = s.mem := rfl
@[simp] theorem State.modPlat_sched (s : State) (f : PlatSt → PlatSt) : (s.modPlat f).sched = s.sched := rfl
@[simp] theorem State.modPlat_link (s : State) (f : PlatSt → PlatSt) : (s.modPlat f).link = s.link := rfl
@[simp] theorem State.modPlat_pbk (s : State) (f : PlatSt → PlatSt) : (s.modPlat f).pbk = s.pbk := rfl
@[simp] theorem State.modPlat_booth (s : State) (f : PlatSt → PlatSt) : (s.modPlat f).booth = s.booth := rfl
@[simp] theorem State.modPlat_freeCtr (s : State) (f : PlatSt → PlatSt) : (s.modPlat f).freeCtr = s.freeCtr := rfl
@[simp] theorem State.modPlat_turn (s : State) (f : PlatSt → PlatSt) : (s.modPlat f).turn = s.turn := rfl

@[simp] theorem State.modBooth_pending (s : State) (f : BoothSt → BoothSt) : (s.modBooth f).pending = s.pending := rfl
@[simp] theorem State.modBooth_regs (s : State) (f : BoothSt → BoothSt) : (s.modBooth f).regs = s.regs := rfl
@[simp] theorem State.modBooth_stages (s : State) (f : BoothSt → BoothSt) : (s.modBooth f).stages = s.stages := rfl
@[simp] theorem State.modBooth_mem (s : State) (f : BoothSt → BoothSt) : (s.modBooth f).mem = s.mem := rfl
@[simp] theorem State.modBooth_sched (s : State) (f : BoothSt → BoothSt) : (s.modBooth f).sched = s.sched := rfl
@[simp] theorem State.modBooth_link (s : State) (f : BoothSt → BoothSt) : (s.modBooth f).link = s.link := rfl
@[simp] theorem State.modBooth_pbk (s : State) (f : BoothSt → BoothSt) : (s.modBooth f).pbk = s.pbk := rfl
@[simp] theorem State.modBooth_plat (s : State) (f : BoothSt → BoothSt) : (s.modBooth f).plat = s.plat := rfl
@[simp] theorem State.modBooth_freeCtr (s : State) (f : BoothSt → BoothSt) : (s.modBooth f).freeCtr = s.freeCtr := rfl
@[simp] theorem State.modBooth_turn (s : State) (f : BoothSt → BoothSt) : (s.modBooth f).turn = s.turn := rfl

@[simp] theorem State.modPort_pending (s : State) (n : Nat) (f : PortLink → PortLink) : (s.modPort n f).pending = s.pending := rfl
@[simp] theorem State.modPort_regs (s : State) (n : Nat) (f : PortLink → PortLink) : (s.modPort n f).regs = s.regs := rfl
@[simp] theorem State.modPort_stages (s : State) (n : Nat) (f : PortLink → PortLink) : (s.modPort n f).stages = s.stages := rfl
@[simp] theorem State.modPort_mem (s : State) (n : Nat) (f : PortLink → PortLink) : (s.modPort n f).mem = s.mem := rfl
@[simp] theorem State.modPort_sched (s : State) (n : Nat) (f : PortLink → PortLink) : (s.modPort n f).sched = s.sched := rfl
@[simp] theorem State.modPort_pbk (s : State) (n : Nat) (f : PortLink → PortLink) : (s.modPort n f).pbk = s.pbk := rfl
@[simp] theorem State.modPort_booth (s : State) (n : Nat) (f : PortLink → PortLink) : (s.modPort n f).booth = s.booth := rfl
@[simp] theorem State.modPort_plat (s : State) (n : Nat) (f : PortLink → PortLink) : (s.modPort n f).plat = s.plat := rfl
@[simp] theorem State.modPort_freeCtr (s : State) (n : Nat) (f : PortLink → PortLink) : (s.modPort n f).freeCtr = s.freeCtr := rfl
@[simp] theorem State.modPort_turn (s : State) (n : Nat) (f : PortLink → PortLink) : (s.modPort n f).turn = s.turn := rfl

@[simp] theorem State.putTx_pending (s : State) (f : TxFlow) : (s.putTx f).pending = s.pending := rfl
@[simp] theorem State.putTx_regs (s : State) (f : TxFlow) : (s.putTx f).regs = s.regs := rfl
@[simp] theorem State.putTx_stages (s : State) (f : TxFlow) : (s.putTx f).stages = s.stages := rfl
@[simp] theorem State.putTx_mem (s : State) (f : TxFlow) : (s.putTx f).mem = s.mem := rfl
@[simp] theorem State.putTx_sched (s : State) (f : TxFlow) : (s.putTx f).sched = s.sched := rfl
@[simp] theorem State.putTx_pbk (s : State) (f : TxFlow) : (s.putTx f).pbk = s.pbk := rfl
@[simp] theorem State.putTx_booth (s : State) (f : TxFlow) : (s.putTx f).booth = s.booth := rfl
@[simp] theorem State.putTx_plat (s : State) (f : TxFlow) : (s.putTx f).plat = s.plat := rfl
@[simp] theorem State.putTx_freeCtr (s : State) (f : TxFlow) : (s.putTx f).freeCtr = s.freeCtr := rfl
@[simp] theorem State.putTx_turn (s : State) (f : TxFlow) : (s.putTx f).turn = s.turn := rfl

@[simp] theorem State.putRx_pending (s : State) (f : RxFlow) : (s.putRx f).pending = s.pending := rfl
@[simp] theorem State.putRx_regs (s : State) (f : RxFlow) : (s.putRx f).regs = s.regs := rfl
@[simp] theorem State.putRx_stages (s : State) (f : RxFlow) : (s.putRx f).stages = s.stages := rfl
@[simp] theorem State.putRx_mem (s : State) (f : RxFlow) : (s.putRx f).mem = s.mem := rfl
@[simp] theorem State.putRx_sched (s : State) (f : RxFlow) : (s.putRx f).sched = s.sched := rfl
@[simp] theorem State.putRx_pbk (s : State) (f : RxFlow) : (s.putRx f).pbk = s.pbk := rfl
@[simp] theorem State.putRx_booth (s : State) (f : RxFlow) : (s.putRx f).booth = s.booth := rfl
@[simp] theorem State.putRx_plat (s : State) (f : RxFlow) : (s.putRx f).plat = s.plat := rfl
@[simp] theorem State.putRx_freeCtr (s : State) (f : RxFlow) : (s.putRx f).freeCtr = s.freeCtr := rfl
@[simp] theorem State.putRx_turn (s : State) (f : RxFlow) : (s.putRx f).turn = s.turn := rfl

@[simp] theorem State.setSlot_pending (s : State) (k : Nat) (x : SlotSt) : (s.setSlot k x).pending = s.pending := rfl
@[simp] theorem State.setSlot_regs (s : State) (k : Nat) (x : SlotSt) : (s.setSlot k x).regs = s.regs := rfl
@[simp] theorem State.setSlot_stages (s : State) (k : Nat) (x : SlotSt) : (s.setSlot k x).stages = s.stages := rfl
@[simp] theorem State.setSlot_mem (s : State) (k : Nat) (x : SlotSt) : (s.setSlot k x).mem = s.mem := rfl
@[simp] theorem State.setSlot_sched (s : State) (k : Nat) (x : SlotSt) : (s.setSlot k x).sched = s.sched := rfl
@[simp] theorem State.setSlot_link (s : State) (k : Nat) (x : SlotSt) : (s.setSlot k x).link = s.link := rfl
@[simp] theorem State.setSlot_pbk (s : State) (k : Nat) (x : SlotSt) : (s.setSlot k x).pbk = s.pbk := rfl
@[simp] theorem State.setSlot_plat (s : State) (k : Nat) (x : SlotSt) : (s.setSlot k x).plat = s.plat := rfl
@[simp] theorem State.setSlot_freeCtr (s : State) (k : Nat) (x : SlotSt) : (s.setSlot k x).freeCtr = s.freeCtr := rfl
@[simp] theorem State.setSlot_turn (s : State) (k : Nat) (x : SlotSt) : (s.setSlot k x).turn = s.turn := rfl

@[simp] theorem State.setEp_pending (s : State) (i : Nat) (x : EpSt) : (s.setEp i x).pending = s.pending := rfl
@[simp] theorem State.setEp_regs (s : State) (i : Nat) (x : EpSt) : (s.setEp i x).regs = s.regs := rfl
@[simp] theorem State.setEp_stages (s : State) (i : Nat) (x : EpSt) : (s.setEp i x).stages = s.stages := rfl
@[simp] theorem State.setEp_mem (s : State) (i : Nat) (x : EpSt) : (s.setEp i x).mem = s.mem := rfl
@[simp] theorem State.setEp_sched (s : State) (i : Nat) (x : EpSt) : (s.setEp i x).sched = s.sched := rfl
@[simp] theorem State.setEp_link (s : State) (i : Nat) (x : EpSt) : (s.setEp i x).link = s.link := rfl
@[simp] theorem State.setEp_pbk (s : State) (i : Nat) (x : EpSt) : (s.setEp i x).pbk = s.pbk := rfl
@[simp] theorem State.setEp_booth (s : State) (i : Nat) (x : EpSt) : (s.setEp i x).booth = s.booth := rfl
@[simp] theorem State.setEp_freeCtr (s : State) (i : Nat) (x : EpSt) : (s.setEp i x).freeCtr = s.freeCtr := rfl
@[simp] theorem State.setEp_turn (s : State) (i : Nat) (x : EpSt) : (s.setEp i x).turn = s.turn := rfl

@[simp] theorem State.modPorts_pending (s : State) (f : PortsSt → PortsSt) : (s.modPorts f).pending = s.pending := rfl
@[simp] theorem State.modPorts_regs (s : State) (f : PortsSt → PortsSt) : (s.modPorts f).regs = s.regs := rfl
@[simp] theorem State.modPorts_stages (s : State) (f : PortsSt → PortsSt) : (s.modPorts f).stages = s.stages := rfl
@[simp] theorem State.modPorts_mem (s : State) (f : PortsSt → PortsSt) : (s.modPorts f).mem = s.mem := rfl
@[simp] theorem State.modPorts_sched (s : State) (f : PortsSt → PortsSt) : (s.modPorts f).sched = s.sched := rfl
@[simp] theorem State.modPorts_link (s : State) (f : PortsSt → PortsSt) : (s.modPorts f).link = s.link := rfl
@[simp] theorem State.modPorts_pbk (s : State) (f : PortsSt → PortsSt) : (s.modPorts f).pbk = s.pbk := rfl
@[simp] theorem State.modPorts_booth (s : State) (f : PortsSt → PortsSt) : (s.modPorts f).booth = s.booth := rfl
@[simp] theorem State.modPorts_freeCtr (s : State) (f : PortsSt → PortsSt) : (s.modPorts f).freeCtr = s.freeCtr := rfl
@[simp] theorem State.modPorts_turn (s : State) (f : PortsSt → PortsSt) : (s.modPorts f).turn = s.turn := rfl

@[simp] theorem State.modTime_pending (s : State) (f : TimeSt → TimeSt) : (s.modTime f).pending = s.pending := rfl
@[simp] theorem State.modTime_regs (s : State) (f : TimeSt → TimeSt) : (s.modTime f).regs = s.regs := rfl
@[simp] theorem State.modTime_stages (s : State) (f : TimeSt → TimeSt) : (s.modTime f).stages = s.stages := rfl
@[simp] theorem State.modTime_mem (s : State) (f : TimeSt → TimeSt) : (s.modTime f).mem = s.mem := rfl
@[simp] theorem State.modTime_sched (s : State) (f : TimeSt → TimeSt) : (s.modTime f).sched = s.sched := rfl
@[simp] theorem State.modTime_link (s : State) (f : TimeSt → TimeSt) : (s.modTime f).link = s.link := rfl
@[simp] theorem State.modTime_pbk (s : State) (f : TimeSt → TimeSt) : (s.modTime f).pbk = s.pbk := rfl
@[simp] theorem State.modTime_booth (s : State) (f : TimeSt → TimeSt) : (s.modTime f).booth = s.booth := rfl
@[simp] theorem State.modTime_freeCtr (s : State) (f : TimeSt → TimeSt) : (s.modTime f).freeCtr = s.freeCtr := rfl
@[simp] theorem State.modTime_turn (s : State) (f : TimeSt → TimeSt) : (s.modTime f).turn = s.turn := rfl

@[simp] theorem State.modDimmer_pending (s : State) (f : Dimmer → Dimmer) : (s.modDimmer f).pending = s.pending := rfl
@[simp] theorem State.modDimmer_regs (s : State) (f : Dimmer → Dimmer) : (s.modDimmer f).regs = s.regs := rfl
@[simp] theorem State.modDimmer_stages (s : State) (f : Dimmer → Dimmer) : (s.modDimmer f).stages = s.stages := rfl
@[simp] theorem State.modDimmer_mem (s : State) (f : Dimmer → Dimmer) : (s.modDimmer f).mem = s.mem := rfl
@[simp] theorem State.modDimmer_sched (s : State) (f : Dimmer → Dimmer) : (s.modDimmer f).sched = s.sched := rfl
@[simp] theorem State.modDimmer_link (s : State) (f : Dimmer → Dimmer) : (s.modDimmer f).link = s.link := rfl
@[simp] theorem State.modDimmer_pbk (s : State) (f : Dimmer → Dimmer) : (s.modDimmer f).pbk = s.pbk := rfl
@[simp] theorem State.modDimmer_booth (s : State) (f : Dimmer → Dimmer) : (s.modDimmer f).booth = s.booth := rfl
@[simp] theorem State.modDimmer_freeCtr (s : State) (f : Dimmer → Dimmer) : (s.modDimmer f).freeCtr = s.freeCtr := rfl
@[simp] theorem State.modDimmer_turn (s : State) (f : Dimmer → Dimmer) : (s.modDimmer f).turn = s.turn := rfl

@[simp] theorem State.modPbk_self (s : State) (f : PbkSt → PbkSt) : (s.modPbk f).pbk = f s.pbk := rfl
@[simp] theorem State.modLink_self (s : State) (f : LinkSt → LinkSt) : (s.modLink f).link = f s.link := rfl
@[simp] theorem State.modSched_self (s : State) (f : SchedSt → SchedSt) : (s.modSched f).sched = f s.sched := rfl
@[simp] theorem State.modPlat_self (s : State) (f : PlatSt → PlatSt) : (s.modPlat f).plat = f s.plat := rfl
@[simp] theorem State.modBooth_self (s : State) (f : BoothSt → BoothSt) : (s.modBooth f).booth = f s.booth := rfl

@[simp] theorem State.wr_stage (s : State) (r : Reg) (i : Nat) (v : W64) (j : Nat) : (s.wr r i v).stage j = s.stage j := rfl
@[simp] theorem State.setFld_stage (s : State) (r : Reg) (i hi lo x : Nat) (j : Nat) : (s.setFld r i hi lo x).stage j = s.stage j := rfl
@[simp] theorem State.bump_stage (s : State) (r : Reg) (i n : Nat) (j : Nat) : (s.bump r i n).stage j = s.stage j := rfl
@[simp] theorem State.satBump_stage (s : State) (r : Reg) (i hi lo n : Nat) (j : Nat) : (s.satBump r i hi lo n).stage j = s.stage j := rfl
@[simp] theorem State.resetReg_stage (s : State) (r : Reg) (i : Nat) (j : Nat) : (s.resetReg r i).stage j = s.stage j := rfl
@[simp] theorem State.setFlag_stage (s : State) (r : Reg) (i : Nat) (j : Nat) : (s.setFlag r i).stage j = s.stage j := rfl
@[simp] theorem State.setStage_rd (s : State) (n : Nat) (t : Stage) (q : Reg) (j : Nat) : (s.setStage n t).rd q j = s.rd q j := rfl
@[simp] theorem State.setStage_fld (s : State) (n : Nat) (t : Stage) (q : Reg) (j hi' lo' : Nat) : (s.setStage n t).fld q j hi' lo' = s.fld q j hi' lo' := rfl
@[simp] theorem State.modStage_rd (s : State) (n : Nat) (f : Stage → Stage) (q : Reg) (j : Nat) : (s.modStage n f).rd q j = s.rd q j := rfl
@[simp] theorem State.modStage_fld (s : State) (n : Nat) (f : Stage → Stage) (q : Reg) (j hi' lo' : Nat) : (s.modStage n f).fld q j hi' lo' = s.fld q j hi' lo' := rfl
@[simp] theorem State.setPc_rd (s : State) (n pc : Nat) (l : List LoopEnt) (q : Reg) (j : Nat) : (s.setPc n pc l).rd q j = s.rd q j := rfl
@[simp] theorem State.setPc_fld (s : State) (n pc : Nat) (l : List LoopEnt) (q : Reg) (j hi' lo' : Nat) : (s.setPc n pc l).fld q j hi' lo' = s.fld q j hi' lo' := rfl
@[simp] theorem State.setReg_rd (s : State) (n : Nat) (r : BitVec 5) (v : W64) (q : Reg) (j : Nat) : (s.setReg n r v).rd q j = s.rd q j := rfl
@[simp] theorem State.setReg_fld (s : State) (n : Nat) (r : BitVec 5) (v : W64) (q : Reg) (j hi' lo' : Nat) : (s.setReg n r v).fld q j hi' lo' = s.fld q j hi' lo' := rfl
@[simp] theorem State.setPred_rd (s : State) (n : Nat) (r : BitVec 3) (b : Bool) (q : Reg) (j : Nat) : (s.setPred n r b).rd q j = s.rd q j := rfl
@[simp] theorem State.setPred_fld (s : State) (n : Nat) (r : BitVec 3) (b : Bool) (q : Reg) (j hi' lo' : Nat) : (s.setPred n r b).fld q j hi' lo' = s.fld q j hi' lo' := rfl
@[simp] theorem State.setSem_rd (s : State) (n i : Nat) (v : BitVec 16) (q : Reg) (j : Nat) : (s.setSem n i v).rd q j = s.rd q j := rfl
@[simp] theorem State.setSem_fld (s : State) (n i : Nat) (v : BitVec 16) (q : Reg) (j hi' lo' : Nat) : (s.setSem n i v).fld q j hi' lo' = s.fld q j hi' lo' := rfl
@[simp] theorem State.modOp_rd (s : State) (n i : Nat) (f : ShOp → ShOp) (q : Reg) (j : Nat) : (s.modOp n i f).rd q j = s.rd q j := rfl
@[simp] theorem State.modOp_fld (s : State) (n i : Nat) (f : ShOp → ShOp) (q : Reg) (j hi' lo' : Nat) : (s.modOp n i f).fld q j hi' lo' = s.fld q j hi' lo' := rfl
@[simp] theorem State.modRollIn_rd (s : State) (n : Nat) (p : RollIn → Bool) (f : RollIn → RollIn) (q : Reg) (j : Nat) : (s.modRollIn n p f).rd q j = s.rd q j := rfl
@[simp] theorem State.modRollIn_fld (s : State) (n : Nat) (p : RollIn → Bool) (f : RollIn → RollIn) (q : Reg) (j hi' lo' : Nat) : (s.modRollIn n p f).fld q j hi' lo' = s.fld q j hi' lo' := rfl
@[simp] theorem State.msi_rd (s : State) (v : Nat) (q : Reg) (j : Nat) : (s.msi v).rd q j = s.rd q j := rfl
@[simp] theorem State.msi_fld (s : State) (v : Nat) (q : Reg) (j hi' lo' : Nat) : (s.msi v).fld q j hi' lo' = s.fld q j hi' lo' := rfl
@[simp] theorem State.msi_stage (s : State) (v : Nat) (j : Nat) : (s.msi v).stage j = s.stage j := rfl
@[simp] theorem State.modCtx_rd (s : State) (c : Nat) (f : Ctx → Ctx) (q : Reg) (j : Nat) : (s.modCtx c f).rd q j = s.rd q j := rfl
@[simp] theorem State.modCtx_fld (s : State) (c : Nat) (f : Ctx → Ctx) (q : Reg) (j hi' lo' : Nat) : (s.modCtx c f).fld q j hi' lo' = s.fld q j hi' lo' := rfl
@[simp] theorem State.modCtx_stage (s : State) (c : Nat) (f : Ctx → Ctx) (j : Nat) : (s.modCtx c f).stage j = s.stage j := rfl
@[simp] theorem State.modLaunch_rd (s : State) (l : Nat) (f : Launch → Launch) (q : Reg) (j : Nat) : (s.modLaunch l f).rd q j = s.rd q j := rfl
@[simp] theorem State.modLaunch_fld (s : State) (l : Nat) (f : Launch → Launch) (q : Reg) (j hi' lo' : Nat) : (s.modLaunch l f).fld q j hi' lo' = s.fld q j hi' lo' := rfl
@[simp] theorem State.modLaunch_stage (s : State) (l : Nat) (f : Launch → Launch) (j : Nat) : (s.modLaunch l f).stage j = s.stage j := rfl
@[simp] theorem State.modPbk_rd (s : State) (f : PbkSt → PbkSt) (q : Reg) (j : Nat) : (s.modPbk f).rd q j = s.rd q j := rfl
@[simp] theorem State.modPbk_fld (s : State) (f : PbkSt → PbkSt) (q : Reg) (j hi' lo' : Nat) : (s.modPbk f).fld q j hi' lo' = s.fld q j hi' lo' := rfl
@[simp] theorem State.modPbk_stage (s : State) (f : PbkSt → PbkSt) (j : Nat) : (s.modPbk f).stage j = s.stage j := rfl
@[simp] theorem State.modLink_rd (s : State) (f : LinkSt → LinkSt) (q : Reg) (j : Nat) : (s.modLink f).rd q j = s.rd q j := rfl
@[simp] theorem State.modLink_fld (s : State) (f : LinkSt → LinkSt) (q : Reg) (j hi' lo' : Nat) : (s.modLink f).fld q j hi' lo' = s.fld q j hi' lo' := rfl
@[simp] theorem State.modLink_stage (s : State) (f : LinkSt → LinkSt) (j : Nat) : (s.modLink f).stage j = s.stage j := rfl
@[simp] theorem State.modSched_rd (s : State) (f : SchedSt → SchedSt) (q : Reg) (j : Nat) : (s.modSched f).rd q j = s.rd q j := rfl
@[simp] theorem State.modSched_fld (s : State) (f : SchedSt → SchedSt) (q : Reg) (j hi' lo' : Nat) : (s.modSched f).fld q j hi' lo' = s.fld q j hi' lo' := rfl
@[simp] theorem State.modSched_stage (s : State) (f : SchedSt → SchedSt) (j : Nat) : (s.modSched f).stage j = s.stage j := rfl
@[simp] theorem State.modPlat_rd (s : State) (f : PlatSt → PlatSt) (q : Reg) (j : Nat) : (s.modPlat f).rd q j = s.rd q j := rfl
@[simp] theorem State.modPlat_fld (s : State) (f : PlatSt → PlatSt) (q : Reg) (j hi' lo' : Nat) : (s.modPlat f).fld q j hi' lo' = s.fld q j hi' lo' := rfl
@[simp] theorem State.modPlat_stage (s : State) (f : PlatSt → PlatSt) (j : Nat) : (s.modPlat f).stage j = s.stage j := rfl
@[simp] theorem State.modBooth_rd (s : State) (f : BoothSt → BoothSt) (q : Reg) (j : Nat) : (s.modBooth f).rd q j = s.rd q j := rfl
@[simp] theorem State.modBooth_fld (s : State) (f : BoothSt → BoothSt) (q : Reg) (j hi' lo' : Nat) : (s.modBooth f).fld q j hi' lo' = s.fld q j hi' lo' := rfl
@[simp] theorem State.modBooth_stage (s : State) (f : BoothSt → BoothSt) (j : Nat) : (s.modBooth f).stage j = s.stage j := rfl
@[simp] theorem State.modPort_rd (s : State) (n : Nat) (f : PortLink → PortLink) (q : Reg) (j : Nat) : (s.modPort n f).rd q j = s.rd q j := rfl
@[simp] theorem State.modPort_fld (s : State) (n : Nat) (f : PortLink → PortLink) (q : Reg) (j hi' lo' : Nat) : (s.modPort n f).fld q j hi' lo' = s.fld q j hi' lo' := rfl
@[simp] theorem State.modPort_stage (s : State) (n : Nat) (f : PortLink → PortLink) (j : Nat) : (s.modPort n f).stage j = s.stage j := rfl
@[simp] theorem State.putTx_rd (s : State) (f : TxFlow) (q : Reg) (j : Nat) : (s.putTx f).rd q j = s.rd q j := rfl
@[simp] theorem State.putTx_fld (s : State) (f : TxFlow) (q : Reg) (j hi' lo' : Nat) : (s.putTx f).fld q j hi' lo' = s.fld q j hi' lo' := rfl
@[simp] theorem State.putTx_stage (s : State) (f : TxFlow) (j : Nat) : (s.putTx f).stage j = s.stage j := rfl
@[simp] theorem State.putRx_rd (s : State) (f : RxFlow) (q : Reg) (j : Nat) : (s.putRx f).rd q j = s.rd q j := rfl
@[simp] theorem State.putRx_fld (s : State) (f : RxFlow) (q : Reg) (j hi' lo' : Nat) : (s.putRx f).fld q j hi' lo' = s.fld q j hi' lo' := rfl
@[simp] theorem State.putRx_stage (s : State) (f : RxFlow) (j : Nat) : (s.putRx f).stage j = s.stage j := rfl
@[simp] theorem State.setSlot_rd (s : State) (k : Nat) (x : SlotSt) (q : Reg) (j : Nat) : (s.setSlot k x).rd q j = s.rd q j := rfl
@[simp] theorem State.setSlot_fld (s : State) (k : Nat) (x : SlotSt) (q : Reg) (j hi' lo' : Nat) : (s.setSlot k x).fld q j hi' lo' = s.fld q j hi' lo' := rfl
@[simp] theorem State.setSlot_stage (s : State) (k : Nat) (x : SlotSt) (j : Nat) : (s.setSlot k x).stage j = s.stage j := rfl
@[simp] theorem State.setEp_rd (s : State) (i : Nat) (x : EpSt) (q : Reg) (j : Nat) : (s.setEp i x).rd q j = s.rd q j := rfl
@[simp] theorem State.setEp_fld (s : State) (i : Nat) (x : EpSt) (q : Reg) (j hi' lo' : Nat) : (s.setEp i x).fld q j hi' lo' = s.fld q j hi' lo' := rfl
@[simp] theorem State.setEp_stage (s : State) (i : Nat) (x : EpSt) (j : Nat) : (s.setEp i x).stage j = s.stage j := rfl
@[simp] theorem State.modPorts_rd (s : State) (f : PortsSt → PortsSt) (q : Reg) (j : Nat) : (s.modPorts f).rd q j = s.rd q j := rfl
@[simp] theorem State.modPorts_fld (s : State) (f : PortsSt → PortsSt) (q : Reg) (j hi' lo' : Nat) : (s.modPorts f).fld q j hi' lo' = s.fld q j hi' lo' := rfl
@[simp] theorem State.modPorts_stage (s : State) (f : PortsSt → PortsSt) (j : Nat) : (s.modPorts f).stage j = s.stage j := rfl
@[simp] theorem State.modTime_rd (s : State) (f : TimeSt → TimeSt) (q : Reg) (j : Nat) : (s.modTime f).rd q j = s.rd q j := rfl
@[simp] theorem State.modTime_fld (s : State) (f : TimeSt → TimeSt) (q : Reg) (j hi' lo' : Nat) : (s.modTime f).fld q j hi' lo' = s.fld q j hi' lo' := rfl
@[simp] theorem State.modTime_stage (s : State) (f : TimeSt → TimeSt) (j : Nat) : (s.modTime f).stage j = s.stage j := rfl
@[simp] theorem State.modDimmer_rd (s : State) (f : Dimmer → Dimmer) (q : Reg) (j : Nat) : (s.modDimmer f).rd q j = s.rd q j := rfl
@[simp] theorem State.modDimmer_fld (s : State) (f : Dimmer → Dimmer) (q : Reg) (j hi' lo' : Nat) : (s.modDimmer f).fld q j hi' lo' = s.fld q j hi' lo' := rfl
@[simp] theorem State.modDimmer_stage (s : State) (f : Dimmer → Dimmer) (j : Nat) : (s.modDimmer f).stage j = s.stage j := rfl

end Sys2Proof.Machine
end

