-- ==== Sys2Proof/Laws/Prompter.lean ====
section
/-! SUPPORT. What the Prompter's shared operations do: registers and predicates read back, Stages read back, and the issue of an instruction. -/

namespace Sys2Proof.Machine

/-- A Stage set reads back; every other Stage is as it was. -/
theorem State.setStage_stage {s : State} (n k : Nat) (t : Stage) (h : mwf Stage.idle s.stages = true) :
    (s.setStage n t).stage k = if k = n then t else s.stage k := by
  simp only [State.setStage, State.stage]
  exact mget_mset n k t h

theorem State.setStage_stage_ne (s : State) {n k : Nat} (t : Stage) (h : k ≠ n) : (s.setStage n t).stage k = s.stage k := by
  simp only [State.setStage, State.stage]
  exact mget_mset_ne _ t h

theorem State.modStage_stage {s : State} (n k : Nat) (f : Stage → Stage) (h : mwf Stage.idle s.stages = true) :
    (s.modStage n f).stage k = if k = n then f (s.stage n) else s.stage k := State.setStage_stage n k _ h

theorem State.setStage_wf {s : State} (n : Nat) (t : Stage) (h : mwf Stage.idle s.stages = true) :
    mwf Stage.idle (s.setStage n t).stages = true := mset_wf h

theorem State.modStage_wf {s : State} (n : Nat) (f : Stage → Stage) (h : mwf Stage.idle s.stages = true) :
    mwf Stage.idle (s.modStage n f).stages = true := mset_wf h

/-- A register written reads back the value. -/
theorem State.wr_rd_same {s : State} (r : Reg) (i : Nat) (v : W64) (h : mwf 0 s.regs = true) : (s.wr r i v).rd r i = v := by
  simp only [State.wr, State.rd, mget_mset_same _ _ h]
  rw [BitVec.xor_assoc, BitVec.xor_self, BitVec.xor_zero]

/-- A register written leaves every other offset alone. -/
theorem State.wr_regs_ne (s : State) (r : Reg) (i : Nat) (v : W64) {off : Nat} (h : off ≠ r.off i) :
    mget 0 (s.wr r i v).regs off = mget 0 s.regs off := mget_mset_ne _ _ h

theorem State.wr_wf {s : State} (r : Reg) (i : Nat) (v : W64) (h : mwf 0 s.regs = true) : mwf 0 (s.wr r i v).regs = true := mset_wf h

/-- s0 discards writes and reads 0; any other register reads what was written (R96). -/
theorem Prm.reg_setReg {p : Prm} (r q : BitVec 5) (v : W64) (h : mwf 0 p.regs = true) :
    (p.setReg r v).reg q = if q = r then (if r = 0 then 0 else v) else p.reg q := by
  unfold Prm.setReg Prm.reg
  by_cases hr : r = 0
  · subst hr
    by_cases hq : q = 0
    · rw [if_pos hq, if_pos hq, if_pos rfl]
    · rw [if_pos rfl, if_neg hq, if_neg hq]
  · rw [if_neg hr, if_neg hr]
    by_cases hq : q = r
    · subst hq
      rw [if_neg hr, if_pos rfl, mget_mset_same _ _ h]
    · rw [if_neg hq]
      split
      · rfl
      · exact mget_mset_ne _ _ (fun e => hq (BitVec.eq_of_toNat_eq e))

@[simp] theorem Prm.setReg_preds (p : Prm) (r : BitVec 5) (v : W64) : (p.setReg r v).preds = p.preds := by
  unfold Prm.setReg; split <;> rfl
@[simp] theorem Prm.setReg_pc (p : Prm) (r : BitVec 5) (v : W64) : (p.setReg r v).pc = p.pc := by
  unfold Prm.setReg; split <;> rfl
@[simp] theorem Prm.setReg_loops (p : Prm) (r : BitVec 5) (v : W64) : (p.setReg r v).loops = p.loops := by
  unfold Prm.setReg; split <;> rfl
@[simp] theorem Prm.setReg_wait (p : Prm) (r : BitVec 5) (v : W64) : (p.setReg r v).wait = p.wait := by
  unfold Prm.setReg; split <;> rfl
@[simp] theorem Prm.setReg_org (p : Prm) (r : BitVec 5) (v : W64) : (p.setReg r v).org = p.org := by
  unfold Prm.setReg; split <;> rfl
@[simp] theorem Prm.setPred_regs (p : Prm) (r : BitVec 3) (b : Bool) : (p.setPred r b).regs = p.regs := rfl
@[simp] theorem Prm.setPred_pc (p : Prm) (r : BitVec 3) (b : Bool) : (p.setPred r b).pc = p.pc := rfl
@[simp] theorem Prm.setPred_loops (p : Prm) (r : BitVec 3) (b : Bool) : (p.setPred r b).loops = p.loops := rfl

/-- A predicate written reads back; the others keep their values. -/
theorem Prm.pred_setPred (p : Prm) (r q : BitVec 3) (b : Bool) : (p.setPred r b).pred q = if q = r then b else p.pred q := by
  have key : ∀ (m : BitVec 8) (r q : BitVec 3) (b : Bool),
      (if b then m ||| (1#8 <<< r.toNat) else m &&& ~~~(1#8 <<< r.toNat)).getLsbD q.toNat = if q = r then b else m.getLsbD q.toNat := by
    decide +kernel
  exact key p.preds r q b

/-- An issued instruction executes: what `issue` then answers, by what its body comes to. -/
theorem issue_of_issues {p : Iss} {i : Inst} {uses : List (BitVec 5)} {s : State} (h : Safety.Issues s p i uses) (cls op : Nat)
    (body : State → Stage → Inst → Did) :
    issue p cls op false uses body s =
      match body (Safety.started s p cls op) (s.stage p.stage) i with
      | .seq t => .next (t.goSeq p.stage (s.stage p.stage).prm.pc cls op)
      | .jump t target =>
        .next ((t.setPc p.stage target.toNat (popLoops target.toNat (t.stage p.stage).prm.loops)).fetchAt p.stage
          (s.stage p.stage).prm.pc target cls op)
      | .after t off => .next (t.goSeq p.stage off.toNat cls op)
      | .wait t w =>
        .next ((t.setPc p.stage (nextPc (s.stage p.stage).prm.pc (t.stage p.stage).prm.loops).1
          (nextPc (s.stage p.stage).prm.pc (t.stage p.stage).prm.loops).2).modStage p.stage
            (fun x => { x with prm := { x.prm with wait := w } }))
      | .full =>
        .next ((s.modStage p.stage (fun x =>
          { x with prm := { x.prm with wait := .queue, org := ⟨(s.stage p.stage).prm.pc, cls, op⟩ } })).stall .stgPrmStallQ p.stage)
      | .fault t f info => .next (t.kernelFault p.stage ⟨f, ⟨(s.stage p.stage).prm.pc, cls, op⟩, info, none⟩) := by
  unfold issue Safety.started
  simp only [h.inRange, h.held, h.can, h.ready, h.guard, if_true, Bool.not_true, Bool.or_false, Bool.false_eq_true, if_false]
  all_goals (cases body _ (s.stage p.stage) i <;> rfl)

/-- An encoding that is illegal whatever the guard faults at issue (R101). -/
theorem issue_of_bad {p : Iss} {i : Inst} {uses : List (BitVec 5)} {s : State} (h : Safety.Issues s p i uses) (cls op : Nat)
    (body : State → Stage → Inst → Did) :
    issue p cls op true uses body s = .next (s.kernelFault p.stage ⟨.illegal, ⟨(s.stage p.stage).prm.pc, cls, op⟩, 0, none⟩) := by
  unfold issue
  simp [h.inRange, h.held, h.can, h.ready]

/-- An issued instruction of which the guard is off changes the PC alone (R100). -/
theorem issue_of_guard_off {p : Iss} {i : Inst} {uses : List (BitVec 5)} {s : State} (hr : p.stage < 144)
    (hi : (s.stage p.stage).inst = some i) (hc : (s.stage p.stage).canIssue = true) (hu : uses.any (s.stage p.stage).regBusy = false)
    (hg : (s.stage p.stage).prm.guarded p = false) (cls op : Nat) (body : State → Stage → Inst → Did) :
    issue p cls op false uses body s = .next ((Safety.started s p cls op).goSeq p.stage (s.stage p.stage).prm.pc cls op) := by
  unfold issue Safety.started
  simp [hr, hi, hc, hu, hg]

/-- Where the next instruction can be fetched, fetching it changes nothing. -/
theorem State.fetchAt_of_fetchable {s : State} {n : Nat} {i : Inst} {a : W64} (hi : (s.stage n).inst = some i) (ha : Safety.Fetchable i a)
    (pc cls op : Nat) : s.fetchAt n pc a cls op = s := by
  unfold State.fetchAt
  rw [hi]
  exact if_pos ha

@[simp] theorem started_stages_ne (s : State) (p : Iss) (cls op : Nat) {m : Nat} (h : m ≠ p.stage) :
    (Safety.started s p cls op).stage m = s.stage m := State.setStage_stage_ne s _ h

theorem started_stage {s : State} (p : Iss) (cls op : Nat) (h : mwf Stage.idle s.stages = true) :
    (Safety.started s p cls op).stage p.stage = { s.stage p.stage with
      prm := { (s.stage p.stage).prm with org := ⟨(s.stage p.stage).prm.pc, cls, op⟩ } } := by
  have := State.modStage_stage (s := s) p.stage p.stage
    (fun t => { t with prm := { t.prm with org := ⟨(s.stage p.stage).prm.pc, cls, op⟩ } }) h
  simpa [Safety.started] using this

theorem started_wf {s : State} (p : Iss) (cls op : Nat) (h : mwf Stage.idle s.stages = true) :
    mwf Stage.idle (Safety.started s p cls op).stages = true := mset_wf h

/-- The state an instruction leaves that changes its Stage by `f` alone and flows on in sequence: stage by stage, register by register. -/
theorem goSeq_started {s : State} {p : Iss} {i : Inst} (cls op : Nat) (f : Stage → Stage) (hc : Safety.Canon s)
    (hi : (s.stage p.stage).inst = some i) (hs : Safety.SeqIn s p.stage i) (hf : ∀ t : Stage, (f t).inst = t.inst)
    (hl : ∀ t : Stage, (f t).prm.loops = t.prm.loops) :
    let pc := (s.stage p.stage).prm.pc
    let r := nextPc pc (s.stage p.stage).prm.loops
    ((Safety.started s p cls op).modStage p.stage f).goSeq p.stage pc cls op
      = (((Safety.started s p cls op).modStage p.stage f).setPc p.stage r.1 r.2) := by
  intro pc r
  have h1 := started_wf p cls op hc.2.1
  have h2 : (((Safety.started s p cls op).modStage p.stage f).stage p.stage).prm.loops = (s.stage p.stage).prm.loops := by
    rw [State.modStage_stage _ _ _ h1, if_pos rfl, hl, started_stage p cls op hc.2.1]
  unfold State.goSeq
  simp only [h2]
  apply State.fetchAt_of_fetchable (i := i)
  · unfold State.setPc
    rw [State.modStage_stage _ _ _ (State.modStage_wf _ _ h1), if_pos rfl, State.modStage_stage _ _ _ h1, if_pos rfl]
    simp only [hf, started_stage p cls op hc.2.1]
    exact hi
  · exact hs

/-- What `goSeq_started` leaves, read back. -/
theorem goSeq_started_reads {s : State} {p : Iss} (cls op : Nat) (f : Stage → Stage) (hc : Safety.Canon s) (r : Nat × List LoopEnt) :
    let t := ((Safety.started s p cls op).modStage p.stage f).setPc p.stage r.1 r.2
    (∀ m, m ≠ p.stage → t.stage m = s.stage m) ∧
    (∃ x : Stage, x = f { s.stage p.stage with prm := { (s.stage p.stage).prm with org := ⟨(s.stage p.stage).prm.pc, cls, op⟩ } }
      ∧ t.stage p.stage = { x with prm := { x.prm with pc := r.1, loops := r.2, wait := .run } })
    ∧ t.rd .stgPrmRetired p.stage = s.rd .stgPrmRetired p.stage + 1
    ∧ (∀ off, off ≠ Reg.off .stgPrmRetired p.stage → mget 0 t.regs off = mget 0 s.regs off) := by
  intro t
  have h1 := started_wf p cls op hc.2.1
  refine ⟨?_, ⟨_, rfl, ?_⟩, ?_, ?_⟩
  · intro m hm
    show ((((Safety.started s p cls op).modStage p.stage f).modStage p.stage _).stage m) = _
    rw [State.modStage_stage _ _ _ (State.modStage_wf _ _ h1), if_neg hm, State.modStage_stage _ _ _ h1, if_neg hm]
    exact started_stages_ne s p cls op hm
  · show ((((Safety.started s p cls op).modStage p.stage f).modStage p.stage _).stage p.stage) = _
    rw [State.modStage_stage _ _ _ (State.modStage_wf _ _ h1), if_pos rfl, State.modStage_stage _ _ _ h1, if_pos rfl,
      started_stage p cls op hc.2.1]
  · show (Safety.started s p cls op).rd .stgPrmRetired p.stage = _
    unfold Safety.started State.bump
    exact State.wr_rd_same (s := s.modStage p.stage
      (fun t => { t with prm := { t.prm with org := ⟨(s.stage p.stage).prm.pc, cls, op⟩ } })) _ _ _ hc.1
  · intro off ho
    exact State.wr_regs_ne _ _ _ _ ho

/-- An instruction whose effect is one scalar register (R96, R106, R107). -/
theorem issueRd_writes {s : State} {p : Iss} {i : Inst} {uses : List (BitVec 5)} {rd : BitVec 5} (cls op : Nat) (f : Prm → W64)
    (hc : Safety.Canon s) (h : Safety.Issues s p i (rd :: uses)) (hs : Safety.SeqIn s p.stage i) :
    Safety.WritesReg s p.stage rd (f (s.stage p.stage).prm) (issueRd p cls op uses rd f s) := by
  unfold issueRd
  rw [issue_of_issues h]
  have e := goSeq_started (s := s) (p := p) (i := i) cls op
    (fun t => { t with prm := t.prm.setReg rd (f (s.stage p.stage).prm) }) hc h.held hs (fun _ => rfl) (fun _ => by simp)
  obtain ⟨ho, ⟨x, hx, ht⟩, hr, hg⟩ := goSeq_started_reads (s := s) (p := p) cls op
    (fun t => { t with prm := t.prm.setReg rd (f (s.stage p.stage).prm) }) hc (nextPc (s.stage p.stage).prm.pc (s.stage p.stage).prm.loops)
  refine ⟨_, rfl, ?_⟩
  show Safety.RegIs s _ _ _ _ ∧ _
  simp only [State.setReg]
  rw [e]
  have hrg : ∀ q, ((((Safety.started s p cls op).modStage p.stage _).setPc p.stage _ _).stage p.stage).prm.reg q
      = (x.prm).reg q := fun q => by rw [ht]; rfl
  subst hx
  have hreg : ∀ q, (((Safety.started s p cls op).modStage p.stage (fun t => { t with prm := t.prm.setReg rd (f (s.stage p.stage).prm) })).setPc
      p.stage (nextPc (s.stage p.stage).prm.pc (s.stage p.stage).prm.loops).1 (nextPc (s.stage p.stage).prm.pc (s.stage p.stage).prm.loops).2
      |>.stage p.stage).prm.reg q = if q = rd then (if rd = 0 then 0 else f (s.stage p.stage).prm) else (s.stage p.stage).prm.reg q := by
    intro q
    rw [hrg q]
    exact Prm.reg_setReg (p := { (s.stage p.stage).prm with org := ⟨(s.stage p.stage).prm.pc, cls, op⟩ }) rd q _ (hc.2.2 p.stage).1
  refine ⟨⟨by rw [hreg, if_pos rfl], fun q hq => by rw [hreg, if_neg hq]⟩, by rw [ht]; simp, ⟨by rw [ht], by rw [ht], by rw [ht]⟩, ?_, rfl⟩
  exact ⟨⟨hr, hg, ho, rfl, rfl, rfl, rfl, rfl, rfl, rfl, rfl⟩, by rw [ht]⟩

/-- An instruction whose effect is one predicate (R106, R107). -/
theorem issuePd_writes {s : State} {p : Iss} {i : Inst} {uses : List (BitVec 5)} {pd : BitVec 3} (cls op : Nat) (f : Prm → Bool)
    (hc : Safety.Canon s) (h : Safety.Issues s p i uses) (hs : Safety.SeqIn s p.stage i) :
    Safety.WritesPred s p.stage pd (f (s.stage p.stage).prm) (issuePd p cls op uses pd f s) := by
  unfold issuePd
  rw [issue_of_issues h]
  have e := goSeq_started (s := s) (p := p) (i := i) cls op
    (fun t => { t with prm := t.prm.setPred pd (f (s.stage p.stage).prm) }) hc h.held hs (fun _ => rfl) (fun _ => rfl)
  obtain ⟨ho, ⟨x, hx, ht⟩, hr, hg⟩ := goSeq_started_reads (s := s) (p := p) cls op
    (fun t => { t with prm := t.prm.setPred pd (f (s.stage p.stage).prm) }) hc (nextPc (s.stage p.stage).prm.pc (s.stage p.stage).prm.loops)
  refine ⟨_, rfl, ?_⟩
  show Safety.PredIs s _ _ _ _ ∧ _
  simp only [State.setPred]
  rw [e]
  subst hx
  have hpd : ∀ q, (((Safety.started s p cls op).modStage p.stage (fun t => { t with prm := t.prm.setPred pd (f (s.stage p.stage).prm) })).setPc
      p.stage (nextPc (s.stage p.stage).prm.pc (s.stage p.stage).prm.loops).1 (nextPc (s.stage p.stage).prm.pc (s.stage p.stage).prm.loops).2
      |>.stage p.stage).prm.pred q = if q = pd then f (s.stage p.stage).prm else (s.stage p.stage).prm.pred q := by
    intro q
    rw [ht]
    exact Prm.pred_setPred { (s.stage p.stage).prm with org := ⟨(s.stage p.stage).prm.pc, cls, op⟩ } pd q _
  refine ⟨⟨by rw [hpd, if_pos rfl], fun q hq => by rw [hpd, if_neg hq]⟩, fun q => by rw [ht]; rfl,
    ⟨by rw [ht], by rw [ht], by rw [ht]⟩, ?_, rfl⟩
  exact ⟨⟨hr, hg, ho, rfl, rfl, rfl, rfl, rfl, rfl, rfl, rfl⟩, by rw [ht]⟩

end Sys2Proof.Machine
end

