-- ==== Sys2Proof/Tests/Slice0.lean ====
section
/-! SUPPORT. Tests: ill-formed commands are refused, words of the spec's encodings decode, single commands give the results worked out by hand
from the spec's tables, and every statement's hypotheses are met by a concrete state. -/

namespace Sys2Proof.Tests

open Sys2Proof Sys2Proof.Machine Sys2Proof.Safety
set_option Elab.async false

/-- A small kernel instance of a fill context: code region 0-4,095, data region 4,096-69,631 of the Apron. -/
def kin : Inst := ⟨0, false, 0, 0, 0, 2, 0, 0, 0, 0, 4096, 4096, 65536, [], false, false⟩
/-- A Stage that runs it, with s1 = 5, s2 = 3, s3 = 64. -/
def stg : Stage := { Stage.idle with
  inst := some kin
  prm := { Prm.idle with regs := [(1, 5), (2, 3), (3, 64)] } }
/-- The device after reset with Stage 0 in a given state. -/
def dev (t : Stage) : State := { State.reset with stages := [(0, t)] }
/-- The unguarded issue from Stage 0. -/
def p0 : Iss := ⟨0, false, false, 0⟩

/-- The Stage's own maps stand in their one form. -/
def stageForm (t : Stage) : Bool := mwf 0 t.prm.regs && mwf 0 t.ap.bytes && mwf 0 t.ap.ecc && mwf 0 t.sh.sems

theorem mget_mem {α : Type} (d : α) (m : SMap α) (k : Nat) : mget d m k = d ∨ ∃ e ∈ m, e.2 = mget d m k := by
  induction m with
  | nil => exact .inl rfl
  | cons e m ih =>
    obtain ⟨j, v⟩ := e
    simp only [mget]
    split
    · exact .inr ⟨(j, v), by simp, rfl⟩
    · exact ih.imp_right (fun ⟨e, he, h⟩ => ⟨e, by simp [he], h⟩)

theorem canon_of {s : State} (h : (mwf 0 s.regs && mwf Stage.idle s.stages && s.stages.all (fun e => stageForm e.2)) = true) : Canon s := by
  simp only [Bool.and_eq_true, List.all_eq_true] at h
  refine ⟨h.1.1, h.1.2, fun n => ?_⟩
  have key : stageForm (s.stage n) = true := by
    rcases mget_mem Stage.idle s.stages n with e | ⟨x, hx, e⟩
    · rw [State.stage, e]; decide
    · rw [State.stage, ← e]; exact h.2 x hx
  simp only [stageForm, Bool.and_eq_true] at key
  exact ⟨key.1.1.1, key.1.1.2, key.1.2, key.2⟩

theorem issues_dev {s : State} {p : Iss} {i : Inst} {uses : List (BitVec 5)}
    (h : (decide (p.stage < 144) && decide ((s.stage p.stage).inst = some i) && (s.stage p.stage).canIssue
      && !(uses.any (s.stage p.stage).regBusy) && (s.stage p.stage).prm.guarded p) = true) : Issues s p i uses := by
  simp only [Bool.and_eq_true, decide_eq_true_eq, Bool.not_eq_true'] at h
  exact ⟨h.1.1.1.1, h.1.1.1.2, h.1.1.2, h.1.2, h.2⟩

theorem seq_dev {s : State} {n : Nat} {i : Inst} (h : decide ((w64 (nextPc (s.stage n).prm.pc (s.stage n).prm.loops).1).toNat < i.codeSize
    ∧ (w64 (nextPc (s.stage n).prm.pc (s.stage n).prm.loops).1).toNat % 8 = 0) = true) : SeqIn s n i := by
  unfold SeqIn Fetchable
  exact of_decide_eq_true h

theorem fetch_dev {i : Inst} {a : W64} (h : decide (a.toNat < i.codeSize ∧ a.toNat % 8 = 0) = true) : Fetchable i a := by
  unfold Fetchable
  exact of_decide_eq_true h

-- Ill-formed commands are refused by the check, one for each check.
theorem test_wf_stage : Instr.wf (.nop ⟨144, false, false, 0⟩) = false := by decide
theorem test_wf_stage_event : Instr.wf (.endComplete 144) = false := by decide
theorem test_wf_port : Instr.wf (.nak 24 0) = false := by decide
theorem test_wf_packet : Instr.wf (.chunk 0 ⟨0, 0, 8, 0, 2, 0, 0, 0, 0, 0, [0]⟩) = false := by decide
theorem test_wf_packet_payload : Instr.wf (.chunk 0 ⟨0, 0, 2, 0, 2, 0, 0, 0, 0, 0, []⟩) = false := by decide
theorem test_wf_counts : Instr.wf (.credit 0 [1]) = false := by decide
theorem test_wf_lane : Instr.wf (.laneLockLoss 0 8) = false := by decide
theorem test_wf_slot : Instr.wf (.identify (.slot 64)) = false := by decide
theorem test_wf_link_source : Instr.wf (.rosterGet (.link 24 ⟨[], [], false⟩)) = false := by decide
theorem test_wf_eth_source : Instr.wf (.identify (.eth 4 ⟨[], [], false⟩)) = false := by decide
theorem test_wf_doorbell : Instr.wf (.doorbell 64 0) = false := by decide
theorem test_wf_bell : Instr.wf (.h2fBellWrite 16 0) = false := by decide
theorem test_wf_endpoint : Instr.wf (.endpointDisable 256) = false := by decide
theorem test_wf_offset : Instr.wf (.rcRegisterRead 4 none) = false := by decide
theorem test_wf_eth_port : Instr.wf (.ethPortRetrain 4 true) = false := by decide
theorem test_wf_sample : Instr.wf (.dimmerSample ⟨0, 0, [], [], [], []⟩) = false := by decide
theorem test_wf_regulator : Instr.wf (.vrAlert 7 1 0) = false := by decide
theorem test_wf_field : Instr.wf (.droopDetect 4 1) = false := by decide
theorem test_wf_pll : Instr.wf (.pllLockLoss 25) = false := by decide
theorem test_wf_flit : Instr.wf (.flit 0 ⟨[0], false, false⟩) = false := by decide
theorem test_wf_codeword : Instr.wf (.flit 0 ⟨[], false, true⟩) = false := by decide
theorem test_wf_retry : Instr.wf (.shardRetryTimeout 145 0) = false := by decide
theorem test_wf_reduce : Instr.wf (.reduceWrite ⟨0, 0, 0, 0, 0, [], false⟩ 144 0) = false := by decide
theorem test_wf_channel : Instr.wf (.channelRetire 384) = false := by decide
theorem test_wf_belr : Instr.wf (.belr p0 2 0) = false := by decide
theorem test_wf_vdrop : Instr.wf (.vdrop p0 ⟨0, 0, 0, 0⟩ 1 0) = false := by decide

-- Words written out from the encoding tables (R99, R106-R117, R120, R131, R156-R161), one for each class.
theorem test_decode_add : decodeKernel 0 0x00000C2200000000 = .ok (.add p0 3 1 2) := by decide +kernel
theorem test_decode_movi : decodeKernel 0 0x10801400FFFFFFFF = .ok (.movi p0 5 0xFFFFFFFF) := by decide +kernel
theorem test_decode_br : decodeKernel 0 0x20100000FFFFFFFF = .ok (.br p0 0xFFFFFFFF) := by decide +kernel
theorem test_decode_std : decodeKernel 0 0x30B01D0000000010 = .ok (.std p0 7 8 16) := by decide +kernel
theorem test_decode_mma : decodeKernel 0 0x402006707803C000 = .ok (.mma p0 ⟨false, 1, true, 7, 0, 0xF, 0, false, 15, 0⟩) := by decide +kernel
theorem test_decode_drain : decodeKernel 0 0x5000089000000000 = .ok (.drain p0 2 9) := by decide +kernel
theorem test_decode_vadd : decodeKernel 0 0x6000091808280000 = .ok (.vadd p0 ⟨1, 2, 3, 0, 4, 5, 0, false⟩) := by decide +kernel
theorem test_decode_vpop : decodeKernel 0 0x7000120000000000 = .ok (.vpop p0 2 1) := by decide +kernel
theorem test_decode_reserved : decodeKernel 0 0xB000000000000000 = .error (.reservedClass 11) := by decide +kernel

-- Results worked out by hand.
/-- The value of scalar register `r` of Stage 0 after a command. -/
def regAfter (o : Host.Outcome State Fault Refusal) (r : BitVec 5) : Option W64 :=
  match o with
  | .next t => some ((t.stage 0).prm.reg r)
  | _ => none
/-- Another field of Stage 0 after a command. -/
def prmAfter (o : Host.Outcome State Fault Refusal) : Option Prm :=
  match o with
  | .next t => some (t.stage 0).prm
  | _ => none

theorem test_sub_wraps : regAfter (exec (.sub p0 4 2 1) (dev stg)) 4 = some 0xFFFFFFFFFFFFFFFE := by decide +kernel
theorem test_add_to_source : regAfter (exec (.add p0 1 1 1) (dev stg)) 1 = some 10 := by decide +kernel
theorem test_div_by_zero : regAfter (exec (.div p0 4 1 0) (dev stg)) 4 = some 0xFFFFFFFFFFFFFFFF := by decide +kernel
theorem test_rem_by_zero : regAfter (exec (.rem p0 4 1 0) (dev stg)) 4 = some 5 := by decide +kernel
theorem test_shl_takes_six_bits : regAfter (exec (.shl p0 4 1 3) (dev stg)) 4 = some 5 := by decide +kernel
theorem test_clz : regAfter (exec (.clz p0 4 1) (dev stg)) 4 = some 61 := by decide +kernel
theorem test_s0_stays_zero : regAfter (exec (.movi p0 0 7) (dev stg)) 0 = some 0 := by decide +kernel
theorem test_movhi : regAfter (exec (.movhi p0 1 2) (dev stg)) 1 = some 0x0000000200000005 := by decide +kernel
theorem test_cltu : (prmAfter (exec (.cltu p0 3 2 1) (dev stg))).map (fun x => x.preds) = some 8 := by decide +kernel
theorem test_br_target : (prmAfter (exec (.br p0 3) (dev stg))).map (fun x => x.pc) = some 24 := by decide +kernel
theorem test_loop_pushes : (prmAfter (exec (.loop p0 1 4) (dev stg))).map (fun x => x.loops) = some [⟨8, 32, 5⟩] := by decide +kernel
theorem test_std_ldd : regAfter (match exec (.std p0 1 0 8) (dev stg) with | .next t => exec (.ldd p0 6 0 8) t | o => o) 6 = some 5 := by
  decide +kernel
theorem test_ldb_sign : regAfter (exec (.ldb p0 4 0 0) (dev { stg with ap := ⟨[(4096, 0x80)], [], [], none⟩ })) 4 = some 0xFFFFFFFFFFFFFF80 := by
  decide +kernel
theorem test_semset_semrd : regAfter (match exec (.semset p0 3 9) (dev stg) with | .next t => exec (.semrd p0 3 4) t | o => o) 4 = some 9 := by
  decide +kernel
theorem test_belr_empty : regAfter (exec (.belr p0 1 0) (dev stg)) 1 = some 0 := by decide +kernel

-- Witnesses: for each statement, states and operands that meet its hypotheses together, clause by clause.

theorem canon_stg : Canon (dev stg) := canon_of (by decide +kernel)
/-- With an empty Snare queue no register is owed, whatever an instruction names. -/
theorem issues_all {t : Stage} (uses : List (BitVec 5)) (hq : t.sn.queue = []) {p : Iss} (hp : p.stage = 0) (hi : t.inst = some kin)
    (hc : t.canIssue = true) (hg : t.prm.guarded p = true) : Issues (dev t) p kin uses := by
  have hs : (dev t).stage 0 = t := rfl
  refine ⟨by rw [hp]; decide, by rw [hp, hs, hi], by rw [hp, hs, hc], ?_, by rw [hp, hs, hg]⟩
  rw [hp, hs]
  induction uses with
  | nil => rfl
  | cons r rs ih => rw [List.any_cons, ih]; simp [Stage.regBusy, hq]
theorem issues_stg (uses : List (BitVec 5)) : Issues (dev stg) p0 kin uses := issues_all uses rfl rfl rfl (by decide +kernel) (by decide +kernel)
theorem seq_stg : SeqIn (dev stg) 0 kin := seq_dev (by decide +kernel)
/-- The last instruction of the code region is followed by none; the one before it by one. -/
def stgLast : Stage := { stg with prm := { stg.prm with pc := 4080 } }

theorem witness_ScalarRegisterOperations : Canon (dev stg) ∧ Issues (dev stg) p0 kin [31, 1, 2] ∧ Issues (dev stg) p0 kin [0, 0, 0]
    ∧ SeqIn (dev stg) 0 kin ∧ SeqIn (dev stgLast) 0 kin := ⟨canon_stg, issues_stg _, issues_stg _, seq_stg, seq_dev (by decide +kernel)⟩
theorem witness_CountsAndSpecialValues : Canon (dev stg) ∧ Issues (dev stg) p0 kin [31, 1] ∧ Issues (dev stg) p0 kin [4] ∧ SeqIn (dev stg) 0 kin
    ∧ (0xFF : BitVec 8) ∉ ([0x00, 0x01, 0x02, 0x03, 0x04, 0x05, 0x06, 0x10, 0x11, 0x12, 0x13] : List (BitVec 8)) :=
  ⟨canon_stg, issues_stg _, issues_stg _, seq_stg, by decide⟩
theorem witness_CompareAndPredicateOperations : Canon (dev stg) ∧ Issues (dev stg) p0 kin [1, 2] ∧ Issues (dev stg) p0 kin [31]
    ∧ Issues (dev stg) p0 kin [] ∧ SeqIn (dev stg) 0 kin := ⟨canon_stg, issues_stg _, issues_stg _, issues_stg _, seq_stg⟩
theorem witness_ScalarImmediateOperations : Canon (dev stg) ∧ Issues (dev stg) p0 kin [4, 1] ∧ Issues (dev stg) p0 kin [4] ∧ SeqIn (dev stg) 0 kin :=
  ⟨canon_stg, issues_stg _, issues_stg _, seq_stg⟩
theorem witness_GuardOffPassesOver : Canon (dev stg) ∧ ((dev stg).stage 0).inst = some kin ∧ ((dev stg).stage 0).canIssue = true
    ∧ [1, 2, 3].any ((dev stg).stage 0).regBusy = false ∧ ((dev stg).stage 0).prm.guarded ⟨0, true, false, 7⟩ = false ∧ SeqIn (dev stg) 0 kin :=
  ⟨canon_stg, by decide +kernel, by decide +kernel, by decide +kernel, by decide +kernel, seq_stg⟩

/-- Stage 0 inside four loops. -/
def stgLoops : Stage := { stg with prm := { stg.prm with loops := [⟨8, 16, 2⟩, ⟨8, 24, 2⟩, ⟨8, 32, 2⟩, ⟨8, 40, 2⟩] } }
theorem witness_BranchesAndLoops :
    (Canon (dev stg) ∧ Issues (dev stg) p0 kin [] ∧ SeqIn (dev stg) 0 kin ∧ Fetchable kin (BitVec.ofNat 64 0 + 8 * (511#32).signExtend 64)
      ∧ Fetchable kin (((dev stg).stage 0).prm.reg 3) ∧ (∀ e ∈ stgLoops.prm.loops, (0 : Nat) < e.first ∨ e.last < 0))
    ∧ (Issues (dev stg) p0 kin [1] ∧ 0 < (1#32).toInt ∧ 0 < (((dev stg).stage 0).prm.reg 1).toNat ∧ Fetchable kin (BitVec.ofNat 64 8))
    ∧ ((((dev stg).stage 0).prm.reg 0).toNat = 0 ∧ Fetchable kin (BitVec.ofNat 64 (nextPc 8 stg.prm.loops).1))
    ∧ (Canon (dev stgLoops) ∧ Issues (dev stgLoops) p0 kin [1] ∧ 4 ≤ stgLoops.prm.loops.length ∧ stgLoops.prm.pc < 2 ^ 23) :=
  ⟨⟨canon_stg, issues_stg _, seq_stg, fetch_dev (by decide +kernel), fetch_dev (by decide +kernel), by decide⟩,
    ⟨issues_stg _, by decide, by decide +kernel, fetch_dev (by decide +kernel)⟩, ⟨by decide +kernel, fetch_dev (by decide +kernel)⟩,
    ⟨canon_of (by decide +kernel), issues_all _ rfl rfl rfl (by decide +kernel) (by decide +kernel), by decide, by decide⟩⟩

/-- Stage 0 at its END, with a slot left open or none. -/
def stgEnding (slots : SMap Slot) : Stage := { stg with prm := { stg.prm with wait := .ending }, mx := { Mxa.empty with slots := slots } }
def openSlot : Slot := ⟨true, false, 16, [0], []⟩
theorem witness_KernelsEndAndTrap : Canon (dev stg) ∧ Issues (dev stg) p0 kin [] ∧ Canon (dev (stgEnding [])) ∧ (stgEnding []).endReady = true
    ∧ (stgEnding [(1, openSlot)]).endReady = true ∧ (stgEnding [(1, openSlot)]).mx.slots.any (fun e => e.2.opened) = true :=
  ⟨canon_stg, issues_stg _, canon_of (by decide +kernel), by decide +kernel, by decide +kernel, by decide +kernel⟩

theorem reaches_stg {a : W64} {len : Nat} (h : decide (a.toNat % len = 0 ∧ a.toNat + len ≤ kin.dataSize) = true) :
    Reaches (dev stg) 0 kin a len := ⟨(of_decide_eq_true h).1, (of_decide_eq_true h).2, fun _ _ _ => rfl⟩
theorem witness_LoadsReadTheDataRegion : Canon (dev stg) ∧ Issues (dev stg) p0 kin [4, 0] ∧ SeqIn (dev stg) 0 kin
    ∧ Reaches (dev stg) 0 kin (accessAddr (dev stg) 0 0 65535) 1 ∧ Reaches (dev stg) 0 kin (accessAddr (dev stg) 0 0 65534) 2
    ∧ Reaches (dev stg) 0 kin (accessAddr (dev stg) 0 0 65532) 4 ∧ Reaches (dev stg) 0 kin (accessAddr (dev stg) 0 0 65528) 8
    ∧ Reaches (dev stg) 0 kin (accessAddr (dev stg) 0 0 0) 8 :=
  ⟨canon_stg, issues_stg _, seq_stg, reaches_stg (by decide +kernel), reaches_stg (by decide +kernel), reaches_stg (by decide +kernel),
    reaches_stg (by decide +kernel), reaches_stg (by decide +kernel)⟩
theorem witness_StoresWriteTheirBytesOnly : Canon (dev stg) ∧ Issues (dev stg) p0 kin [1, 0] ∧ SeqIn (dev stg) 0 kin
    ∧ Reaches (dev stg) 0 kin (accessAddr (dev stg) 0 0 65535) 1 ∧ Reaches (dev stg) 0 kin (accessAddr (dev stg) 0 0 65534) 2
    ∧ Reaches (dev stg) 0 kin (accessAddr (dev stg) 0 0 65532) 4 ∧ Reaches (dev stg) 0 kin (accessAddr (dev stg) 0 0 65528) 8 :=
  ⟨canon_stg, issues_stg _, seq_stg, reaches_stg (by decide +kernel), reaches_stg (by decide +kernel), reaches_stg (by decide +kernel),
    reaches_stg (by decide +kernel)⟩
theorem witness_BadAccessesFault : Issues (dev stg) p0 kin [4, 0] ∧ (accessAddr (dev stg) 0 0 1).toNat % 2 ≠ 0
    ∧ kin.dataSize < (accessAddr (dev stg) 0 0 65536).toNat + 1 ∧ kin.dataSize < (accessAddr (dev stg) 0 0 65532).toNat + 8 :=
  ⟨issues_stg _, by decide +kernel, by decide +kernel, by decide +kernel⟩

/-- Stage 0's STG_FAULT with VALID set. -/
def devFault : State := (dev stg).setFld .stgFault 0 25 25 1
theorem witness_FirstFaultIsKept : Canon (dev stg) ∧ kin.ctx < 16 ∧ (dev stg).fld .stgFault 0 25 25 = 0 ∧ devFault.fld .stgFault 0 25 25 = 1
    ∧ Canon devFault := ⟨canon_stg, by decide, by decide +kernel, by decide +kernel, canon_of (by decide +kernel)⟩

/-- Stage 0 with semaphore 3 at a value. -/
def stgSem (v : BitVec 16) : Stage := { stg with sh := ⟨[], [(3, v)], []⟩ }
theorem issues_sem (v : BitVec 16) (uses : List (BitVec 5)) : Issues (dev (stgSem v)) p0 kin uses :=
  issues_all uses rfl rfl rfl (by simp [Stage.canIssue, stgSem, stg, Prm.idle]) (by decide +revert +kernel)
theorem witness_Semaphores :
    (Canon (dev (stgSem 65535)) ∧ SeqIn (dev (stgSem 65535)) 0 kin ∧ Issues (dev (stgSem 65535)) p0 kin []
      ∧ ((stgSem 65535).sem 3).toNat + (0#16).toNat ≤ 65535 ∧ (65535#16) ≤ (stgSem 65535).sem 3)
    ∧ (Canon (dev (stgSem 4)) ∧ SeqIn (dev (stgSem 4)) 0 kin ∧ Issues (dev (stgSem 4)) p0 kin [4] ∧ (stgSem 4).sem 3 < 5#16)
    ∧ 65535 < ((stgSem 65535).sem 3).toNat + (1#16).toNat
    ∧ (Issues (dev (stgSem 4)) p0 kin [2] ∧ kin.count ≤ (((dev (stgSem 4)).stage 0).prm.reg 2).toNat) :=
  ⟨⟨canon_of (by decide +kernel), seq_dev (by decide +kernel), issues_sem _ _, by decide +kernel, by decide +kernel⟩,
    ⟨canon_of (by decide +kernel), seq_dev (by decide +kernel), issues_sem _ _, by decide +kernel⟩, by decide +kernel,
    ⟨issues_sem _ _, by decide +kernel⟩⟩

/-- Stage 0 with a signal under way to instance 1 of launch 0, which Stage 1 runs, or to one that has ended. -/
def stgRemote (i : Nat) : Stage := { stg with sh := ⟨[], [], [⟨0, i, 3, 65535⟩]⟩ }
def devRemote (i : Nat) : State := { dev (stgRemote i) with stages := [(0, stgRemote i), (1, { stg with inst := some { kin with index := 1 } })] }
theorem witness_RemoteSignalsTravel :
    (Canon (dev stg) ∧ Issues (dev stg) p0 kin [0] ∧ SeqIn (dev stg) 0 kin ∧ (((dev stg).stage 0).prm.reg 0).toNat < kin.count)
    ∧ (Canon (devRemote 1) ∧ ((devRemote 1).stage 0).sh.remote = [⟨0, 1, 3, 65535⟩] ∧ (devRemote 1).instStage 0 1 = some 1
      ∧ (((devRemote 1).stage 1).sem 3).toNat + 65535 ≤ 65535)
    ∧ (Canon (dev (stgRemote 5)) ∧ ((dev (stgRemote 5)).stage 0).sh.remote = [⟨0, 5, 3, 65535⟩] ∧ (dev (stgRemote 5)).instStage 0 5 = none) :=
  ⟨⟨canon_stg, issues_stg _, seq_stg, by decide +kernel⟩, ⟨canon_of (by decide +kernel), by decide +kernel, by decide +kernel, by decide +kernel⟩,
    ⟨canon_of (by decide +kernel), by decide +kernel, by decide +kernel⟩⟩

/-- Stage 0 while its Prompter waits, and with work in its feed queue. -/
def stgWait (w : PrmWait) : Stage := { stgSem 4 with prm := { stg.prm with wait := w } }
def feed1 (op : FeedOp) : FeedEnt := ⟨⟨0, 4, 0⟩, 7, op⟩
def stgBusy : Stage := { stg with mx := { Mxa.empty with feed := [feed1 (.azero 0 false 16)] } }
def kinLead : Inst := { kin with lead := true }
def stgLead : Stage := { stg with inst := some kinLead }
theorem witness_WaitsBeginAndEnd :
    (Canon (dev stg) ∧ Issues (dev stg) p0 kin [] ∧ SeqIn (dev stg) 0 kin ∧ ((dev stg).stage 0).fenceOk 0x3F = true)
    ∧ (Canon (dev stgBusy) ∧ Issues (dev stgBusy) p0 kin [] ∧ SeqIn (dev stgBusy) 0 kin ∧ ((dev stgBusy).stage 0).fenceOk 0x3F = false)
    ∧ (Canon (dev stgLead) ∧ Issues (dev stgLead) p0 kinLead [4] ∧ kinLead.lead = true ∧ Issues (dev stg) p0 kin [4] ∧ kin.lead = false)
    ∧ (Canon (dev (stgWait (.sem 3 4))) ∧ (stgWait (.sem 3 4)).inst = some kin ∧ Fetchable kin (BitVec.ofNat 64 (stgWait (.sem 3 4)).prm.pc)
      ∧ (4 : Nat) ≤ ((stgWait (.sem 3 4)).sem 3).toNat)
    ∧ ((stgWait (.fence 0x3F)).prm.wait = .fence 0x3F ∧ (stgWait (.fence 0x3F)).fenceOk 0x3F = true)
    ∧ ((stgWait (.curtain 4)).prm.wait = .curtain 4 ∧ kin.step < { (dev (stgWait (.curtain 4))).sched with step := 1 }.step)
    ∧ ((stgWait (.sem 3 5)).prm.wait = .sem 3 5 ∧ ((stgWait (.sem 3 5)).sem 3).toNat < 5
      ∧ ({ stgBusy with prm := { stg.prm with wait := .fence 0x3F } } : Stage).fenceOk 0x3F = false) :=
  ⟨⟨canon_stg, issues_stg _, seq_stg, by decide +kernel⟩,
    ⟨canon_of (by decide +kernel), issues_all _ rfl rfl rfl (by decide +kernel) (by decide +kernel), seq_dev (by decide +kernel), by decide +kernel⟩,
    ⟨canon_of (by decide +kernel), issues_dev (by decide +kernel), rfl, issues_stg _, rfl⟩,
    ⟨canon_of (by decide +kernel), rfl, fetch_dev (by decide +kernel), by decide +kernel⟩,
    ⟨rfl, by decide +kernel⟩, ⟨rfl, by decide⟩, ⟨rfl, by decide +kernel, by decide +kernel⟩⟩

/-- Stage 0's two Bells, FULL or clear. -/
def bellIf (f : Bool) : SMap Bell := if f then [(0, ⟨true, 9⟩)] else []
def devBells (f : Bool) : State := { dev stg with booth := { BoothSt.empty with bellP2F := bellIf f, bellF2P := bellIf f } }
theorem issues_bells (f : Bool) (uses : List (BitVec 5)) : Issues (devBells f) p0 kin uses := by
  obtain ⟨a, b, c, d, e⟩ := issues_stg uses
  exact ⟨a, b, c, d, e⟩
theorem witness_PrompterBells :
    (Canon (devBells true) ∧ mwf Bell.clear (devBells true).booth.bellP2F = true ∧ mwf Bell.clear (devBells true).booth.bellF2P = true
      ∧ SeqIn (devBells true) 0 kin ∧ Issues (devBells true) p0 kin [1] ∧ (mget Bell.clear (devBells true).booth.bellP2F 0).full = true
      ∧ (mget Bell.clear (devBells true).booth.bellF2P 0).full = true)
    ∧ (Canon (devBells false) ∧ SeqIn (devBells false) 0 kin ∧ Issues (devBells false) p0 kin []
      ∧ (mget Bell.clear (devBells false).booth.bellP2F 0).full = false ∧ (mget Bell.clear (devBells false).booth.bellF2P 0).full = false) :=
  ⟨⟨canon_of (by decide +kernel), by decide, by decide, seq_dev (by decide +kernel), issues_bells _ _, by decide, by decide⟩,
    ⟨canon_of (by decide +kernel), seq_dev (by decide +kernel), issues_bells _ _, by decide, by decide⟩⟩

/-- Stage 0 with its matrix queues full. -/
def stgFull : Stage := { stg with mx := { Mxa.empty with feed := List.replicate 8 (feed1 (.azero 0 false 16)), svc := List.replicate 8 ⟨⟨0, 5, 0⟩, 7, .drain 0 0⟩ } }
/-- Segment 1 of chain 0 runs on instance 0 of kernel 0. -/
def scoreOne : Score := ⟨[⟨[], 0, 64, [], 0, 1, false⟩], [], [], [], [], [], [⟨0, 0, [(0, 0), (0, 1)]⟩], [], [], none⟩
def ctxOne : Ctx := {
  num := 0, lead := false, prio := 0, resident := true, suspended := false, suspCause := 0, resumed := false, jobId := 1,
  seed := 0, cacheSegs := 1, scratchSegs := 0, cacheMask := 1, scratchMask := 0, stackGib := 1, score := some scoreOne, shape := none, tensors := [],
  wsets := [], mbNext := 0, submitted := 0, since := 0, preemptRun := 0, saved := [], savedRng := [] }
def devCtx (t : Stage) : State := { dev t with sched := { SchedSt.empty with ctxs := [ctxOne] } }
theorem issues_ctx (uses : List (BitVec 5)) : Issues (devCtx stg) p0 kin uses := by
  obtain ⟨a, b, c, d, e⟩ := issues_stg uses
  exact ⟨a, b, c, d, e⟩
theorem witness_MatrixInstructionsJoinTheirQueues :
    (Canon (dev stg) ∧ SeqIn (dev stg) 0 kin ∧ Issues (dev stg) p0 kin [1, 2] ∧ stg.mx.feed.length < 8 ∧ stg.mx.svc.length < 8)
    ∧ (Canon (dev stgFull) ∧ SeqIn (dev stgFull) 0 kin ∧ Issues (dev stgFull) p0 kin [1, 2] ∧ 8 ≤ stgFull.mx.feed.length ∧ 8 ≤ stgFull.mx.svc.length)
    ∧ ((0xC#4).toNat ≤ 0xC ∧ 0xC < (0xD#4).toNat)
    ∧ (Canon (devCtx stg) ∧ Issues (devCtx stg) p0 kin [0] ∧ SeqIn (devCtx stg) 0 kin ∧ (devCtx stg).hndOk kin (0x0000000100000000#64) false = true
      ∧ (devCtx stg).hndOk kin (0x0000000100000001#64) false = false) :=
  ⟨⟨canon_stg, seq_stg, issues_stg _, by decide, by decide⟩,
    ⟨canon_of (by decide +kernel), seq_dev (by decide +kernel), issues_all _ rfl rfl rfl (by decide +kernel) (by decide +kernel), by decide, by decide⟩,
    ⟨by decide, by decide⟩, ⟨canon_of (by decide +kernel), issues_ctx _, seq_dev (by decide +kernel), by decide +kernel, by decide +kernel⟩⟩

/-- Stage 0 with a feed operation at the head and a given slot 1, service queue and port. -/
def stgMx (op : FeedOp) (x : Slot) (svc : List SvcEnt) : Stage := { stg with mx := { Mxa.empty with
  feed := [feed1 op]
  slots := if x = Slot.closed then [] else [(1, x)]
  svc := svc } }
def svc1 (op : SvcOp) : SvcEnt := ⟨⟨0, 5, 0⟩, 3, op⟩
/-- A slot that holds the blocks below `k`. -/
def slotOf (k : Nat) : Slot := ⟨true, false, 16 * k, List.range k, []⟩

theorem witness_AzeroOpensSlotsAfresh :
    (Canon (dev (stgMx (.azero 1 false 256) (slotOf 1) [svc1 (.drain 1 0)])) ∧ (stgMx (.azero 1 false 256) (slotOf 1) []).inst = some kin
      ∧ (stgMx (.azero 1 false 256) (slotOf 1) [svc1 (.drain 1 0)]).mx.closing 1 7 = true)
    ∧ (Canon (dev (stgMx (.azero 1 false 1) (slotOf 1) [])) ∧ (stgMx (.azero 1 false 1) (slotOf 1) []).mx.closing 1 7 = false)
    ∧ (Canon (dev (stgMx (.azero 1 true 128) .closed [])) ∧ ((stgMx (.azero 1 true 128) .closed []).mx.slot 1).opened = false
      ∧ (128 + 15) / 16 * 2 ≤ (stgMx (.azero 1 true 128) .closed []).mx.freeBlocks.length) :=
  ⟨⟨canon_of (by decide +kernel), by decide +kernel, by decide +kernel⟩, ⟨canon_of (by decide +kernel), by decide +kernel⟩,
    ⟨canon_of (by decide +kernel), by decide +kernel, by decide +kernel⟩⟩
theorem witness_AzeroWaitsForBlocks :
    ((stgMx (.azero 0 true 129) .closed []).inst = some kin ∧ 128 < 129 ∧ (stgMx (.azero 0 false 0) .closed []).mx.feed = [feed1 (.azero 0 false 0)])
    ∧ (((stgMx (.azero 0 false 256) (slotOf 1) [svc1 (.drain 1 0)]).mx.slot 0).opened = false
      ∧ (stgMx (.azero 0 false 256) (slotOf 1) [svc1 (.drain 1 0)]).mx.freeBlocks.length < 16
      ∧ 16 ≤ (stgMx (.azero 0 false 256) (slotOf 1) [svc1 (.drain 1 0)]).mx.freeBlocks.length
          + (stgMx (.azero 0 false 256) (slotOf 1) [svc1 (.drain 1 0)]).mx.willFree)
    ∧ (stgMx (.azero 0 false 256) (slotOf 1) []).mx.freeBlocks.length + (stgMx (.azero 0 false 256) (slotOf 1) []).mx.willFree < 16 := by
  decide +kernel

/-- Stage 0 with a WLD that the weight port holds pending. -/
def stgPend (op : FeedOp) : Stage := { stg with mx := { Mxa.empty with pend := some (feed1 op) } }
def stgPort : Stage := { stg with mx := { Mxa.empty with port := some ⟨7, true, ⟨true, [(5, 1)], false, false, []⟩, 0, 0⟩ } }
theorem witness_WeightTilesLoad :
    ((stgPend (.wld true 0 16384 true)).mx.port = none ∧ (stgPend (.wld true 0 16384 true)).mx.mma = none ∧ (0#64).toNat % 1024 = 0
      ∧ (0#64).toNat + 16384 ≤ kin.dataSize ∧ ((dev (stgPend (.wld true 0 16384 true))).apRead 0 (4096 + 0) 16384 0).2.1 = false
      ∧ (16384#64).toNat % 64 = 0 ∧ (16384#64).toNat + 1024 ≤ kin.dataSize
      ∧ (((dev (stgPend (.wld true 0 16384 true))).apRead 0 (4096 + 0) 16384 0).2.2.apRead 0 (4096 + 16384) 1024 0).2.1 = false)
    ∧ ((0xC000#64).toNat + 16384 ≤ kin.dataSize ∧ (stgPend (.wld false 0xC000 0 false)).mx.pend = some (feed1 (.wld false 0xC000 0 false)))
    ∧ (Canon (dev stgPort) ∧ stgPort.mx.port.isSome = true) :=
  ⟨by decide +kernel, by decide +kernel, canon_of (by decide +kernel), by decide +kernel⟩

/-- Stage 0 with an MMA at the head of its feed queue, slot 1 open, weights loaded, and a descriptor of one array at data offset 0. -/
def stgMma : Stage := { stgMx (.mma true 1 true 0 0 1 0 1) (slotOf 1) [] with
  ap := ⟨[(4100, 64)], [], [], none⟩
  mx := { (stgMx (.mma true 1 true 0 0 1 0 1) (slotOf 1) []).mx with wt1 := ⟨true, [], true, true, []⟩ } }
def actOne : ActEnt := ⟨0, 64, 0, 0⟩
def runOne : MmaRun := ⟨⟨0, 4, 2⟩, 7, true, 1, true, 0, [actOne, actOne, actOne, actOne], [(0, [0, 1])]⟩
def stgRun : Stage := { stgMma with mx := { stgMma.mx with feed := [], mma := some runOne } }
def flyOne : RowFly := ⟨4, 7, 1, 0, 0, []⟩
def actMma : ActEnt := actEnt (((State.apReads 0 [(4096 + 0, 16)] (dev stgMma)).1).getD 0 [])
theorem witness_MmaRowsStream :
    (mmaFmt 0 = some ⟨.e4m3, .e4m3, false, 64⟩ ∧ stgMma.mx.mma = none ∧ (stgMma.mx.slot 1).opened = true ∧ 1 ≤ (stgMma.mx.slot 1).m
      ∧ stgMma.mx.wtComing true = false ∧ (stgMma.mx.wt true).valid = true ∧ (0#64).toNat % 64 = 0 ∧ (0#64).toNat + 64 ≤ kin.dataSize
      ∧ (State.apReads 0 [(4096 + 0, 16)] (dev stgMma)).2.1 = false ∧ actMma.strideOk ⟨.e4m3, .e4m3, false, 64⟩ = true
      ∧ (∀ r ∈ fedRows [] 1, actMma.badRow kin ⟨.e4m3, .e4m3, false, 64⟩ r = none) ∧ (fedRows [] 1).isEmpty = false)
    ∧ (stgRun.mx.mma = some runOne ∧ stgRun.mx.fly = []
      ∧ (State.enterRows 0 kin runOne ⟨.e4m3, .e4m3, false, 64⟩ ((stgRun.mx.wt true).cols ⟨.e4m3, .e4m3, false, 64⟩) 0 [(0, 0)] (dev stgRun)).1.isSome = true)
    ∧ ({ stgRun.mx with fly := [flyOne] } : Mxa).fly = [flyOne] := by
  refine ⟨by decide +kernel, by decide +kernel, rfl⟩

def stgSvc (op : SvcOp) (run : Option SvcRun) : Stage := { stg with mx := { Mxa.empty with
  svc := [svc1 op]
  slots := [(1, slotOf 1)]
  svcRun := run } }
def blockOne : Block := ⟨0, 0, false, [], [], [], []⟩
def drainOne : DrainDesc := ⟨0, 0, false, false, 1, 0, 0, 0, 0⟩
theorem witness_DrainsFillTheFinishedTileQueue :
    ((stgSvc (.drain 1 0) none).mx.pendingInto 1 3 = false ∧ ((stgSvc (.drain 1 0) none).mx.slot 1).opened = true
      ∧ (65504#64).toNat % 32 = 0 ∧ (65504#64).toNat + 32 ≤ kin.dataSize ∧ ((dev (stgSvc (.drain 1 0) none)).apRead 0 4096 32 0).2.1 = false
      ∧ (drainDesc kin false ((dev (stgSvc (.drain 1 0) none)).apRead 0 4096 32 0).1).isSome = true)
    ∧ ((stgSvc (.drain 1 0) (some ⟨some drainOne, [(0, 0, false)], none, true⟩)).mx.ftq.length < 8
      ∧ (stgSvc (.drain 1 0) (some ⟨some drainOne, [(0, 0, false)], none, true⟩)).mx.mayUse none 0 = true
      ∧ ({ Mxa.empty with uses := [⟨some 3, 0⟩] } : Mxa).mayUse none 0 = false
      ∧ (List.replicate 8 (⟨0, false, [], [], 0, false, []⟩ : FtqEnt)).length = 8)
    ∧ (stgSvc (.drain 1 0) (some ⟨some drainOne, [(0, 0, false)], some blockOne, true⟩)).mx.svcRun = some ⟨some drainOne, [(0, 0, false)], some blockOne, true⟩ := by
  refine ⟨by decide +kernel, by decide +kernel, rfl⟩

/-- Stage 0 runs segment 0 and holds the ROLL, Stage 1 segment 1 and its Roll-in. -/
def rollOne (amask : Nat) : RollIn := ⟨⟨0, 5, 2⟩, 3, 1, 0, false, amask, false, [blockOne], 1⟩
def devRoll (amask : Nat) : State := { devCtx (stgSvc (.roll 1 0x0000000100000000 1 false 1) none) with
  stages := [(0, stgSvc (.roll 1 0x0000000100000000 1 false 1) none),
    (1, { stg with
      inst := some { kin with index := 1 }
      mx := { Mxa.empty with
        slots := [(1, slotOf 1)]
        rollIns := [rollOne amask] } })] }
theorem witness_RollsAndMatrixWaits :
    ((stgSvc (.racc 1 0 false 1) none).mx.svc = [svc1 (.racc 1 0 false 1)] ∧ ((stgSvc (.racc 1 0 false 1) none).mx.slot 1).opened = true)
    ∧ (((devRoll 1).stage 0).mx.pendingInto 1 3 = false ∧ (devRoll 1).segInst kin 0x0000000100000000 = some 1
      ∧ (devRoll 1).instStage 0 1 = some 1
      ∧ ((devRoll 1).stage 1).mx.rollIns.find? (fun r => rollPair 0x0000000100000000 r && !r.granted) = some (rollOne 1)
      ∧ ((devRoll 2).stage 1).mx.rollIns.find? (fun r => rollPair 0x0000000100000000 r && !r.granted) = some (rollOne 2) ∧ (rollOne 2).amask ≠ 1)
    ∧ (((devRoll 1).readBlock 0 (slotOf 1) 0 0 false 16).2.segInst kin 0x0000000100000000 = some 1
      ∧ ((devRoll 1).readBlock 0 (slotOf 1) 0 0 false 16).2.instStage 0 1 = some 1)
    ∧ ((((devRoll 1).stage 1).mx.noteReady.rollTurn.find? (fun x => !((devRoll 1).stage 1).mx.noteReady.heldIn x.1.slot x.2)) = some (rollOne 1, blockOne)
      ∧ (State.addRows 1 (((devRoll 1).stage 1).mx.noteReady.slot 1) 1 blockOne (List.range 16)
          ((devRoll 1).modStage 1 (fun t => { t with mx := ((devRoll 1).stage 1).mx.noteReady.used (some 3) 0 }))).1 = true
      ∧ (State.addRows 1 (((devRoll 1).stage 1).mx.noteReady.slot 1) 1 { blockOne with poison := [0], fed := List.replicate 16 true } (List.range 16) (devRoll 1)).1 = false)
    ∧ ((stgMx (.azero 1 false 1) .closed []).mx.feed = [feed1 (.azero 1 false 1)] ∧ ((devRoll 1).stage 1).mx.rollIns = [rollOne 1]
      ∧ (stgSvc (.drain 1 0) none).mx.rollIns = [] ∧ (stgPend (.wld false 0 0 false)).mx.pend.isSome = true
      ∧ ({ stgEnding [] with mx := { Mxa.empty with ftq := [⟨0, false, [], [], 0, false, []⟩] } } : Stage).mx.ftq ≠ []) := by
  refine ⟨by decide +kernel, by decide +kernel, by decide +kernel, by decide +kernel, by decide +kernel⟩

theorem idle_stg : SnareIdle (dev stg) 0 := ⟨rfl, rfl, rfl, by decide +kernel, by decide +kernel, by decide +kernel⟩
def vop (vd sa : BitVec 4) : VOp := ⟨vd, sa, 10, 0, 31, 32, 1, false⟩
theorem witness_ElementwiseInstructionsCompute : Canon (dev stg) ∧ SeqIn (dev stg) 0 kin ∧ SnareIdle (dev stg) 0
    ∧ (vop 5 0).row0.toNat + (vop 5 0).nr.toNat ≤ 63 ∧ (vop 5 0).vd.toNat ≤ 5
    ∧ (∀ c ∈ ([(vop 5 0).sa.toNat, (vop 5 0).sb.toNat, (vop 5 0).sc.toNat].take 2), c ≤ 10) ∧ Issues (dev stg) p0 kin [1] ∧ Issues (dev stg) p0 kin [] :=
  ⟨canon_stg, seq_stg, idle_stg, by decide, by decide, by decide, issues_stg _, issues_stg _⟩
theorem witness_ReductionsCompute : Canon (dev stg) ∧ SeqIn (dev stg) 0 kin ∧ SnareIdle (dev stg) 0
    ∧ (vop 8 10).row0.toNat + (vop 8 10).nr.toNat ≤ 63 ∧ (vop 8 10).sa.toNat ≤ 10 ∧ Issues (dev stg) p0 kin [1] ∧ Issues (dev stg) p0 kin []
    ∧ ((vop 8 10).vd = 8 ∨ (vop 8 10).vd = 9) ∧ ((vop 7 0).vd = 6 ∨ (vop 7 0).vd = 7) :=
  ⟨canon_stg, seq_stg, idle_stg, by decide, by decide, issues_stg _, issues_stg _, by decide, by decide⟩
theorem witness_VectorMovesAndUpdatesJoinTheSnare : Canon (dev stg) ∧ SeqIn (dev stg) 0 kin ∧ ((dev stg).stage 0).sn.queue.length < 16
    ∧ (∀ uses, Issues (dev stg) p0 kin uses) ∧ (5#4).toNat ≤ 5 ∧ (9#4).toNat ≤ 9 ∧ (63#6).toNat + (0#6).toNat ≤ 63 ∧ (5#4 ≠ 4#4) :=
  ⟨canon_stg, seq_stg, by decide +kernel, issues_stg, by decide, by decide, by decide, by decide⟩
/-- Snare entries done and not done. -/
def sne (v : VInst) (d : Bool) : SnEntry := ⟨⟨0, 7, 0⟩, v, d, []⟩
def stgSn (q : List SnEntry) : Stage := { stg with sn := { Snr.empty with queue := q } }
theorem witness_SnareCompletesInOrder :
    (((dev (stgSn [sne (.sig 63 65535) true])).stage 0).sn.queue = [sne (.sig 63 65535) true])
    ∧ (((dev (stgSn [sne (.bst 6 0) true])).stage 0).sn.queue = [sne (.bst 6 0) true] ∧ ∀ sem k, (sne (.bst 6 0) true).ins ≠ .sig sem k)
    ∧ (((dev (stgSn [sne (.bst 6 0) true, sne (.pop 5 3) false])).stage 0).sn.queue = [sne (.bst 6 0) true] ++ sne (.pop 5 3) false :: []) :=
  ⟨rfl, ⟨rfl, fun _ _ h => by simp [sne] at h⟩, rfl⟩

/-- A descriptor of nothing but zeros, outstanding `k` times. -/
def shOne (op : Nat) (desc : List W64) : ShOp := ⟨⟨0, 9, op⟩, desc, 4096, 0, false, 0, none, none, 0, false, 1, false, 8⟩
def stgSh (ops : List ShOp) : Stage := { stg with sh := ⟨ops, [], []⟩ }
theorem witness_StagehandInstructionsStart :
    (Issues (dev stg) p0 kin [3] ∧ (64#64).toNat % 64 = 0 ∧ (65472#64).toNat + 64 ≤ kin.dataSize
      ∧ ((started (dev stg) p0 9 0).apRead 0 (4096 + 64) 64 3).2.1 = false ∧ (((dev stg).stage 0).prm.reg 3) = 64)
    ∧ (Issues (dev stg) p0 kin [1] ∧ (((dev stg).stage 0).prm.reg 1).toNat % 64 ≠ 0)
    ∧ (Issues (dev (stgSh (List.replicate 32 (shOne 0 [])))) p0 kin [3] ∧ 32 ≤ (stgSh (List.replicate 32 (shOne 0 []))).sh.ops.length) :=
  ⟨⟨issues_stg _, by decide, by decide, by decide +kernel, by decide +kernel⟩, ⟨issues_stg _, by decide +kernel⟩,
    ⟨issues_dev (by decide +kernel), by decide⟩⟩

/-- A context with one 1 KiB tensor in the Wings scratch segment 0: a reduction destination with the keys 1, 2, 3. -/
def tenOne : TensorDecl := ⟨7, 1024, [1, 2, 3], false, false, true, false, false, 0, 0, false, false, 0, none, false, none⟩
def ctxTen (lead : Bool) : Ctx := { ctxOne with
  lead := lead
  scratchMask := 1
  score := some { scoreOne with tensors := [tenOne] }
  tensors := [⟨7, 65536, [⟨0, 1024, scratchBase⟩], []⟩] }
def rosterOne : Roster := ⟨1, 1, 0, 1, [⟨0x99, 0, 0, 1, 0, 0, 0, 0, 0, 0, false, []⟩, ⟨0x98, 1, 0, 0, 0, 0, 0, 0, 0, 0, false, []⟩], [0], []⟩
/-- Stage 0 with one outstanding transfer, its context's tensor in place. -/
def devSh (lead : Bool) (op : Nat) (desc : List W64) (f : ShOp → ShOp) (ecc : SMap (BitVec 2)) : State := { dev { stg with
    inst := some { kin with lead := lead }
    ap := ⟨[], ecc, [], none⟩
    sh := ⟨[f (shOne op desc)], [], []⟩ } with
  sched := { SchedSt.empty with ctxs := [ctxTen lead] }
  link := { LinkSt.empty with roster := some rosterOne } }
/-- Descriptors: 64 bytes within the data region; a pin's release; a reducing write of one line; a read of the tensor; a gather. -/
def dMov : List W64 := [0, 0, 64, 64, 0, 0, 0, 0]
def dRel : List W64 := [0x13, 0x70000000000, 0, 64, 0, 0, 0, 0]
def dRed : List W64 := [0x1100, 0, 0x70000000000, 256, 0, 0x200000000, 0, 0]
def dRead : List W64 := [0x10, 0x70000000000, 0, 256, 0, 0, 0, 0]
def dGath : List W64 := [0x21, 0x70000000000, 0, 64, 0, 0, 0, 0]
def chk (s : State) (op : Nat) (d : List W64) : Option (Cause × W64) := match (s.stage 0).inst with
  | some x => s.shCheck 0 x op (shDesc d) none
  | none => none
def isDone : ShOut → Bool
  | .done _ => true
  | _ => false
def isPoison : ShOut → Bool
  | .poison _ => true
  | _ => false
def copies (s : State) (d : List W64) : ShOut := match (s.stage 0).inst with
  | some x => s.copyRows 0 x (shOne 0 d) (shDesc d) ((shDesc d).rowsOf none)
  | none => .wait s
def red (s : State) : Option (RedOut × Bool) := match s.nextRed 0 0 with
  | some (x, _, _, v, a, bad, s1) => match s1.redDecl x v.tensor with
    | some t => some (s1.reduce x.lead t a v.red v.key v.data v.poison, bad)
    | none => none
  | none => none
def isTaken : Option (RedOut × Bool) → Bool
  | some (.taken _, false) => true
  | _ => false
def isRefused : Option (RedOut × Bool) → Bool
  | some (.refused _, false) => true
  | _ => false
def heldFull (pos : Nat) (s : State) : State := { s with mem := { s.mem with seqs := [⟨scratchBase / 256, 7, pos, List.replicate 512 ⟨3, 1, [], false⟩, false⟩] } }
def keepOp (o : ShOp) : ShOp := o
def pinOne : Pin := ⟨0, 0, 0, 0, [], 7, 0, 64, 64, 0, 0, 0, 0, []⟩
/-- A payload from rank 0 to itself waits; a shard of 64 bytes has arrived. -/
def dPipe : List W64 := [0x20, 0x70000000000, 64, 64, 0, 0, 0, 0]
def dSend : List W64 := [0x200, 0, 0x70000000000, 64, 0, 0, 0, 0]
def dScat : List W64 := [0x202, 0, 0x70000000000, 64, 0, 0, 0, 0]
def dMatch : List W64 := [0x8021, 0x70000000000, 0, 64, 0, 0, 0x100000000, 0]
def withPipe (total : Nat) : State := let s := devSh false 0 dPipe keepOp []
  { s with link := { s.link with pipeIn := [⟨0, 0, 0, 0, 7, 0, total, 0, List.replicate total 5⟩] } }
def shardIn (o : ShOp) : ShOp := { o with arrived := some (List.replicate 64 1, 3, 0, 0) }
def sentOp (o : ShOp) : ShOp := { o with sent := true, list := some ([0], false) }
/-- The transfer at the head of Stage 0 after its start, checked: no fault, with its instance and its operands. -/
def head0 (s : State) : Option (Inst × ShOp) := match ((s.kick 0).stage 0).inst, (((s.kick 0).stage 0).sh.ops.take 8)[0]? with
  | some x, some o => some (x, o)
  | _, _ => none
def fineAt (s : State) (f : State → Inst → ShOp → ShD → Bool) : Bool := match head0 s with
  | some (x, o) => !o.dead && ((s.kick 0).shCheck 0 x o.org.op (shDesc o.desc) o.list).isNone && f (s.kick 0) x o (shDesc o.desc)
  | none => false
def badAt (s : State) : Bool := match head0 s with
  | some (x, o) => ((s.kick 0).shCheck 0 x o.org.op (shDesc o.desc) o.list).isSome
  | none => false
def isInl {α β : Type} : α ⊕ β → Bool
  | .inl _ => true
  | .inr _ => false
def gathers (mis : Bool) (u : State) (x : Inst) (o : ShOp) (d : ShD) : Bool := match u.shardHere 0 x o d with
  | .inl (bs, ok, st, crc, v) => ok && decide (o.org.op = 1) && (if mis then d.matching && !decide (st % 2 ^ 32 = d.verStep ∧ crc = d.verCrc)
      else !d.matching && isInl (v.landShard 0 x d bs st crc))
  | .inr _ => false
def pipes (n : Nat) (u : State) (x : Inst) (o : ShOp) (d : ShD) : Bool := match u.payloadFor x d with
  | some m => decide (o.org.op = 0 ∧ d.red = 0 ∧ d.srcSp = 2 ∧ m.total = n) && isInl (State.writeRows 0 x d ((List.range d.rows).map (fun r =>
      (r * d.dstride, (m.data.drop (r * d.len)).take d.len))) u)
  | none => false
def sends (op : Nat) (u : State) (x : Inst) (o : ShOp) (d : ShD) : Bool := decide (o.org.op = op ∧ d.red = 0 ∧ d.srcSp ≠ 2 ∧ d.dstSp = 2) && o.sent
  && !u.inFlight (fun q => decide (q = .transfer 0 o.id)) && (match State.readRows 0 x d (List.range d.rows) u with
    | .inl (rows, ok, v) => ok && isInl (v.ownRows 0 x o d rows)
    | .inr _ => false)
theorem witness_TransfersEnd :
    (badAt (devSh false 0 [] keepOp []) = true ∧ badAt (devSh false 0 dRed keepOp []) = false)
    ∧ (fineAt (devSh true 3 dRel keepOp []) (fun u _ o _ => decide (o.org.op = 3 ∧ u.sched.pins = [])) = true
      ∧ fineAt ((devSh true 3 dRel keepOp []).modSched (fun q => { q with pins := [pinOne] })) (fun u x _ d => u.sched.pins.find? (fun q =>
        decide (q.ctx = x.ctx ∧ q.tensor = tenOf d.src ∧ q.off = offOf d.src ∧ q.len = d.len * d.rows)) == some pinOne) = true)
    ∧ (fineAt (devSh true 1 dGath shardIn []) (gathers false) = true ∧ fineAt (devSh true 1 dMatch shardIn []) (gathers true) = true)
    ∧ (fineAt (withPipe 64) (pipes 64) = true ∧ fineAt (withPipe 128) (pipes 128) = true)
    ∧ (fineAt (devSh true 0 dSend sentOp []) (sends 0) = true ∧ fineAt (devSh true 2 dScat sentOp []) (sends 2) = true)
    ∧ (fineAt (devSh true 0 dRed (fun o => { o with lines := 1 }) []) (fun u x o d => decide (d.red ≠ 0 ∧ (u.redPieces 0 x o d).length ≤ o.lines)) = true)
    ∧ (fineAt (devSh false 0 dMov keepOp []) (fun u x o d => isDone (u.copyRows 0 x o d (d.rowsOf o.list))) = true
      ∧ fineAt (devSh false 0 dMov keepOp [(512, 3)]) (fun u x o d => isPoison (u.copyRows 0 x o d (d.rowsOf o.list))) = true) := by
  decide +kernel
theorem witness_TransfersWait :
    ((red (devSh false 0 dRed keepOp [(512, 3)])).map (fun x => x.2) = some true ∧ isTaken (red (devSh true 0 dRed keepOp [])) = true
      ∧ isRefused (red (heldFull 0 (devSh true 0 dRed keepOp []))) = true)
    ∧ (let s := heldFull 1 (devSh true 0 dRead keepOp [])
      chk s 0 dRead = none ∧ s.heldByOrder 0 { kin with lead := true } (shDesc dRead) = true)
    ∧ (fineAt (devSh true 1 dGath (fun o => { o with sent := true }) []) (fun _ _ o _ => decide (o.org.op = 1) && o.sent && o.arrived.isNone) = true
      ∧ ((devSh true 1 dGath keepOp []).peerOf { kin with lead := true } (shDesc dGath) 0).isSome = true)
    ∧ ((devSh true 0 dMov keepOp []).modPbk (fun p => { p with reqs := [⟨0, 7, 0, 64, 1, 0⟩] })).pbk.reqs[0]? = some ⟨0, 7, 0, 64, 1, 0⟩ := by
  decide +kernel

/-- A Score of one kernel of one instance; its launch, waiting or running; a device in RUN with a context and that launch. -/
def scoreRun : Score := { scoreOne with chains := [] }
def launchOf (ctx state : Nat) (stages : List Nat) : Launch := ⟨4, ctx, 0, 0, 0, false, 0, 0, 0, 0, none, [], 256, state, stages, 1, 1, [(0, 0)], false, 0, 0, false, tallyEmpty, false, []⟩
def shapeOne : Shape := ⟨2, 2, 1, 1, 1, 16, 16, 1, 1, 1⟩
def ctxRun (num : Nat) (lead : Bool) : Ctx := { ctxOne with num := num, lead := lead, score := some scoreRun, shape := some shapeOne }
def devRun (lead : Bool) (ls : List Launch) : State := { State.reset with
  plat := { PlatSt.boot with dev := .run, phase := [] }
  sched := { SchedSt.empty with ctxs := [ctxRun 0 lead], launches := ls, begun := true, step := 1 } }
def seatOne : Seat := ⟨0, 0, 4096⟩
/-- This device is device 0 of two, mirrored by the other. -/
def entOf (k m : Nat) : DevEntry := ⟨w64 (0x99 - k), k, 0, 1, m, noDev, noDev, 0, 0, 0, false, []⟩
def rosterTwo (m : Nat) : Roster := ⟨1, 1, 0, 2, [entOf 0 m, entOf 1 0], [0, 1], []⟩
def inJob (m : Nat) (s : State) : State := { s with link := { s.link with roster := some (rosterTwo m) } }
theorem witness_LaunchesStart :
    (let s := devRun false [launchOf 0 0 []];
      s.launch? 4 = some (launchOf 0 0 []) ∧ s.ctx? 0 = some (ctxRun 0 false) ∧ (s.kernelOf (launchOf 0 0 [])).isSome = true
      ∧ s.seatsOk ⟨[], 0, 64, [], 0, 1, false⟩ [seatOne] = true ∧ s.depsDone (launchOf 0 0 []) = true ∧ s.sched.wants = [] ∧ s.sched.swapIn ≠ some 0
      ∧ s.adjOk scoreRun (launchOf 0 0 []) ((List.range 144).filter s.stageAvail) [seatOne] = true ∧ s.plat.dev = .run)
    ∧ (let s := inJob 1 (devRun true [launchOf 0 0 []]);
      s.leadMay (ctxRun 0 true) (launchOf 0 0 []) 1 = true ∧ 0 ∈ s.shareOf 0 ∧ s.adjOk scoreRun (launchOf 0 0 []) (s.shareOf 0) [seatOne] = true
      ∧ s.begins (launchOf 0 0 []) ≠ [] ∧ s.mirror.isSome = true ∧ (inJob noDev s).mirror = none) := by
  decide +kernel

/-- A fill context's launch on every Stage but 32 blocked for the lead; a context that is to come in, and one that is to go out. -/
def fillOn (stages : List Nat) : Launch := { launchOf 1 1 stages with id := 5 }
def devWant (held : List Nat) : State :=
  let s := devRun true [launchOf 0 0 [], fillOn held]
  { s with sched := { s.sched with ctxs := [ctxRun 0 true, ctxRun 1 false], shares := [(0, [0])] }, stages := held.map (fun n => (n, { stg with inst := some { kin with ctx := 1, launch := 5 } })) }
def ctxOut (num : Nat) (res : Bool) (cache : BitVec 16) : Ctx := { ctxRun num false with resident := res, cacheMask := cache, scratchMask := 0 }
def devSwap : State := let s := devRun false [{ launchOf 2 0 [] with id := 6 }]
  ({ s with sched := { s.sched with ctxs := [ctxOut 1 true 0xFFFF, ctxOut 2 false 0] } } : State).wr .clkTime 0 1000000000
def devSwapIn : State := let s := devRun false [{ launchOf 2 0 [] with id := 6 }]
  { s with sched := { s.sched with ctxs := [ctxOut 1 true 0xFF, ctxOut 2 false 0] } }
theorem witness_LaunchesAndSwaps :
    (let s := devWant [0];
      s.launch? 4 = some (launchOf 0 0 []) ∧ s.leadMay (ctxRun 0 true) (launchOf 0 0 []) 1 = true ∧ s.sched.wants = []
      ∧ (s.shareOf 0).filter s.stageAvail = [0] ∧ (s.stage 0).inst.isNone = false ∧ pickFill [0] 1 1 [fillOn [0]] = [0])
    ∧ (let s := (devWant [0]).modSched (fun q => { q with wants := [(4, 0, [0])] });
      s.launch? 5 = some (fillOn [0]) ∧ (fillOn [0]).state = 1 ∧ s.leadCtx.map (fun (c : Ctx) => c.num) ≠ some (fillOn [0]).ctx ∧ 0 ∈ (fillOn [0]).stages)
    ∧ (devSwap.swapNext = some 2 ∧ devSwap.swapVictim = some 1 ∧ devSwap.fillResident.length < 3 ∧ devSwap.freeSegs < 1
      ∧ (devSwap.swapRoom (ctxOut 1 true 0xFFFF)).isSome = true ∧ (devSwap.ctx? 1).isSome = true ∧ (devSwap.ctx? 2).isSome = true)
    ∧ (devSwapIn.swapNext = some 2 ∧ devSwapIn.fillResident.length < 3 ∧ devSwapIn.sched.swapIn = none ∧ popMask 0x100 = (ctxOut 2 false 0).cacheSegs
      ∧ popMask 0 = (ctxOut 2 false 0).scratchSegs ∧ (0x100#16 ||| 0) &&& 0xFF = 0)
    ∧ ((State.reset.modSched (fun q => { q with swapIn := some 2 })).sched.swapIn = some 2)
    ∧ ((dev { stg with ues := [0, 0, 0, 0] }).fourUes 0 = true ∧ (dev { stg with ues := [0, 0, 0] }).fourUes 0 = false) := by
  decide +kernel

/-- The device in its job, with port 3 up; a packet of a type from device 1. -/
def net (s : State) : State := (inJob noDev s).setFld .lnkPort 3 2 0 2
def pktOf (ty aux16 : Nat) (aux64 : W64) (data : List Byte) : Pkt := ⟨0, 1, (typeVc ty).getD 0, 0, ty, 0, 0, 1, aux16, aux64, data⟩
def arrivesB (s : State) (n : Nat) (p : Pkt) (ty : Nat) : Bool :=
  decide (n < 24) && s.portUp n && p.wire && decide (p.dst = s.link.me) && decide (p.ty = ty) && decide (typeVc ty = some p.vc)
    && decide (2 < p.vc ∨ p.rver = ((s.bump .lnkRxBytes n p.data.length).freeCredit n p.vc p.flits).rver)
    && decide ((((s.bump .lnkRxBytes n p.data.length).freeCredit n p.vc p.flits).rxFlow p.src p.vc p.flow).next = p.e2e)
theorem arrives_of {s : State} {n : Nat} {p : Pkt} {ty : Nat} (h : arrivesB s n p ty = true) : Arrives s n p ty := by
  simp only [arrivesB, Bool.and_eq_true, decide_eq_true_eq] at h
  exact ⟨h.1.1.1.1.1.1.1, h.1.1.1.1.1.1.2, h.1.1.1.1.1.2, h.1.1.1.1.2, h.1.1.1.2, h.1.1.2, h.1.2, h.2⟩
theorem witness_Arrivals : ∀ ty ∈ [0x01, 0x02, 0x03, 0x04, 0x05, 0x06, 0x07, 0x08, 0x10, 0x12, 0x13, 0x14],
    arrivesB (net (devRun true [])) 3 (pktOf ty 0 0 [0]) ty = true := by decide +kernel

def msgNone : CurtainMsg := ⟨[], [], false, false, false, false, false, false, [], 1⟩
theorem witness_CurtainsOpen :
    (let s := net (devRun true []);
      s.link.roster = some (rosterTwo noDev) ∧ s.mayArrive (rosterTwo noDev) = true ∧ s.leadCtx.isSome = true ∧ s.link.call = none ∧ s.pbk.restoring = none)
    ∧ (let s := net (devRun true []);
      ({ s.sched with begun := false } : SchedSt).begun = false ∧ (ctxRun 0 true).score.isSome = true ∧ (rosterTwo noDev).version = 1
      ∧ ({ s.link with curtain := 2, record := some msgNone } : LinkSt).record = some msgNone ∧ s.needsCall (rosterTwo noDev) msgNone = false ∧ s.pbk.recast = none)
    ∧ (let u := taken (net (devRun true [])) 3 (pktOf 0x13 0 0 [0]);
      arrivesB (net (devRun true [])) 3 (pktOf 0x13 0 0 [0]) 0x13 = true ∧ u.link.roster = some (rosterTwo noDev)
      ∧ 1 ∈ (rosterTwo noDev).kids u.link.me ∧ 1 ∉ u.link.curtFrom ∧ msgNone.version = (rosterTwo noDev).version
      ∧ (rosterTwo noDev).version < ({ msgNone with version := 2 } : CurtainMsg).version
      ∧ ((rosterTwo noDev).entry u.link.me).isSome = true ∧ (if u.sched.begun then u.sched.ring.step else 0) ≤ (5#64).toNat)
    ∧ (let r := { rosterTwo noDev with devs := [entOf 1 0, entOf 0 noDev] };
      r.parent 0 = some 1) := by decide +kernel

/-- A collective of two members on this device's launch 4, and its instance in the engine. -/
def wordsColl (op : Nat) (len : Nat) : List W64 := [w64 (op + 0x400), 0, 0, w64 len]
def devColl (op len : Nat) : State :=
  let s := net (devRun true [{ launchOf 0 0 [] with kind := 4 }])
  { s with sched := { s.sched with ctxs := [{ ctxRun 0 true with score := some { scoreRun with colls := [wordsColl op len] } }] } }
def collOne : Coll := ⟨7, 4, wordsColl 1 512, [0, 1], [], [], [], [], []⟩
theorem witness_CollectivesRun :
    (let s := devColl 1 512;
      (s.launch? 4).isSome = true ∧ (s.leadCtx.map (fun c => s.leadMay c { launchOf 0 0 [] with kind := 4 } 0)) = some true ∧ s.plat.dev = .run
      ∧ ¬ (3 < bitsOf ((wordsColl 1 512).getD 0 0) 3 0 ∨ bitsOf ((wordsColl 1 512).getD 3 0) 31 0 % 256 ≠ 0 ∨ bitsOf ((wordsColl 1 512).getD 3 0) 31 0 = 0
        ∨ (bitsOf ((wordsColl 1 512).getD 0 0) 3 0 = 0 ∧ bitsOf ((wordsColl 1 512).getD 0 0) 11 10 = 0)))
    ∧ (bitsOf ((wordsColl 1 0).getD 3 0) 31 0 = 0 ∧ 3 < bitsOf ((wordsColl 4 512).getD 0 0) 3 0)
    ∧ ([collOne].find? (fun k => decide (k.inst = 7)) = some collOne) := by decide +kernel

/-- A flit whose CRC is good: one that acknowledges only, or carries packets, with a number. -/
def flitOf (ftype seq : Nat) : List Byte :=
  let bs := leBytes 4 (ftype * 2 ^ 30 + seq * 2 ^ 16) ++ List.replicate 248 0
  bs ++ leBytes 4 (crc32 bs).toNat
theorem flit_crc (ftype seq : Nat) : ofLe ((flitOf ftype seq).drop 252) = (crc32 ((flitOf ftype seq).take 252)).toNat := by
  have h : (leBytes 4 (ftype * 2 ^ 30 + seq * 2 ^ 16) ++ List.replicate 248 (0 : Byte)).length = 252 := by
    rw [List.length_append, List.length_replicate]; rfl
  unfold flitOf
  rw [List.drop_left' h, List.take_left' h]
  generalize crc32 _ = c
  simp [leBytes, ofLe]
  omega
def netBare : State := net State.reset
/-- Port 3's module present, automatic retraining on; lane 24 in test. -/
def netOptics : State := (netBare.setFld .lnkOptics 3 24 24 1).setFld .lnkCfg 0 20 20 1
theorem witness_FlitsLanesAndPorts :
    (netBare.portUp 3 = true ∧ (netBare.modPort 3 (fun p => { p with kept := [(5, [])], width := some 0xFF })).portUp 3 = true
      ∧ ((netBare.modPort 3 (fun p => { p with kept := [(5, [])], width := some 0xFF })).port 3).kept = [(5, [])]
      ∧ ((netBare.modPort 3 (fun p => { p with kept := [(5, [])], width := some 0xFF })).port 3).width = some 0xFF)
    ∧ ((flitOf 1 0).length = 256 ∧ ofLe ((flitOf 1 0).take 4) / 2 ^ 30 = 1
      ∧ ofLe ((flitOf 1 0).take 4) / 2 ^ 16 % 2048 = (netBare.port 3).rxSeq ∧ ofLe ((flitOf 1 9).take 4) / 2 ^ 16 % 2048 ≠ (netBare.port 3).rxSeq
      ∧ ofLe ((flitOf 2 0).take 4) / 2 ^ 30 = 2 ∧ ofLe ((flitOf 3 0).take 4) / 2 ^ 30 = 3)
    ∧ ((List.range 24).all (fun k => decide ((((List.range 24).foldl State.beatInterval netBare).port k).missed < 8)) = true)
    ∧ (popLanes 0x0F = 4 ∧ ((List.range 8).all (fun l => !(0x0F#8).getLsbD l
        || ((netBare.modPort 3 (fun p => { p with trained := 0xFF })).goodLanes 3).contains l)) = true ∧ (netBare.goodLanes 3).contains 0 = false
      ∧ netBare.fld .lnkOptics 3 24 24 = 0 ∧ netOptics.fld .lnkOptics 3 24 24 = 1 ∧ netOptics.fld .lnkCfg 0 20 20 = 1
      ∧ (netBare.modLink (fun k => { k with retrain := [(24, 0)] })).link.retrain.find? (fun x => decide (x.1 / 8 = 3)) = some (24, 0)
      ∧ netBare.leadCtx = none ∧ netBare.link.roster.isSome = true) := by
  decide +kernel

def pktOut (hop : Nat) : Pkt := { pktOf 0x03 0 0 [0] with dst := 5, hop := hop }
def txOf (tries : Nat) : TxFlow := ⟨1, 3, 0, 4, [⟨pktOf 0x12 0 0 [0], none, .other, []⟩], tries, 3⟩
def netFlow (tries : Nat) : State := { netBare with link := { netBare.link with tx := [txOf tries], rx := [⟨1, 3, 0, 4, 2⟩] } }
theorem witness_FlowsAreKeptInOrder :
    (netBare.portUp 3 = true ∧ (pktOut 7).wire = true ∧ (pktOut 7).dst ≠ netBare.link.me ∧ (pktOut 0).hop < 7
      ∧ typeVc (pktOut 0).ty = some (pktOut 0).vc ∧ typeVc (pktOf 0x20 0 0 [0]).ty = none)
    ∧ (((netFlow 0).txFlow 1 3 0).unacked ≠ [] ∧ ((netFlow 0).txFlow 1 3 0).tries < 15 ∧ 15 ≤ ((netFlow 15).txFlow 1 3 0).tries)
    ∧ ((netFlow 0).rxFlow 1 3 0).owed ≠ 0
    ∧ (let p := pktOf 0x11 (3 * 16) 9 [0];
      let u := ((netFlow 0).bump .lnkRxBytes 3 1).freeCredit 3 p.vc p.flits;
      p.wire = true ∧ p.dst = (netFlow 0).link.me ∧ typeVc 0x11 = some p.vc ∧ (2 < p.vc ∨ p.rver = u.rver) ∧ p.aux16 < 2 ^ 15
      ∧ ((u.txFlow 1 3 0).unacked.any (fun x => seqBefore x.pkt.e2e 9)) = true) := by
  decide +kernel
theorem witness_LinkBellsAndGong :
    ((mget Bell.clear netBare.booth.bellLO 12).full = false
      ∧ (mget Bell.clear (netBare.modBooth (fun b => { b with bellLO := [(12, ⟨true, 1⟩)], bellLI := [(12, ⟨true, 2⟩)] })).booth.bellLO 12).full = true
      ∧ (netBare.port 3).liGen.getD 0 none ≠ some true ∧ (netBare.port 3).loGen.getLsbD 0 = false
      ∧ ((netBare.modPort 3 (fun p => { p with liGen := [some true, none, none, none] })).port 3).liGen.getD 0 none = some true)
    ∧ (netBare.portUp 3 = true ∧ netBare.link.roster = some (rosterTwo noDev) ∧ ((rosterTwo noDev).entry 1).isSome = true ∧ (1, 1) ∉ netBare.link.gongs) := by
  decide +kernel

/-- A lead's tensor of 1 KiB in Wings scratch, and this device in its job. -/
def netTen : State := let s := net (devRun true [])
  { s with sched := { s.sched with ctxs := [{ ctxTen true with score := some { scoreRun with tensors := [tenOne] }, shape := some shapeOne }] } }
def num4 (ns : List (Nat × Nat)) : List Byte := ns.flatMap (fun x => leBytes x.1 x.2)
/-- The bytes of a payload or a dispatched row; those of a shard request. -/
def rowBytes (ten total : Nat) : List Byte := num4 [(4, 0), (4, 1), (4, 0), (8, 0), (4, ten), (8, 0), (8, total), (8, 0)] ++ List.replicate 64 7
def askBytes : List Byte := gatherReqBytes 0 0 7 0 64 1 0 1 0 none 0
def hopOne : XHop := ⟨1, 0, 0, 0, 0, 0, 3, 1, false, 16, 1, false, true, 0, []⟩
def netHop : State := let s := netTen
  { s with
    stages := [(0, { stg with mx := { Mxa.empty with rollIns := [{ rollOne 1 with xdev := true }] } })]
    link := { s.link with hops := [hopOne], colls := [collOne] } }
def netGath : State := { netTen with stages := [(0, { stg with sh := ⟨[{ shOne 1 [0x21, 0, 0, 128] with sent := true }], [], []⟩ })] }
/-- A reserved row that another source's dispatch holds. -/
def netRows : State := let s := netTen
  { s with
    sched := { s.sched with ctxs := s.sched.ctxs.map (fun c => { c with score := some { scoreRun with tensors := [tenOne], experts := [⟨1, 1, 1, 0, 3, [0], 7⟩] } }) }
    link := { s.link with rows := [⟨0, 7, 0, 0, 0, 5, 0, 4, 9⟩] } }
theorem witness_DataPacketsAreDelivered :
    (let p := pktOf 0x01 0 0 (List.replicate 4096 0);
      let u := taken netHop 3 p;
      arrivesB netHop 3 p 0x01 = true ∧ u.link.hops.find? (fun h => decide (h.src = p.src ∧ h.chain = bitsOf p.aux64 31 0
        ∧ h.seg = bitsOf p.aux64 47 32) && h.granted && u.hopLive h) = some hopOne ∧ bitsOf p.aux64 55 48 = hopOne.next ∧ p.data.length = 4096)
    ∧ (let p := pktOf 0x02 0 7 ([1] ++ leBytes 4 0 ++ [9]);
      let u := taken netHop 3 p;
      arrivesB netHop 3 p 0x02 = true ∧ u.link.colls.find? (fun k => decide (k.inst = bitsOf p.aux64 31 0) && k.members.contains (p.num 1 4)) = some collOne
      ∧ bitsOf p.aux64 63 48 = ([] : List Byte).length / 4000 % 2 ^ 16 ∧ u.collHost collOne (collOne.members.idxOf (p.num 1 4)) = u.link.me ∧ ([] ++ p.data.drop 5).length < collOne.chunk)
    ∧ (let p := pktOf 0x03 0 0 (rowBytes 7 128);
      let u := taken netTen 3 p;
      arrivesB netTen 3 p 0x03 = true ∧ u.leadCtx.isSome = true ∧ u.link.pipeTaken = [] ∧ p.num 40 8 = 0 ∧ (p.data.drop 48).length < p.num 32 8)
    ∧ (let p := pktOf 0x04 0 0 (rowBytes 7 128);
      let u := taken netTen 3 p;
      arrivesB netTen 3 p 0x04 = true ∧ netTen.rowHeld p = false ∧ netRows.rowHeld p = true
      ∧ (u.leadCtx.bind (fun c => (c.decl (p.num 20 4)).map (fun d => d.act))) = some false
      ∧ (u.leadCtx.bind (fun c => c.resolveW (u.remoteKey c (p.num 20 4) (p.num 8 4) (p.num 12 8)) (p.num 20 4) (p.num 24 8) (p.data.drop 48).length)).isSome = true
      ∧ u.rowRegion p false = none ∧ p.num 40 8 + (p.data.drop 48).length < p.num 32 8)
    ∧ (let p := pktOf 0x05 0 1 askBytes;
      let u := taken netTen 3 p;
      arrivesB netTen 3 p 0x05 = true ∧ p.num 50 1 ≠ 1 ∧ p.aux16 ≠ 144 ∧ u.pbk.reqs = []
      ∧ (match u.leadCtx.bind (fun c => u.shardRuns c (p.num 4 4) (p.num 8 4) (p.num 42 8) (p.num 12 8) (p.num 20 8) (p.num 28 4) (p.num 32 8) none (p.num 67 8)) with
        | some (l, _) => isInl (readShard 4 l u)
        | none => false) = true)
    ∧ (let p := pktOf 0x06 0 1 (num4 [(8, 3), (8, 0), (8, 0), (8, 0)] ++ List.replicate 64 7);
      let u := taken netGath 3 p;
      arrivesB netGath 3 p 0x06 = true ∧ (u.stage 0).inst = some kin ∧ ((u.stage 0).sh.ops.find? (fun o => decide (o.id = p.aux64.toNat ∧ o.org.op = 1))).isSome = true
      ∧ p.num 0 8 ≠ noCopy ∧ p.num 24 8 = 0 ∧ (p.data.drop 32).length < (shDesc [0x21, 0, 0, 128]).len * (shDesc [0x21, 0, 0, 128]).rows)
    ∧ (arrivesB netTen 3 (pktOf 0x10 3 0 [0]) 0x10 = true ∧ arrivesB netTen 3 (pktOf 0x08 3 0 [0, 0]) 0x08 = true ∧ netTen.rowHeld (pktOf 0x08 3 0 [0, 0]) = false
      ∧ ({ netTen with link := { netTen.link with rowsWait := [(3, pktOf 0x08 4 0 [0, 0])] } } : State).rowHeld (pktOf 0x08 3 0 [0, 0]) = true) := by
  decide +kernel

def propOne (version : Nat) : Proposal := ⟨version, 2, 9, false, false, [], [], [], [], none, 0⟩
/-- A Call under way: this device coordinates it, or it is below device 1. -/
def callOf (coord : Bool) (devs : List DevEntry) : CallSt := ⟨propOne 2, { rosterTwo noDev with devs := devs }, [], false, true, coord, []⟩
def netCall (coord : Bool) (devs : List DevEntry) : State := let s := netTen
  { s with link := { s.link with call := some (callOf coord devs) } }
def below1 : List DevEntry := [entOf 1 0, entOf 0 noDev]
def above1 : List DevEntry := [entOf 0 noDev, entOf 1 0]
theorem witness_CallsAreAnswered :
    (arrivesB netTen 3 (pktOf 0x12 0 0 [0]) 0x12 = true ∧ netTen.link.roster.isSome = true ∧ (propOne 2).base = none)
    ∧ (let u := taken (netCall true above1) 3 (pktOf 0x12 0 0 [0]);
      arrivesB (netCall true above1) 3 (pktOf 0x12 0 0 [0]) 0x12 = true ∧ u.link.call = some (callOf true above1)
      ∧ 1 ∈ (callOf true above1).next.kids u.link.me ∧ (callOf true above1).coordinator = true)
    ∧ (let devs := [entOf 2 0, entOf 0 noDev, entOf 4 0, entOf 5 0, entOf 6 0, entOf 7 0, entOf 8 0, entOf 9 0, entOf 10 0, entOf 1 0];
      let u := taken (netCall false devs) 3 (pktOf 0x12 0 0 [0]);
      arrivesB (netCall false devs) 3 (pktOf 0x12 0 0 [0]) 0x12 = true ∧ 1 ∈ (callOf false devs).next.kids u.link.me
      ∧ (callOf false devs).next.parent u.link.me = some 2 ∧ (callOf false devs).rejected = false)
    ∧ (let u := taken (netCall false below1) 3 (pktOf 0x12 0 0 [0]);
      arrivesB (netCall false below1) 3 (pktOf 0x12 0 0 [0]) 0x12 = true ∧ u.link.call = some (callOf false below1))
    ∧ (1 ∈ (callOf true above1).next.kids (netCall true above1).link.me ∧ 1 ∉ (callOf true above1).answered) := by
  decide +kernel

def qryOne : Query := ⟨5, 0, [1], []⟩
def netQry : State := let s := netTen
  { s with pbk := { s.pbk with queries := [qryOne], confirmed := [(1, 0)] } }
theorem witness_FailuresAreConfirmed :
    (let p := pktOf 0x07 0x09 5 [0];
      let u := taken netTen 3 p;
      arrivesB netTen 3 p 0x07 = true ∧ u.link.roster = some (rosterTwo noDev) ∧ ((rosterTwo noDev).entry p.src).isSome = true
      ∧ ¬ (p.aux64.toNat = noDev ∧ p.num 0 1 = 4) ∧ p.aux64.toNat ≠ u.link.me ∧ u.coordBut [p.aux64.toNat] = some u.link.me)
    ∧ (arrivesB netTen 3 (pktOf 0x07 0x0A 1 [0]) 0x07 = true)
    ∧ (let p := pktOf 0x07 0x0B 5 [1];
      let u := taken netQry 3 p;
      arrivesB netQry 3 p 0x07 = true ∧ u.pbk.queries.find? (fun q => decide (q.dev = p.aux64.toNat)) = some qryOne ∧ p.src ∈ qryOne.asked ∧ qryOne.answers = [])
    ∧ (2 ≤ (rosterTwo noDev).devs.length ∧ (netTen.port 3).beat = none)
    ∧ (netQry.link.roster = some (rosterTwo noDev) ∧ ((rosterTwo noDev).entry 1).isSome = true ∧ (1 : Nat) ≠ netQry.link.me
      ∧ netQry.plat.dev ≠ .safe ∧ netQry.plat.dev ≠ .fault ∧ netQry.coordBut [1] = some netQry.link.me ∧ (1, 0) ∈ netQry.pbk.confirmed)
    ∧ (({ netTen with link := { netTen.link with me := 1 } } : State).coordBut [5] ≠ some 1 ∧ State.reset.phaseNow = some 1) := by
  decide +kernel

def saveOne (own : Bool) : SaveSt := ⟨⟨0, 0, 4096, 0⟩, 0, 5, false, own, [1], 2, 1, [], []⟩
def netSave (own : Bool) : State := let s := netTen
  { s with pbk := { s.pbk with save := some (saveOne own) } }
theorem witness_ProtectionPacketsAreKept :
    (∀ k ∈ [0x01, 0x02, 0x03, 0x04, 0x05, 0x06, 0x07, 0x08, 0x0C, 0x0D, 0x0E, 0x108, 0x308], arrivesB (netSave true) 3 (pktOf 0x07 k 5 (leBytes 8 9)) 0x07 = true)
    ∧ (let p := pktOf 0x07 0x07 5 (leBytes 8 9);
      let u := taken (netSave true) 3 p;
      u.link.roster = some (rosterTwo noDev) ∧ ((rosterTwo noDev).entry p.src).isSome = true
      ∧ (u.bump .pbkLogBytes 0 p.data.length).sched.step ≤ p.num 0 8 ∧ u.pbk.save = some (saveOne true) ∧ (saveOne true).step = p.aux64.toNat
      ∧ p.dst ≠ noDev ∧ u.coord = some u.link.me)
    ∧ ((taken ({ netTen with link := { netTen.link with roster := some { rosterTwo noDev with devs := below1 } } }) 3 (pktOf 0x07 0x0E 5 [0])).coord = some 1)
    ∧ ((netSave true).plat.xfers = [] ∧ (saveOne true).done ≠ [] ∧ (saveOne false).own = false
      ∧ (let s := netSave false;
        let t := s.modPbk (fun p => { p with save := some { saveOne false with own := true } });
        t.coord = some t.link.me)) := by
  decide +kernel

def rdClass (x : (List Byte × List Nat × State) ⊕ MStop) : Nat := match x with
  | .inl (_, [], _) => 1
  | .inl (_, _ :: _, _) => 2
  | .inr .unmapped => 3
  | .inr .pinned => 4
  | .inr .ordered => 5
def wrDone (x : State ⊕ MStop) : Bool := match x with | .inl _ => true | .inr _ => false
/-- BAR2 over the window a base names; Stage 0's Apron begins at base 0x3E000. -/
def barAt (b : Nat) (s : State) : State := s.setFld .pciBar2Base 0 47 30 b
def seqMid : State := let s := devRun true []
  { s with mem := { s.mem with seqs := [⟨0, 7, 1, [], false⟩] } }
/-- The four ways of line 0's set hold lines in the middle of their sequences. -/
def devPinned (ready : Bool) : State := let s := devRun false []
  { s with
    mem := { s.mem with
      pages := [(0, 1)]
      lines := [1, 2, 3, 4].map (fun k => ⟨k, 0, 0xF, 0, [], []⟩)
      seqs := (if ready then [1, 2, 3] else [1, 2, 3, 4]).map (fun k => ⟨k, 7, 1, [], false⟩)
      waiters := [⟨0, 0, 64, none, some (0, 0, 8, 1)⟩] } }
def paged (s : State) : State := { s with mem := { s.mem with pages := [(0, 1)] } }
/-- A regulator that lets nothing more through yet. -/
def slow (s : State) : State := let t := (s.setFld .hbmRegRd 0 14 0 1).setFld .hbmRegRd 0 31 16 1
  { t with mem := { t.mem with tokens := [(0, 2048)] } }
def reqAt (ctx pa : Nat) : MemReq := ⟨ctx, pa, 64, none, none⟩
def waitsFor (s : State) (rs : List MemReq) : State := { s with mem := { s.mem with queue := rs, waiters := rs } }
theorem witness_MemoryAccessesComplete :
    (let s := devRun true [];
      s.barLive = true ∧ 2 ^ 36 - 8 + 8 ≤ 2 ^ 36 ∧ rdClass (s.settleHost.memRead 4 false (s.settleHost.bar2Addr 0) 8) = 1)
    ∧ (let s := barAt 0x3E000 { devRun true [] with stages := [(0, { stg with ap := ⟨[], [(0, 3)], [], none⟩ })] };
      s.barLive = true ∧ rdClass (s.settleHost.memRead 4 false (s.settleHost.bar2Addr 0) 8) = 2)
    ∧ (let s := barAt 0x3DFFF (devRun true []);
      s.barLive = true ∧ rdClass (s.settleHost.memRead 4 false (s.settleHost.bar2Addr (2 ^ 30 - 8)) 8) = 3)
    ∧ (let s := devPinned false;
      s.barLive = true ∧ rdClass (s.settleHost.memRead 4 false (s.settleHost.bar2Addr 0) 8) = 4)
    ∧ (seqMid.place 0 = .stack ∧ seqMid.midSeq (0 / 256) = true)
    ∧ (let s := paged (devRun true []);
      s.place 0 = .stack ∧ s.stackNeed 0 (some (List.replicate 256 1)) = none ∧ 0 % 256 + (List.replicate 256 (1 : Byte)).length ≤ 256)
    ∧ (let s := devRun true [];
      s.midSeq (192 / 256) = false ∧ s.stackNeed 192 none = some (false, 64) ∧ s.admissible (s.pageOwner 192) false 64 = true
      ∧ s.isNext ⟨s.pageOwner 192, 192, 64 - 192 % 64, none, none⟩ = true)
    ∧ (let s := slow (paged (devRun true []));
      s.stackNeed 0 none = some (false, 64) ∧ s.admissible (s.pageOwner 0) false 64 = false)
    ∧ (let s := waitsFor (devRun true []) [reqAt 16 0];
      s.mem.queue[0]? = some (reqAt 16 0) ∧ (s.passFclk (s.waitFclk (bucketOf 16 false) 64)).isNext (reqAt 16 0) = true
      ∧ s.mem.waiters[0]? = some (reqAt 16 0) ∧ (reqAt 16 0).kernel = none)
    ∧ (let s := waitsFor (devRun true []) [reqAt 1 0, reqAt 2 0];
      s.mem.queue[1]? = some (reqAt 2 0) ∧ (s.passFclk (s.waitFclk (bucketOf 2 false) 64)).isNext (reqAt 2 0) = false)
    ∧ ((devPinned false).mem.waiters[0]? = some ⟨0, 0, 64, none, some (0, 0, 8, 1)⟩ ∧ (devPinned false).blocked ⟨0, 0, 64, none, some (0, 0, 8, 1)⟩ = true
      ∧ (devPinned true).blocked ⟨0, 0, 64, none, some (0, 0, 8, 1)⟩ = false) := by
  decide +kernel

def failRow : State := let s := devRun false []
  { s with mem := { s.mem with failing := [(5, 7)], hard := [⟨1, 0, 5, 7⟩] } }
/-- Every soft remap entry of the row's stack is taken: the row was remapped once already. -/
def failPage (lead : Bool) : State := let s := devRun lead []
  { s with mem := { s.mem with failing := [(0, 0)], remaps := [⟨2, 0, 0, 0⟩] } }
def pageOfRow : Nat := ((failPage true).rowPages 0 0).headD 1
theorem witness_ScrubbingAndRepair :
    (State.reset.place apronBase = .apron 0 0 ∧ (devSh true 0 dMov id []).place scratchBase = .scratch 0 ∧ State.reset.fld .wngScrub 0 12 12 = 1
      ∧ State.reset.place 0 = .stack ∧ State.reset.fld .hbmScrub 0 8 8 = 1)
    ∧ ((5, 7) ∈ failRow.mem.failing ∧ failRow.softOk 5 7 = true)
    ∧ ((failPage true).softOk 0 0 = false ∧ ((failPage true).mem.failing.find? (fun x => ((failPage true).rowPages x.1 x.2).contains pageOfRow && !(failPage true).softOk x.1 x.2))
          = some (0, 0)
      ∧ (failPage true).freePage (pageOfRow + 1) = true ∧ (failPage true).leadCtx.isSome = true ∧ (failPage false).leadCtx = none
      ∧ (failPage true).mem.retiredPages = [] ∧ (failPage true).mem.pendPages = [])
    ∧ (let s := devRun true [];
      let u := { s with mem := { s.mem with chanCount := [(0, 100000)] } };
      2 * 0 + 1 < pcCount ∧ u.fld .hbmRepairCfg 0 16 8 < u.chanPages 0 ∧ 0 ∉ u.mem.retiredChans ∧ u.mem.copy = none) := by
  decide +kernel
theorem witness_RowOfItsBank : ∃ r ∈ failRow.mem.hard, r.pc = 5 ∧ Config.bankOf 5 r.row = Config.bankOf 5 7 := ⟨⟨1, 0, 5, 7⟩, by decide +kernel, rfl, rfl⟩
theorem witness_ChannelCopy (lead : Bool) :
    let s := devRun lead []
    let u := { s with mem := { s.mem with copy := some ⟨[0], false⟩ } }
    u.mem.copy = some ⟨[0], false⟩ ∧ u.pbk.recast = none ∧ (u.leadCtx.isSome = lead) := by cases lead <;> decide +kernel

/-- Endpoint 255 up, with an open transfer that covers the first 4 KiB. -/
def xferOne (write : Bool) : Xfer := ⟨255, write, 0, 0, 4096, [(0, 4096)], 0, 0, 0, 0, [], false, 0, []⟩
def devEth (write : Bool) (retries : Nat) : State := let s := (devRun true []).setFld .ethEpStatus 255 1 0 1
  (s.modPlat (fun p => { p with xfers := [xferOne write] })).setEp 255 { EpSt.fresh with retries := retries }
def movedIn (s : State) (n : Nat) : State := let u := s.ethMoved 255 false n
  u.setEp 255 { u.ep 255 with recvPsn := psnNext (u.ep 255).recvPsn n }
theorem witness_StorageTransfersMove :
    (let s := devEth true 0;
      s.epState 255 = 1 ∧ s.hasEth = true ∧ s.xferOn 255 = some (xferOne true) ∧ (s.ep 255).cnpSent = false ∧ (s.ep 255).retries < 7
      ∧ (movedIn s 8).mapped 4088 8 = true ∧ (xferOne true).covers 4088 8 = true ∧ (xferOne true).covers 4089 8 = false
      ∧ wrDone ((movedIn s 8).memWrite 4 4088 (List.replicate 8 1)) = true
      ∧ rdClass ((s.setEp 255 { s.ep 255 with recvPsn := psnNext (s.ep 255).recvPsn 8 }).memRead 4 false 4088 8) = 1)
    ∧ ((devEth false 7).xferOn 255 = some (xferOne false) ∧ 7 ≤ ((devEth false 7).ep 255).retries) := by
  decide +kernel

/-- A Camod packet in slot 0's ring: opcode, context (16: none), parameter words; result bytes go to host address 2^20. -/
def hdrOf (op ctx n : Nat) : List W64 := [w64 (op + 0x100 + 2 ^ 32 * (8 * n)), (if ctx < 16 then w64 (9 + 2 ^ 32 * ctx + 2 ^ 36) else 9), 0, 0, 0, 0x100000, 0x10000, 0]
def asks (s : State) (op ctx : Nat) (ps : List W64) : State :=
  let t := (s.wr .bthSlotCfg 0 0x0000FFFFFFFF0001).setSlot 0 { SlotSt.fresh with head := 1 + cdiv (8 * ps.length) 64 }
  { t with mem := { t.mem with host := msetRun 0 t.mem.host 0 (wordsLe (hdrOf op ctx ps.length ++ ps)) } }
/-- The packet is admitted, and what the command's rule looks at is so. -/
def admitsB (s : State) (c : CmdSrc) (op : Nat) (f : State → Cmd → Bool) : Bool := match s.nextCmd c with
  | some (t, some k) => (t.checks k).isNone && decide (k.op = op) && f t k
  | _ => false
theorem admits_of {s : State} {c : CmdSrc} {op : Nat} {f : State → Cmd → Bool} (h : admitsB s c op f = true) :
    ∃ t k, Admits s c op t k ∧ f t k = true := by
  unfold admitsB at h
  split at h
  · rename_i t k e
    simp only [Bool.and_eq_true, decide_eq_true_eq, Option.isNone_iff_eq_none] at h
    exact ⟨t, k, ⟨e, h.1.1, h.1.2⟩, h.2⟩
  · exact absurd h (by decide)
/-- Packets of slot 0 with these opcodes, contexts and parameters are admitted, each in its state. -/
def slot0 : CmdSrc := .slot 0
def smb (op : Nat) (ps : List W64) : CmdSrc := .smbus ⟨hdrOf op 16 ps.length, ps, false⟩
def calm (dev : DevState) : State := { State.reset with plat := { PlatSt.boot with dev := dev, phase := [], tested := true } }

theorem witness_ReadingCommandsGiveTheirData :
    admitsB (asks (calm .ready) 0x01 16 []) slot0 0x01 (fun _ _ => true) = true
    ∧ admitsB (asks (calm .ready) 0x02 16 []) slot0 0x02 (fun _ _ => true) = true
    ∧ admitsB (calm .safe) (smb 0x01 []) 0x01 (fun _ _ => true) = true
    ∧ admitsB (asks (calm .ready) 0x50 16 [1, 0]) slot0 0x50 (fun _ k => decide (k.w 0 7 0 = 1)) = true
    ∧ admitsB (asks (calm .ready) 0x50 16 (119 :: List.replicate 119 8)) slot0 0x50 (fun _ k => decide (k.w 0 7 0 = 119)) = true
    ∧ admitsB (asks (calm .ready) 0x50 16 [0]) slot0 0x50 (fun _ k => decide (k.w 0 7 0 = 0)) = true
    ∧ admitsB (asks (calm .ready) 0x50 16 [120]) slot0 0x50 (fun _ k => decide (119 < k.w 0 7 0)) = true
    ∧ admitsB (asks (calm .ready) 0x51 16 [0]) slot0 0x51 (fun _ _ => true) = true
    ∧ admitsB (asks ((calm .ready).post 0x20 2 none []) 0x52 16 [1, 4096]) slot0 0x52 (fun t k => decide (k.w 1 12 0 = 4096) && !t.booth.log.isEmpty) = true
    ∧ admitsB (asks { calm .ready with link := { LinkSt.empty with prevRoster := some (rosterTwo noDev) } } 0x21 16 [1]) slot0 0x21
        (fun t k => decide (k.w 0 0 0 = 1) && t.link.prevRoster.isSome) = true
    ∧ admitsB (asks (net (calm .ready)) 0x21 16 [0]) slot0 0x21 (fun t k => decide (k.w 0 0 0 = 0) && t.link.call.isNone && t.link.roster.isSome) = true
    ∧ (let s := net (devRun true []);
      let p := pktOf 0x14 0 0 [0];
      let q : Cmd := ⟨68, hdrOf 0x21 16 1, [0], false⟩;
      let u := taken s 3 p;
      arrivesB s 3 p 0x14 = true ∧ u.taking = true ∧ (u.checks q).isNone = true ∧ (u.finish q (u.rosterGet q)).booth.answer.isSome = true) := by
  decide +kernel

def susp (lead : Bool) (dev : DevState) : State := let s := devRun lead []
  { s with
    plat := { s.plat with dev := dev, tested := true }
    sched := { s.sched with ctxs := [{ ctxRun 0 lead with suspended := true, suspCause := 1 }], begun := false } }
theorem witness_ConfigurationAndChecks :
    admitsB (asks (calm .ready) 0x03 16 [0, 0]) slot0 0x03 (fun _ _ => true) = true
    ∧ admitsB (asks (calm .quiesced) 0x04 16 [0]) slot0 0x04 (fun t k => decide (k.w 0 1 0 = 0 ∧ t.plat.dev = .quiesced)) = true
    ∧ admitsB (asks (devRun true []) 0x04 16 [0]) slot0 0x04 (fun t k => decide (k.w 0 1 0 = 0 ∧ t.plat.dev ≠ .quiesced) && (t.leadCtx.map (fun c => c.suspended)) == some false) = true
    ∧ admitsB (asks (susp true .run) 0x04 16 [1]) slot0 0x04 (fun t k => decide (k.w 0 1 0 = 1 ∧ t.plat.dev = .run) && t.sched.ctxs.all (fun x => x.suspended)
        && t.pbk.recast.isNone && !t.transferring) = true
    ∧ admitsB (asks (calm .quiesced) 0x04 16 [1]) slot0 0x04 (fun _ k => decide (k.w 0 1 0 = 1)) = true
    ∧ admitsB (asks (devRun false []) 0x04 16 [1]) slot0 0x04 (fun t k => decide (k.w 0 1 0 = 1) && t.sched.ctxs.any (fun x => !x.suspended)) = true
    ∧ admitsB (asks (calm .quiesced) 0x04 16 [2]) slot0 0x04 (fun _ k => decide (k.w 0 1 0 = 2)) = true
    ∧ admitsB (asks (calm .ready) 0x04 16 [2]) slot0 0x04 (fun _ k => decide (k.w 0 1 0 = 2)) = true
    ∧ (∀ w ∈ [1200, 2400], admitsB (asks (calm .ready) 0x60 16 [w64 w]) slot0 0x60 (fun _ k => decide (1200 ≤ k.w 0 11 0 ∧ k.w 0 11 0 ≤ 2400)) = true)
    ∧ (∀ w ∈ [1199, 2401], admitsB (asks (calm .ready) 0x60 16 [w64 w]) slot0 0x60 (fun _ k => decide (k.w 0 11 0 < 1200 ∨ 2400 < k.w 0 11 0)) = true)
    ∧ (let b := fun (s : State) (c : CmdSrc) (f : State → Cmd → Bool) => (match s.nextCmd c with | some (t, some k) => f t k | _ => false);
      b (asks (calm .ready) 0x05 16 []) slot0 (fun _ k => !listedOps.contains k.op) = true
      ∧ b (calm .ready) (smb 0x03 []) (fun _ k => listedOps.contains k.op && k.hdrOk && decide (k.op = 0x03 ∧ 64 ≤ k.src)) = true
      ∧ b ((asks (calm .ready) 0x03 16 []).wr .bthSlotCfg 0 1) slot0 (fun t k => decide (k.op = 0x03 ∧ k.src < 64)
          && !(t.rd .bthSlotCfg k.src).getLsbD (16 + classOfOp 0x03)) = true
      ∧ b (asks (calm .safe) 0x60 16 [1200]) slot0 (fun t k => k.hdrOk && decide (k.op = 0x60 ∧ k.src < 64 ∧ t.plat.dev = .safe ∧ k.ctxOpt = none)
          && (t.rd .bthSlotCfg k.src).getLsbD (16 + classOfOp 0x60)) = true) := by
  decide +kernel

def lead1 (b : Bool) : State := { devRun b [] with plat := { PlatSt.boot with dev := .run, phase := [], tested := true } }
def kUnit (n unit : Nat) : List W64 := [w64 (n + 256 * unit)]
def isFree (t : State) (k : Cmd) : Bool := decide (k.w 0 16 16 = 0 ∧ (t.leadCtx = none ∨ t.plat.dev = .quiesced))
def okStage (t : State) (n : Nat) : Bool := decide (n < 144) && Config.stageFused n && t.sched.retired.all (fun r => decide (r.1 ≠ n))
theorem witness_ResetUnitCommands :
    admitsB (asks (lead1 false) 0x08 16 (kUnit 0 0)) slot0 0x08 (fun t k => decide (k.w 0 3 0 = 0) && isFree t k) = true
    ∧ admitsB (asks (lead1 true) 0x08 16 (kUnit 0 0)) slot0 0x08 (fun t k => decide (k.w 0 3 0 = 0 ∧ k.w 0 16 16 = 0 ∧ t.plat.dev ≠ .quiesced) && t.leadCtx.isSome) = true
    ∧ admitsB (asks (lead1 false) 0x08 16 (kUnit 1 0)) slot0 0x08 (fun t k => decide (k.w 0 3 0 = 1) && isFree t k) = true
    ∧ admitsB (asks (lead1 false) 0x08 16 (kUnit 2 139)) slot0 0x08 (fun t k => decide (k.w 0 3 0 = 2) && okStage t (k.w 0 15 8) && (t.stage (k.w 0 15 8)).inst.isNone) = true
    ∧ admitsB (asks (lead1 false) 0x08 16 (kUnit 2 144)) slot0 0x08 (fun _ k => decide (k.w 0 3 0 = 2 ∧ 144 ≤ k.w 0 15 8)) = true
    ∧ admitsB (asks { lead1 true with stages := [(0, { stg with inst := some { kin with lead := true } })] } 0x08 16 (kUnit 2 0)) slot0 0x08
        (fun t k => decide (k.w 0 3 0 = 2) && okStage t 0 && (t.stage (k.w 0 15 8)).inst == some { kin with lead := true }) = true
    ∧ admitsB (asks (lead1 false) 0x08 16 (kUnit 3 23)) slot0 0x08 (fun t k => decide (k.w 0 3 0 = 3) && t.hasPort (k.w 0 15 8)) = true
    ∧ admitsB (asks (lead1 false) 0x08 16 (kUnit 3 24)) slot0 0x08 (fun t k => decide (k.w 0 3 0 = 3) && !t.hasPort (k.w 0 15 8)) = true
    ∧ admitsB (asks (lead1 false) 0x08 16 (kUnit 4 3)) slot0 0x08 (fun t k => decide (k.w 0 3 0 = 4 ∧ k.w 0 15 8 < 4) && t.hasEth) = true
    ∧ admitsB (asks (lead1 false) 0x08 16 (kUnit 4 4)) slot0 0x08 (fun _ k => decide (k.w 0 3 0 = 4 ∧ 4 ≤ k.w 0 15 8)) = true := by
  decide +kernel

/-- A context's parameter words: lead, one cache segment, `gib` GiB of stack; seed, job, regulators. -/
def createWords (lead gib : Nat) : List W64 := [w64 (lead + 2 ^ 4 + 2 ^ 16 * gib), 0, 1, 0x7800000100017800]
def jobSt (lead : Bool) (f : Ctx → Ctx) : State := { lead1 lead with sched := { (lead1 lead).sched with ctxs := [f (ctxRun 0 lead)], begun := false } }
def regsOk (k : Cmd) : Bool := decide (0 < k.w 0 31 16 ∧ k.w 0 31 16 ≤ 1152 ∧ 0 < k.w 3 31 16 ∧ 0 < k.w 3 63 48 ∧ k.w 3 14 0 ≤ 30720 ∧ k.w 3 46 32 ≤ 30720)
def susped (cause : Nat) (c : Ctx) : Ctx := { c with suspended := true, suspCause := cause }
def theCtx (t : State) (k : Cmd) (f : Ctx → Bool) : Bool := match t.ctx? k.ctx with
  | some x => f x
  | none => false
theorem witness_JobCommands :
    admitsB (asks (lead1 false) 0x11 16 (createWords 1 1)) slot0 0x11 (fun t k => regsOk k && decide (k.w 0 0 0 = 1 ∧ t.leadCtx = none ∧ 0 < k.w 0 8 4 + k.w 0 13 9
        ∧ k.w 0 8 4 + k.w 0 13 9 ≤ t.freeSegs ∧ 512 * k.w 0 31 16 ≤ t.pagesLeft ∧ t.sched.ctxs.length < 16) && !t.quiesced) = true
    ∧ admitsB (asks (lead1 true) 0x11 16 (createWords 1 1)) slot0 0x11 (fun t k => regsOk k && decide (k.w 0 0 0 = 1) && t.leadCtx.isSome && !t.quiesced) = true
    ∧ admitsB (asks (jobSt false id) 0x12 0 []) slot0 0x12 (fun t k => theCtx t k (fun x => !x.lead)) = true
    ∧ admitsB (asks (jobSt true id) 0x12 0 []) slot0 0x12 (fun t k => theCtx t k (fun x => x.lead && !x.suspended)) = true
    ∧ admitsB (asks (jobSt true id) 0x13 0 []) slot0 0x13 (fun t k => theCtx t k (fun x => x.lead && !x.suspended)) = true
    ∧ admitsB (asks (jobSt false id) 0x13 0 []) slot0 0x13 (fun t k => theCtx t k (fun x => !x.lead && !x.suspended)) = true
    ∧ admitsB (asks (jobSt true (susped 4)) 0x14 0 []) slot0 0x14 (fun t k => theCtx t k (fun x => x.suspended && decide (x.suspCause = 4)) && !t.quiesced) = true
    ∧ admitsB (asks (jobSt true (susped 1)) 0x14 0 []) slot0 0x14 (fun t k => theCtx t k (fun x => x.suspended && x.lead && decide (x.suspCause ≠ 4)) && !t.quiesced) = true
    ∧ admitsB (asks (jobSt false (susped 1)) 0x14 0 []) slot0 0x14 (fun t k => theCtx t k (fun x => x.suspended && !x.lead && decide (x.suspCause ≠ 4)) && !t.quiesced) = true
    ∧ admitsB (asks (jobSt true id) 0x15 0 [0x20000, 9, 0x100, 0, 3, 0]) slot0 0x15 (fun t k => theCtx t k (fun x => x.lead && (match x.score, x.shape with
        | some sc, some h => decide (k.w 0 5 0 < h.pp ∧ 2 + 2 * k.w 0 28 16 ≤ k.params.length) && sheetOk sc (sheetOf (k.w 0 28 16) (k.params.drop 2))
        | _, _ => false)) && !t.stepOpened (k.word 1).toNat && t.sched.staged.isEmpty) = true
    ∧ admitsB (asks (jobSt true (fun c => { c with score := none })) 0x10 0 [0, 1024, 0, 0, 0, 0, 2 + 2 ^ 17 * 2, 16]) slot0 0x10
        (fun t k => theCtx t k (fun x => x.score.isNone) && (shapeOf (k.word 6) (k.word 7)).isSome && !t.quiesced) = true
    ∧ admitsB (asks (jobSt false id) 0x10 0 [0, 1024, 0, 0, 0, 0, 0, 0]) slot0 0x10 (fun t k => theCtx t k (fun x => x.score.isSome) && !t.quiesced) = true := by
  decide +kernel

/-- A Roster of this device alone with two ranks, and its image with the digest that its bytes have. -/
def rosterAlone : Roster := ⟨1, 1, 0, 2, [{ entOf 0 noDev with ident := State.reset.rd .idnDevid, links := List.replicate 24 0 }], [0, 0], []⟩
def imageOf (r : Roster) (d : W64) : List W64 := leWords (cdiv (r.bytes d).length 8) (r.bytes d)
def rightImage (k : Cmd) (f : Roster → W64 → List Byte → Bool) : Bool := match rosterFrom (wordsLe k.params) with
  | some (r, d, n) => f r d ((wordsLe k.params).take n)
  | none => false
def crcIs (d : W64) (bs : List Byte) : Bool := decide (crc64 (bs.take 40 ++ leBytes 8 0 ++ bs.drop 48) = d)
set_option maxRecDepth 100000 in
theorem witness_RosterIsSet :
    admitsB (asks (jobSt true id) 0x20 0 (imageOf rosterAlone 1)) slot0 0x20 (fun _ k => rightImage k (fun _ d bs => !crcIs d bs)) = true
    ∧ admitsB (asks (jobSt true id) 0x20 0 (imageOf rosterAlone rosterAlone.digest)) slot0 0x20 (fun t k => rightImage k (fun r d bs => crcIs d bs && rosterOk r d bs
        && (match r.devs.find? (fun e => decide (e.ident = t.rd .idnDevid)) with
          | some e => ((((t.setRoster r e.number).accept k 30000000 |> t.finish k).ctx? k.ctx).map (fun x => x.lead)) == some true
          | none => false))
        && theCtx t k (fun x => x.lead && (x.shape.map (fun h => rightImage k (fun r _ _ => rosterFits h r))) == some true) && decide (t.rosterVersion = 0)) = true
    ∧ admitsB (asks (jobSt true (fun c => { c with shape := some { shapeOne with vranks := 4 } })) 0x20 0 (imageOf rosterAlone rosterAlone.digest)) slot0 0x20
        (fun t k => rightImage k (fun _ d bs => crcIs d bs)
          && theCtx t k (fun x => x.lead && (x.shape.map (fun h => rightImage k (fun r _ _ => !rosterFits h r))) == some true) && decide (t.rosterVersion = 0)) = true
    ∧ admitsB (asks (jobSt false id) 0x20 0 (imageOf rosterAlone rosterAlone.digest)) slot0 0x20 (fun t k => rightImage k (fun r d bs => crcIs d bs
        && decide ((t.link.roster.map (fun (q : Roster) => q.ensOf t.hosted)).getD 0 + (t.link.fillEns.filter (fun y => decide (y.1 ≠ k.ctx))).length + r.ens.length ≤ 64)
        && (((t.setFillEns k.ctx r.ens).ok |> t.finish k).ctx? k.ctx).map (fun x => x.lead) == some false) && theCtx t k (fun x => !x.lead)) = true := by
  decide +kernel

/-- Endpoint 5 connected; a fill context with a 1 KiB tensor 7 and weight sets. -/
def ethUp (s : State) : State := s.setFld .ethEpStatus 5 1 0 1
def wsetOf (num : Nat) (cur : Bool) (bad : List (Nat × Nat)) : WSet := ⟨num, 0, true, cur, bad⟩
def withTen (c : Ctx) : Ctx := { c with score := some { scoreOne with tensors := [tenOne] }, tensors := [⟨7, 65536, [⟨0, 1024, 0⟩], []⟩] }
def shardWords (at' len : Nat) : List W64 := [w64 (1 + 5 * 256), 0, 0, w64 len, w64 (at' + 7 * 2 ^ 40), 0, 0, 0, 0]
theorem witness_RosterAndDataCommands :
    admitsB (asks (jobSt true id) 0x22 0 [0, 65536]) slot0 0x22 (fun t k => theCtx t k (fun x => x.lead && x.score.isSome)
        && decide (t.link.roster = none ∧ k.w 1 16 0 ≤ 65536 ∧ t.pbk.admitting = none) && t.plat.tested) = true
    ∧ admitsB (asks (inJob noDev (jobSt true id)) 0x23 16 []) slot0 0x23 (fun t _ => (match t.link.roster with
        | some r => r.devs.any (fun e => decide (e.number ≠ t.link.me))
        | none => false) && !t.pbk.releasing && t.pbk.admitting.isNone) = true
    ∧ admitsB (asks (ethUp (jobSt false withTen)) 0x30 0 (shardWords 960 64)) slot0 0x30 (fun t k => decide (t.epBad (k.w 0 15 8) = none) && !t.quiesced
        && theCtx t k (fun x => shardTarget x k && !x.lead && !k.fill)) = true
    ∧ admitsB (asks (jobSt false (fun c => { c with wsets := [wsetOf 3 false [(0, 1)]] })) 0x31 0 [3]) slot0 0x31 (fun t k => theCtx t k (fun x => !x.lead
        && (x.wsets.find? (fun y => decide (y.num = k.w 0 1 0))) == some (wsetOf 3 false [(0, 1)]))) = true
    ∧ admitsB (asks (jobSt false (fun c => { c with wsets := [wsetOf 0 true [], wsetOf 3 false []] })) 0x31 0 [3]) slot0 0x31 (fun t k => theCtx t k (fun x => !x.lead
        && (x.wsets.find? (fun y => decide (y.num = k.w 0 1 0))) == some (wsetOf 3 false []))) = true
    ∧ admitsB (asks (ethUp (jobSt true id)) 0x32 16 [0x500, 0, 0, w64 (2 ^ 40)]) slot0 0x32 (fun t k => decide (t.saveBad k = none ∧ k.w 0 17 17 = 0 ∧ k.w 0 16 16 = 0)) = true
    ∧ admitsB (asks (ethUp (jobSt true id)) 0x32 16 [0x20500, 0, 0, w64 (2 ^ 40)]) slot0 0x32 (fun t k => decide (t.saveBad k = none ∧ k.w 0 17 17 = 1)) = true
    ∧ (∀ slot ∈ [0, 3], admitsB (asks (ethUp (inJob noDev (jobSt true id))) 0x33 16 [w64 (0x500 + slot), 0, 0]) slot0 0x33 (fun t k => decide (t.epBad (k.w 0 15 8) = none)
        && !t.quiesced && !t.sched.begun && t.pbk.restoring.isNone && t.link.roster.isSome && (t.leadCtx.bind (fun x => x.shape)).isSome && decide (k.w 0 1 0 = slot)) = true) := by
  decide +kernel

def imgOne : Image := ⟨[0]⟩
def flashSt (dev : DevState) (f : Flash) : State := { calm dev with plat := { (calm dev).plat with flash := f } }
def busyTest (s : State) : State := s.modBooth (fun b => { b with inflight := [⟨0, 0x40, 3, 0, none, [1], false, 0, [], [], none, 0⟩] })
theorem witness_TestAndFirmwareCommands :
    (∀ op ∈ [0x40, 0x41], admitsB (asks (calm .ready) op 16 [w64 (1 + 256 * 139)]) slot0 op (fun t k => decide (k.w 0 3 0 = 1 ∧ t.stageBad (k.w 0 15 8) = none) && !t.testBusy) = true
      ∧ admitsB (asks (calm .ready) op 16 [w64 (1 + 256 * 144)]) slot0 op (fun t k => decide (k.w 0 3 0 = 1) && (t.stageBad (k.w 0 15 8)).isSome) = true)
    ∧ admitsB (asks (busyTest (calm .ready)) 0x40 16 [w64 (1 + 512)]) slot0 0x40 (fun t k => decide (k.w 0 3 0 = 1 ∧ t.stageBad (k.w 0 15 8) = none) && t.testBusy) = true
    ∧ admitsB (asks (calm .ready) 0x42 16 [w64 (23 + 256 * 0x81)]) slot0 0x42 (fun t k => t.hasPort (k.w 0 4 0) && decide (lanesOf (k.w 0 15 8) ≠ [])) = true
    ∧ (∀ n ∈ [1, 2 ^ 25], admitsB (asks (calm .ready) 0x70 16 [0, w64 n]) slot0 0x70 (fun _ k => decide (0 < k.w 1 31 0 ∧ k.w 1 31 0 ≤ 2 ^ 25)) = true)
    ∧ (∀ n ∈ [0, 2 ^ 25 + 1], admitsB (asks (calm .ready) 0x70 16 [0, w64 n]) slot0 0x70 (fun _ k => decide (k.w 1 31 0 = 0 ∨ 2 ^ 25 < k.w 1 31 0)) = true)
    ∧ admitsB (asks (flashSt .ready { Flash.fresh with staging := some imgOne }) 0x71 16 [0]) slot0 0x71 (fun t k => decide (k.w 0 0 0 = 0) && t.mayActivate && t.plat.flash.staging.isSome) = true
    ∧ admitsB (asks (flashSt .quiesced { Flash.fresh with staging := none }) 0x71 16 [0]) slot0 0x71 (fun t k => decide (k.w 0 0 0 = 0) && t.mayActivate && t.plat.flash.staging.isNone) = true
    ∧ admitsB (asks (lead1 false) 0x71 16 [0]) slot0 0x71 (fun t k => decide (k.w 0 0 0 = 0) && !t.mayActivate) = true
    ∧ admitsB (asks (flashSt .ready { Flash.fresh with imgA := some imgOne, imgB := some imgOne }) 0x71 16 [1]) slot0 0x71
        (fun t k => decide (k.w 0 0 0 = 1) && t.mayActivate && t.plat.flash.other.isSome) = true
    ∧ ((busyTest (calm .ready)).booth.inflight.find? (fun x => decide (x.src = 0 ∧ x.seq = 3))).isSome = true := by
  decide +kernel

/-- A Prompter at the last word of its code region. -/
def stgEnd : Stage := { stg with prm := { stg.prm with pc := 4088 } }
theorem issues_stgEnd (uses : List (BitVec 5)) : Issues (dev stgEnd) p0 kin uses :=
  issues_all _ rfl rfl rfl (by decide +kernel) (by decide +kernel)
theorem witness_BadTargetsFault :
    (Canon (dev stgEnd) ∧ (∀ uses, Issues (dev stgEnd) p0 kin uses))
    ∧ (let a := BitVec.ofNat 64 (dev stgEnd).stages.length + 8 * (0x7FFFFFFF#32).signExtend 64; ¬ (a.toNat < kin.codeSize ∧ a.toNat % 8 = 0))
    ∧ ((dev stgEnd).stage 0).prm.loops = []
    ∧ ¬ (((dev { stg with prm := { stg.prm with regs := [(1, 4096)] } }).stage 0).prm.reg 1).toNat < kin.codeSize
    ∧ ¬ (w64 (nextPc ((dev stgEnd).stage 0).prm.pc ((dev stgEnd).stage 0).prm.loops).1).toNat < kin.codeSize :=
  ⟨⟨canon_of (by decide +kernel), issues_stgEnd⟩, by decide +kernel⟩

theorem witness_UndefinedOffsetsReadZero :
    (calm .ready).barLive = true
    ∧ (findReg (2 ^ 28 - 8) = none ∧ (2 ^ 28 - 8) % 8 = 0)
    ∧ (findReg (Reg.off .stgPrmRetired 32) = some (.stgPrmRetired, 32) ∧ Reg.absent .stgPrmRetired 32 = true ∧ Reg.off .stgPrmRetired 32 < 2 ^ 28) := by
  decide +kernel
theorem witness_RegistersReadAndWrite :
    (calm .ready).settleHost = calm .ready ∧ (calm .ready).barLive = true ∧ (calm .ready).booting = false
    ∧ (∀ r ∈ ([.bthGpio, .wngScrub, .stgFault] : List Reg), findReg (r.off 0) = some (r, 0) ∧ r.absent 0 = false ∧ r.off 0 % 8 = 0 ∧ r.off 0 < 2 ^ 28)
    ∧ (∀ h ∈ [none, some false, some true], let lanes : W64 := match h with | none => BitVec.allOnes 64 | some false => 0xFFFFFFFF | some true => 0xFFFFFFFF00000000;
      Reg.outOfRange .bthGpio (masked ((calm .ready).rd .bthGpio 0) lanes 0xFFFFFFFFFFFFFFFF) = 0) := by
  decide +kernel
theorem calm_canon : Canon (calm .ready) := canon_of (by decide +kernel)

def withSlot (v : W64) (x : SlotSt) : State := ((calm .ready).wr .bthSlotCfg 63 v).setSlot 63 x
def bells (h f p : Bool) : State := (calm .ready).modBooth (fun b => { b with
  bellH2F := if h then [(0, ⟨true, 5⟩), (15, ⟨true, 6⟩)] else [], bellF2H := if f then [(0, ⟨true, 1⟩)] else [], bellP2F := if p then [(143, ⟨true, 1⟩)] else [] })
theorem witness_SlotsRingsAndHostBells :
    ((withSlot 1 .fresh).fld .bthSlotCfg 63 0 0 = 1 ∧ (63 : BitVec 16).toNat < (withSlot 1 .fresh).sqSize 63 ∧ (withSlot 1 .fresh).sqSize 63 ≤ (64 : BitVec 16).toNat
      ∧ (withSlot 0 .fresh).fld .bthSlotCfg 63 0 0 = 0 ∧ (withSlot 0 .fresh).barLive = true ∧ (withSlot 0 .fresh).booting = false)
    ∧ (let s := (withSlot 1 { SlotSt.fresh with unsignalled := 1 }).wr .bthCqIrq 63 (1 + 2 ^ 9);
      s.fld .bthCqIrq 63 0 0 = 1 ∧ s.fld .bthCqIrq 63 23 9 ≠ 0 ∧ 0 < (s.slot 63).unsignalled)
    ∧ ((calm .ready).fld .bthEvqCfg 0 0 0 = 0 ∧ (calm .ready).fld .tlyCtrl 0 0 0 = 0 ∧ Reg.absent .ethEpCfg 255 = false ∧ (calm .ready).fld .ethEpCfg 255 0 0 = 0
      ∧ ((calm .ready).setFld .ethEpCfg 255 0 0 1).fld .ethEpCfg 255 0 0 = 1)
    ∧ ((mget Bell.clear (bells false false false).booth.bellH2F 15).full = false ∧ (mget Bell.clear (bells true false false).booth.bellH2F 15).full = true
      ∧ (bells true false false).taking = true ∧ (mget Bell.clear (bells true false false).booth.bellH2F 0).full = true
      ∧ (mget Bell.clear (bells true false false).booth.bellF2H 0).full = false ∧ (bells true true false).settleHost.booting = false)
    ∧ ((bells false false true).taking = true ∧ (bells false false true).fld .bthEvqCfg 0 0 0 = 0)
    ∧ (let s := (bells false false true).setFld .bthEvqCfg 0 0 0 1;
      (s.fld .bthEvqHead 0 15 0 + 1) % 2 ^ s.fld .bthEvqCfg 0 7 3 ≠ s.fld .bthEvqTail 0 15 0 % 2 ^ s.fld .bthEvqCfg 0 7 3
        ∨ s.fld .bthEvqCfg 0 7 3 = 0) := by
  decide +kernel

def booted (dev : DevState) (ks : List Nat) (f : PlatSt → PlatSt) : State := { State.reset with plat := f { PlatSt.boot with dev := dev, phase := ks } }
theorem witness_TheBoot :
    (booted .off [] (fun p => { p with pwrgood := false })).plat.pwrgood = false
    ∧ (State.reset.plat.pwrgood = true ∧ State.reset.plat.perst = false ∧ State.reset.plat.dev ≠ .off ∧ State.reset.inPhase 1 = true ∧ State.reset.plat.railsOk = true)
    ∧ (booted .off [] (fun p => { p with perst := true })).plat.perst = true
    ∧ ((booted .boot [2] (fun p => { p with flash := { p.flash with imgA := some imgOne, imgB := none } })).inPhase 2 = true
      ∧ (booted .boot [2] (fun p => { p with flash := { p.flash with imgA := some imgOne, imgB := none } })).plat.flash.active = some imgOne
      ∧ (booted .boot [2] (fun p => { p with flash := { p.flash with imgA := some imgOne, imgB := none } })).plat.flash.other = none)
    ∧ (let s := booted .boot [2] (fun p => { p with flash := { p.flash with imgA := none, imgB := none } });
      s.inPhase 2 = true ∧ s.plat.flash.active = none ∧ s.plat.flash.other = none)
    ∧ ((booted .off [] id).plat.dev = .off ∧ (booted .off [] id).plat.perst = false)
    ∧ (let s := booted .off [] (fun p => { p with perst := true, pwrgood := false }); s.plat.perst = true ∧ s.plat.pwrgood = false)
    ∧ (∀ x ∈ (booted .test [7] id).plat.phase, x = 7)
    ∧ (∀ k ∈ [3, 4, 5, 6, 7, 8], (booted .test [k] id).inPhase k = true)
    ∧ ((booted .test [8] (fun p => { p with flash := { p.flash with imgA := none, imgB := none } })).plat.flash.active = none)
    ∧ (let s := (calm .ready).setFld .ethPort 3 1 0 0;
      s.fld .ethPort 3 1 0 = 0 ∧ s.hasEth = true ∧ s.plat.dev ≠ .off ∧ s.booting = false) := by
  decide +kernel
theorem reset_canon : Canon State.reset := canon_of (by decide +kernel)

def sampleOf (stack : Nat) : PowerSample := ⟨1000, 50, [], [stack], [], []⟩
/-- CCLK stopped after a trip, a stack at its threshold for 9,999 samples. -/
def stopSt : State := { calm .ready with plat := { (calm .ready).plat with cclkStopped := true, dimmer := { Dimmer.fresh with stackRun := 9999 } } }
def condOf (s : State) (x : PowerSample) : Option (Nat × Nat × Nat) :=
  let u := (s.showSample x).countSafe x
  (if u.plat.cclkStopped then u else (u.dim x).dimmerTime).safeCond x
theorem witness_PowerHeatAndClocks :
    (calm .ready).live = true ∧ stopSt.live = true ∧ condOf stopSt (sampleOf 99) = none ∧ condOf stopSt (sampleOf 100) = some (2, 0, 100)
    ∧ (booted .safe [] (fun p => { p with safeClear := 1000000 })).plat.safeClear = 1000000
    ∧ (booted .safe [] (fun p => { p with safeClear := 1000000 })).live = true
    ∧ (calm .ready).plat.cclkStopped = false := by decide +kernel

def timed (src : Nat) (sec edge : Option W64) : State :=
  (((calm .ready).setFld .clkTimeCfg 0 1 0 src).wr .clkTime 0 10000000000).modTime (fun t => { t with setSec := sec, lastEdge := edge })
theorem witness_TimeManagementAndTap :
    (timed 2 (some 5) none).timeSrc = 2 ∧ (timed 1 none none).timeSrc = 1 ∧ (timed 2 (some 5) none).live = true
    ∧ ((let s := timed 2 (some 5) none; (s.discipline ((s.now.toNat : Int) - (5 * 1000000000 : Nat)) 3).modTime (fun t => { t with setSec := some 6 })).plat.time.setSec.isSome = true)
    ∧ (timed 2 none none).plat.time.setSec = none
    ∧ (900000000 ≤ ((timed 2 none (some 9100000000)).now - 9100000000).toNat ∧ 10000000000 ≤ ((timed 2 none (some 0)).now - 0).toNat)
    ∧ ((calm .ready).managed = true ∧ (calm .ready).barLive = true ∧ (calm .ready).plat.ports.sensors = [] ∧ (calm .ready).plat.pwrgood = true)
    ∧ (booted .fault [] (fun p => { p with faultCause := 7 })).recovering = true
    ∧ (2 ^ 25 < (0x01FFFFFF#32).toNat + 2 ∧ (0x01FFFFFF#32).toNat + 1 ≤ 2 ^ 25) := by decide +kernel

/-- Stage 0's first word spells ADD. -/
def fetching : State := dev { stg with ap := ⟨msetRun 0 [] 0 (leBytes 8 0x00000C2200000000), [], [], none⟩ }
theorem witness_StepRunsTheFrontCommand :
    (State.reset.pending = [] ∧ ({ State.reset with pending := [.thermalTrip] } : State).pending = [.thermalTrip])
    ∧ fetching.pending = []
    ∧ fetching.nextStage = some (0, kin) ∧ Canon fetching ∧ CleanApron (fetching.stage 0) (kin.codeBase + (fetching.stage 0).prm.pc) 8
    ∧ decodeKernel 0 (BitVec.ofNat 64 (apNumber fetching 0 (kin.codeBase + (fetching.stage 0).prm.pc) 8)) = .ok (.add p0 3 1 2) :=
  ⟨by decide +kernel, by decide +kernel, by decide +kernel, canon_of (by decide +kernel), fun _ _ _ => rfl, by decide +kernel⟩
theorem witness_WellFormedCommandsComplete : Instr.wf (.nop p0) = true ∧ Instr.wf .thermalTrip = true := by decide
theorem witness_DecodingUndoesEncoding : Instr.wf (.add p0 3 1 2) = true ∧ encodeKernel (.add p0 3 1 2) = some 0x00000C2200000000 := by decide +kernel
theorem witness_ScalarStepsKeepTheForm : p0.stage < 144 ∧ Canon (dev stg) ∧ ∀ i, ((dev stg).stage 0).inst = some i → SeqIn (dev stg) 0 i :=
  ⟨by decide, canon_of (by decide +kernel), fun i h => by
    have e : ((dev stg).stage 0).inst = some kin := by decide +kernel
    rw [e] at h
    cases h
    exact seq_dev (by decide +kernel)⟩

def gatherColl : Coll := ⟨7, 4, [w64 (1 + 0x400), w64 (7 * 2 ^ 40), w64 (7 * 2 ^ 40), 512], [0, 1], [(0, 0)], [], [], [], []⟩
def devChain : State := let s := devColl 1 512
  { s with
    sched := { s.sched with ctxs := s.sched.ctxs.map (fun c => { withTen c with tensors := [⟨7, 0, [⟨0, 1024, 0⟩], []⟩, ⟨7, 65536, [⟨0, 1024, 0⟩], []⟩] }) }
    link := { s.link with colls := [gatherColl] } }
theorem witness_ChainSteps : (match (devChain.collStep gatherColl.idle 0) with
    | some t => decide (t.stages = devChain.stages) && (t.launch? 4).isSome && decide (t.link.colls ≠ devChain.link.colls)
    | none => false) = true := by decide +kernel
theorem witness_Blocks :
    ((∀ x ∈ [1, 1], x < 2) ∧ ([1, 1] : List Nat)[1]? = some 1 ∧ slotsOf 1 2 [1, 1] = [some 0, none])
    ∧ (∀ b ∈ [(⟨0xFF800000, 7, [1]⟩ : AttnState)], b.m = 0xFF800000) := by decide +kernel

end Sys2Proof.Tests
end

section
/-! PROOFS. The host at BAR0 offsets that no register answers: undefined ones and those of absent blocks (R5, R8). -/

namespace Sys2Proof.Machine

/-- No register answers at the offset: the tables define none there (R8), or its block is absent (R5). -/
def Unanswered (off : Nat) : Prop := findReg off = none ∨ ∃ r i, findReg off = some (r, i) ∧ r.absent i = true

theorem Unanswered.peekReg_eq {off : Nat} (h : Unanswered off) (s : State) : s.peekReg off = 0 := by
  unfold State.peekReg
  obtain hnone | ⟨r, i, hsome, habsent⟩ := h
  · simp only [hnone]
  · simp only [hsome, habsent, if_true]

/-- During the boot as well, when a window shows its reset values (R505). -/
theorem Unanswered.hostView_eq {off : Nat} (h : Unanswered off) (s : State) : s.hostView off = 0 := by
  unfold State.hostView
  split
  · obtain hnone | ⟨r, i, hsome, habsent⟩ := h
    · simp only [hnone]
    · simp only [hsome, habsent, if_true]
  · exact h.peekReg_eq s

theorem Unanswered.clearRead_eq {off : Nat} (h : Unanswered off) (s : State) (within : W64) : s.clearRead off within = s := by
  unfold State.clearRead
  obtain hnone | ⟨r, i, hsome, habsent⟩ := h
  · simp only [hnone]
  · simp only [hsome, habsent, if_true]

theorem Unanswered.barWrite_eq {off : Nat} (h : Unanswered off) (s : State) (mask v : W64) : s.barWrite off mask v = s := by
  unfold State.barWrite
  split
  · rfl
  · obtain hnone | ⟨r, i, hsome, habsent⟩ := h
    · simp only [hnone]
    · simp only [hsome, habsent, Bool.true_or, if_true]

@[simp] theorem laneOut_zero (half : Option Bool) : laneOut half 0 = 0 := by
  cases half with
  | none => rfl
  | some hi => cases hi <;> rfl

/-- The read makes the host's waiting writes visible, answers zero and clears nothing (R5, R8, R244). -/
theorem Unanswered.hostRead64_eq {off : Nat} (h : Unanswered off) (s : State) (half : Option Bool) :
    s.hostRead64 off half = s.settleHost.modBooth (fun b => { b with readData := [0] }) := by
  unfold State.hostRead64
  simp only [h.hostView_eq, h.clearRead_eq, laneOut_zero, ite_self]

theorem barOffset_of_aligned {off : Nat} (haligned : off % 8 = 0) (hbar : off < 2 ^ 28) : barOffset off = true :=
  decide_eq_true ⟨haligned, hbar⟩

theorem exec_rcRegisterRead_of_live {s : State} {off : Nat} (hlive : s.barLive = true) (hoff : barOffset off = true) (half : Option Bool) :
    exec (.rcRegisterRead off half) s = .next (s.hostRead64 off half) := by
  show execRcRegisterRead off half s = _
  simp only [execRcRegisterRead, hlive, hoff, Bool.and_self, if_true]

theorem exec_registerWrite_of_barOffset {off : Nat} (hoff : barOffset off = true) (half : Option Bool) (v : W64) (s : State) :
    exec (.registerWrite off half v) s = .next (s.barWrite off (laneMask half) (laneIn half v)) := by
  show execRegisterWrite off half v s = _
  simp only [execRegisterWrite, hoff, if_true]

/-- Settles O49: at such an offset `hostRead64` finds zero and clears nothing, and `barWrite` returns the state it was given. -/
theorem undefinedOffsetsReadZero : Obligations.UndefinedOffsetsReadZero := by
  intro off half v s hlive haligned hbar (h : Unanswered off)
  have hoff := barOffset_of_aligned haligned hbar
  constructor
  · rw [exec_rcRegisterRead_of_live hlive hoff, h.hostRead64_eq]
    rfl
  · rw [exec_registerWrite_of_barOffset hoff, h.barWrite_eq]

end Sys2Proof.Machine
end

section
/-! PROOFS. The AZERO at the head of a Stage's feed queue (R67-R69, R116). -/

namespace Sys2Proof.Machine

/-- One bound on M in place of R67's two: 128 rows in wide format, 256 in single. -/
theorem azeroRows_inadmissible_iff (wide : Bool) (m : Nat) :
    (m = 0 ∨ m > 256 ∨ (wide = true ∧ m > 128)) ↔ (m = 0 ∨ (if wide then 128 else 256) < m) := by
  cases wide
  · simp
  · simp only [if_true, true_and]
    omega

section
variable {n : Nat} {i : Inst} {e : FeedEnt} {rest : List FeedEnt} {slot m : Nat} {wide : Bool} {s : State}

/-- What the start of an AZERO does, in the order of its checks: shape, open slot, free blocks. -/
theorem exec_azeroStart_of_head (hn : n < 144) (hinst : (s.stage n).inst = some i) (hfeed : (s.stage n).mx.feed = e :: rest)
    (hop : e.op = .azero slot wide m) :
    let x := (s.stage n).mx
    let need := (m + 15) / 16 * (if wide then 2 else 1)
    exec (.azeroStart n) s =
      if m = 0 ∨ (if wide then 128 else 256) < m then .next (s.feedFault n e .slotShape (w64 slot))
      else if (x.slot slot).opened then
        if x.closing slot e.seq then .next s else .next (s.feedFault n e .slotOpen (w64 slot))
      else if need ≤ x.freeBlocks.length then
        .next ((s.popFeed n).modStage n (fun t => { t with mx := t.mx.openSlot slot wide m (x.freeBlocks.take need) }))
      else if need ≤ x.freeBlocks.length + x.willFree then .next (s.stall .stgMxaStallSlot n)
      else .next (s.feedFault n e .overcommit (w64 slot)) := by
  show execAzeroStart n s = _
  simp only [execAzeroStart, if_pos hn, hinst, hfeed, hop, azeroRows_inadmissible_iff]
  rfl

/-- An AZERO of an admissible row count into a closed slot, for which too few blocks are free: whether it waits turns on the blocks
that queued DRAINs and ROLLs will free. -/
theorem exec_azeroStart_of_few_blocks (hn : n < 144) (hinst : (s.stage n).inst = some i) (hfeed : (s.stage n).mx.feed = e :: rest)
    (hop : e.op = .azero slot wide m) (hpos : 0 < m) (hmax : m ≤ (if wide then 128 else 256))
    (hclosed : ((s.stage n).mx.slot slot).opened = false)
    (hfew : (s.stage n).mx.freeBlocks.length < (m + 15) / 16 * (if wide then 2 else 1)) :
    exec (.azeroStart n) s =
      if (m + 15) / 16 * (if wide then 2 else 1) ≤ (s.stage n).mx.freeBlocks.length + (s.stage n).mx.willFree then
        .next (s.stall .stgMxaStallSlot n)
      else .next (s.feedFault n e .overcommit (w64 slot)) := by
  have hshape : ¬ (m = 0 ∨ (if wide then 128 else 256) < m) := not_or.mpr ⟨hpos.ne', hmax.not_gt⟩
  have hopened : ¬ ((s.stage n).mx.slot slot).opened = true := Bool.eq_false_iff.mp hclosed
  rw [exec_azeroStart_of_head hn hinst hfeed hop, if_neg hshape, if_neg hopened, if_neg hfew.not_ge]

end

/-- Settles O18: the shape is the first check of the start, and past it a closed slot leaves only the count of blocks to come. -/
theorem azeroWaitsForBlocks : Obligations.AzeroWaitsForBlocks := by
  intro n i e rest slot m wide s hn hinst hfeed hop x need
  constructor
  · intro hshape
    rw [exec_azeroStart_of_head hn hinst hfeed hop, if_pos hshape, State.feedFault]
  · intro hpos hmax hclosed hfew
    have hstart := exec_azeroStart_of_few_blocks hn hinst hfeed hop hpos hmax hclosed hfew
    constructor
    · intro henough
      rw [hstart, if_pos henough]
    · intro hshort
      rw [hstart, if_neg hshort.not_ge, State.feedFault]

end Sys2Proof.Machine
end

section
/-! PROOFS. Runs of consecutive keys in sparse data: what they read, and what is read after one is written. -/

namespace Sys2Proof.Machine

variable {α : Type} {d : α}

theorem mgetRun_eq_map (m : SMap α) (k len : Nat) : mgetRun d m k len = (List.range len).map (fun c => mget d m (k + c)) := by
  induction len generalizing k with
  | zero => rfl
  | succ len ih =>
    rw [mgetRun, ih, List.range_succ_eq_map, List.map_cons, List.map_map]
    simp only [Nat.add_zero, List.cons.injEq, true_and]
    refine List.map_congr_left fun c _ => ?_
    rw [Function.comp_apply, Nat.succ_eq_add_one, Nat.add_assoc, Nat.add_comm 1 c]

theorem mgetRun_one (m : SMap α) (k : Nat) : mgetRun d m k 1 = [mget d m k] := rfl

theorem mget_of_key_ne {m : SMap α} {j : Nat} (h : ∀ e ∈ m, e.1 ≠ j) : mget d m j = d := by
  induction m with
  | nil => rfl
  | cons e t ih =>
    rw [List.forall_mem_cons] at h
    rw [mget, if_neg h.1, ih h.2]

theorem mget_append_of_key_ne_left {a : SMap α} (b : SMap α) {j : Nat} (h : ∀ e ∈ a, e.1 ≠ j) : mget d (a ++ b) j = mget d b j := by
  induction a with
  | nil => rfl
  | cons e t ih =>
    rw [List.forall_mem_cons] at h
    rw [List.cons_append, mget, if_neg h.1, ih h.2]

theorem mget_append_of_key_ne_right (a : SMap α) {b : SMap α} {j : Nat} (h : ∀ e ∈ b, e.1 ≠ j) : mget d (a ++ b) j = mget d a j := by
  induction a with
  | nil => exact mget_of_key_ne h
  | cons e t ih => rw [List.cons_append, mget, mget, ih]

theorem mget_filter_of_key {P : Nat → Prop} [DecidablePred P] (m : SMap α) {j : Nat} (h : P j) :
    mget d (m.filter (fun e => decide (P e.1))) j = mget d m j := by
  induction m with
  | nil => rfl
  | cons e t ih =>
    by_cases hkey : e.1 = j
    · rw [List.filter_cons_of_pos (by simpa [hkey] using h), mget, mget, if_pos hkey, if_pos hkey]
    · by_cases hkeep : P e.1
      · rw [List.filter_cons_of_pos (by simpa using hkeep), mget, mget, if_neg hkey, if_neg hkey, ih]
      · rw [List.filter_cons_of_neg (by simpa using hkeep), mget, if_neg hkey, ih]

variable [DecidableEq α]

theorem mlist_keys_ge (k : Nat) (vs : List α) : ∀ e ∈ mlist d k vs, k ≤ e.1 := by
  induction vs generalizing k with
  | nil => intro e he; cases he
  | cons v vs ih =>
    intro e he
    rw [mlist] at he
    split at he
    · exact Nat.le_of_succ_le (ih (k + 1) e he)
    · rcases List.mem_cons.mp he with rfl | he
      · exact Nat.le_refl k
      · exact Nat.le_of_succ_le (ih (k + 1) e he)

theorem mget_mlist (k c : Nat) (vs : List α) : mget d (mlist d k vs) (k + c) = vs.getD c d := by
  induction vs generalizing k c with
  | nil => rfl
  | cons v vs ih =>
    rw [mlist]
    cases c with
    | zero =>
      rw [List.getD_cons_zero]
      show (mget d _ k) = v
      split
      · next hv => rw [mget_of_key_ne (fun e he => Nat.ne_of_gt (mlist_keys_ge _ _ e he)), hv]
      · rw [mget, if_pos rfl]
    | succ c =>
      have hnext := ih (k + 1) c
      rw [Nat.add_assoc, Nat.add_comm 1 c] at hnext
      split
      · rw [hnext, List.getD_cons_succ]
      · rw [mget, if_neg (by omega), hnext, List.getD_cons_succ]

/-- A run written reads back. -/
theorem mget_msetRun_run (m : SMap α) (k : Nat) {vs : List α} {c : Nat} (h : c < vs.length) :
    mget d (msetRun d m k vs) (k + c) = vs.getD c d := by
  unfold msetRun
  rw [mget_append_of_key_ne_right, mget_append_of_key_ne_left, mget_mlist]
  · intro e he
    have hlow := of_decide_eq_true (List.mem_filter.mp he).2
    omega
  · intro e he
    have hhigh := of_decide_eq_true (List.mem_filter.mp he).2
    omega

/-- A run written leaves every key outside it alone. -/
theorem mget_msetRun_of_outside (m : SMap α) {k j : Nat} (vs : List α) (h : j < k ∨ k + vs.length ≤ j) :
    mget d (msetRun d m k vs) j = mget d m j := by
  unfold msetRun
  rcases h with hlow | hhigh
  · rw [List.append_assoc, mget_append_of_key_ne_right, mget_filter_of_key (P := fun x => x < k) m hlow]
    intro e he
    rcases List.mem_append.mp he with he | he
    · have hge := mlist_keys_ge k vs e he
      omega
    · have hge := of_decide_eq_true (List.mem_filter.mp he).2
      omega
  · rw [mget_append_of_key_ne_left, mget_filter_of_key (P := fun x => k + vs.length ≤ x) m hhigh]
    intro e he
    rcases List.mem_append.mp he with he | he
    · have hlt := of_decide_eq_true (List.mem_filter.mp he).2
      omega
    · have hlt := mlist_keys_lt k vs e he
      omega

/-- Writing what a key reads changes nothing. -/
theorem mset_mget_self {m : SMap α} (k : Nat) (h : mwf d m = true) : mset d m k (mget d m k) = m := by
  suffices H : ∀ lo, mwfFrom d lo m = true → mset d m k (mget d m k) = m from H 0 h
  clear h
  induction m with
  | nil => intro lo _; exact if_pos rfl
  | cons e t ih =>
    intro lo h
    obtain ⟨j, v⟩ := e
    simp only [mwfFrom, Bool.and_eq_true, decide_eq_true_eq] at h
    obtain ⟨⟨-, hv⟩, ht⟩ := h
    rcases Nat.lt_trichotomy k j with hlt | heq | hgt
    · have hnone : mget d ((j, v) :: t) k = d := by rw [mget, if_neg (by omega), mget_of_lt ht (by omega)]
      rw [hnone, mset, if_pos hlt, if_pos rfl]
    · subst heq
      rw [mget, if_pos rfl, mset, if_neg (by omega), if_pos rfl, if_neg hv]
    · rw [mget, if_neg (by omega), mset, if_neg (by omega), if_neg (by omega), ih _ ht]

/-- The arithmetic of `setBits` on one bit: what stands above it, the new bit, what stands below it. -/
theorem setBits_bit_eq (v : W64) (r x : Nat) :
    setBits v r r x = BitVec.ofNat 64 (2 ^ r * (2 * (v.toNat / 2 ^ r / 2) + x % 2) + v.toNat % 2 ^ r) := by
  unfold setBits bitsOf
  rw [Nat.add_sub_cancel_left, Nat.pow_one]
  congr 1
  have hsplit := Nat.div_add_mod v.toNat (2 ^ r)
  generalize v.toNat / 2 ^ r = q at hsplit ⊢
  have hq : 2 ^ r * q = 2 ^ r * (2 * (q / 2)) + q % 2 * 2 ^ r := by
    rw [Nat.mul_comm (q % 2), ← Nat.mul_add, Nat.div_add_mod]
  rw [Nat.mul_add, Nat.mul_comm (2 ^ r) (x % 2)]
  omega

/-- One bit of a word replaced. -/
theorem getLsbD_setBits_bit (v : W64) {r : Nat} (hr : r < 64) (b : Bool) (j : Nat) :
    (setBits v r r (if b then 1 else 0)).getLsbD j = if j = r then b else v.getLsbD j := by
  rw [setBits_bit_eq, BitVec.getLsbD_ofNat, Nat.testBit_two_pow_mul_add _ (Nat.mod_lt _ (Nat.two_pow_pos r))]
  have hv : v.toNat.testBit j = v.getLsbD j := rfl
  rcases Nat.lt_trichotomy j r with hlt | rfl | hgt
  · have hj : j < 64 := by omega
    simp [hlt, hlt.ne, hj, Nat.testBit_mod_two_pow, hv]
  · cases b <;> simp [hr, Nat.testBit_zero]
  · obtain ⟨i, rfl⟩ := Nat.exists_eq_add_of_lt hgt
    have habove : ∀ x, (2 * (v.toNat / 2 ^ r / 2) + x % 2) / 2 = v.toNat / 2 ^ r / 2 := by omega
    rw [if_neg (show ¬ r + i + 1 < r by omega), if_neg (show ¬ r + i + 1 = r by omega), show r + i + 1 - r = i.succ by omega,
      Nat.testBit_succ, habove, ← Nat.testBit_succ, Nat.testBit_div_two_pow,
      show i.succ + r = r + i + 1 by omega, hv, Bool.and_eq_right_iff_imp]
    exact fun hbit => decide_eq_true (BitVec.lt_of_getLsbD hbit)

end Sys2Proof.Machine
end

section
/-! PROOFS. The Snare's operands and destinations where no word holds an error (R146-R148). -/

namespace Sys2Proof.Machine

open Sys2Proof.Safety

theorem State.setStage_self {s : State} (n : Nat) (hwf : mwf Stage.idle s.stages = true) : s.setStage n (s.stage n) = s := by
  unfold State.setStage State.stage
  rw [mset_mget_self n hwf]

/-- Scanning memory without errors finds none. -/
theorem eccScan_nil (w len : Nat) : eccScan [] w len = ⟨[], 0, [], []⟩ := rfl

theorem State.countSnr_of_clean (s : State) (n wh row : Nat) : s.countSnr n wh row ⟨[], 0, [], []⟩ = s := rfl

/-- Stage `n` holds no word in error in its Snare, and the state stands in its one form. -/
structure SnareClean (s : State) (n : Nat) : Prop where
  wf : mwf Stage.idle s.stages = true
  validWf : mwf 0 (s.stage n).sn.valid = true
  vbClean : (s.stage n).sn.vbEcc = []
  bvClean : (s.stage n).sn.bvEcc = []

/-- The 256 elements that a source gives to buffer row `r`. -/
def srcRow (t : Stage) (sr : W64) (r code : Nat) : List W32 := (List.range 256).map (srcElem t sr code r)

section
variable {s : State} {n : Nat} (h : SnareClean s n)
include h

theorem State.bvRead_of_clean (code k len : Nat) : s.bvRead n code k len = (mgetRun 0 (s.stage n).sn.bv k len, false, s) := by
  have hsame : { s.stage n with sn := { (s.stage n).sn with bvEcc := [] } } = s.stage n := by rw [← h.bvClean]
  unfold State.bvRead
  simp only [h.bvClean, eccScan_nil, hsame, State.setStage_self n h.wf, State.countSnr_of_clean, List.isEmpty_nil, Bool.not_true]

theorem State.vsrc_of_clean (sr : W64) (r code : Nat) :
    s.vsrc n code r sr = (srcRow (s.stage n) sr r code, false, s) := by
  have hsame : { s.stage n with sn := { (s.stage n).sn with vbEcc := [] } } = s.stage n := by rw [← h.vbClean]
  unfold State.vsrc srcRow srcElem
  by_cases htile : code ≤ 5
  · simp only [htile, if_true, h.vbClean, eccScan_nil, hsame, State.setStage_self n h.wf, State.countSnr_of_clean, List.isEmpty_nil,
      Bool.not_true, mgetRun_eq_map]
  · by_cases hrow : code ≤ 7
    · have hbase : bvBase code = 256 * (code - 6) := if_pos (by omega)
      simp only [htile, hrow, if_true, if_false, State.bvRead_of_clean h, mgetRun_eq_map, hbase]
    · by_cases hcol : code ≤ 9
      · have hbase : bvBase code = 512 + 64 * (code - 8) := if_neg (by omega)
        simp only [htile, hrow, hcol, if_true, if_false, State.bvRead_of_clean h, mgetRun_one, List.headD_cons, hbase,
          List.map_const', List.length_range]
      · simp only [htile, hrow, hcol, if_false, List.map_const', List.length_range]

theorem State.vsrcs_of_clean (sr : W64) (r : Nat) (srcs : List Nat) :
    State.vsrcs n r sr srcs s = (srcs.map (srcRow (s.stage n) sr r), false, s) := by
  induction srcs with
  | nil => rfl
  | cons code srcs ih =>
    rw [State.vsrcs, State.vsrc_of_clean h]
    simp only [ih, Bool.or_false, List.map_cons]

end

section
variable {s : State} (n buf r : Nat) (hwf : mwf Stage.idle s.stages = true)
include hwf

theorem State.vdst_stage (vs : List W32) (m : Nat) : (s.vdst n buf r vs).stage m =
    if m = n then { s.stage n with sn := { (s.stage n).sn with
      vb := msetRun 0 (s.stage n).sn.vb (16384 * buf + 256 * r) vs
      vbEcc := eccClear (s.stage n).sn.vbEcc ((16384 * buf + 256 * r) / 2) 128 } } else s.stage m := State.modStage_stage n m _ hwf

theorem State.setValid_stage (b : Bool) (m : Nat) : (s.setValid n buf r b).stage m =
    if m = n then { s.stage n with sn := { (s.stage n).sn with
      valid := mset 0 (s.stage n).sn.valid buf (setBits (mget 0 (s.stage n).sn.valid buf) r r (if b then 1 else 0)) } }
    else s.stage m := State.modStage_stage n m _ hwf

end

/-- A row-valid bit set or cleared reads back; every other one of the buffer keeps its value (R148). -/
theorem getLsbD_mset_setBits_bit {valid : SMap W64} (h : mwf 0 valid = true) (buf : Nat) {r : Nat} (hr : r < 64) (b : Bool) (j : Nat) :
    (mget 0 (mset 0 valid buf (setBits (mget 0 valid buf) r r (if b then 1 else 0))) buf).getLsbD j
      = if j = r then b else (mget 0 valid buf).getLsbD j := by
  rw [mget_mset_same buf _ h, getLsbD_setBits_bit _ hr]

theorem rowValid_eq_srcValid (t : Stage) (code r : Nat) : t.sn.rowValid code r = srcValid t code r := by
  unfold Snr.rowValid srcValid
  simp only [← decide_not, Nat.not_le]

end Sys2Proof.Machine
end

section
/-! PROOFS. An elementwise instruction worked off row by row (R148, R152, R157): what stands in VD after some of its rows. -/

namespace Sys2Proof.Machine

open Sys2Proof.Safety

/-- Element `c` of row `r` of operand `k`; an operand the operation does not use counts as 0. -/
def ewOperand (t : Stage) (sr : W64) (srcs : List Nat) (k r c : Nat) : W32 :=
  if k < srcs.length then srcElem t sr (srcs.getD k 0) r c else 0

/-- The result for element `c` of row `r`. -/
def ewResult (t : Stage) (f : EwOp) (sr : W64) (srcs : List Nat) (r c : Nat) : W32 :=
  f.eval (ewOperand t sr srcs 0 r c) (ewOperand t sr srcs 1 r c) (ewOperand t sr srcs 2 r c)

/-- Row `r` is computed: it is valid in every source (R148). -/
def ewLive (t : Stage) (srcs : List Nat) (r : Nat) : Bool := srcs.all (fun code => srcValid t code r)

theorem getD_srcRow (t : Stage) (sr : W64) (r code : Nat) {c : Nat} (hc : c < 256) : (srcRow t sr r code).getD c 0 = srcElem t sr code r c := by
  simp [srcRow, List.getD_eq_getElem?_getD, hc]

theorem getD_getD_map_srcRow (t : Stage) (sr : W64) (srcs : List Nat) (k r : Nat) {c : Nat} (hc : c < 256) :
    ((srcs.map (srcRow t sr r)).getD k []).getD c 0 = ewOperand t sr srcs k r c := by
  unfold ewOperand
  by_cases hk : k < srcs.length
  · rw [if_pos hk, ← getD_srcRow t sr r _ hc]
    simp [List.getD_eq_getElem?_getD, hk]
  · rw [if_neg hk]
    simp [List.getD_eq_getElem?_getD, hk]

theorem getD_zip3 (g : W32 → W32 → W32 → W32) (xs : List (List W32)) {c : Nat} (hc : c < (xs.getD 0 []).length) :
    (zip3 g xs).getD c 0 = g ((xs.getD 0 []).getD c 0) ((xs.getD 1 []).getD c 0) ((xs.getD 2 []).getD c 0) := by
  unfold zip3
  generalize xs.getD 0 [] = a at hc ⊢
  simp [List.getD_eq_getElem?_getD, hc]

theorem length_zip3 (g : W32 → W32 → W32 → W32) (xs : List (List W32)) : (zip3 g xs).length = (xs.getD 0 []).length := by
  rw [zip3, List.length_map, List.length_zipIdx]

theorem length_getD_map_srcRow (t : Stage) (sr : W64) {srcs : List Nat} (hne : srcs ≠ []) (r : Nat) :
    ((srcs.map (srcRow t sr r)).getD 0 []).length = 256 := by
  obtain ⟨code, rest, rfl⟩ := List.exists_cons_of_ne_nil hne
  rw [List.map_cons, List.getD_cons_zero, srcRow, List.length_map, List.length_range]

/-- The row an elementwise instruction writes. -/
theorem getD_zip3_map_srcRow (t : Stage) (f : EwOp) (sr : W64) {srcs : List Nat} (hne : srcs ≠ []) (r : Nat) {c : Nat} (hc : c < 256) :
    (zip3 f.eval (srcs.map (srcRow t sr r))).getD c 0 = ewResult t f sr srcs r c := by
  rw [getD_zip3 _ _ (by rwa [length_getD_map_srcRow t sr hne]), getD_getD_map_srcRow t sr srcs 0 r hc,
    getD_getD_map_srcRow t sr srcs 1 r hc, getD_getD_map_srcRow t sr srcs 2 r hc, ewResult]

/-- From `x` to `y` a Stage's Snare storage has taken the given rows of an elementwise instruction into buffer `vd`, and nothing else. -/
structure EwRows (x y : Stage) (f : EwOp) (vd : Nat) (srcs : List Nat) (sr : W64) (rows : List Nat) : Prop where
  bv : y.sn.bv = x.sn.bv
  computed : ∀ r ∈ rows, ewLive x srcs r = true → ∀ c, c < 256 → mget 0 y.sn.vb (16384 * vd + 256 * r + c) = ewResult x f sr srcs r c
  kept : ∀ k, (∀ r ∈ rows, ewLive x srcs r = true → ∀ c, c < 256 → k ≠ 16384 * vd + 256 * r + c) → mget 0 y.sn.vb k = mget 0 x.sn.vb k
  bits : ∀ r, r < 64 → (mget 0 y.sn.valid vd).getLsbD r = if r ∈ rows then ewLive x srcs r else (mget 0 x.sn.valid vd).getLsbD r
  buffers : ∀ b, b ≠ vd → mget 0 y.sn.valid b = mget 0 x.sn.valid b

/-- From `s` to `t` the Snare of Stage `n` has worked off the given rows of an elementwise instruction, and done nothing else. -/
structure EwRowsDone (s t : State) (n : Nat) (f : EwOp) (vd : Nat) (srcs : List Nat) (sr : W64) (rows : List Nat) : Prop
    extends SnareClean t n, EwRows (s.stage n) (t.stage n) f vd srcs sr rows where
  mem : t.mem = s.mem
  others : ∀ m, m ≠ n → t.stage m = s.stage m
  stage : t.stage n = { s.stage n with sn := (t.stage n).sn }
  queue : (t.stage n).sn.queue = (s.stage n).sn.queue

section
variable {s t : State} {n : Nat} {f : EwOp} {vd : Nat} {srcs : List Nat} {sr : W64} {rows : List Nat}

theorem EwRowsDone.refl (hclean : SnareClean s n) : EwRowsDone s s n f vd srcs sr [] where
  toSnareClean := hclean
  mem := rfl
  others _ _ := rfl
  stage := rfl
  queue := rfl
  bv := rfl
  computed r hr := absurd hr List.not_mem_nil
  kept _ _ := rfl
  bits r _ := by rw [if_neg List.not_mem_nil]
  buffers _ _ := rfl

/-- What makes one row worked off: of VD's elements only row `r`'s may change, and they only where the row is computed. -/
theorem EwRowsDone.of_stage {r : Nat} {vb : SMap W32} (hclean : SnareClean s n) (hr : r < 64)
    (hwf : mwf Stage.idle t.stages = true) (hmem : t.mem = s.mem)
    (hst : ∀ m, t.stage m = if m = n then { s.stage n with sn := { (s.stage n).sn with
      vb := vb
      valid := mset 0 (s.stage n).sn.valid vd
        (setBits (mget 0 (s.stage n).sn.valid vd) r r (if ewLive (s.stage n) srcs r then 1 else 0)) } } else s.stage m)
    (hcomputed : ewLive (s.stage n) srcs r = true → ∀ c, c < 256 → mget 0 vb (16384 * vd + 256 * r + c) = ewResult (s.stage n) f sr srcs r c)
    (hkept : ∀ k, (ewLive (s.stage n) srcs r = true → ∀ c, c < 256 → k ≠ 16384 * vd + 256 * r + c) →
      mget 0 vb k = mget 0 (s.stage n).sn.vb k) :
    EwRowsDone s t n f vd srcs sr [r] := by
  have hn := hst n
  rw [if_pos rfl] at hn
  exact {
    wf := hwf
    validWf := by rw [hn]; exact mset_wf hclean.validWf
    vbClean := by rw [hn]; exact hclean.vbClean
    bvClean := by rw [hn]; exact hclean.bvClean
    mem := hmem
    others := fun m hm => by rw [hst, if_neg hm]
    stage := by rw [hn]
    queue := by rw [hn]
    bv := by rw [hn]
    computed := fun q hq => by
      rw [hn, List.mem_singleton.mp hq]
      exact hcomputed
    kept := fun k hk => by
      rw [hn]
      exact hkept k (hk r (List.mem_singleton_self r))
    bits := fun q _ => by
      rw [hn, getLsbD_mset_setBits_bit hclean.validWf vd hr]
      simp only [List.mem_singleton]
      split
      · next hq => rw [hq]
      · rfl
    buffers := fun b hb => by
      rw [hn]
      exact mget_mset_ne _ _ hb }

/-- One row of an elementwise instruction, where no word holds an error (R148, R151). -/
theorem ewRow_of_clean (f : EwOp) (vd : Nat) (sr : W64) {srcs : List Nat} {r : Nat} (hclean : SnareClean s n) (hne : srcs ≠ [])
    (hr : r < 64) : ∃ t, ewRow n f vd srcs sr s r = .ok t [] ∧ EwRowsDone s t n f vd srcs sr [r] := by
  have hrow : srcs.all (fun code => (s.stage n).sn.rowValid code r) = ewLive (s.stage n) srcs r :=
    congrArg srcs.all (funext fun code => rowValid_eq_srcValid _ code r)
  unfold ewRow
  simp only [hrow, State.vsrcs_of_clean hclean]
  cases hlive : ewLive (s.stage n) srcs r
  case false =>
    refine ⟨_, rfl, EwRowsDone.of_stage (vb := (s.stage n).sn.vb) hclean hr (State.modStage_wf _ _ hclean.wf) rfl ?_ ?_ fun _ _ => rfl⟩
    · intro m
      rw [hlive]
      exact State.setValid_stage n vd r hclean.wf false m
    · rw [hlive]
      exact fun h => nomatch h
  case true =>
    have hlen : (zip3 f.eval (srcs.map (srcRow (s.stage n) sr r))).length = 256 := by
      rw [length_zip3, length_getD_map_srcRow _ sr hne]
    have hwf' : mwf Stage.idle (s.vdst n vd r (zip3 f.eval (srcs.map (srcRow (s.stage n) sr r)))).stages = true :=
      State.modStage_wf _ _ hclean.wf
    refine ⟨_, rfl, EwRowsDone.of_stage
      (vb := msetRun 0 (s.stage n).sn.vb (16384 * vd + 256 * r) (zip3 f.eval (srcs.map (srcRow (s.stage n) sr r))))
      hclean hr (State.modStage_wf _ _ hwf') rfl ?_ ?_ ?_⟩
    · intro m
      have hclear : eccClear (s.stage n).sn.vbEcc ((16384 * vd + 256 * r) / 2) 128 = (s.stage n).sn.vbEcc := by
        rw [hclean.vbClean]
        rfl
      rw [State.setValid_stage n vd r hwf' true m, State.vdst_stage n vd r hclean.wf, State.vdst_stage n vd r hclean.wf, if_pos rfl, hclear, hlive]
      split <;> rfl
    · intro _ c hc
      rw [mget_msetRun_run _ _ (by rwa [hlen]), getD_zip3_map_srcRow _ f sr hne r hc]
    · intro k hk
      refine mget_msetRun_of_outside _ _ ?_
      rw [hlen]
      by_contra hin
      exact hk hlive (k - (16384 * vd + 256 * r)) (by omega) (by omega)

variable (h : EwRowsDone s t n f vd srcs sr rows) (hrows : ∀ q ∈ rows, q < 64) {r : Nat} (hr : r < 64) (hnew : r ∉ rows)
include h hrows hr hnew

/-- A row not yet worked off still has its sources' elements, VD itself among the sources or not. -/
theorem EwRowsDone.srcElem_eq (code : Nat) {c : Nat} (hc : c < 256) : srcElem (t.stage n) sr code r c = srcElem (s.stage n) sr code r c := by
  unfold srcElem
  have hkept : mget 0 (t.stage n).sn.vb (16384 * code + 256 * r + c) = mget 0 (s.stage n).sn.vb (16384 * code + 256 * r + c) := by
    refine h.kept _ fun q hq _ c' hc' heq => hnew ?_
    have hq64 := hrows q hq
    obtain rfl : r = q := by omega
    exact hq
  rw [hkept, h.bv]

omit hrows in
theorem EwRowsDone.srcValid_eq (code : Nat) : srcValid (t.stage n) code r = srcValid (s.stage n) code r := by
  unfold srcValid
  by_cases hcode : code = vd
  · rw [hcode, h.bits r hr, if_neg hnew]
  · rw [h.buffers code hcode]

omit hrows in
theorem EwRowsDone.ewLive_eq : ewLive (t.stage n) srcs r = ewLive (s.stage n) srcs r := by
  unfold ewLive
  exact congrArg srcs.all (funext (h.srcValid_eq hr hnew))

theorem EwRowsDone.ewResult_eq {c : Nat} (hc : c < 256) : ewResult (t.stage n) f sr srcs r c = ewResult (s.stage n) f sr srcs r c := by
  have hop : ∀ k, ewOperand (t.stage n) sr srcs k r c = ewOperand (s.stage n) sr srcs k r c := fun k => by
    unfold ewOperand
    rw [h.srcElem_eq hrows hr hnew _ hc]
  unfold ewResult
  rw [hop, hop, hop]

/-- A further row worked off from where the others are done. -/
theorem EwRowsDone.snoc {u : State} (hlast : EwRowsDone t u n f vd srcs sr [r]) : EwRowsDone s u n f vd srcs sr (rows ++ [r]) where
  toSnareClean := hlast.toSnareClean
  mem := hlast.mem.trans h.mem
  others m hm := (hlast.others m hm).trans (h.others m hm)
  stage := by rw [hlast.stage, h.stage]
  queue := hlast.queue.trans h.queue
  bv := hlast.bv.trans h.bv
  computed q hq hlive c hc := by
    rcases List.mem_append.mp hq with hold | hlastq
    · rw [hlast.kept, h.computed q hold hlive c hc]
      intro r' hr' _ c' hc' heq
      obtain rfl := List.mem_singleton.mp hr'
      have hq64 := hrows q hold
      obtain rfl : q = r' := by omega
      exact hnew hold
    · obtain rfl := List.mem_singleton.mp hlastq
      rw [hlast.computed q hlastq (by rwa [h.ewLive_eq hr hnew]) c hc, h.ewResult_eq hrows hr hnew hc]
  kept k hk := by
    rw [hlast.kept, h.kept]
    · exact fun q hq => hk q (List.mem_append_left _ hq)
    · intro q hq
      obtain rfl := List.mem_singleton.mp hq
      rw [h.ewLive_eq hr hnew]
      exact hk q (List.mem_append_right _ hq)
  bits q hq := by
    rw [hlast.bits q hq, h.bits q hq]
    by_cases heq : q = r
    · subst heq
      rw [if_pos (List.mem_singleton_self q), if_pos (List.mem_append_right _ (List.mem_singleton_self q)), h.ewLive_eq hr hnew]
    · simp only [List.mem_append, List.mem_singleton, heq, or_false, if_false]
  buffers b hb := (hlast.buffers b hb).trans (h.buffers b hb)

end

/-- The rows of an elementwise instruction one after another (R152): each meets its sources as they were before the first. -/
theorem vrows_ewRow_of_done {s t : State} {n : Nat} (f : EwOp) (vd : Nat) (sr : W64) {srcs rows : List Nat} (hne : srcs ≠ []) (todo : List Nat)
    (h : EwRowsDone s t n f vd srcs sr rows) (hrows : ∀ q ∈ rows ++ todo, q < 64) (hdistinct : (rows ++ todo).Nodup) :
    ∃ u, vrows (ewRow n f vd srcs sr) todo t [] = .ok u [] ∧ EwRowsDone s u n f vd srcs sr (rows ++ todo) := by
  induction todo generalizing t rows with
  | nil => exact ⟨t, rfl, by rwa [List.append_nil]⟩
  | cons r todo ih =>
    have hr : r < 64 := hrows r (List.mem_append_right _ List.mem_cons_self)
    have hnew : r ∉ rows := fun hold => (List.nodup_append.mp hdistinct).2.2 r hold r List.mem_cons_self rfl
    obtain ⟨t', hrow, hdone⟩ := ewRow_of_clean f vd sr h.toSnareClean hne hr
    rw [List.append_cons] at hrows hdistinct ⊢
    have hold : ∀ q ∈ rows, q < 64 := fun q hq => hrows q (List.mem_append_left _ (List.mem_append_left _ hq))
    obtain ⟨u, hrest, hall⟩ := ih (h.snoc hold hr hnew hdone) hrows hdistinct
    refine ⟨u, ?_, hall⟩
    simp only [vrows, hrow, List.append_nil, hrest]

theorem mem_vrange {row0 nr r : Nat} : r ∈ vrange row0 nr ↔ row0 ≤ r ∧ r ≤ row0 + nr := by
  simp only [vrange, List.mem_map, List.mem_range]
  constructor
  · rintro ⟨j, hj, rfl⟩
    omega
  · rintro ⟨hlow, hhigh⟩
    exact ⟨r - row0, by omega, by omega⟩

theorem nodup_vrange (row0 nr : Nat) : (vrange row0 nr).Nodup :=
  List.Nodup.map (fun _ _ h => Nat.add_left_cancel h) List.nodup_range

theorem EwOp.srcs_ne_nil (f : EwOp) (o : VOp) : f.srcs o ≠ [] := by
  cases f <;> exact List.cons_ne_nil _ _

/-- An elementwise instruction worked off, where no word holds an error (R148, R152). -/
theorem VInst.run_ew_of_clean {s : State} {n : Nat} (f : EwOp) (o : VOp) (sr : W64) (i : Inst) (hfits : o.row0.toNat + o.nr.toNat ≤ 63)
    (hclean : SnareClean s n) :
    ∃ t, VInst.run (.ew f o sr) n i s = .ok t [] ∧ EwRowsDone s t n f o.vd.toNat (f.srcs o) sr (vrange o.row0.toNat o.nr.toNat) := by
  refine vrows_ewRow_of_done f o.vd.toNat sr (f.srcs_ne_nil o) _ (EwRowsDone.refl hclean) ?_ (nodup_vrange _ _)
  intro q hq
  have hbound := mem_vrange.mp hq
  omega

end Sys2Proof.Machine
end

section
/-! PROOFS. Issue of a vector instruction into the Snare queue (R102), and what the Snare makes of the only one there (R152, R193). -/

namespace Sys2Proof.Machine

open Sys2Proof.Safety

/-- A Stage whose Snare queue has taken one more instruction. -/
def Stage.queueV (e : SnEntry) (x : Stage) : Stage := { x with sn := { x.sn with queue := x.sn.queue ++ [e] } }

/-- A vector instruction joins a Snare queue with room, and the Prompter flows on. -/
theorem issueV_enqueues {s : State} {p : Iss} {i : Inst} {uses : List (BitVec 5)} (cls op : Nat) (mk : Prm → VInst) (hcanon : Canon s)
    (hseq : SeqIn s p.stage i) (h : Issues s p i uses) (hroom : (s.stage p.stage).sn.queue.length < 16) :
    ∃ t, issueV p cls op false uses mk s = .next t ∧ mwf Stage.idle t.stages = true
      ∧ Enqueues s p.stage (Stage.queueV ⟨⟨(s.stage p.stage).prm.pc, cls, op⟩, mk (s.stage p.stage).prm, false, []⟩) (.next t) := by
  have hgo := goSeq_started (s := s) (p := p) (i := i) cls op
    (Stage.queueV ⟨⟨(s.stage p.stage).prm.pc, cls, op⟩, mk (s.stage p.stage).prm, false, []⟩) hcanon h.held hseq (fun _ => rfl) (fun _ => rfl)
  obtain ⟨hothers, ⟨x, rfl, hstage⟩, hretired, hregs⟩ := goSeq_started_reads (s := s) (p := p) cls op
    (Stage.queueV ⟨⟨(s.stage p.stage).prm.pc, cls, op⟩, mk (s.stage p.stage).prm, false, []⟩) hcanon
    (nextPc (s.stage p.stage).prm.pc (s.stage p.stage).prm.loops)
  have hissue : issueV p cls op false uses mk s = .next (((started s p cls op).modStage p.stage
      (Stage.queueV ⟨⟨(s.stage p.stage).prm.pc, cls, op⟩, mk (s.stage p.stage).prm, false, []⟩)).goSeq p.stage
        (s.stage p.stage).prm.pc cls op) := by
    unfold issueV
    rw [issue_of_issues h]
    simp only [Nat.not_le.mpr hroom, if_false]
    rfl
  rw [hissue, hgo]
  refine ⟨_, rfl, State.modStage_wf _ _ (State.modStage_wf _ _ (started_wf p cls op hcanon.2.1)), _, rfl, ?_, ?_,
    ⟨hretired, hregs, hothers, rfl, rfl, rfl, rfl, rfl, rfl, rfl, rfl⟩, rfl, ?_⟩
  · exact ⟨fun r => by rw [hstage]; rfl, by rw [hstage]; rfl⟩
  · exact ⟨by rw [hstage], by rw [hstage], by rw [hstage]⟩
  · rw [hstage]
    rfl

/-- The Snare works off the only instruction in its queue. -/
theorem State.snareRun_of_single {s u : State} {n : Nat} {i : Inst} {e : SnEntry} {ws : List (Nat × List Byte)}
    (hinst : (s.stage n).inst = some i) (hqueue : (s.stage n).sn.queue = [e]) (hdone : e.done = false) (hrun : e.ins.run n i s = .ok u ws) :
    s.snareRun n = (u.snareMark n 0 ws).snareCount n [e] e.ins e.ins.rows e.ins.rows := by
  unfold State.snareRun
  simp [hinst, hqueue, State.snareGo, hdone, hrun]

/-- An instruction that no earlier one holds and that leaves the Apron alone is counted without a wait (R193). -/
theorem State.snareCount_of_no_wait (s : State) (n : Nat) {q : List SnEntry} {v : VInst} (hq : ∀ e ∈ q, e.done = false)
    (hv : v.usesApron = false) (rows starts : Nat) :
    s.snareCount n q v rows starts = (s.bump .stgSnrRows n rows).bump .stgSnrBusy n starts := by
  have hheld : q.any (fun e => e.done && e.ins.holds v) = false :=
    List.any_eq_false.mpr fun e he => by rw [hq e he, Bool.false_and]; exact Bool.false_ne_true
  unfold State.snareCount
  simp only [hheld, hv, Bool.false_eq_true, if_false]

/-- The only entry of the queue is marked worked off. -/
theorem State.snareMark_stage {s : State} {n : Nat} {e : SnEntry} (hwf : mwf Stage.idle s.stages = true)
    (hqueue : (s.stage n).sn.queue = [e]) (ws : List (Nat × List Byte)) (m : Nat) :
    (s.snareMark n 0 ws).stage m = if m = n then
      { s.stage n with sn := { (s.stage n).sn with queue := [{ e with done := true, writes := ws }] } } else s.stage m := by
  unfold State.snareMark
  rw [State.modStage_stage n m _ hwf, hqueue]
  rfl

/-- The only instruction in the queue worked off without a wait: beyond what the instruction itself does, the entry is marked and two counters
rise. -/
theorem State.snareRun_of_single_no_wait {s u : State} {n : Nat} {i : Inst} {e : SnEntry} {ws : List (Nat × List Byte)}
    (hinst : (s.stage n).inst = some i) (hqueue : (s.stage n).sn.queue = [e]) (hdone : e.done = false) (hapron : e.ins.usesApron = false)
    (hrun : e.ins.run n i s = .ok u ws) (hwf : mwf Stage.idle u.stages = true) (hkept : (u.stage n).sn.queue = [e]) :
    (s.snareRun n).mem = u.mem ∧ ∀ m, (s.snareRun n).stage m = if m = n then
      { u.stage n with sn := { (u.stage n).sn with queue := [{ e with done := true, writes := ws }] } } else u.stage m := by
  rw [State.snareRun_of_single hinst hqueue hdone hrun,
    State.snareCount_of_no_wait _ _ (fun x hx => by rwa [List.mem_singleton.mp hx]) hapron]
  exact ⟨rfl, State.snareMark_stage hwf hkept ws⟩

end Sys2Proof.Machine
end

section
/-! PROOFS. The elementwise instructions of class 0x6 (R147, R148, R156-R158). -/

namespace Sys2Proof.Machine

open Sys2Proof.Safety

/-- An elementwise instruction in its rows and with source codes that exist meets no decode fault (R147, R156). -/
theorem issueEw_of_legal (p : Iss) (op : Nat) {f : EwOp} {o : VOp} (hfits : o.row0.toNat + o.nr.toNat ≤ 63) (hvd : o.vd.toNat ≤ 5)
    (hsrcs : ∀ c ∈ f.srcs o, c ≤ 10) (s : State) :
    issueEw p op f o s = thenSnare p.stage (issueV p 6 op false (srUse (f.srcs o) o.sr) (fun t => .ew f o (t.reg o.sr)) s) := by
  have hrows : rowsBad o.row0 o.nr = false := decide_eq_false (by omega)
  have hcodes : (f.srcs o).any (fun c => decide (10 < c)) = false :=
    List.any_eq_false.mpr fun c hc => by simpa using hsrcs c hc
  unfold issueEw
  rw [hrows, hcodes, isTile, decide_eq_true hvd]
  rfl

/-- An elementwise instruction with the Snare idle and no word in error: it is worked off at once, and its rows are computed from the
storage as it was at issue (R148, R152). -/
theorem issueEw_computes {s : State} {p : Iss} {i : Inst} (op : Nat) {f : EwOp} {o : VOp} (hcanon : Canon s) (hseq : SeqIn s p.stage i)
    (hidle : SnareIdle s p.stage) (hfits : o.row0.toNat + o.nr.toNat ≤ 63) (hvd : o.vd.toNat ≤ 5) (hsrcs : ∀ c ∈ f.srcs o, c ≤ 10)
    (h : Issues s p i (srUse (f.srcs o) o.sr)) :
    ∃ t, issueEw p op f o s = .next t
      ∧ SnareDid s t p.stage (.ew f o ((s.stage p.stage).prm.reg o.sr)) 6 op
      ∧ EwRows (s.stage p.stage) (t.stage p.stage) f o.vd.toNat (f.srcs o) ((s.stage p.stage).prm.reg o.sr)
          (vrange o.row0.toNat o.nr.toNat) := by
  obtain ⟨t, hissue, hwf, t', ht', hfile, hflow, hout, -, hstage⟩ := issueV_enqueues 6 op (fun t => .ew f o (t.reg o.sr)) hcanon hseq h
    (by rw [hidle.queue]; exact Nat.zero_lt_succ _)
  cases ht'
  have hqueue : (t.stage p.stage).sn.queue = [⟨⟨(s.stage p.stage).prm.pc, 6, op⟩, .ew f o ((s.stage p.stage).prm.reg o.sr), false, []⟩] := by
    rw [hstage, Stage.queueV, hidle.queue]
    rfl
  have hinst : (t.stage p.stage).inst = some i := by rw [hstage]; exact h.held
  have hclean : SnareClean t p.stage := by
    constructor
    case wf => exact hwf
    all_goals rw [hstage]
    case validWf => exact hidle.valid
    case vbClean => exact hidle.vbClean
    case bvClean => exact hidle.bvClean
  obtain ⟨u, hrun, hdone⟩ := VInst.run_ew_of_clean f o ((s.stage p.stage).prm.reg o.sr) i hfits hclean
  obtain ⟨hmem, hst⟩ := State.snareRun_of_single_no_wait hinst hqueue rfl rfl hrun hdone.wf (hdone.queue.trans hqueue)
  have hn := hst p.stage
  rw [if_pos rfl, hdone.stage] at hn
  refine ⟨t.snareRun p.stage, by rw [issueEw_of_legal p op hfits hvd hsrcs, hissue, thenSnare], ?_, ?_⟩
  · exact {
      queue := by rw [hn]
      file := ⟨fun r => by rw [hn, ← hfile.regs r], by rw [hn, ← hfile.preds]⟩
      flow := ⟨by rw [hn, ← hflow.pc], by rw [hn, ← hflow.loops], by rw [hn, ← hflow.wait]⟩
      others := fun m hm => by rw [hst, if_neg hm, hdone.others m hm, hout.others m hm]
      rest := by rw [hn, hstage]; rfl
      mem := by rw [hmem, hdone.mem, hout.mem] }
  · have hrows := hdone.toEwRows
    rw [hstage] at hrows
    rw [hn]
    exact ⟨hrows.bv, hrows.computed, hrows.kept, hrows.bits, hrows.buffers⟩

theorem srUse_eq (srcs : List Nat) (sr : BitVec 5) : srUse srcs sr = if 10 ∈ srcs then [sr] else [] := by
  unfold srUse
  simp only [List.contains_iff_mem]

/-- VCNE's result: 0 where the elements are equal, 1.0 elsewhere (R157). -/
theorem ite_not_eq_f32bool (b : Bool) : (if b = true then (0 : W32) else 0x3F800000) = f32bool (!b) := by
  cases b <;> rfl

/-- A row of the table of elementwise instructions: mnemonic, operation, opcode, number of sources, result per element (R157). -/
structure EwEntry (p : Iss) (o : VOp) (x : Instr × EwOp × Nat × Nat × (W32 → W32 → W32 → W32)) : Prop where
  exec_eq : ∀ s, exec x.1 s = issueEw p x.2.2.1 x.2.1 o s
  arity_eq : x.2.2.2.1 = x.2.1.arity
  eval_eq : ∀ a b c, x.2.2.2.2 a b c = x.2.1.eval a b c

/-- Settles O23: every row of the table is an `issueEw` of its operation, and what that computes is said once for all operations. -/
theorem elementwiseInstructionsCompute : Obligations.ElementwiseInstructionsCompute := by
  intro p i o s hcanon hseq hidle hfits hvd x hx
  have hentry : EwEntry p o x := by
    simp only [List.mem_cons, List.not_mem_nil, or_false] at hx
    obtain rfl | rfl | rfl | rfl | rfl | rfl | rfl | rfl | rfl | rfl | rfl | rfl | rfl | rfl | rfl | rfl | rfl | rfl | rfl | rfl := hx
    -- VCNE alone is not spelled in the table as `EwOp.eval` spells it.
    on_goal 13 => exact ⟨fun _ => rfl, rfl, fun a b _ => ite_not_eq_f32bool (f32eq a b)⟩
    all_goals exact ⟨fun _ => rfl, rfl, fun _ _ _ => rfl⟩
  obtain ⟨ins, f, op, arity, g⟩ := x
  obtain ⟨hexec, harity, heval⟩ := hentry
  dsimp only at hexec harity heval
  subst harity
  obtain rfl : g = f.eval := funext fun a => funext fun b => funext fun c => heval a b c
  intro srcs hsrcs hissues n sr e live
  obtain ⟨t, ht, hdid, hrows⟩ := issueEw_computes op hcanon hseq hidle hfits hvd hsrcs (by rwa [srUse_eq])
  refine ⟨t, (hexec s).trans ht, hdid, hrows.bv, fun r c hlow hhigh hc hlive => ?_, fun k hk => hrows.kept k fun r hr hlive c hc => ?_,
    fun r hr => ?_, hrows.buffers⟩
  · rw [srcElem, if_pos hvd]
    exact hrows.computed r (mem_vrange.mpr ⟨hlow, hhigh⟩) hlive c hc
  · obtain ⟨hlow, hhigh⟩ := mem_vrange.mp hr
    exact hk r c hlow hhigh hc hlive
  · rw [hrows.bits r hr]
    simp only [mem_vrange]
    rfl

end Sys2Proof.Machine
end

section
/-! PROOFS. The fields of an instruction word, laid and read back (R99-R161). -/

namespace Sys2Proof.Machine

variable {n : Nat}

theorem getLsbD_put (lo : Nat) (x : BitVec n) (j : Nat) :
    (put lo x).getLsbD j = (decide (j < 64) && decide (lo ≤ j) && x.getLsbD (j - lo)) := by
  unfold put
  rw [BitVec.getLsbD_shiftLeft, BitVec.getLsbD_setWidth]
  by_cases hj : j < 64 <;> by_cases hlo : lo ≤ j <;> simp [hj, hlo, Nat.not_lt.mpr, Nat.not_le.mp]
  intro; omega

@[simp] theorem fieldAt_or (a b : W64) (lo k : Nat) : fieldAt (a ||| b) lo k = fieldAt a lo k ||| fieldAt b lo k :=
  BitVec.extractLsb'_or

/-- A field reads back what was laid there. -/
@[simp] theorem fieldAt_put_same (lo : Nat) (x : BitVec n) (h : lo + n ≤ 64) : fieldAt (put lo x) lo n = x := by
  refine BitVec.eq_of_getLsbD_eq fun j hj => ?_
  rw [fieldAt, BitVec.getLsbD_extractLsb', getLsbD_put, Nat.add_sub_cancel_left]
  simp [hj, show lo + j < 64 by omega]

/-- A field reads nothing of what was laid below or above it. -/
@[simp] theorem fieldAt_put_apart (lo : Nat) (x : BitVec n) (lo' k : Nat) (h : lo + n ≤ lo' ∨ lo' + k ≤ lo) : fieldAt (put lo x) lo' k = 0 := by
  refine BitVec.eq_of_getLsbD_eq fun j hj => ?_
  rw [fieldAt, BitVec.getLsbD_extractLsb', getLsbD_put]
  rcases h with hlow | hhigh
  · rw [BitVec.getLsbD_of_ge x _ (by omega)]
    simp
  · simp
    omega

theorem getLsbD_put_apart (lo : Nat) (x : BitVec n) (j : Nat) (h : lo + n ≤ j ∨ j < lo) : (put lo x).getLsbD j = false := by
  rw [getLsbD_put]
  rcases h with hlow | hhigh
  · rw [BitVec.getLsbD_of_ge x _ (by omega), Bool.and_false]
  · rw [decide_eq_false (Nat.not_le.mpr hhigh), Bool.and_false, Bool.false_and]

@[simp] theorem getElem_put_apart (lo : Nat) (x : BitVec n) (j : Nat) (hj : j < 64) (h : lo + n ≤ j ∨ j < lo) : (put lo x)[j] = false :=
  getLsbD_put_apart lo x j h

@[simp] theorem getElem_putBit_same (lo : Nat) (b : Bool) (h : lo < 64) : (putBit lo b)[lo] = b := by
  rw [← BitVec.getLsbD_eq_getElem, putBit, getLsbD_put, Nat.sub_self]
  simp [h]

@[simp] theorem getElem_putBit_apart (lo : Nat) (b : Bool) (j : Nat) (hj : j < 64) (h : lo ≠ j) : (putBit lo b)[j] = false :=
  getLsbD_put_apart lo _ j (by omega)

@[simp] theorem fieldAt_putBit_apart (lo : Nat) (b : Bool) (lo' k : Nat) (h : lo < lo' ∨ lo' + k ≤ lo) : fieldAt (putBit lo b) lo' k = 0 :=
  fieldAt_put_apart lo _ lo' k (by omega)

/-- Operands stay below the class, the opcode and the guard (R99). -/
def BelowHead (x : W64) : Prop := ∀ j, 47 ≤ j → x.getLsbD j = false

@[simp] theorem BelowHead.zero : BelowHead 0#64 := fun _ _ => BitVec.getLsbD_zero

@[simp] theorem belowHead_or {a b : W64} : BelowHead (a ||| b) ↔ BelowHead a ∧ BelowHead b := by
  unfold BelowHead
  simp only [BitVec.getLsbD_or, Bool.or_eq_false_iff, imp_and, forall_and]

@[simp] theorem BelowHead.put {lo : Nat} {x : BitVec n} (h : lo + n ≤ 47) : BelowHead (Sys2Proof.put lo x) := fun j hj =>
  getLsbD_put_apart lo x j (by omega)

@[simp] theorem BelowHead.putBit {lo : Nat} {b : Bool} (h : lo < 47) : BelowHead (Sys2Proof.putBit lo b) := BelowHead.put h

theorem BelowHead.fieldAt_eq {x : W64} (h : BelowHead x) (lo k : Nat) (hlo : 47 ≤ lo) : fieldAt x lo k = 0 := by
  refine BitVec.eq_of_getLsbD_eq fun j hj => ?_
  rw [fieldAt, BitVec.getLsbD_extractLsb', h _ (by omega), Bool.and_false]
  exact BitVec.getLsbD_zero.symm

theorem BelowHead.getElem_eq {x : W64} (h : BelowHead x) (j : Nat) (hj : j < 64) (hlo : 47 ≤ j) : x[j] = false := h j hlo

section
variable (cls op : Nat) (p : Iss) {x : W64} (hx : BelowHead x)
include hx

@[simp] theorem wordClass_head : wordClass (head cls op p ||| x) = cls % 16 := by
  unfold wordClass head
  simp (disch := omega) only [fieldAt_or, fieldAt_put_same, fieldAt_put_apart, fieldAt_putBit_apart, hx.fieldAt_eq]
  simp

@[simp] theorem wordOp_head : wordOp (head cls op p ||| x) = op % 256 := by
  unfold wordOp head
  simp (disch := omega) only [fieldAt_or, fieldAt_put_same, fieldAt_put_apart, fieldAt_putBit_apart, hx.fieldAt_eq]
  simp

@[simp] theorem wordIss_head : wordIss p.stage (head cls op p ||| x) = p := by
  unfold wordIss head
  simp (disch := omega) [hx.fieldAt_eq, hx.getElem_eq]

end

/-- The fields below the head read nothing of it. -/
@[simp] theorem fieldAt_head (cls op : Nat) (p : Iss) (lo k : Nat) (h : lo + k ≤ 47) : fieldAt (head cls op p) lo k = 0 := by
  unfold head
  simp (disch := omega)

@[simp] theorem getElem_head (cls op : Nat) (p : Iss) (j : Nat) (h : j < 47) : (head cls op p)[j] = false := by
  unfold head
  simp (disch := omega)

@[simp] theorem belowHead_vopBits (o : VOp) : BelowHead (vopBits o) := by
  simp [vopBits]

@[simp] theorem vopOf_head_or (cls op : Nat) (p : Iss) (o : VOp) : vopOf (head cls op p ||| vopBits o) = o := by
  simp [vopOf, vopBits]

@[simp] theorem belowHead_vmemBits (o : VMem) : BelowHead (vmemBits o) := by
  simp [vmemBits]

@[simp] theorem vmemOf_head_or (cls op : Nat) (p : Iss) (o : VMem) : vmemOf (head cls op p ||| vmemBits o) = o := by
  simp [vmemOf, vmemBits]

@[simp] theorem belowHead_shBits (o : ShFields) : BelowHead (shBits o) := by
  simp [shBits]

@[simp] theorem shOf_head_or (cls op : Nat) (p : Iss) (o : ShFields) : shOf (head cls op p ||| shBits o) = o := by
  simp [shOf, shBits]

@[simp] theorem belowHead_mmaBits (o : MmaFields) : BelowHead (mmaBits o) := by
  simp [mmaBits]

@[simp] theorem mmaOf_head_or (cls op : Nat) (p : Iss) (o : MmaFields) : mmaOf (head cls op p ||| mmaBits o) = o := by
  simp [mmaOf, mmaBits]

/-- A field read at a place where another one was laid that ends in it. -/
theorem fieldAt_put_above (lo k m : Nat) (x : BitVec n) (h : lo + m ≤ 64) : fieldAt (put (lo + k) x) lo m = x.setWidth m <<< k := by
  refine BitVec.eq_of_getLsbD_eq fun j hj => ?_
  rw [fieldAt, BitVec.getLsbD_extractLsb', getLsbD_put, BitVec.getLsbD_shiftLeft, BitVec.getLsbD_setWidth, Nat.add_sub_add_left]
  by_cases hk : k ≤ j
  · simp [hj, hk, Nat.not_lt.mpr hk, show lo + j < 64 by omega, show j - k < m by omega]
  · simp [hj, hk, Nat.not_le.mp hk]

theorem fieldAt_put_within (lo k m : Nat) (x : BitVec n) (h : lo + k + m ≤ 64) : fieldAt (put lo x) (lo + k) m = x.extractLsb' k m := by
  refine BitVec.eq_of_getLsbD_eq fun j hj => ?_
  rw [fieldAt, BitVec.getLsbD_extractLsb', BitVec.getLsbD_extractLsb', getLsbD_put, Nat.add_assoc, Nat.add_sub_cancel_left]
  simp [hj, show lo + (k + j) < 64 by omega]

/-- The instruction's word, if it has one, spells it at some Stage. -/
def Spelled (c : Instr) : Prop := ∀ w, encodeKernel c = some w → ∃ n, decodeKernel n w = .ok c

section
variable (p : Iss)

/-- The instructions of class 0x6 (R156, R157, R159). -/
theorem spelled_elementwise (o : VOp) : ∀ c ∈ [Instr.vadd p o, .vsub p o, .vmul p o, .vfma p o, .vfms p o, .vfnma p o, .vmin p o,
    .vmax p o, .vabs p o, .vneg p o, .vcpy p o, .vceq p o, .vcne p o, .vclt p o, .vcle p o, .vcnan p o, .vsel p o, .vexp p o, .vrcp p o,
    .vrsq p o, .vrsum p o, .vrmax p o, .vramax p o, .vcsum p o, .vcmax p o, .vcamax p o], Spelled c := by
  intro c hc
  simp only [List.mem_cons, List.not_mem_nil, or_false] at hc
  obtain rfl | rfl | rfl | rfl | rfl | rfl | rfl | rfl | rfl | rfl | rfl | rfl | rfl | rfl | rfl | rfl | rfl | rfl | rfl | rfl | rfl
    | rfl | rfl | rfl | rfl | rfl := hc
  all_goals
    rintro _ ⟨⟩
    use p.stage
    simp [decodeKernel, decode6]

/-- The instructions of class 0x0 over three registers (R106). -/
theorem spelled_registers (rd ra rb : BitVec 5) : ∀ c ∈ [Instr.add p rd ra rb, .sub p rd ra rb, .mul p rd ra rb, .mulh p rd ra rb,
    .mulhu p rd ra rb, .divu p rd ra rb, .remu p rd ra rb, .div p rd ra rb, .rem p rd ra rb, .and p rd ra rb, .or p rd ra rb,
    .xor p rd ra rb, .shl p rd ra rb, .shr p rd ra rb, .sra p rd ra rb, .min p rd ra rb, .max p rd ra rb, .minu p rd ra rb,
    .maxu p rd ra rb], Spelled c := by
  intro c hc
  simp only [List.mem_cons, List.not_mem_nil, or_false] at hc
  obtain rfl | rfl | rfl | rfl | rfl | rfl | rfl | rfl | rfl | rfl | rfl | rfl | rfl | rfl | rfl | rfl | rfl | rfl | rfl := hc
  all_goals
    rintro _ ⟨⟩
    use p.stage
    simp [decodeKernel, decode0, BitVec.or_assoc]

/-- The instructions of classes 0x1 and 0x3 with two registers and an immediate (R107, R113). -/
theorem spelled_immediates (rd ra : BitVec 5) (imm : W32) : ∀ c ∈ [Instr.addi p rd ra imm, .andi p rd ra imm, .ori p rd ra imm,
    .xori p rd ra imm, .shli p rd ra imm, .shri p rd ra imm, .srai p rd ra imm, .ldb p rd ra imm, .ldh p rd ra imm, .ldw p rd ra imm,
    .ldd p rd ra imm, .ldbu p rd ra imm, .ldhu p rd ra imm, .ldwu p rd ra imm, .stb p rd ra imm, .sth p rd ra imm, .stw p rd ra imm,
    .std p rd ra imm], Spelled c := by
  intro c hc
  simp only [List.mem_cons, List.not_mem_nil, or_false] at hc
  obtain rfl | rfl | rfl | rfl | rfl | rfl | rfl | rfl | rfl | rfl | rfl | rfl | rfl | rfl | rfl | rfl | rfl | rfl := hc
  all_goals
    rintro _ ⟨⟩
    use p.stage
    simp [decodeKernel, decode1, decode3, BitVec.or_assoc]

/-- The compares and predicate operations of classes 0x0 and 0x1 (R106, R107). -/
theorem spelled_predicates (pd pa pb : BitVec 3) (ra rb : BitVec 5) (imm : W32) : ∀ c ∈ [Instr.ceq p pd ra rb, .cne p pd ra rb,
    .clt p pd ra rb, .cle p pd ra rb, .cltu p pd ra rb, .cleu p pd ra rb, .ceqi p pd ra imm, .cnei p pd ra imm, .clti p pd ra imm,
    .clei p pd ra imm, .cltui p pd ra imm, .cleui p pd ra imm, .pand p pd pa pb, .por p pd pa pb, .pxor p pd pa pb, .pnot p pd pa], Spelled c := by
  intro c hc
  simp only [List.mem_cons, List.not_mem_nil, or_false] at hc
  obtain rfl | rfl | rfl | rfl | rfl | rfl | rfl | rfl | rfl | rfl | rfl | rfl | rfl | rfl | rfl | rfl := hc
  all_goals
    rintro _ ⟨⟩
    use p.stage
    simp [decodeKernel, decode0, decode1, BitVec.or_assoc]

/-- PD of a BELR is part of its RD (R131). -/
theorem spelled_belr (rd : BitVec 5) : Spelled (.belr p rd (rd.extractLsb' 1 3)) := by
  have hrd : ∀ rd : BitVec 5, rd ||| (rd.extractLsb' 1 3).setWidth 5 <<< 1 = rd := by decide
  rintro _ ⟨⟩
  use p.stage
  simp [decodeKernel, decodeA, BitVec.or_assoc, fieldAt_put_above 31 1 5, fieldAt_put_within 31 1 3, hrd]

/-- SA and RA of a VDROP share two bits (R161). -/
theorem spelled_vdrop (o : VMem) (sa : BitVec 4) (sr : BitVec 5) (hshare : sa.extractLsb' 0 2 = o.ra.extractLsb' 3 2) :
    Spelled (.vdrop p o sa sr) := by
  have hra : ∀ (ra : BitVec 5) (sa : BitVec 4), sa.extractLsb' 0 2 = ra.extractLsb' 3 2 →
      ra ||| sa.setWidth 5 <<< 3 = ra ∧ ra.extractLsb' 3 4 ||| sa = sa := by decide
  obtain ⟨hra, hsa⟩ := hra o.ra sa hshare
  rintro _ ⟨⟩
  use p.stage
  simp [decodeKernel, decode8, BitVec.or_assoc, vmemOf, vmemBits, fieldAt_put_above 36 3 5, fieldAt_put_within 36 3 4, hra, hsa]

end

/-- Settles O57: a word's head names the class, the opcode and the guard, and each operand is read where it was laid; only BELR and VDROP
lay two operands over each other, of which a well-formed one agrees on the shared bits. -/
theorem decodingUndoesEncoding : Obligations.DecodingUndoesEncoding := by
  intro c w hwf hw
  cases c
  case belr p rd pd =>
    obtain ⟨-, hpd⟩ := Bool.and_eq_true_iff.mp hwf
    rw [of_decide_eq_true hpd] at hw ⊢
    exact spelled_belr p rd w hw
  case vdrop p o sa sr =>
    obtain ⟨-, hshare⟩ := Bool.and_eq_true_iff.mp hwf
    exact spelled_vdrop p o sa sr (of_decide_eq_true hshare) w hw
  case add p rd ra rb | sub p rd ra rb | mul p rd ra rb | mulh p rd ra rb | mulhu p rd ra rb | divu p rd ra rb | remu p rd ra rb
    | div p rd ra rb | rem p rd ra rb | and p rd ra rb | or p rd ra rb | xor p rd ra rb | shl p rd ra rb | shr p rd ra rb
    | sra p rd ra rb | min p rd ra rb | max p rd ra rb | minu p rd ra rb | maxu p rd ra rb =>
    exact spelled_registers p rd ra rb _ (by simp) w hw
  case addi p rd ra imm | andi p rd ra imm | ori p rd ra imm | xori p rd ra imm | shli p rd ra imm | shri p rd ra imm
    | srai p rd ra imm | ldb p rd ra imm | ldh p rd ra imm | ldw p rd ra imm | ldd p rd ra imm | ldbu p rd ra imm | ldhu p rd ra imm
    | ldwu p rd ra imm | stb p rd ra imm | sth p rd ra imm | stw p rd ra imm | std p rd ra imm =>
    exact spelled_immediates p rd ra imm _ (by simp) w hw
  case ceq p pd ra rb | cne p pd ra rb | clt p pd ra rb | cle p pd ra rb | cltu p pd ra rb | cleu p pd ra rb =>
    exact spelled_predicates p pd 0 0 ra rb 0 _ (by simp) w hw
  case ceqi p pd ra imm | cnei p pd ra imm | clti p pd ra imm | clei p pd ra imm | cltui p pd ra imm | cleui p pd ra imm =>
    exact spelled_predicates p pd 0 0 ra 0 imm _ (by simp) w hw
  case pand p pd pa pb | por p pd pa pb | pxor p pd pa pb =>
    exact spelled_predicates p pd pa pb 0 0 0 _ (by simp) w hw
  case pnot p pd pa => exact spelled_predicates p pd pa 0 0 0 0 _ (by simp) w hw
  case vadd p o | vsub p o | vmul p o | vfma p o | vfms p o | vfnma p o | vmin p o | vmax p o | vabs p o | vneg p o | vcpy p o | vceq p o
    | vcne p o | vclt p o | vcle p o | vcnan p o | vsel p o | vexp p o | vrcp p o | vrsq p o | vrsum p o | vrmax p o | vramax p o
    | vcsum p o | vcmax p o | vcamax p o => exact spelled_elementwise p o _ (by simp) w hw
  case nop p | endK p =>
    cases hw
    use p.stage
    rw [← BitVec.or_zero (x := head _ _ p)]
    simp only [decodeKernel, decode2, wordClass_head _ _ _ BelowHead.zero, wordOp_head _ _ _ BelowHead.zero,
      wordIss_head _ _ _ BelowHead.zero, Nat.reduceMod]
  case clz p _ _ | popc p _ _ | sel p _ _ _ _ | prd p _ | pwr p _ | rdspec p _ _ =>
    cases hw
    use p.stage
    simp [decodeKernel, decode0, BitVec.or_assoc]
  case movi p _ _ | movhi p _ _ | br p _ | call p _ _ | jr p _ | loop p _ _ | trap p _ =>
    cases hw
    use p.stage
    simp [decodeKernel, decode1, decode2, BitVec.or_assoc]
  case wld p _ _ _ _ | azero p _ _ _ _ _ | mma p _ | drain p _ _ | roll p _ _ _ _ _ | racc p _ _ _ _ =>
    cases hw
    use p.stage
    simp [decodeKernel, decode4, decode5, BitVec.or_assoc]
  case vpop p _ _ | vpopw p _ _ | vld p _ | vst p _ | vldw p _ | vstw p _ | vbld p _ _ | vbst p _ _ | vbrow p _ _ _ | vbcol p _ _ _
    | vrvset p _ _ | vrvget p _ _ | vsig p _ _ =>
    cases hw
    use p.stage
    simp [decodeKernel, decode7, BitVec.or_assoc]
  case vrng p _ | vtopk p _ _ _ _ _ _ | vmom p _ _ _ _ _ _ | vupd p _ _ _ _ _ _ _ | vtly p _ _ _ _ | vtlyc p _ _ =>
    cases hw
    use p.stage
    simp [decodeKernel, decode8, BitVec.or_assoc]
  case dmov p _ | dgath p _ | dscat p _ | drel p _ | semsig p _ _ _ _ | semwait p _ _ | semset p _ _ | semrd p _ _ | fence p _
    | curtwait p _ | belw p _ _ | belt p _ _ =>
    cases hw
    use p.stage
    simp [decodeKernel, decode9, decodeA, BitVec.or_assoc]
  all_goals cases hw

end Sys2Proof.Machine
end

section
/-! PROOFS. Sequential flow read back, and what every scalar instruction keeps (R96-R101, R111). -/

namespace Sys2Proof.Machine

open Sys2Proof.Safety

theorem State.setPc_stage {s : State} (n pc : Nat) (loops : List LoopEnt) (hwf : mwf Stage.idle s.stages = true) (m : Nat) :
    (s.setPc n pc loops).stage m =
      if m = n then { s.stage n with prm := { (s.stage n).prm with pc := pc, loops := loops, wait := .run } } else s.stage m :=
  State.modStage_stage n m _ hwf

/-- Sequential flow that stays in the code region sets PC and loops, and fetches without a fault. -/
theorem State.goSeq_of_fetchable {s : State} {n pc : Nat} {i : Inst} (cls op : Nat) (hwf : mwf Stage.idle s.stages = true)
    (hinst : (s.stage n).inst = some i) (hfetch : Fetchable i (w64 (nextPc pc (s.stage n).prm.loops).1)) :
    s.goSeq n pc cls op = s.setPc n (nextPc pc (s.stage n).prm.loops).1 (nextPc pc (s.stage n).prm.loops).2 := by
  unfold State.goSeq
  refine State.fetchAt_of_fetchable ?_ hfetch pc cls op
  rw [State.setPc_stage n _ _ hwf, if_pos rfl]
  exact hinst

/-- A Prompter that does not run, waits or waits for a register leaves the state as it is. -/
theorem issue_of_not_ready {p : Iss} {uses : List (BitVec 5)} {s : State} (hstage : p.stage < 144)
    (h : (s.stage p.stage).inst = none ∨ (s.stage p.stage).canIssue = false ∨ uses.any (s.stage p.stage).regBusy = true) (cls op : Nat)
    (bad : Bool) (body : State → Stage → Inst → Did) : issue p cls op bad uses body s = .next s := by
  unfold issue
  rw [if_pos hstage]
  dsimp only
  split
  · rfl
  · next i hi =>
    rcases h with hnone | hnot | hbusy
    · exact absurd (hi.symm.trans hnone) nofun
    · simp [hnot]
    · simp [hbusy]

theorem length_nextPc_le (pc : Nat) (l : List LoopEnt) : (nextPc pc l).2.length ≤ l.length := by
  induction l with
  | nil => exact Nat.le_refl _
  | cons e t ih =>
    unfold nextPc
    split
    · split
      · exact Nat.le_refl _
      · exact Nat.le_succ_of_le ih
    · exact Nat.le_refl _

/-- What a scalar instruction does to its Stage: registers and predicates alone, the registers in their one form. -/
structure RegsOnly (f : Stage → Stage) : Prop where
  rest : ∀ x, f x = { x with prm := { x.prm with regs := (f x).prm.regs, preds := (f x).prm.preds } }
  wf : ∀ x, mwf 0 x.prm.regs = true → mwf 0 (f x).prm.regs = true

theorem RegsOnly.id : RegsOnly (fun x => x) where
  rest _ := rfl
  wf _ h := h

theorem Prm.setReg_wf {x : Prm} (rd : BitVec 5) (v : W64) (h : mwf 0 x.regs = true) : mwf 0 (x.setReg rd v).regs = true := by
  unfold Prm.setReg
  split
  · exact h
  · exact mset_wf h

theorem RegsOnly.setReg (rd : BitVec 5) (v : W64) : RegsOnly (fun x => { x with prm := x.prm.setReg rd v }) where
  rest x := by
    unfold Prm.setReg
    split <;> rfl
  wf x := Prm.setReg_wf rd v

theorem RegsOnly.setPred (pd : BitVec 3) (b : Bool) : RegsOnly (fun x => { x with prm := x.prm.setPred pd b }) where
  rest _ := rfl
  wf _ h := h

theorem RegsOnly.preds (b : BitVec 8) : RegsOnly (fun x => { x with prm := { x.prm with preds := b } }) where
  rest _ := rfl
  wf _ h := h

/-- A step answers a state in the one form, no command added or taken, the loops of Stage `n` no more numerous. -/
def KeepsForm (s : State) (n : Nat) (o : Host.Outcome State Fault Refusal) : Prop :=
  ∃ t, o = .next t ∧ Canon t ∧ t.pending = s.pending ∧ (t.stage n).prm.loops.length ≤ (s.stage n).prm.loops.length

theorem KeepsForm.refl {s : State} (n : Nat) (h : Canon s) : KeepsForm s n (.next s) := ⟨s, rfl, h, rfl, Nat.le_refl _⟩

/-- An instruction that changes registers and predicates alone, executed or passed over, and then the sequential flow. -/
theorem keepsForm_goSeq {s : State} {p : Iss} {i : Inst} (cls op : Nat) {f : Stage → Stage} (hf : RegsOnly f) (hcanon : Canon s)
    (hinst : (s.stage p.stage).inst = some i) (hseq : SeqIn s p.stage i) :
    KeepsForm s p.stage (.next (((started s p cls op).modStage p.stage f).goSeq p.stage (s.stage p.stage).prm.pc cls op)) := by
  have hgo := goSeq_started (s := s) (p := p) (i := i) cls op f hcanon hinst hseq (fun t => by rw [hf.rest]) (fun t => by rw [hf.rest])
  obtain ⟨hothers, ⟨x, rfl, hstage⟩, -, -⟩ := goSeq_started_reads (s := s) (p := p) cls op f hcanon
    (nextPc (s.stage p.stage).prm.pc (s.stage p.stage).prm.loops)
  obtain ⟨hregs, hstages, hform⟩ := hcanon
  rw [hgo]
  refine ⟨_, rfl, ⟨mset_wf hregs, State.modStage_wf _ _ (State.modStage_wf _ _ (started_wf p cls op hstages)), fun m => ?_⟩, rfl, ?_⟩
  · by_cases hm : m = p.stage
    · subst hm
      obtain ⟨hreg, hbytes, hecc, hsems⟩ := hform p.stage
      rw [hstage]
      refine ⟨hf.wf _ hreg, ?_⟩
      rw [hf.rest]
      exact ⟨hbytes, hecc, hsems⟩
    · rw [hothers m hm]
      exact hform m
  · rw [hstage]
    exact length_nextPc_le _ _

/-- The issue of an instruction that changes registers and predicates alone, whatever its guard and the state of its Prompter. -/
theorem issue_keepsForm {s : State} {p : Iss} (cls op : Nat) (uses : List (BitVec 5)) (body : State → Stage → Inst → Did)
    (hstage : p.stage < 144) (hcanon : Canon s) (hseq : ∀ i, (s.stage p.stage).inst = some i → SeqIn s p.stage i)
    (hbody : ∀ u t i, ∃ f, RegsOnly f ∧ body u t i = .seq (u.modStage p.stage f)) :
    KeepsForm s p.stage (issue p cls op false uses body s) := by
  by_cases hready : (s.stage p.stage).inst = none ∨ (s.stage p.stage).canIssue = false ∨ uses.any (s.stage p.stage).regBusy = true
  · rw [issue_of_not_ready hstage hready]
    exact .refl _ hcanon
  · obtain ⟨hsome, hcan, hfree⟩ : (s.stage p.stage).inst ≠ none ∧ (s.stage p.stage).canIssue = true
        ∧ uses.any (s.stage p.stage).regBusy = false := by simpa only [not_or, Bool.not_eq_false, Bool.not_eq_true] using hready
    obtain ⟨i, hinst⟩ := Option.ne_none_iff_exists'.mp hsome
    cases hguard : (s.stage p.stage).prm.guarded p
    case false =>
      have hself : (started s p cls op).modStage p.stage (fun x => x) = started s p cls op :=
        State.setStage_self p.stage (started_wf p cls op hcanon.2.1)
      rw [issue_of_guard_off hstage hinst hcan hfree hguard, ← hself]
      exact keepsForm_goSeq cls op .id hcanon hinst (hseq i hinst)
    case true =>
      obtain ⟨f, hf, hdid⟩ := hbody (started s p cls op) (s.stage p.stage) i
      rw [issue_of_issues ⟨hstage, hinst, hcan, hfree, hguard⟩, hdid]
      exact keepsForm_goSeq cls op hf hcanon hinst (hseq i hinst)

section
variable {s : State} {p : Iss} (hstage : p.stage < 144) (hcanon : Canon s) (hseq : ∀ i, (s.stage p.stage).inst = some i → SeqIn s p.stage i)
include hstage hcanon hseq

theorem issueRd_keepsForm (cls op : Nat) (uses : List (BitVec 5)) (rd : BitVec 5) (f : Prm → W64) :
    KeepsForm s p.stage (issueRd p cls op uses rd f s) :=
  issue_keepsForm cls op _ _ hstage hcanon hseq fun _ t _ => ⟨_, .setReg rd (f t.prm), rfl⟩

theorem issuePd_keepsForm (cls op : Nat) (uses : List (BitVec 5)) (pd : BitVec 3) (f : Prm → Bool) :
    KeepsForm s p.stage (issuePd p cls op uses pd f s) :=
  issue_keepsForm cls op _ _ hstage hcanon hseq fun _ t _ => ⟨_, .setPred pd (f t.prm), rfl⟩

theorem execPwr_keepsForm (ra : BitVec 5) : KeepsForm s p.stage (execPwr p ra s) :=
  issue_keepsForm 0 0x35 _ _ hstage hcanon hseq fun _ t _ => ⟨_, .preds ((t.prm.reg ra).setWidth 8), rfl⟩

end

theorem step_of_pending {s : State} {c : Instr} {rest : List Instr} (h : s.pending = c :: rest) :
    step s = exec c { s with pending := rest } := by
  unfold step
  rw [h]

/-- Settles O59: each of the instructions is the issue of a write to one register, to one predicate, or to all predicates. -/
theorem scalarStepsKeepTheForm : Obligations.ScalarStepsKeepTheForm := by
  intro p rd ra rb pd qa qb imm rest s hstage hcanon hseq c hc hpending
  rw [step_of_pending hpending]
  suffices h : KeepsForm { s with pending := rest } p.stage (exec c { s with pending := rest }) from h
  have hcanon' : Canon { s with pending := rest } := hcanon
  have writesReg : ∀ cls op uses rd f, KeepsForm { s with pending := rest } p.stage (issueRd p cls op uses rd f { s with pending := rest }) :=
    issueRd_keepsForm hstage hcanon' hseq
  have writesPred : ∀ cls op uses pd f, KeepsForm { s with pending := rest } p.stage (issuePd p cls op uses pd f { s with pending := rest }) :=
    issuePd_keepsForm hstage hcanon' hseq
  clear hpending
  simp only [List.mem_cons, List.not_mem_nil, or_false] at hc
  obtain rfl | rfl | rfl | rfl | rfl | rfl | rfl | rfl | rfl | rfl | rfl | rfl | rfl | rfl | rfl | rfl | rfl | rfl | rfl | rfl | rfl | rfl
    | rfl | rfl | rfl | rfl | rfl | rfl | rfl | rfl | rfl | rfl | rfl | rfl | rfl | rfl | rfl | rfl | rfl | rfl | rfl | rfl | rfl | rfl
    | rfl | rfl | rfl | rfl | rfl := hc
  all_goals simp only [exec, execAdd, execSub, execMul, execMulh, execMulhu, execDivu, execRemu, execDiv, execRem, execAnd, execOr, execXor,
    execShl, execShr, execSra, execClz, execPopc, execMin, execMax, execMinu, execMaxu, execSel, execCeq, execCne, execClt, execCle,
    execCltu, execCleu, execPand, execPor, execPxor, execPnot, execPrd, execAddi, execAndi, execOri, execXori, execShli, execShri,
    execSrai, execMovi, execMovhi, execCeqi, execCnei, execClti, execClei, execCltui, execCleui, rrr, rri, prr, pri]
  -- ADD to SEL, the compares and predicate operations, PRD, PWR, ADDI to MOVHI, the compares with an immediate.
  iterate 22 exact writesReg _ _ _ _ _
  iterate 10 exact writesPred _ _ _ _ _
  · exact writesReg _ _ _ _ _
  · exact execPwr_keepsForm hstage hcanon' hseq ra
  iterate 9 exact writesReg _ _ _ _ _
  iterate 6 exact writesPred _ _ _ _ _

end Sys2Proof.Machine
end

section
/-! PROOFS. The scalar instructions of classes 0x0 and 0x1: what they write (R106, R107). -/

namespace Sys2Proof.Machine

open Sys2Proof.Safety

theorem divuV_eq (a b : W64) : divuV a b = if b = 0 then BitVec.allOnes 64 else a / b := by
  unfold divuV
  split
  · rfl
  · exact BitVec.eq_of_toNat_eq (by rw [BitVec.toNat_ofNat, BitVec.toNat_udiv,
      Nat.mod_eq_of_lt (Nat.lt_of_le_of_lt (Nat.div_le_self _ _) a.isLt)])

theorem remuV_eq (a b : W64) : remuV a b = if b = 0 then a else a % b := by
  unfold remuV
  split
  · rfl
  · exact BitVec.eq_of_toNat_eq (by rw [BitVec.toNat_ofNat, BitVec.toNat_umod,
      Nat.mod_eq_of_lt (Nat.lt_of_le_of_lt (Nat.mod_le _ _) a.isLt)])

theorem divV_eq (a b : W64) : divV a b = if b = 0 then BitVec.allOnes 64 else BitVec.ofInt 64 (a.toInt.tdiv b.toInt) := rfl

theorem remV_eq (a b : W64) : remV a b = if b = 0 then a else BitVec.ofInt 64 (a.toInt.tmod b.toInt) := rfl

/-- A signed choice the other way round is the same but for equal operands, which are one. -/
theorem ite_slt_eq (a b x y : W64) (h : a = b → x = y) : (if a.slt b then x else y) = if a.toInt ≤ b.toInt then x else y := by
  simp only [BitVec.slt_iff_toInt_lt]
  rcases Int.lt_trichotomy a.toInt b.toInt with hlt | heq | hgt
  · rw [if_pos hlt, if_pos (Int.le_of_lt hlt)]
  · rw [if_neg (by omega), if_pos (by omega), h (BitVec.eq_of_toInt_eq heq)]
  · rw [if_neg (by omega), if_neg (by omega)]

theorem ite_ult_eq (a b x y : W64) (h : a = b → x = y) : (if a.ult b then x else y) = if a.toNat ≤ b.toNat then x else y := by
  simp only [BitVec.ult_iff_toNat_lt]
  rcases Nat.lt_trichotomy a.toNat b.toNat with hlt | heq | hgt
  · rw [if_pos hlt, if_pos (Nat.le_of_lt hlt)]
  · rw [if_neg (by omega), if_pos (by omega), h (BitVec.eq_of_toNat_eq heq)]
  · rw [if_neg (by omega), if_neg (by omega)]

section
variable {s : State} {p : Iss} {i : Inst} {rd ra rb : BitVec 5} (hcanon : Canon s) (hseq : SeqIn s p.stage i)
include hcanon hseq

theorem rrr_writes (hissues : Issues s p i [rd, ra, rb]) (op : Nat) (f : W64 → W64 → W64) :
    WritesReg s p.stage rd (f ((s.stage p.stage).prm.reg ra) ((s.stage p.stage).prm.reg rb)) (rrr p op rd ra rb f s) :=
  issueRd_writes 0 op _ hcanon hissues hseq

theorem rri_writes (hissues : Issues s p i [rd, ra]) (op : Nat) (imm : W32) (f : W64 → W64 → W64) :
    WritesReg s p.stage rd (f ((s.stage p.stage).prm.reg ra) (imm.signExtend 64)) (rri p op rd ra imm f s) :=
  issueRd_writes 1 op _ hcanon hissues hseq

end

/-- Settles O1: each instruction writes one function of RA and RB, and that function is the table's. -/
theorem scalarRegisterOperations : Obligations.ScalarRegisterOperations := by
  intro p i rd ra rb s hcanon hissues hseq a b w
  have writes : ∀ op f, w (f a b) (rrr p op rd ra rb f s) := rrr_writes hcanon hseq hissues
  refine ⟨writes _ _, writes _ _, writes _ _, writes _ mulhS, writes _ mulhU, ?_, ?_, writes _ divV, writes _ remV, writes _ _, writes _ _,
    writes _ _, writes _ (fun x y => x <<< shAmt y), writes _ (fun x y => x >>> shAmt y), writes _ (fun x y => x.sshiftRight (shAmt y)),
    ?_, ?_, ?_, ?_, fun q => ?_⟩
  · rw [← divuV_eq]
    exact writes _ _
  · rw [← remuV_eq]
    exact writes _ _
  · rw [← ite_slt_eq a b a b id]
    exact writes _ minS
  · rw [← ite_slt_eq a b b a Eq.symm]
    exact writes _ maxS
  · rw [← ite_ult_eq a b a b id]
    exact writes _ minU
  · rw [← ite_ult_eq a b b a Eq.symm]
    exact writes _ maxU
  · exact issueRd_writes 0 0x1C (fun t => if t.pred q then t.reg ra else t.reg rb) hcanon hissues hseq

theorem imm_append_eq (imm : W32) (x : W64) : imm ++ x.setWidth 32 = BitVec.ofNat 64 (imm.toNat * 2 ^ 32 + x.toNat % 2 ^ 32) := by
  refine BitVec.eq_of_toNat_eq ?_
  have himm := imm.isLt
  rw [BitVec.toNat_append, BitVec.toNat_setWidth, BitVec.toNat_ofNat, Nat.shiftLeft_eq, Nat.mul_comm,
    ← Nat.two_pow_add_eq_or_of_lt (Nat.mod_lt _ (by decide))]
  omega

/-- The shift amount of an immediate is its six low bits. -/
theorem shAmt_signExtend (imm : W32) : shAmt (imm.signExtend 64) = imm.toNat % 64 := by
  have himm := imm.isLt
  rw [shAmt, BitVec.toNat_signExtend, BitVec.toNat_setWidth]
  split <;> omega

/-- Settles O4: each writes RD with one function of RA and the sign-extended immediate; shifts take its six low bits. -/
theorem scalarImmediateOperations : Obligations.ScalarImmediateOperations := by
  intro p i rd ra imm s hcanon a c k w
  have hk : shAmt c = k := shAmt_signExtend imm
  constructor
  · intro hissues hseq
    have writes : ∀ op f, w (f a c) (rri p op rd ra imm f s) := fun op => rri_writes hcanon hseq hissues op imm
    refine ⟨writes _ _, writes _ _, writes _ _, writes _ _, ?_, ?_, ?_⟩
    all_goals rw [← hk]
    · exact writes _ (fun x y => x <<< shAmt y)
    · exact writes _ (fun x y => x >>> shAmt y)
    · exact writes _ (fun x y => x.sshiftRight (shAmt y))
  · intro hissues hseq
    constructor
    · exact issueRd_writes 1 0x08 (fun _ => c) hcanon hissues hseq
    · rw [← imm_append_eq]
      exact issueRd_writes 1 0x09 (fun t => imm ++ (t.reg rd).setWidth 32) hcanon hissues hseq

end Sys2Proof.Machine
end

section
/-! PROOFS. What an issued instruction leaves, rule by rule: one Stage as it then is, the rest of the device as it was (R100-R111). -/

namespace Sys2Proof.Machine

open Sys2Proof.Safety

/-- `t` is `s` but for Stage `n`, which is `x`, and one more instruction retired there. -/
structure Leaves (s t : State) (n : Nat) (x : Stage) : Prop where
  outside : Outside s t n
  free : t.freeCtr = s.freeCtr
  wf : mwf Stage.idle t.stages = true
  stage : t.stage n = x

/-- A Stage with the place of its instruction recorded (R138). -/
def Stage.issued (x : Stage) (cls op : Nat) : Stage := { x with prm := { x.prm with org := ⟨x.prm.pc, cls, op⟩ } }

/-- A Stage whose Prompter goes on at `r` (R111). -/
def Stage.goes (x : Stage) (r : Nat × List LoopEnt) : Stage := { x with prm := { x.prm with pc := r.1, loops := r.2, wait := .run } }

section
variable {s t u : State} {n : Nat} {x : Stage}

theorem Leaves.modStage (h : Leaves s t n x) (f : Stage → Stage) : Leaves s (t.modStage n f) n (f x) where
  outside := { h.outside with
    others := fun m hm => by rw [State.modStage_stage n m f h.wf, if_neg hm, h.outside.others m hm] }
  free := h.free
  wf := State.modStage_wf n f h.wf
  stage := by rw [State.modStage_stage n n f h.wf, if_pos rfl, h.stage]

theorem Leaves.setPc (h : Leaves s t n x) (r : Nat × List LoopEnt) : Leaves s (t.setPc n r.1 r.2) n (x.goes r) := h.modStage _

/-- Sequential flow (R111). -/
theorem Leaves.goSeq {i : Inst} {pc : Nat} (h : Leaves s t n x) (cls op : Nat) (hinst : x.inst = some i)
    (hfetch : Fetchable i (w64 (nextPc pc x.prm.loops).1)) : Leaves s (t.goSeq n pc cls op) n (x.goes (nextPc pc x.prm.loops)) := by
  have hloops : (t.stage n).prm.loops = x.prm.loops := by rw [h.stage]
  rw [State.goSeq_of_fetchable cls op h.wf (by rw [h.stage]; exact hinst) (by rw [hloops]; exact hfetch), hloops]
  exact h.setPc _

/-- A jump (R109, R111). -/
theorem Leaves.jump {i : Inst} {a : W64} (h : Leaves s t n x) (pc cls op : Nat) (hinst : x.inst = some i) (hfetch : Fetchable i a) :
    Leaves s ((t.setPc n a.toNat (popLoops a.toNat (t.stage n).prm.loops)).fetchAt n pc a cls op) n
      (x.goes (a.toNat, popLoops a.toNat x.prm.loops)) := by
  have hset := h.setPc (a.toNat, popLoops a.toNat x.prm.loops)
  rw [h.stage, State.fetchAt_of_fetchable (i := i) (by rw [hset.stage]; exact hinst) hfetch]
  exact hset

theorem leaves_started (p : Iss) (cls op : Nat) (hcanon : Canon s) :
    Leaves s (started s p cls op) p.stage ((s.stage p.stage).issued cls op) where
  outside := {
    retired := State.wr_rd_same .stgPrmRetired p.stage _ hcanon.1
    regs := fun _ h => State.wr_regs_ne _ .stgPrmRetired p.stage _ h
    others := fun _ hm => started_stages_ne s p cls op hm
    pending := rfl, mem := rfl, sched := rfl, link := rfl, pbk := rfl, booth := rfl, plat := rfl, turn := rfl }
  free := rfl
  wf := started_wf p cls op hcanon.2.1
  stage := started_stage p cls op hcanon.2.1

theorem Leaves.prompterOnly (h : Leaves s t n x) (hx : x = { s.stage n with prm := x.prm }) : PrompterOnly s t n where
  outside := h.outside
  stage := by rw [h.stage, hx]

theorem flowsOn_of_stage (h : t.stage n = x.goes (nextPc (s.stage n).prm.pc (s.stage n).prm.loops)) : FlowsOn s t n where
  pc := by rw [h]; rfl
  loops := by rw [h]; rfl
  wait := by rw [h]; rfl

/-- Registers and predicates of the Stage are as before. -/
theorem fileKept_of_stage (h : t.stage n = x) (hregs : x.prm.regs = (s.stage n).prm.regs) (hpreds : x.prm.preds = (s.stage n).prm.preds) :
    FileKept s t n where
  regs r := by
    rw [h]
    unfold Prm.reg
    rw [hregs]
  preds := by rw [h, hpreds]

/-- One register of the Stage is written. -/
theorem regIs_of_stage {rd : BitVec 5} {v : W64} (h : t.stage n = x) (hwf : mwf 0 (s.stage n).prm.regs = true)
    (hregs : x.prm.regs = ((s.stage n).prm.setReg rd v).regs) : RegIs s t n rd v := by
  have hreg : ∀ q, (t.stage n).prm.reg q = if q = rd then (if rd = 0 then 0 else v) else (s.stage n).prm.reg q := fun q => by
    rw [h, ← Prm.reg_setReg rd q v hwf]
    unfold Prm.reg
    rw [hregs]
  exact ⟨by rw [hreg, if_pos rfl], fun q hq => by rw [hreg, if_neg hq]⟩

theorem predIs_of_stage {pd : BitVec 3} {b : Bool} (h : t.stage n = x) (hpreds : x.prm.preds = ((s.stage n).prm.setPred pd b).preds) :
    PredIs s t n pd b := by
  have hpred : ∀ q, (t.stage n).prm.pred q = if q = pd then b else (s.stage n).prm.pred q := fun q => by
    rw [h, ← Prm.pred_setPred]
    unfold Prm.pred
    rw [hpreds]
  exact ⟨by rw [hpred, if_pos rfl], fun q hq => by rw [hpred, if_neg hq]⟩

theorem Leaves.flowsOn (h : Leaves s t n (x.goes (nextPc (s.stage n).prm.pc (s.stage n).prm.loops))) : FlowsOn s t n :=
  flowsOn_of_stage h.stage

theorem Leaves.branches {a : W64} (h : Leaves s t n (x.goes (a.toNat, popLoops a.toNat (s.stage n).prm.loops))) : Branches s t n a where
  pc := by rw [h.stage]; rfl
  loops := by rw [h.stage]; rfl
  wait := by rw [h.stage]; rfl

theorem Leaves.fileKept (h : Leaves s t n x) (hregs : x.prm.regs = (s.stage n).prm.regs) (hpreds : x.prm.preds = (s.stage n).prm.preds) :
    FileKept s t n := fileKept_of_stage h.stage hregs hpreds

theorem Leaves.regIs {rd : BitVec 5} {v : W64} (h : Leaves s t n x) (hwf : mwf 0 (s.stage n).prm.regs = true)
    (hregs : x.prm.regs = ((s.stage n).prm.setReg rd v).regs) : RegIs s t n rd v := regIs_of_stage h.stage hwf hregs

end

section
variable {s u : State} {p : Iss} {i : Inst} {uses : List (BitVec 5)} {cls op : Nat} {body : State → Stage → Inst → Did} {x : Stage}

/-- An instruction that has done its work on its Stage flows on in sequence. -/
theorem issue_seq (hissues : Issues s p i uses) (hseq : SeqIn s p.stage i)
    (hbody : body (started s p cls op) (s.stage p.stage) i = .seq u) (hu : Leaves s u p.stage x)
    (hinst : x.inst = (s.stage p.stage).inst) (hloops : x.prm.loops = (s.stage p.stage).prm.loops) :
    ∃ t, issue p cls op false uses body s = .next t
      ∧ Leaves s t p.stage (x.goes (nextPc (s.stage p.stage).prm.pc (s.stage p.stage).prm.loops)) := by
  rw [issue_of_issues hissues, hbody, ← hloops]
  exact ⟨_, rfl, hu.goSeq cls op (hinst.trans hissues.held) (by rw [hloops]; exact hseq)⟩

theorem issue_jump {a : W64} (hissues : Issues s p i uses) (hbody : body (started s p cls op) (s.stage p.stage) i = .jump u a)
    (hu : Leaves s u p.stage x) (hinst : x.inst = (s.stage p.stage).inst) (hfetch : Fetchable i a) :
    ∃ t, issue p cls op false uses body s = .next t ∧ Leaves s t p.stage (x.goes (a.toNat, popLoops a.toNat x.prm.loops)) := by
  rw [issue_of_issues hissues, hbody]
  exact ⟨_, rfl, hu.jump _ cls op (hinst.trans hissues.held) hfetch⟩

theorem issue_fault {f : Cause} {info : W64} (hissues : Issues s p i uses)
    (hbody : body (started s p cls op) (s.stage p.stage) i = .fault u f info) :
    issue p cls op false uses body s = .next (u.kernelFault p.stage ⟨f, ⟨(s.stage p.stage).prm.pc, cls, op⟩, info, none⟩) := by
  rw [issue_of_issues hissues, hbody]

end

/-- An instruction that writes one register with a value its body gives. -/
theorem issue_writesReg {s : State} {p : Iss} {i : Inst} {uses : List (BitVec 5)} {rd : BitVec 5} {v : W64} {cls op : Nat}
    {body : State → Stage → Inst → Did} (hcanon : Canon s) (hissues : Issues s p i uses) (hseq : SeqIn s p.stage i)
    (hbody : body (started s p cls op) (s.stage p.stage) i = .seq ((started s p cls op).setReg p.stage rd v)) :
    WritesReg s p.stage rd v (issue p cls op false uses body s) := by
  obtain ⟨t, ht, hleaves⟩ := issue_seq hissues hseq hbody ((leaves_started p cls op hcanon).modStage _) rfl (Prm.setReg_loops _ _ _)
  refine ⟨t, ht, hleaves.regIs (hcanon.2.2 _).1 ?_, ?_, hleaves.flowsOn, hleaves.prompterOnly rfl, hleaves.free⟩
  · show (((s.stage p.stage).issued cls op).prm.setReg rd v).regs = _
    unfold Prm.setReg
    split <;> rfl
  · rw [hleaves.stage]
    exact Prm.setReg_preds _ _ _

/-- Settles O3: a compare or predicate operation writes one function of its operands into PD; PWR copies RA[7:0] over the predicates. -/
theorem compareAndPredicateOperations : Obligations.CompareAndPredicateOperations := by
  intro p i pd qa qb ra rb imm s hcanon a b c x y w
  refine ⟨fun hissues hseq => ?_, fun hissues hseq => ?_, fun hissues hseq => ?_⟩
  · have compares : ∀ op (k : Cmp), w (k.eval a b) (prr p op pd ra rb k s) := fun op k =>
      issuePd_writes 0 op (fun t => k.eval (t.reg ra) (t.reg rb)) hcanon hissues hseq
    exact ⟨compares _ .eq, compares _ .ne, compares _ .lt, compares _ .le, compares _ .ltu, compares _ .leu⟩
  · have compares : ∀ op (k : Cmp), w (k.eval a c) (pri p op pd ra imm k s) := fun op k =>
      issuePd_writes 1 op (fun t => k.eval (t.reg ra) (sext imm)) hcanon hissues hseq
    refine ⟨compares _ .eq, compares _ .ne, compares _ .lt, compares _ .le, compares _ .ltu, compares _ .leu, ?_⟩
    obtain ⟨t, ht, hleaves⟩ := issue_seq (cls := 0) (op := 0x35)
      (body := fun s t _ => .seq (s.modStage p.stage (fun x => { x with prm := { x.prm with preds := (t.prm.reg ra).setWidth 8 } })))
      hissues hseq rfl ((leaves_started p 0 0x35 hcanon).modStage _) rfl rfl
    refine ⟨t, ht, fun q => ?_, fun r => ?_, hleaves.flowsOn, hleaves.prompterOnly rfl⟩
    · have hq : q.toNat < 8 := q.isLt
      rw [hleaves.stage]
      show ((a.setWidth 8).getLsbD q.toNat) = _
      rw [BitVec.getLsbD_setWidth, decide_eq_true hq, Bool.true_and]
    · rw [hleaves.stage]
      rfl
  · have writes : ∀ cls op f, w (f (s.stage p.stage).prm) (issuePd p cls op [] pd f s) := fun cls op f =>
      issuePd_writes cls op f hcanon hissues hseq
    exact ⟨writes 0 _ (fun t => t.pred qa && t.pred qb), writes 0 _ (fun t => t.pred qa || t.pred qb),
      writes 0 _ (fun t => t.pred qa != t.pred qb), writes 0 _ (fun t => !t.pred qa)⟩

end Sys2Proof.Machine
end

section
/-! PROOFS. CLZ, POPC, PRD and the special values of RDSPEC (R106, R108). -/

namespace Sys2Proof.Machine

open Sys2Proof.Safety

/-- CLZ counts the zeros above the highest set bit. -/
theorem clzV_spec (a : W64) : ∃ k : Nat, k ≤ 64 ∧ (∀ j, j < k → a.getLsbD (63 - j) = false) ∧ (k < 64 → a.getLsbD (63 - k) = true)
    ∧ clzV a = BitVec.ofNat 64 k := by
  unfold clzV
  by_cases h0 : a = 0
  · exact ⟨64, Nat.le_refl _, fun j _ => by rw [h0]; exact BitVec.getLsbD_zero, fun h => absurd h (Nat.lt_irrefl _), if_pos h0⟩
  · have hne : a.toNat ≠ 0 := fun h => h0 (BitVec.eq_of_toNat_eq h)
    have hlog : a.toNat.log2 < 64 := (Nat.log2_lt hne).mpr a.isLt
    refine ⟨63 - a.toNat.log2, by omega, fun j hj => ?_, fun _ => ?_, if_neg h0⟩
    · exact Nat.testBit_lt_two_pow ((Nat.log2_lt hne).mp (by omega))
    · rw [show 63 - (63 - a.toNat.log2) = a.toNat.log2 by omega]
      exact Nat.testBit_log2 hne

theorem popcV_eq (a : W64) : popcV a = BitVec.ofNat 64 (Finset.univ.filter (fun j : Fin 64 => a.getLsbD j.val = true)).card := by
  unfold popcV
  rw [← List.map_coe_finRange_eq_range, List.filter_map, List.length_map,
    ← List.toFinset_card_of_nodup ((List.nodup_finRange 64).filter _), List.toFinset_filter, List.toFinset_finRange]
  rfl

theorem State.wr_rd_ne (s : State) {r q : Reg} (i : Nat) (v : W64) {j : Nat} (h : q.off j ≠ r.off i) : (s.wr r i v).rd q j = s.rd q j := by
  unfold State.rd
  rw [State.wr_regs_ne s r i v h]

theorem started_now (s : State) (p : Iss) (cls op : Nat) : (started s p cls op).now = s.now :=
  State.wr_rd_ne _ p.stage _ (by simp only [Reg.off, Reg.desc]; omega)

/-- The special values (R108) that are no count of CCLK. -/
theorem execRdspec_writes {s : State} {p : Iss} {i : Inst} {rd : BitVec 5} (spec : BitVec 8) (v : W64) (hcanon : Canon s)
    (hissues : Issues s p i [rd]) (hseq : SeqIn s p.stage i) (hlegal : spec.toNat ∈ [0, 1, 2, 3, 4, 5, 6, 0x10, 0x11, 0x12, 0x13])
    (hvalue : specValue (started s p 0 0x38) p.stage i spec = some v) (hfree : spec ≠ 0x13) :
    WritesReg s p.stage rd v (exec (.rdspec p rd spec) s) := by
  show WritesReg s p.stage rd v (execRdspec p rd spec s)
  unfold execRdspec
  rw [decide_eq_false (not_not_intro hlegal)]
  refine issue_writesReg hcanon hissues hseq ?_
  rw [hvalue, if_neg hfree]

/-- The count of CCLK (R108; log entry 12): the step is that of a state in which the free value has been drawn. -/
theorem execRdspec_cclk {s : State} {p : Iss} {i : Inst} {rd : BitVec 5} (hcanon : Canon s) (hissues : Issues s p i [rd])
    (hseq : SeqIn s p.stage i) :
    ∃ t v, exec (.rdspec p rd 0x13) s = .next t ∧ RegIs s t p.stage rd v ∧ FlowsOn s t p.stage ∧ PrompterOnly s t p.stage := by
  have hdrawn : Leaves { s with freeCtr := s.freeCtr + 1 } (started { s with freeCtr := s.freeCtr + 1 } p 0 0x38) p.stage
      ((s.stage p.stage).issued 0 0x38) := leaves_started p 0 0x38 hcanon
  have hleaves := (hdrawn.modStage (fun x => { x with prm := x.prm.setReg rd (Config.freeWord s.freeCtr) })).goSeq
    (pc := (s.stage p.stage).prm.pc) 0 0x38 hissues.held (by rw [Prm.setReg_loops]; exact hseq)
  rw [Prm.setReg_loops] at hleaves
  have hreg := hleaves.regIs (rd := rd) (v := Config.freeWord s.freeCtr) (hcanon.2.2 _).1
    (show (((s.stage p.stage).issued 0 0x38).prm.setReg rd _).regs = _ by unfold Prm.setReg; split <;> rfl)
  have hflow := hleaves.flowsOn
  have hout := hleaves.outside
  refine ⟨_, Config.freeWord s.freeCtr, (?_ : execRdspec p rd 0x13 s = _), ⟨hreg.value, hreg.others⟩, ⟨hflow.pc, hflow.loops, hflow.wait⟩,
    ⟨⟨hout.retired, hout.regs, hout.others, hout.pending, hout.mem, hout.sched, hout.link, hout.pbk, hout.booth, hout.plat, hout.turn⟩,
      by rw [hleaves.stage]; rfl⟩⟩
  unfold execRdspec
  rw [show decide ((0x13 : BitVec 8).toNat ∉ [0, 1, 2, 3, 4, 5, 6, 0x10, 0x11, 0x12, 0x13]) = false by decide]
  exact issue_of_issues hissues 0 0x38 _

theorem execRdspec_of_reserved {s : State} {p : Iss} {i : Inst} (rd : BitVec 5) {spec : BitVec 8} (hissues : Issues s p i [rd])
    (hspec : spec.toNat ∉ [0, 1, 2, 3, 4, 5, 6, 0x10, 0x11, 0x12, 0x13]) :
    exec (.rdspec p rd spec) s = .next (s.kernelFault p.stage ⟨.illegal, ⟨(s.stage p.stage).prm.pc, 0, 0x38⟩, 0, none⟩) := by
  show execRdspec p rd spec s = _
  unfold execRdspec
  rw [decide_eq_true hspec]
  exact issue_of_bad hissues 0 0x38 _

/-- Settles O2: CLZ, POPC, PRD and the special values are writes of RD; a reserved SPEC is refused before RD is touched. -/
theorem countsAndSpecialValues : Obligations.CountsAndSpecialValues := by
  constructor
  · intro p i rd ra s hcanon
    constructor
    · intro hissues hseq a
      constructor
      · obtain ⟨k, hk, hzeros, hone, hclz⟩ := clzV_spec a
        refine ⟨k, hk, hzeros, hone, ?_⟩
        rw [← hclz]
        exact issueRd_writes 0 0x16 (fun t => clzV (t.reg ra)) hcanon hissues hseq
      · rw [← popcV_eq]
        exact issueRd_writes 0 0x17 (fun t => popcV (t.reg ra)) hcanon hissues hseq
    · intro hissues hseq
      refine ⟨(s.stage p.stage).prm.preds.setWidth 64, fun q => ?_, ?_, issueRd_writes 0 0x34 (fun t => t.preds.setWidth 64) hcanon hissues hseq⟩
      · have hq : q.toNat < 64 := Nat.lt_of_lt_of_le q.isLt (by decide)
        rw [BitVec.getLsbD_setWidth, decide_eq_true hq, Bool.true_and]
        rfl
      · rw [BitVec.toNat_setWidth]
        exact Nat.lt_of_le_of_lt (Nat.mod_le _ _) (s.stage p.stage).prm.preds.isLt
  · intro p i rd s hcanon hissues w
    constructor
    · intro hseq
      have writes : ∀ spec v, spec.toNat ∈ [0, 1, 2, 3, 4, 5, 6, 0x10, 0x11, 0x12, 0x13] →
          specValue (started s p 0 0x38) p.stage i spec = some v → spec ≠ 0x13 → w spec v := fun spec v =>
        execRdspec_writes spec v hcanon hissues hseq
      refine ⟨writes _ _ (by decide) rfl (by decide), writes _ _ (by decide) rfl (by decide), writes _ _ (by decide) rfl (by decide),
        writes _ _ (by decide) rfl (by decide), writes _ _ (by decide) rfl (by decide), writes _ _ (by decide) rfl (by decide),
        writes _ _ (by decide) rfl (by decide), writes _ _ (by decide) rfl (by decide), writes _ _ (by decide) rfl (by decide),
        writes _ _ (by decide) (congrArg some (started_now s p 0 0x38)) (by decide), ?_⟩
      exact execRdspec_cclk hcanon hissues hseq
    · intro spec hspec
      refine execRdspec_of_reserved rd hissues fun hmem => hspec ?_
      simpa [← BitVec.toNat_inj] using hmem

end Sys2Proof.Machine
end

section
/-! PROOFS. The guard, branches, loops, the end of a kernel, and the fetch fault (R99, R100, R109-R112). -/

namespace Sys2Proof.Machine

open Sys2Proof.Safety

/-- Sequential flow that leaves the code region ends in a fetch fault of the state it would have gone on in (R110). -/
theorem State.fetchAt_of_not_fetchable {s : State} {n : Nat} {i : Inst} {a : W64} (hinst : (s.stage n).inst = some i) (ha : ¬ Fetchable i a)
    (pc cls op : Nat) : s.fetchAt n pc a cls op = s.kernelFault n ⟨.fetch, ⟨pc, cls, op⟩, a, none⟩ := by
  unfold State.fetchAt
  rw [hinst]
  exact if_neg ha

section
variable {s u : State} {p : Iss} {i : Inst} {uses : List (BitVec 5)} {cls op : Nat} {body : State → Stage → Inst → Did} {x : Stage}

theorem issue_wait {w : PrmWait} (hissues : Issues s p i uses) (hbody : body (started s p cls op) (s.stage p.stage) i = .wait u w)
    (hu : Leaves s u p.stage x) :
    ∃ t, issue p cls op false uses body s = .next t
      ∧ Leaves s t p.stage { x with prm := { (x.goes (nextPc (s.stage p.stage).prm.pc x.prm.loops)).prm with wait := w } } := by
  rw [issue_of_issues hissues, hbody]
  refine ⟨_, rfl, ?_⟩
  rw [hu.stage]
  exact (hu.setPc _).modStage (fun y => { y with prm := { y.prm with wait := w } })

theorem issue_jump_faults {a : W64} (hissues : Issues s p i uses) (hbody : body (started s p cls op) (s.stage p.stage) i = .jump u a)
    (hu : Leaves s u p.stage x) (hinst : x.inst = (s.stage p.stage).inst) (hfetch : ¬ Fetchable i a) :
    ∃ t, issue p cls op false uses body s = .next (t.kernelFault p.stage ⟨.fetch, ⟨(s.stage p.stage).prm.pc, cls, op⟩, a, none⟩)
      ∧ Leaves s t p.stage (x.goes (a.toNat, popLoops a.toNat x.prm.loops)) := by
  have hset := hu.setPc (a.toNat, popLoops a.toNat x.prm.loops)
  rw [issue_of_issues hissues, hbody]
  refine ⟨_, congrArg Host.Outcome.next ?_, hset⟩
  rw [hu.stage]
  exact State.fetchAt_of_not_fetchable (by rw [hset.stage]; exact hinst.trans hissues.held) hfetch _ _ _

theorem issue_seq_faults (hissues : Issues s p i uses) (hseq : ¬ SeqIn s p.stage i)
    (hbody : body (started s p cls op) (s.stage p.stage) i = .seq u) (hu : Leaves s u p.stage x)
    (hinst : x.inst = (s.stage p.stage).inst) (hloops : x.prm.loops = (s.stage p.stage).prm.loops) :
    ∃ t, issue p cls op false uses body s = .next (t.kernelFault p.stage ⟨.fetch, ⟨(s.stage p.stage).prm.pc, cls, op⟩,
        w64 (nextPc (s.stage p.stage).prm.pc (s.stage p.stage).prm.loops).1, none⟩)
      ∧ Leaves s t p.stage (x.goes (nextPc (s.stage p.stage).prm.pc (s.stage p.stage).prm.loops)) := by
  have hset := hu.setPc (nextPc (s.stage p.stage).prm.pc (s.stage p.stage).prm.loops)
  rw [issue_of_issues hissues, hbody]
  refine ⟨_, congrArg Host.Outcome.next ?_, hset⟩
  unfold State.goSeq
  rw [hu.stage, hloops]
  exact State.fetchAt_of_not_fetchable (by rw [hset.stage]; exact hinst.trans hissues.held) hseq _ _ _

end

/-- The outcome of an instruction of Stage `n` that is passed over (R100). -/
def PassesOver (s : State) (n : Nat) (o : Host.Outcome State Fault Refusal) : Prop :=
  ∃ t, o = .next t ∧ FileKept s t n ∧ FlowsOn s t n ∧ PrompterOnly s t n ∧ t.freeCtr = s.freeCtr

theorem issue_passes_over {s : State} {p : Iss} {i : Inst} {uses : List (BitVec 5)} (hcanon : Canon s) (hrange : p.stage < 144)
    (hinst : (s.stage p.stage).inst = some i) (hcan : (s.stage p.stage).canIssue = true)
    (hguard : (s.stage p.stage).prm.guarded p = false) (hseq : SeqIn s p.stage i)
    (huses : uses.any (s.stage p.stage).regBusy = false) (cls op : Nat) (body : State → Stage → Inst → Did) :
    PassesOver s p.stage (issue p cls op false uses body s) := by
  have hleaves := (leaves_started p cls op hcanon).goSeq (pc := (s.stage p.stage).prm.pc) cls op hinst hseq
  exact ⟨_, issue_of_guard_off hrange hinst hcan huses hguard cls op body, hleaves.fileKept rfl rfl, hleaves.flowsOn,
    hleaves.prompterOnly rfl, hleaves.free⟩

/-- Settles O5: each of the seven is an `issue` with a legal encoding, and `issue` does nothing else where the guard is off. -/
theorem guardOffPassesOver : Obligations.GuardOffPassesOver := by
  intro p i rd ra rb off sem val s hcanon hrange hinst hcan huses hguard hseq c hc
  have passes : ∀ uses : List (BitVec 5), uses.any (s.stage p.stage).regBusy = false → ∀ cls op body,
      PassesOver s p.stage (issue p cls op false uses body s) := fun _ => issue_passes_over hcanon hrange hinst hcan hguard hseq
  have htwo : [rd, ra].any (s.stage p.stage).regBusy = false := by
    simp only [List.any_cons, Bool.or_eq_false_iff] at huses ⊢
    exact ⟨huses.1, huses.2.1, rfl⟩
  simp only [List.mem_cons, List.not_mem_nil, or_false] at hc
  obtain rfl | rfl | rfl | rfl | rfl | rfl | rfl := hc
  · exact (passes (rd :: [ra, rb]) huses 0 0 _ : PassesOver s p.stage (issueRd p 0 0 [ra, rb] rd (fun t => t.reg ra + t.reg rb) s))
  · exact (passes _ htwo 3 3 _ : PassesOver s p.stage (load p 3 8 rd ra off w64 s))
  · exact (passes _ htwo 3 0xB _ : PassesOver s p.stage (store p 0xB 8 rd ra off s))
  · exact (passes [] rfl 2 1 _ : PassesOver s p.stage (execBr p off s))
  · exact (passes [] rfl 2 7 _ : PassesOver s p.stage (execTrap p off s))
  · exact (passes [] rfl 0xA 0 _ : PassesOver s p.stage (execSemsig p sem ra val false s))
  · exact (passes [] rfl 2 6 _ : PassesOver s p.stage (execEndK p s))

/-- What CALL does (R111). -/
def callBody (p : Iss) (rd : BitVec 5) (off : W32) (s : State) (t : Stage) (_ : Inst) : Did :=
  if t.prm.loops.any (fun e => decide (e.first ≤ t.prm.pc ∧ t.prm.pc ≤ e.last)) then .fault s .illegal 0
  else .jump (s.setReg p.stage rd (w64 (t.prm.pc + 8))) (target t.prm.pc off)

theorem execCall_eq (p : Iss) (rd : BitVec 5) (off : W32) (s : State) :
    execCall p rd off s = issue p 2 2 false [rd] (callBody p rd off) s := rfl

/-- The PC of a CALL outside every active loop. -/
theorem call_outside_loops {x : Prm} (h : ∀ e ∈ x.loops, x.pc < e.first ∨ e.last < x.pc) :
    x.loops.any (fun e => decide (e.first ≤ x.pc ∧ x.pc ≤ e.last)) = false := by
  refine List.any_eq_false.mpr fun e he => ?_
  have := h e he
  simp only [decide_eq_true_eq]
  omega

section
variable {s : State} {p : Iss} {i : Inst} {rd : BitVec 5} {off : W32}

/-- CALL writes its return offset first. -/
theorem leaves_call (hcanon : Canon s) : Leaves s ((started s p 2 2).setReg p.stage rd (w64 ((s.stage p.stage).prm.pc + 8))) p.stage
    { (s.stage p.stage).issued 2 2 with
      prm := ((s.stage p.stage).issued 2 2).prm.setReg rd (w64 ((s.stage p.stage).prm.pc + 8)) } :=
  (leaves_started p 2 2 hcanon).modStage _

theorem Leaves.call_reads {t : State} {r : Nat × List LoopEnt} (hcanon : Canon s)
    (h : Leaves s t p.stage (Stage.goes { (s.stage p.stage).issued 2 2 with
      prm := ((s.stage p.stage).issued 2 2).prm.setReg rd (w64 ((s.stage p.stage).prm.pc + 8)) } r)) :
    RegIs s t p.stage rd (BitVec.ofNat 64 ((s.stage p.stage).prm.pc + 8)) ∧ (t.stage p.stage).prm.preds = (s.stage p.stage).prm.preds := by
  refine ⟨h.regIs (hcanon.2.2 _).1 ?_, ?_⟩
  · show (((s.stage p.stage).issued 2 2).prm.setReg rd _).regs = _
    unfold Prm.setReg
    split <;> rfl
  · rw [h.stage]
    exact Prm.setReg_preds _ _ _

theorem callBody_jumps (u : State) (hloops : ∀ e ∈ (s.stage p.stage).prm.loops, (s.stage p.stage).prm.pc < e.first ∨ e.last < (s.stage p.stage).prm.pc) :
    callBody p rd off u (s.stage p.stage) i
      = .jump (u.setReg p.stage rd (w64 ((s.stage p.stage).prm.pc + 8))) (target (s.stage p.stage).prm.pc off) := by
  unfold callBody
  rw [call_outside_loops hloops]
  rfl

end

/-- A loop body ends past its LOOP, and its offset does not wrap. -/
theorem target_toNat {pc : Nat} {off : W32} (hpc : pc < 2 ^ 23) (hoff : 0 < off.toInt) :
    (target pc off).toNat = pc + 8 * off.toNat ∧ 0 < off.toNat := by
  have hsmall : 2 * off.toNat < 2 ^ 32 := by
    by_contra hge
    rw [BitVec.toInt_eq_toNat_cond, if_neg hge] at hoff
    have := off.isLt
    omega
  have hmsb : off.msb = false := BitVec.msb_eq_false_iff_two_mul_lt.mpr hsmall
  have hsext : (sext off).toNat = off.toNat := by
    rw [sext, BitVec.toNat_signExtend, hmsb, BitVec.toNat_setWidth]
    simp only [Bool.false_eq_true, if_false]
    omega
  rw [BitVec.toInt_eq_toNat_cond, if_pos hsmall] at hoff
  refine ⟨?_, by omega⟩
  rw [target, BitVec.toNat_add, BitVec.toNat_mul, hsext, w64, BitVec.toNat_ofNat]
  show (pc % 2 ^ 64 + 8 * off.toNat % 2 ^ 64) % 2 ^ 64 = _
  omega

section
variable {s : State} {p : Iss} {i : Inst} {ra : BitVec 5} {off : W32}

/-- A LOOP that enters its body (R111). -/
theorem execLoop_enters (hcanon : Canon s) (hissues : Issues s p i [ra]) (hoff : 0 < off.toInt) (hpc : (s.stage p.stage).prm.pc < 2 ^ 23)
    (hcount : 0 < ((s.stage p.stage).prm.reg ra).toNat) (hdepth : (s.stage p.stage).prm.loops.length < 4)
    (hfetch : Fetchable i (w64 ((s.stage p.stage).prm.pc + 8))) :
    ∃ t, execLoop p ra off s = .next t ∧ Leaves s t p.stage (((s.stage p.stage).issued 2 4).goes ((s.stage p.stage).prm.pc + 8,
      ⟨(s.stage p.stage).prm.pc + 8, (s.stage p.stage).prm.pc + 8 * off.toNat, ((s.stage p.stage).prm.reg ra).toNat⟩ :: (s.stage p.stage).prm.loops)) := by
  obtain ⟨hlast, hpos⟩ := target_toNat hpc hoff
  unfold execLoop
  rw [decide_eq_false (by omega), issue_of_issues hissues]
  have hnext : ∀ l, nextPc (s.stage p.stage).prm.pc
      (⟨(s.stage p.stage).prm.pc + 8, (s.stage p.stage).prm.pc + 8 * off.toNat, ((s.stage p.stage).prm.reg ra).toNat⟩ :: l)
      = ((s.stage p.stage).prm.pc + 8, _ :: l) := fun l => if_neg (by show ¬ _ + _ = _; omega)
  simp only [if_neg (Nat.ne_of_gt hcount), if_neg (Nat.not_le.mpr hdepth), hlast]
  have hgo := ((leaves_started p 2 4 hcanon).modStage (fun t => { t with prm := { t.prm with
      loops := ⟨t.prm.pc + 8, (s.stage p.stage).prm.pc + 8 * off.toNat, ((s.stage p.stage).prm.reg ra).toNat⟩ :: t.prm.loops } })).goSeq
    (i := i) (pc := (s.stage p.stage).prm.pc) 2 4 hissues.held ((congrArg (fun r => Fetchable i (w64 r.1)) (hnext _)).mpr hfetch)
  exact ⟨_, rfl, (hnext (s.stage p.stage).prm.loops) ▸ hgo⟩

/-- A LOOP of count 0 skips its body (R111). -/
theorem execLoop_skips (hcanon : Canon s) (hissues : Issues s p i [ra]) (hoff : 0 < off.toInt) (hpc : (s.stage p.stage).prm.pc < 2 ^ 23)
    (hcount : ((s.stage p.stage).prm.reg ra).toNat = 0)
    (hfetch : Fetchable i (w64 (nextPc ((s.stage p.stage).prm.pc + 8 * off.toNat) (s.stage p.stage).prm.loops).1)) :
    ∃ t, execLoop p ra off s = .next t ∧ Leaves s t p.stage
      (((s.stage p.stage).issued 2 4).goes (nextPc ((s.stage p.stage).prm.pc + 8 * off.toNat) (s.stage p.stage).prm.loops)) := by
  obtain ⟨hlast, hpos⟩ := target_toNat hpc hoff
  unfold execLoop
  rw [decide_eq_false (by omega), issue_of_issues hissues]
  simp only [if_pos hcount, hlast]
  exact ⟨_, rfl, (leaves_started p 2 4 hcanon).goSeq 2 4 hissues.held hfetch⟩

/-- A LOOP inside four active ones faults (R111). -/
theorem execLoop_too_deep (hissues : Issues s p i [ra]) (hoff : 0 < off.toInt) (hcount : 0 < ((s.stage p.stage).prm.reg ra).toNat)
    (hdepth : 4 ≤ (s.stage p.stage).prm.loops.length) :
    execLoop p ra off s = .next ((started s p 2 4).kernelFault p.stage ⟨.illegal, ⟨(s.stage p.stage).prm.pc, 2, 4⟩, 0, none⟩) := by
  unfold execLoop
  rw [decide_eq_false (by omega), issue_of_issues hissues]
  simp only [if_neg (Nat.ne_of_gt hcount), if_pos hdepth]

end

/-- Settles O6: what NOP, BR, CALL, JR and LOOP leave of their Stage, each by the rule of `issue` its body comes under. -/
theorem branchesAndLoops : Obligations.BranchesAndLoops := by
  constructor
  · intro p i rd ra off s hcanon pc a
    refine ⟨fun hissues hseq => ?_, fun hissues hfetch => ?_, fun hissues hfetch hloops => ?_, fun hissues hfetch => ?_⟩
    · obtain ⟨t, ht, hleaves⟩ := issue_seq hissues hseq (cls := 2) (op := 0) (body := fun s _ _ => .seq s) rfl (leaves_started p 2 0 hcanon) rfl rfl
      exact ⟨t, ht, hleaves.fileKept rfl rfl, hleaves.flowsOn, hleaves.prompterOnly rfl⟩
    · obtain ⟨t, ht, hleaves⟩ := issue_jump hissues (cls := 2) (op := 1) (body := fun s t _ => .jump s (target t.prm.pc off)) rfl
        (leaves_started p 2 1 hcanon) rfl hfetch
      exact ⟨t, ht, hleaves.fileKept rfl rfl, hleaves.branches, hleaves.prompterOnly rfl⟩
    · obtain ⟨t, ht, hleaves⟩ := issue_jump hissues (callBody_jumps _ hloops) (leaves_call hcanon) rfl hfetch
      rw [show ∀ x : Stage, (Stage.prm { x with prm := x.prm.setReg rd _ }).loops = x.prm.loops from fun x => Prm.setReg_loops _ _ _] at hleaves
      obtain ⟨hreg, hpreds⟩ := hleaves.call_reads hcanon
      exact ⟨t, ht, hreg, hpreds, hleaves.branches, hleaves.prompterOnly rfl⟩
    · obtain ⟨t, ht, hleaves⟩ := issue_jump hissues (cls := 2) (op := 3) (body := fun s t _ => .jump s (t.prm.reg ra)) rfl
        (leaves_started p 2 3 hcanon) rfl hfetch
      exact ⟨t, ht, hleaves.fileKept rfl rfl, hleaves.branches, hleaves.prompterOnly rfl⟩
  · intro p i ra off s hcanon hissues hoff x last n hpc
    refine ⟨fun hcount hdepth hfetch => ?_, fun hcount hfetch => ?_, fun hcount hdepth => execLoop_too_deep hissues hoff hcount hdepth⟩
    · obtain ⟨t, ht, hleaves⟩ := execLoop_enters hcanon hissues hoff hpc hcount hdepth hfetch
      exact ⟨t, ht, by rw [hleaves.stage]; rfl, by rw [hleaves.stage]; rfl, hleaves.fileKept rfl rfl, hleaves.prompterOnly rfl⟩
    · obtain ⟨t, ht, hleaves⟩ := execLoop_skips hcanon hissues hoff hpc hcount hfetch
      exact ⟨t, ht, by rw [hleaves.stage]; rfl, by rw [hleaves.stage]; rfl, hleaves.fileKept rfl rfl, hleaves.prompterOnly rfl⟩

/-- Settles O48: the branch has been made, its registers written, in the state the fetch fault is raised in. -/
theorem badTargetsFault : Obligations.BadTargetsFault := by
  intro p i rd ra off s hcanon n pc a f
  refine ⟨fun hissues hfetch => ?_, fun hissues hfetch hloops => ?_, fun hissues => ?_, fun hissues hseq => ?_⟩
  · obtain ⟨t, ht, hleaves⟩ := issue_jump_faults hissues (cls := 2) (op := 1) (body := fun s t _ => .jump s (target t.prm.pc off)) rfl
      (leaves_started p 2 1 hcanon) rfl hfetch
    exact ⟨t, ht, hleaves.fileKept rfl rfl, hleaves.branches, hleaves.prompterOnly rfl⟩
  · obtain ⟨t, ht, hleaves⟩ := issue_jump_faults hissues (callBody_jumps _ hloops) (leaves_call hcanon) rfl hfetch
    rw [show ∀ x : Stage, (Stage.prm { x with prm := x.prm.setReg rd _ }).loops = x.prm.loops from fun x => Prm.setReg_loops _ _ _] at hleaves
    exact ⟨t, ht, (hleaves.call_reads hcanon).1, hleaves.branches, hleaves.prompterOnly rfl⟩
  · intro x hfetch
    obtain ⟨t, ht, hleaves⟩ := issue_jump_faults hissues (cls := 2) (op := 3) (body := fun s t _ => .jump s (t.prm.reg ra)) rfl
      (leaves_started p 2 3 hcanon) rfl hfetch
    exact ⟨t, ht, hleaves.fileKept rfl rfl, hleaves.branches, hleaves.prompterOnly rfl⟩
  · obtain ⟨t, ht, hleaves⟩ := issue_seq_faults hissues hseq (cls := 2) (op := 0) (body := fun s _ _ => .seq s) rfl (leaves_started p 2 0 hcanon) rfl rfl
    exact ⟨t, ht, hleaves.fileKept rfl rfl, hleaves.flowsOn, hleaves.prompterOnly rfl⟩

/-- Settles O7: END is a wait, TRAP a fault of its code, and END_COMPLETE acts where R112's conditions hold. -/
theorem kernelsEndAndTrap : Obligations.KernelsEndAndTrap := by
  intro p i off s hcanon
  refine ⟨fun hissues => ⟨?_, ?_⟩, fun n hn hready => ?_⟩
  · obtain ⟨t, ht, hleaves⟩ := issue_wait hissues (cls := 2) (op := 6) (body := fun s _ _ => .wait s .ending) rfl (leaves_started p 2 6 hcanon)
    exact ⟨t, ht, by rw [hleaves.stage], hleaves.fileKept rfl rfl, hleaves.prompterOnly rfl⟩
  · exact issue_fault hissues (cls := 2) (op := 7) (body := fun s _ _ => .fault s .trap (w64 (off.toNat % 65536))) rfl
  · show execEndComplete n s = _
    unfold execEndComplete
    rw [if_pos hn, if_pos hready]

/-- A class 0x3 access misaligned or outside the data region (R94, R113). -/
theorem bad_access {i : Inst} {a : W64} {len : Nat} (h : a.toNat % len ≠ 0 ∨ i.dataSize < a.toNat + len) :
    ¬ (a.toNat % len = 0 ∧ i.inData a len = true) := by
  rintro ⟨haligned, hinside⟩
  have := of_decide_eq_true hinside
  omega

section
variable {s : State} {p : Iss} {i : Inst} {rd ra : BitVec 5} {off : W32} {op len : Nat}

theorem load_faults (ext : Nat → W64) (hissues : Issues s p i [rd, ra])
    (h : (accessAddr s p.stage ra off).toNat % len ≠ 0 ∨ i.dataSize < (accessAddr s p.stage ra off).toNat + len) :
    load p op len rd ra off ext s = .next ((started s p 3 op).kernelFault p.stage
      ⟨.address, ⟨(s.stage p.stage).prm.pc, 3, op⟩, accessAddr s p.stage ra off, none⟩) :=
  issue_fault hissues (if_neg (bad_access h))

theorem store_faults (hissues : Issues s p i [rd, ra])
    (h : (accessAddr s p.stage ra off).toNat % len ≠ 0 ∨ i.dataSize < (accessAddr s p.stage ra off).toNat + len) :
    store p op len rd ra off s = .next ((started s p 3 op).kernelFault p.stage
      ⟨.address, ⟨(s.stage p.stage).prm.pc, 3, op⟩, accessAddr s p.stage ra off, none⟩) :=
  issue_fault hissues (if_neg (bad_access h))

end

/-- Settles O10: each of the eleven is `load` or `store` of its length, which looks at its address before anything else. -/
theorem badAccessesFault : Obligations.BadAccessesFault := by
  intro p i rd ra off s hissues a x hx hbad
  simp only [List.mem_cons, List.not_mem_nil, or_false] at hx
  obtain rfl | rfl | rfl | rfl | rfl | rfl | rfl | rfl | rfl | rfl | rfl := hx
  · exact load_faults (fun x => (BitVec.ofNat 8 x).signExtend 64) hissues hbad
  · exact load_faults (fun x => (BitVec.ofNat 16 x).signExtend 64) hissues hbad
  · exact load_faults (fun x => (BitVec.ofNat 32 x).signExtend 64) hissues hbad
  · exact load_faults w64 hissues hbad
  · exact load_faults w64 hissues hbad
  · exact load_faults w64 hissues hbad
  · exact load_faults w64 hissues hbad
  · exact store_faults hissues hbad
  · exact store_faults hissues hbad
  · exact store_faults hissues hbad
  · exact store_faults hissues hbad

end Sys2Proof.Machine
end

section
/-! PROOFS. The Apron where it is clean, scalar loads and stores, and the fault registers (R94, R113, R114, R136, R141, R142, R229, R233). -/

namespace Sys2Proof.Machine

open Sys2Proof.Safety

/-- A listed key reads as listed, and is no default. -/
theorem mget_of_mem {α : Type} {d : α} [DecidableEq α] {m : SMap α} {lo : Nat} (h : mwfFrom d lo m = true) {e : Nat × α} (he : e ∈ m) :
    mget d m e.1 = e.2 ∧ e.2 ≠ d ∧ lo ≤ e.1 := by
  induction m generalizing lo with
  | nil => cases he
  | cons x t ih =>
    obtain ⟨j, v⟩ := x
    simp only [mwfFrom, Bool.and_eq_true, decide_eq_true_eq] at h
    obtain ⟨⟨hlo, hv⟩, ht⟩ := h
    rcases List.mem_cons.mp he with rfl | he
    · exact ⟨if_pos rfl, hv, hlo⟩
    · obtain ⟨hget, hne, hge⟩ := ih ht he
      exact ⟨(if_neg (by show ¬ j = _; omega)).trans hget, hne, by omega⟩

section
variable {m : SMap (BitVec 2)} {w k : Nat}

/-- No error is listed in a clean run. -/
theorem ecc_outside_of_clean (hwf : mwf 0 m = true) (hclean : ∀ x, w ≤ x → x < w + k → mget 0 m x = 0) {e : Nat × BitVec 2} (he : e ∈ m) :
    ¬ (w ≤ e.1 ∧ e.1 < w + k) := by
  rintro ⟨hlo, hhi⟩
  obtain ⟨hget, hne, -⟩ := mget_of_mem hwf he
  exact hne (hget.symm.trans (hclean _ hlo hhi))

/-- Scanning clean units finds no error and changes none. -/
theorem eccScan_of_clean (hwf : mwf 0 m = true) (hclean : ∀ x, w ≤ x → x < w + k → mget 0 m x = 0) : eccScan m w k = ⟨m, 0, [], []⟩ := by
  have hhere : ∀ e ∈ m, decide (w ≤ e.1 ∧ e.1 < w + k) = false := fun e he => decide_eq_false (ecc_outside_of_clean hwf hclean he)
  have hmet : m.filter (fun e => decide (w ≤ e.1 ∧ e.1 < w + k)) = [] :=
    List.filter_eq_nil_iff.mpr fun e he => Bool.eq_false_iff.mp (hhere e he)
  have hkept : m.filter (fun e => !(decide (w ≤ e.1 ∧ e.1 < w + k) && decide (e.2 = eccCe))) = m :=
    List.filter_eq_self.mpr fun e he => by rw [hhere e he]; rfl
  have hsame : m.map (fun e => if decide (w ≤ e.1 ∧ e.1 < w + k) && decide (e.2 = eccUe) then (e.1, eccBad) else e) = m :=
    (List.map_congr_left fun e he => by rw [hhere e he]; rfl).trans (List.map_id m)
  unfold eccScan
  simp only [hmet, hkept]
  rw [hsame]
  rfl

/-- Clean units stay as they are when made clean. -/
theorem eccClear_of_clean (hwf : mwf 0 m = true) (hclean : ∀ x, w ≤ x → x < w + k → mget 0 m x = 0) : eccClear m w k = m := by
  refine List.filter_eq_self.mpr fun e he => decide_eq_true ?_
  have := ecc_outside_of_clean hwf hclean he
  omega

end

/-- A run of bytes written reads back; every other byte reads as before. -/
theorem mget_writePairs_run (m : SMap Byte) (a : Nat) (bs : List Byte) (hwf : mwf 0 m = true) (j : Nat) :
    mget 0 (writePairs m (goodBytes 8 [] a bs)) j = if a ≤ j ∧ j < a + bs.length then bs.getD (j - a) 0 else mget 0 m j := by
  induction bs generalizing a m with
  | nil => rw [if_neg (by simp only [List.length_nil]; omega)]; rfl
  | cons b t ih =>
    show mget 0 (writePairs (mset 0 m a b) (goodBytes 8 [] (a + 1) t)) j = _
    rw [ih _ _ (mset_wf hwf), List.length_cons]
    by_cases hj : j = a
    · rw [if_neg (by omega), if_pos (by omega), hj, mget_mset_same _ _ hwf, Nat.sub_self, List.getD_cons_zero]
    · rw [mget_mset_ne _ _ hj]
      by_cases hin : a + 1 ≤ j ∧ j < a + 1 + t.length
      · rw [if_pos hin, if_pos (by omega), show j - a = (j - (a + 1)) + 1 by omega, List.getD_cons_succ]
      · rw [if_neg hin, if_neg (by omega)]

theorem leBytes_length (n x : Nat) : (leBytes n x).length = n := by
  induction n generalizing x with
  | zero => rfl
  | succ n ih => rw [leBytes, List.length_cons, ih]

theorem leBytes_getD {n k : Nat} (x : Nat) (h : k < n) : (leBytes n x).getD k 0 = BitVec.ofNat 8 (x / 256 ^ k) := by
  induction n generalizing k x with
  | zero => omega
  | succ n ih =>
    rw [leBytes]
    cases k with
    | zero => rw [List.getD_cons_zero, Nat.pow_zero, Nat.div_one]
    | succ k => rw [List.getD_cons_succ, ih _ (by omega), Nat.div_div_eq_div_mul, Nat.pow_succ']

theorem State.countApron_of_clean (s : State) (n src : Nat) (m : SMap (BitVec 2)) : s.countApron n src ⟨m, 0, [], []⟩ = s := rfl

section
variable {s : State} {n a len : Nat}

/-- The units a run touches are clean. -/
theorem units_of_cleanApron {t : Stage} (h : CleanApron t a len) (hlen : 0 < len) :
    ∀ x, (unitsOf 8 a len).1 ≤ x → x < (unitsOf 8 a len).1 + (unitsOf 8 a len).2 → mget 0 t.ap.ecc x = 0 := by
  intro x hlo hhi
  rw [unitsOf, if_neg (by omega)] at hlo hhi
  simp only at hlo hhi
  exact h x hlo (by omega)

theorem whole_of_cleanApron {t : Stage} (h : CleanApron t a len) :
    ∀ x, (wholeOf 8 a len).1 ≤ x → x < (wholeOf 8 a len).1 + (wholeOf 8 a len).2 → mget 0 t.ap.ecc x = 0 := by
  intro x hlo hhi
  unfold wholeOf cdiv at hlo hhi
  simp only at hlo hhi
  exact h x (by omega) (by omega)

/-- A read of clean bytes gives them and changes nothing. -/
theorem State.apRead_of_clean (hwf : mwf Stage.idle s.stages = true) (hecc : mwf 0 (s.stage n).ap.ecc = true)
    (hclean : CleanApron (s.stage n) a len) (hlen : 0 < len) (src : Nat) :
    s.apRead n a len src = (mgetRun 0 (s.stage n).ap.bytes a len, false, s) := by
  unfold State.apRead
  simp only [eccScan_of_clean hecc (units_of_cleanApron hclean hlen), State.countApron_of_clean]
  have hsame : s.setStage n { s.stage n with ap := { (s.stage n).ap with
      ecc := (s.stage n).ap.ecc, met := if src = 5 then (s.stage n).ap.met else (none : Option Nat).or (s.stage n).ap.met } } = s := by
    rw [Option.none_or, ite_self]
    exact State.setStage_self n hwf
  exact congrArg (fun t => (_, _, t)) hsame

/-- A Stage with a run of its Apron written. -/
def Stage.stores (x : Stage) (a : Nat) (bs : List Byte) : Stage :=
  { x with ap := { x.ap with bytes := writePairs x.ap.bytes (goodBytes 8 [] a bs) } }

/-- A write of clean bytes changes them alone. -/
theorem State.apWrite_of_clean {bs : List Byte} (hecc : mwf 0 (s.stage n).ap.ecc = true) (hclean : CleanApron (s.stage n) a bs.length)
    (hlen : 0 < bs.length) (src : Nat) : s.apWrite n a src bs = s.modStage n (fun x => x.stores a bs) := by
  unfold State.apWrite protWrite
  simp only [eccClear_of_clean hecc (whole_of_cleanApron hclean), eccScan_of_clean hecc (units_of_cleanApron hclean hlen), State.countApron_of_clean]
  rfl

end

section
variable {s : State} {p : Iss} {i : Inst} {rd ra : BitVec 5} {off : W32} {len : Nat}

theorem access_of_reaches (h : Reaches s p.stage i (accessAddr s p.stage ra off) len) :
    (effAddr (s.stage p.stage).prm ra off).toNat % len = 0 ∧ i.inData (effAddr (s.stage p.stage).prm ra off) len = true :=
  ⟨h.aligned, decide_eq_true h.inside⟩

theorem started_ap (hcanon : Canon s) (op : Nat) : ((started s p 3 op).stage p.stage).ap = (s.stage p.stage).ap := by
  rw [started_stage p 3 op hcanon.2.1]

/-- The Apron at the start of an instruction is that of the Stage. -/
theorem cleanApron_started {a : Nat} (hcanon : Canon s) (op : Nat) (h : CleanApron (s.stage p.stage) a len) :
    CleanApron ((started s p 3 op).stage p.stage) a len := fun w hlo hhi => by
  rw [started_ap hcanon]
  exact h w hlo hhi

/-- A load that reaches its bytes puts them into RD (R113, R114). -/
theorem load_writes (op : Nat) (ext : Nat → W64) (hcanon : Canon s) (hissues : Issues s p i [rd, ra]) (hseq : SeqIn s p.stage i)
    (hreach : Reaches s p.stage i (accessAddr s p.stage ra off) len) (hlen : 0 < len) :
    WritesReg s p.stage rd (ext (apNumber s p.stage (i.dataBase + (accessAddr s p.stage ra off).toNat) len)) (load p op len rd ra off ext s) := by
  refine issue_writesReg hcanon hissues hseq ?_
  obtain ⟨-, -, hecc, -⟩ := hcanon.2.2 p.stage
  have hread := State.apRead_of_clean (s := started s p 3 op) (n := p.stage) (started_wf p 3 op hcanon.2.1)
    (by rw [started_ap hcanon]; exact hecc) (cleanApron_started hcanon op hreach.clean) hlen 1
  rw [started_ap hcanon, mgetRun_eq_map] at hread
  simp only [if_pos (access_of_reaches hreach)]
  exact congrArg (fun r : List Byte × Bool × State => if r.2.1 then Did.fault r.2.2 Cause.poison 0
    else .seq (r.2.2.setReg p.stage rd (ext (ofLe r.1)))) hread

/-- A store that reaches its bytes writes them and no other (R113). -/
theorem store_writes (op : Nat) (hcanon : Canon s) (hissues : Issues s p i [rd, ra]) (hseq : SeqIn s p.stage i)
    (hreach : Reaches s p.stage i (accessAddr s p.stage ra off) len) (hlen : 0 < len) :
    StoresAt s p.stage (i.dataBase + (accessAddr s p.stage ra off).toNat) len ((s.stage p.stage).prm.reg rd) (store p op len rd ra off s) := by
  obtain ⟨-, hbytes, hecc, -⟩ := hcanon.2.2 p.stage
  have hwrite := State.apWrite_of_clean (s := started s p 3 op) (n := p.stage) (bs := leBytes len ((s.stage p.stage).prm.reg rd).toNat)
    (by rw [started_ap hcanon]; exact hecc) (by rw [leBytes_length]; exact cleanApron_started hcanon op hreach.clean)
    (by rw [leBytes_length]; exact hlen) 1
  have hleaves := (leaves_started p 3 op hcanon).modStage
    (fun x => x.stores (i.dataBase + (accessAddr s p.stage ra off).toNat) (leBytes len ((s.stage p.stage).prm.reg rd).toNat))
  have hstep : ∃ t, store p op len rd ra off s = .next t ∧ Leaves s t p.stage _ :=
    issue_seq hissues hseq ((if_pos (access_of_reaches hreach)).trans (congrArg Did.seq hwrite)) hleaves rfl rfl
  obtain ⟨t, ht, hleaves⟩ := hstep
  have hread : ∀ b, apByte t p.stage b = if i.dataBase + (accessAddr s p.stage ra off).toNat ≤ b
      ∧ b < i.dataBase + (accessAddr s p.stage ra off).toNat + (leBytes len ((s.stage p.stage).prm.reg rd).toNat).length then
      (leBytes len ((s.stage p.stage).prm.reg rd).toNat).getD (b - (i.dataBase + (accessAddr s p.stage ra off).toNat)) 0
      else apByte s p.stage b := fun b => by
    rw [apByte, hleaves.stage]
    exact mget_writePairs_run _ _ _ hbytes b
  rw [leBytes_length] at hread
  refine ⟨t, ht, fun k hk => ?_, fun b hb => ?_, hleaves.fileKept rfl rfl, hleaves.flowsOn, hleaves.outside, hleaves.free, ?_⟩
  · rw [hread, if_pos (by omega), Nat.add_sub_cancel_left, leBytes_getD _ hk]
  · rw [hread, if_neg (by omega)]
  · rw [hleaves.stage]
    rfl

end

/-- Settles O8: every load is `load` with its length and extension, and reads clean bytes as they are. -/
theorem loadsReadTheDataRegion : Obligations.LoadsReadTheDataRegion := by
  intro p i rd ra off s hcanon hissues hseq a x w
  have loads : ∀ op {len} ext, Reaches s p.stage i a len → 0 < len → w (ext (x len)) (load p op len rd ra off ext s) :=
    fun op _ ext => load_writes op ext hcanon hissues hseq
  exact ⟨fun h => ⟨loads 0 (fun x => (BitVec.ofNat 8 x).signExtend 64) h (by decide), loads 4 w64 h (by decide)⟩,
    fun h => ⟨loads 1 (fun x => (BitVec.ofNat 16 x).signExtend 64) h (by decide), loads 5 w64 h (by decide)⟩,
    fun h => ⟨loads 2 (fun x => (BitVec.ofNat 32 x).signExtend 64) h (by decide), loads 6 w64 h (by decide)⟩,
    fun h => loads 3 w64 h (by decide)⟩

/-- Settles O9: every store is `store` with its length. -/
theorem storesWriteTheirBytesOnly : Obligations.StoresWriteTheirBytesOnly := by
  intro p i rd ra off s hcanon hissues hseq a v w
  have stores : ∀ op {len}, Reaches s p.stage i a len → 0 < len → w len (store p op len rd ra off s) :=
    fun op _ => store_writes op hcanon hissues hseq
  exact ⟨fun h => stores 8 h (by decide), fun h => stores 9 h (by decide), fun h => stores 10 h (by decide), fun h => stores 11 h (by decide)⟩

theorem State.wr_fld_same {s : State} (r : Reg) (i : Nat) (v : W64) (hi lo : Nat) (h : mwf 0 s.regs = true) :
    (s.wr r i v).fld r i hi lo = bitsOf v hi lo := by
  rw [State.fld, State.wr_rd_same r i v h]

/-- The word of STG_FAULT as a fault fills it (R141). -/
def faultWord (code cls op ctx lead overflow : Nat) : Nat :=
  code + cls * 2 ^ 8 + op * 2 ^ 12 + ctx * 2 ^ 20 + lead + 2 ^ 25 + overflow * 2 ^ 26

/-- The fields of that word are what it is put together from. -/
theorem bitsOf_faultWord {code cls op ctx overflow : Nat} (lead : Bool) (hcode : code < 256) (hcls : cls < 16) (hop : op < 256) (hctx : ctx < 16)
    (hover : overflow < 2) :
    let v := w64 (faultWord code cls op ctx (if lead then 2 ^ 24 else 0) overflow)
    bitsOf v 7 0 = code ∧ bitsOf v 11 8 = cls ∧ bitsOf v 19 12 = op ∧ bitsOf v 23 20 = ctx ∧ bitsOf v 24 24 = (if lead then 1 else 0)
      ∧ bitsOf v 25 25 = 1 ∧ bitsOf v 26 26 = overflow := by
  intro v
  have hlead : ∃ l, l < 2 ∧ (if lead then 2 ^ 24 else 0) = l * 2 ^ 24 ∧ (if lead then 1 else 0) = l := by
    cases lead
    · exact ⟨0, by decide, rfl, rfl⟩
    · exact ⟨1, by decide, rfl, rfl⟩
  obtain ⟨l, hl, hword, hbit⟩ := hlead
  have hv : v.toNat = faultWord code cls op ctx (l * 2 ^ 24) overflow := by
    show (BitVec.ofNat 64 _).toNat = _
    rw [BitVec.toNat_ofNat, hword]
    unfold faultWord
    omega
  unfold faultWord at hv
  rw [hbit]
  unfold bitsOf
  rw [hv]
  refine ⟨?_, ?_, ?_, ?_, ?_, ?_, ?_⟩ <;> omega

theorem Cause.code_lt (c : Cause) : c.code < 256 := by
  cases c <;> decide

theorem faultPc_ne (n : Nat) : Reg.off .stgFaultPc n ≠ Reg.off .stgFault n ∧ Reg.off .stgFaultInfo n ≠ Reg.off .stgFault n
    ∧ Reg.off .stgFaultInfo n ≠ Reg.off .stgFaultPc n := by
  simp only [Reg.off, Reg.desc]
  omega

section
variable {s : State} {n : Nat} {i : Inst} {f : KFault}

/-- A fault while VALID is clear (R141, R142). -/
theorem State.recordFault_of_clear (h : s.fld .stgFault n 25 25 = 0) :
    s.recordFault n i f = ((s.wr .stgFault n (w64 (faultWord f.cause.code f.org.cls f.org.op i.ctx (if i.lead then 2 ^ 24 else 0)
      (s.fld .stgFault n 26 26)))).wr .stgFaultPc n (w64 (f.org.pc % 2 ^ 23))).wr .stgFaultInfo n f.info := by
  unfold State.recordFault
  rw [if_neg (by omega)]
  rfl

theorem State.recordFault_of_valid (h : s.fld .stgFault n 25 25 = 1) : s.recordFault n i f = s.setFld .stgFault n 26 26 1 :=
  if_pos h

end

/-- Settles O11: the fault registers are written once, and OVERFLOW alone after that. -/
theorem firstFaultIsKept : Obligations.FirstFaultIsKept := by
  intro n i f s hcanon hn hctx hcls hop t
  obtain ⟨hpc, hinfo, hinfoPc⟩ := faultPc_ne n
  refine ⟨fun hclear => ?_, fun hvalid => ?_, fun off hoff hoffPc hoffInfo => ?_, ?_⟩
  · have ht : t = _ := State.recordFault_of_clear hclear
    have hfault : ∀ hi lo, t.fld .stgFault n hi lo = bitsOf (w64 (faultWord f.cause.code f.org.cls f.org.op i.ctx (if i.lead then 2 ^ 24 else 0)
        (s.fld .stgFault n 26 26))) hi lo := fun hi lo => by
      rw [ht, State.fld, State.wr_rd_ne _ _ _ hinfo.symm, State.wr_rd_ne _ _ _ hpc.symm, State.wr_rd_same _ _ _ hcanon.1]
    obtain ⟨hcode, hc, ho, hx, hl, hv, hover⟩ := bitsOf_faultWord i.lead f.cause.code_lt hcls hop hctx
      (show s.fld .stgFault n 26 26 < 2 from Nat.mod_lt _ (by decide))
    refine ⟨(hfault 7 0).trans hcode, (hfault 11 8).trans hc, (hfault 19 12).trans ho, (hfault 23 20).trans hx, (hfault 24 24).trans hl,
      (hfault 25 25).trans hv, (hfault 26 26).trans hover, ?_, ?_⟩
    · rw [ht, State.wr_rd_ne _ _ _ hinfoPc.symm, State.wr_rd_same _ _ _ (State.wr_wf _ _ _ hcanon.1)]
    · rw [ht, State.wr_rd_same _ _ _ (State.wr_wf _ _ _ (State.wr_wf _ _ _ hcanon.1))]
  · have ht : t = _ := State.recordFault_of_valid hvalid
    refine ⟨fun k _ => ?_, ?_, ?_⟩
    · rw [ht, State.setFld, State.wr_rd_same _ _ _ hcanon.1]
      exact getLsbD_setBits_bit _ (by decide) true k
    · rw [ht, State.setFld, State.wr_rd_ne _ _ _ hpc]
    · rw [ht, State.setFld, State.wr_rd_ne _ _ _ hinfo]
  · show mget 0 (s.recordFault n i f).regs off = _
    unfold State.recordFault
    split
    · exact State.wr_regs_ne _ _ _ _ hoff
    · rw [State.wr_regs_ne _ _ _ _ hoffInfo, State.wr_regs_ne _ _ _ _ hoffPc, State.wr_regs_ne _ _ _ _ hoff]
  · show { s.recordFault n i f with regs := s.regs } = s
    unfold State.recordFault
    split <;> rfl

end Sys2Proof.Machine
end

section
/-! PROOFS. Class 0xA: semaphores, remote signals, waits and the Stage's Bells (R131-R135, R491). -/

namespace Sys2Proof.Machine

open Sys2Proof.Safety

/-- The outcome of an instruction of Stage `n` that sets semaphore `k` to `v` and does nothing else. -/
def SetsSem (s : State) (n k : Nat) (v : BitVec 16) (o : Host.Outcome State Fault Refusal) : Prop :=
  ∃ t, o = .next t ∧ (t.stage n).sem k = v ∧ (∀ j, j ≠ k → (t.stage n).sem j = (s.stage n).sem j) ∧ FileKept s t n ∧ FlowsOn s t n
    ∧ Outside s t n ∧ t.freeCtr = s.freeCtr
    ∧ t.stage n = { s.stage n with prm := (t.stage n).prm, sh := { (s.stage n).sh with sems := (t.stage n).sh.sems } }

section
variable {s u : State} {p : Iss} {i : Inst} {uses : List (BitVec 5)} {cls op : Nat} {body : State → Stage → Inst → Did}

/-- What sequential flow leaves, exactly. -/
theorem issue_seq_eq (hissues : Issues s p i uses) (hseq : SeqIn s p.stage i) (hbody : body (started s p cls op) (s.stage p.stage) i = .seq u)
    (hwf : mwf Stage.idle u.stages = true) (hinst : (u.stage p.stage).inst = (s.stage p.stage).inst)
    (hloops : (u.stage p.stage).prm.loops = (s.stage p.stage).prm.loops) :
    issue p cls op false uses body s = .next (u.setPc p.stage (nextPc (s.stage p.stage).prm.pc (s.stage p.stage).prm.loops).1
      (nextPc (s.stage p.stage).prm.pc (s.stage p.stage).prm.loops).2) := by
  rw [issue_of_issues hissues, hbody, ← hloops]
  exact congrArg Host.Outcome.next
    (State.goSeq_of_fetchable cls op hwf (hinst.trans hissues.held) (by rw [hloops]; exact hseq))

/-- An instruction that begins a wait, whatever else of the device its body changes: what its Stage then is. -/
theorem issue_wait_stage {w : PrmWait} (hcanon : Canon s) (hissues : Issues s p i uses)
    (hbody : body (started s p cls op) (s.stage p.stage) i = .wait u w) (hu : u.stages = (started s p cls op).stages) :
    ∃ t, issue p cls op false uses body s = .next t ∧ t.stage p.stage = { s.stage p.stage with
      prm := { (((s.stage p.stage).issued cls op).goes (nextPc (s.stage p.stage).prm.pc (s.stage p.stage).prm.loops)).prm with wait := w } } := by
  have hwf : mwf Stage.idle u.stages = true := hu ▸ started_wf p cls op hcanon.2.1
  have hstage : u.stage p.stage = (s.stage p.stage).issued cls op :=
    (congrArg (fun m => mget Stage.idle m p.stage) hu).trans (started_stage p cls op hcanon.2.1)
  rw [issue_of_issues hissues, hbody]
  refine ⟨_, rfl, ?_⟩
  rw [State.modStage_stage _ _ _ (s := u.setPc p.stage _ _) (mset_wf hwf), if_pos rfl, State.setPc_stage _ _ _ hwf, if_pos rfl, hstage]
  rfl

/-- An instruction that writes one predicate with a value its body gives. -/
theorem issue_writesPred {pd : BitVec 3} {b : Bool} (hcanon : Canon s) (hissues : Issues s p i uses) (hseq : SeqIn s p.stage i)
    (hbody : body (started s p cls op) (s.stage p.stage) i = .seq ((started s p cls op).setPred p.stage pd b)) :
    WritesPred s p.stage pd b (issue p cls op false uses body s) := by
  obtain ⟨t, ht, hleaves⟩ := issue_seq hissues hseq hbody ((leaves_started p cls op hcanon).modStage _) rfl rfl
  refine ⟨t, ht, predIs_of_stage hleaves.stage rfl, fun r => ?_, hleaves.flowsOn, hleaves.prompterOnly rfl, hleaves.free⟩
  rw [hleaves.stage]
  rfl

theorem issue_setsSem {k : Nat} {v : BitVec 16} (hcanon : Canon s) (hissues : Issues s p i uses) (hseq : SeqIn s p.stage i)
    (hbody : body (started s p cls op) (s.stage p.stage) i = .seq ((started s p cls op).setSem p.stage k v)) :
    SetsSem s p.stage k v (issue p cls op false uses body s) := by
  obtain ⟨t, ht, hleaves⟩ := issue_seq hissues hseq hbody ((leaves_started p cls op hcanon).modStage _) rfl rfl
  obtain ⟨-, -, -, hsems⟩ := hcanon.2.2 p.stage
  refine ⟨t, ht, ?_, fun j hj => ?_, hleaves.fileKept rfl rfl, hleaves.flowsOn, hleaves.outside, hleaves.free, ?_⟩
  · rw [hleaves.stage]
    exact mget_mset_same _ _ hsems
  · rw [hleaves.stage]
    exact mget_mset_ne _ _ hj
  · rw [hleaves.stage]
    rfl

end

/-- Settles O12: SEMSET, SEMSIG and a satisfied SEMWAIT set their semaphore, SEMRD writes a register, and past the limit is a fault. -/
theorem semaphores : Obligations.Semaphores := by
  constructor
  · intro p i rd sem val s hcanon hseq x w
    refine ⟨fun hissues => ⟨(issue_setsSem hcanon hissues hseq rfl : SetsSem s p.stage sem.toNat val (execSemset p sem val s)), fun ra hfits => ?_, fun hle => ?_, fun hlt => ?_⟩, fun hissues => ?_⟩
    · have hadd : BitVec.ofNat 16 (x.toNat + val.toNat) = x + val := by rw [BitVec.ofNat_add, BitVec.ofNat_toNat, BitVec.ofNat_toNat]; simp
      rw [← hadd]
      exact (issue_setsSem hcanon hissues hseq (if_pos (decide_eq_true hfits)) :
        SetsSem s p.stage sem.toNat _ (execSemsig p sem ra val false s))
    · exact (issue_setsSem hcanon hissues hseq (if_pos hle) : SetsSem s p.stage sem.toNat (x - val) (execSemwait p sem val s))
    · obtain ⟨t, ht, hstage⟩ := issue_wait_stage (p := p) (cls := 0xA) (op := 1)
        (body := fun s t _ => if val ≤ t.sem sem.toNat then .seq (s.setSem p.stage sem.toNat (t.sem sem.toNat - val))
          else .wait (s.stall .stgPrmStallSync p.stage) (.sem sem.toNat val.toNat))
        hcanon hissues (if_neg (BitVec.not_le.mpr hlt)) rfl
      exact ⟨t, ht, by rw [hstage], by rw [hstage], fileKept_of_stage hstage rfl rfl⟩
    · exact (issue_writesReg hcanon hissues hseq rfl : WritesReg s p.stage rd (x.setWidth 64) (execSemrd p sem rd s))
  · intro p i ra sem val s f
    refine ⟨fun hissues hfull => ?_, fun hissues hcount => ?_⟩
    · show execSemsig p sem ra val false s = _
      exact issue_fault (uses := []) hissues (if_neg fun h => absurd (of_decide_eq_true h) (Nat.not_le.mpr hfull))
    · show execSemsig p sem ra val true s = _
      exact issue_fault (uses := [ra]) hissues (if_neg (Nat.not_lt.mpr hcount))

section
variable {α : Type} [DecidableEq α] {d : α}

/-- The first key whose value satisfies `P` does not move where a value is replaced by one that `P` takes alike. -/
theorem find?_mset_of_same {m : SMap α} {lo k : Nat} {v : α} {P : α → Bool} (h : mwfFrom d lo m = true) (hd : P d = false)
    (hsame : P v = P (mget d m k)) :
    ((mset d m k v).find? (fun e => P e.2)).map (fun e => e.1) = (m.find? (fun e => P e.2)).map (fun e => e.1) := by
  induction m generalizing lo with
  | nil =>
    have hv : P v = false := hsame.trans hd
    unfold mset
    split
    · rfl
    · rw [List.find?_cons_of_neg (by simp [hv])]
  | cons e t ih =>
    obtain ⟨j, w⟩ := e
    simp only [mwfFrom, Bool.and_eq_true, decide_eq_true_eq] at h
    rw [mget] at hsame
    unfold mset
    by_cases hlt : k < j
    · rw [if_neg (by omega), mget_of_lt h.2 (by omega), hd] at hsame
      rw [if_pos hlt]
      split
      · rfl
      · rw [List.find?_cons_of_neg (by simp [hsame])]
    · rw [if_neg hlt]
      by_cases heq : k = j
      · subst heq
        rw [if_pos rfl] at hsame
        rw [if_pos rfl]
        split
        · next hv =>
          rw [hv, hd] at hsame
          rw [List.find?_cons_of_neg (by simp [← hsame])]
        · cases hw : P w
          · rw [List.find?_cons_of_neg (by simp [hsame, hw]), List.find?_cons_of_neg (by simp [hw])]
          · rw [List.find?_cons_of_pos (by simp [hsame, hw]), List.find?_cons_of_pos (by simp [hw])]
            rfl
      · rw [if_neg (Ne.symm heq)] at hsame
        rw [if_neg heq]
        cases hw : P w
        · rw [List.find?_cons_of_neg (by simp [hw]), List.find?_cons_of_neg (by simp [hw])]
          exact ih h.2 hsame
        · rw [List.find?_cons_of_pos (by simp [hw]), List.find?_cons_of_pos (by simp [hw])]

end

/-- Whether a Stage runs this kernel of this launch. -/
def Stage.runs (launch index : Nat) (x : Stage) : Bool :=
  match x.inst with
  | some i => decide (i.launch = launch ∧ i.index = index)
  | none => false

theorem State.instStage_eq (s : State) (launch index : Nat) :
    s.instStage launch index = (s.stages.find? (fun e => Stage.runs launch index e.2)).map (fun e => e.1) := rfl

/-- Which Stage runs a kernel does not change with what a Stage holds beside its kernel. -/
theorem State.instStage_modStage {s : State} (n : Nat) {f : Stage → Stage} (hwf : mwf Stage.idle s.stages = true)
    (hf : (f (s.stage n)).inst = (s.stage n).inst) (launch index : Nat) :
    (s.modStage n f).instStage launch index = s.instStage launch index := by
  rw [State.instStage_eq, State.instStage_eq]
  refine find?_mset_of_same hwf rfl ?_
  unfold Stage.runs
  rw [hf]
  rfl

section
variable {s : State} {n : Nat} {r : RemSig} {rest : List RemSig}

/-- A Stage whose oldest remote signal has left. -/
def Stage.signalled (x : Stage) : Stage := { x with sh := { x.sh with remote := dropAt x.sh.remote 0 } }

/-- The oldest remote signal goes to the Stage that runs its target (R133). -/
theorem execRemoteSemsig_of_cons (hcanon : Canon s) (hn : n < 144) (hremote : (s.stage n).sh.remote = r :: rest) :
    execRemoteSemsig n 0 s = .next (match s.instStage r.launch r.inst with
      | none => s.modStage n Stage.signalled
      | some m => (s.modStage n Stage.signalled).semAdd m r.sem r.n ((s.modStage n Stage.signalled).stage m).prm.org) := by
  have hsame := State.instStage_modStage (f := Stage.signalled) n hcanon.2.1 rfl r.launch r.inst
  unfold execRemoteSemsig
  rw [if_pos hn]
  simp only [hremote, List.getElem?_cons_zero, List.take_zero, List.any_nil, Bool.false_eq_true, if_false]
  rw [← hsame]
  cases hfound : (s.modStage n Stage.signalled).instStage r.launch r.inst with
  | none =>
    have hfound' : (s.modStage n (fun t => { t with sh := { t.sh with remote := dropAt t.sh.remote 0 } })).instStage r.launch r.inst = none := hfound
    simp only [hfound']
    rfl
  | some m =>
    have hfound' : (s.modStage n (fun t => { t with sh := { t.sh with remote := dropAt t.sh.remote 0 } })).instStage r.launch r.inst = some m := hfound
    simp only [hfound']
    rfl

theorem signalled_stage (hcanon : Canon s) (hremote : (s.stage n).sh.remote = r :: rest) :
    ((s.modStage n Stage.signalled).stage n).sh.remote = rest := by
  rw [State.modStage_stage n n _ hcanon.2.1, if_pos rfl]
  show dropAt (s.stage n).sh.remote 0 = rest
  rw [hremote]
  rfl

end

/-- Settles O13: the signal joins the list of the sender's Stage; its delivery takes it off and raises the semaphore. -/
theorem remoteSignalsTravel : Obligations.RemoteSignalsTravel := by
  intro s hcanon
  refine ⟨fun p i ra sem val hissues hseq hcount => ?_, fun n m r rest hn hremote hfound hne hfits => ?_, fun n r rest hn hremote hfound => ?_⟩
  · have hstep : ∃ t, execSemsig p sem ra val true s = .next t ∧ Leaves s t p.stage _ :=
      issue_seq (uses := [ra]) hissues hseq (if_pos hcount) ((leaves_started p 0xA 0 hcanon).modStage _) rfl rfl
    obtain ⟨t, ht, hleaves⟩ := hstep
    refine ⟨t, ht, ?_, hleaves.fileKept rfl rfl, hleaves.flowsOn, hleaves.outside⟩
    rw [hleaves.stage]
    rfl
  · have hm : (s.modStage n Stage.signalled).stage m = s.stage m := by rw [State.modStage_stage n m _ hcanon.2.1, if_neg hne]
    have hwf := State.modStage_wf n Stage.signalled hcanon.2.1
    have hadd : (s.modStage n Stage.signalled).semAdd m r.sem r.n ((s.modStage n Stage.signalled).stage m).prm.org
        = (s.modStage n Stage.signalled).setSem m r.sem (BitVec.ofNat 16 (((s.stage m).sem r.sem).toNat + r.n)) := by
      unfold State.semAdd
      rw [hm]
      exact if_pos (decide_eq_true hfits)
    have hstep := execRemoteSemsig_of_cons hcanon hn hremote
    rw [hfound] at hstep
    simp only [hadd] at hstep
    obtain ⟨-, -, -, hsems⟩ := hcanon.2.2 m
    refine ⟨_, hstep, ?_, ?_, fun k hk => ?_, fun k hkn hkm => ?_, rfl⟩
    · rw [State.setSem, State.modStage_stage _ _ _ hwf, if_neg hne.symm]
      exact signalled_stage hcanon hremote
    · rw [State.setSem, State.modStage_stage _ _ _ hwf, if_pos rfl, hm]
      exact mget_mset_same _ _ hsems
    · rw [State.setSem, State.modStage_stage _ _ _ hwf, if_pos rfl, hm]
      exact mget_mset_ne _ _ hk
    · rw [State.setSem, State.modStage_stage _ _ _ hwf, if_neg hkm, State.modStage_stage _ _ _ hcanon.2.1, if_neg hkn]
  · have hstep := execRemoteSemsig_of_cons hcanon hn hremote
    rw [hfound] at hstep
    refine ⟨_, hstep, signalled_stage hcanon hremote, fun k hk => ?_, rfl⟩
    rw [State.modStage_stage _ _ _ hcanon.2.1, if_neg hk]

/-- A wait that ends where the next instruction can be fetched (R110). -/
theorem State.endWait_of_fetchable {s : State} {n : Nat} {i : Inst} (hwf : mwf Stage.idle s.stages = true) (hinst : (s.stage n).inst = some i)
    (hfetch : Fetchable i (w64 (s.stage n).prm.pc)) : s.endWait n = s.modStage n (fun t => { t with prm := { t.prm with wait := .run } }) := by
  unfold State.endWait
  exact State.fetchAt_of_fetchable (by rw [State.modStage_stage _ _ _ hwf, if_pos rfl]; exact hinst) hfetch _ _ _

theorem State.stall_regs_ne (s : State) (r : Reg) (i : Nat) {off : Nat} (h : off ≠ r.off i) : mget 0 (s.stall r i).regs off = mget 0 s.regs off :=
  State.wr_regs_ne s.free.2 r i _ h

section
variable {s : State} {n : Nat} {i : Inst}

theorem execSemwaitSatisfy_of_enough {k v : Nat} (hn : n < 144) (hinst : (s.stage n).inst = some i) (hwait : (s.stage n).prm.wait = .sem k v)
    (henough : v ≤ ((s.stage n).sem k).toNat) : execSemwaitSatisfy n s
      = .next (((s.stall .stgPrmStallSync n).setSem n k (BitVec.ofNat 16 (((s.stage n).sem k).toNat - v))).endWait n) := by
  unfold execSemwaitSatisfy
  rw [if_pos hn]
  simp only [hinst, hwait, if_pos henough]

theorem execFenceSatisfy_of_ok {mask : BitVec 6} (hn : n < 144) (hinst : (s.stage n).inst = some i) (hwait : (s.stage n).prm.wait = .fence mask)
    (hok : (s.stage n).fenceOk mask = true) : execFenceSatisfy n s = .next ((s.stall .stgPrmStallSync n).endWait n) := by
  unfold execFenceSatisfy
  rw [if_pos hn]
  simp only [hinst, hwait, if_pos hok]

theorem execCurtwaitResume_of_opened {rd : BitVec 5} (hn : n < 144) (hinst : (s.stage n).inst = some i)
    (hwait : (s.stage n).prm.wait = .curtain rd) (hopened : i.step < s.sched.step) :
    execCurtwaitResume n s = .next ((s.setReg n rd (w64 s.sched.step)).endWait n) := by
  unfold execCurtwaitResume
  rw [if_pos hn]
  simp only [hinst, hwait, if_pos hopened]

/-- The wait limit of SEMWAIT and FENCE, by whether what they wait for has come (R135). -/
theorem execSyncWaitLimit_eq (hn : n < 144) : execSyncWaitLimit n s = .next (if (s.stage n).syncUnmet then
    (s.stall .stgPrmStallSync n).kernelFault n ⟨.waitLimit, (s.stage n).prm.org, 0, none⟩ else s) := by
  unfold execSyncWaitLimit
  rw [if_pos hn]
  split
  · next h => rw [if_pos h]
  · next h => rw [if_neg h]

theorem Stage.syncUnmet_of_sem {x : Stage} {k v : Nat} (h : x.prm.wait = .sem k v) : x.syncUnmet = decide ((x.sem k).toNat < v) := by
  unfold Stage.syncUnmet
  rw [h]

theorem Stage.syncUnmet_of_fence {x : Stage} {mask : BitVec 6} (h : x.prm.wait = .fence mask) : x.syncUnmet = !x.fenceOk mask := by
  unfold Stage.syncUnmet
  rw [h]

end

/-- Settles O14: a wait begins with the instruction's own kind of wait, and ends where what it waits for has come. -/
theorem waitsBeginAndEnd : Obligations.WaitsBeginAndEnd := by
  intro s hcanon
  refine ⟨fun p i mask hissues hseq => ⟨fun hok => ?_, fun hno => ?_⟩, fun p i rd hissues => ⟨fun hlead => ?_, fun hlead => ?_⟩,
    fun n i hn hinst hfetch => ⟨fun k v hwait henough => ?_, fun mask hwait hok => ?_, fun rd hwait hopened => ?_, ?_, ?_⟩⟩
  · have hstep : ∃ t, execFence p mask s = .next t ∧ Leaves s t p.stage _ :=
      issue_seq hissues hseq (if_pos hok) (leaves_started p 0xA 8 hcanon) rfl rfl
    obtain ⟨t, ht, hleaves⟩ := hstep
    exact ⟨t, ht, hleaves.fileKept rfl rfl, hleaves.flowsOn, hleaves.prompterOnly rfl⟩
  · have hstep : ∃ t, execFence p mask s = .next t ∧ t.stage p.stage = _ :=
      issue_wait_stage hcanon hissues (if_neg (Bool.eq_false_iff.mp hno)) rfl
    obtain ⟨t, ht, hstage⟩ := hstep
    exact ⟨t, ht, by rw [hstage], fileKept_of_stage hstage rfl rfl⟩
  · have hstep : ∃ t, execCurtwait p rd s = .next t ∧ Leaves s t p.stage _ :=
      issue_wait hissues (if_pos hlead) (leaves_started p 0xA 0x10 hcanon)
    obtain ⟨t, ht, hleaves⟩ := hstep
    exact ⟨t, ht, by rw [hleaves.stage], hleaves.fileKept rfl rfl, hleaves.prompterOnly rfl⟩
  · show execCurtwait p rd s = _
    exact issue_fault hissues (if_neg (Bool.eq_false_iff.mp hlead))
  · have hwf : mwf Stage.idle ((s.stall .stgPrmStallSync n).setSem n k (BitVec.ofNat 16 (((s.stage n).sem k).toNat - v))).stages = true :=
      mset_wf hcanon.2.1
    have hstage : ((s.stall .stgPrmStallSync n).setSem n k (BitVec.ofNat 16 (((s.stage n).sem k).toNat - v))).stage n = _ :=
      mget_mset_same n _ hcanon.2.1
    obtain ⟨-, -, -, hsems⟩ := hcanon.2.2 n
    refine ⟨_, execSemwaitSatisfy_of_enough hn hinst hwait henough, ?_⟩
    rw [State.endWait_of_fetchable hwf (by rw [hstage]; exact hinst) (by rw [hstage]; exact hfetch)]
    refine ⟨?_, ?_, fun m hm => ?_, fun off hoff => State.stall_regs_ne s _ n hoff⟩
    · rw [State.modStage_stage _ _ _ hwf, if_pos rfl, hstage]
      exact mget_mset_same _ _ hsems
    · rw [State.modStage_stage _ _ _ hwf, if_pos rfl, hstage]
      rfl
    · rw [State.modStage_stage _ _ _ hwf, if_neg hm]
      exact mget_mset_ne _ _ hm
  · refine ⟨_, execFenceSatisfy_of_ok hn hinst hwait hok, ?_⟩
    rw [State.endWait_of_fetchable (s := s.stall .stgPrmStallSync n) hcanon.2.1 hinst hfetch]
    exact ⟨mget_mset_same _ _ hcanon.2.1, fun m hm => mget_mset_ne _ _ hm, fun off hoff => State.stall_regs_ne s _ n hoff⟩
  · have hwf : mwf Stage.idle (s.setReg n rd (w64 s.sched.step)).stages = true := mset_wf hcanon.2.1
    have hstage : (s.setReg n rd (w64 s.sched.step)).stage n = { s.stage n with prm := (s.stage n).prm.setReg rd (w64 s.sched.step) } :=
      mget_mset_same n _ hcanon.2.1
    refine ⟨_, execCurtwaitResume_of_opened hn hinst hwait hopened, ?_⟩
    rw [State.endWait_of_fetchable hwf (by rw [hstage]; exact hinst) (by rw [hstage, Prm.setReg_pc]; exact hfetch)]
    have hend := State.modStage_stage n n (fun t => { t with prm := { t.prm with wait := .run } }) hwf
    rw [if_pos rfl, hstage] at hend
    refine ⟨regIs_of_stage hend (hcanon.2.2 n).1 rfl, by rw [hend], ?_, fun m hm => ?_, rfl⟩
    · rw [hend]
      exact Prm.setReg_preds _ _ _
    · rw [State.modStage_stage _ _ _ hwf, if_neg hm]
      exact mget_mset_ne _ _ hm
  · intro k v mask h
    refine (execSyncWaitLimit_eq hn).trans (congrArg Host.Outcome.next (if_pos ?_))
    obtain ⟨hwait, hless⟩ | ⟨hwait, hno⟩ := h
    · rw [Stage.syncUnmet_of_sem hwait]
      exact decide_eq_true hless
    · rw [Stage.syncUnmet_of_fence hwait, hno]
      rfl
  · intro k v mask h
    refine (execSyncWaitLimit_eq hn).trans (congrArg Host.Outcome.next (if_neg (Bool.eq_false_iff.mp ?_)))
    obtain ⟨hwait, hge⟩ | ⟨hwait, hok⟩ := h
    · rw [Stage.syncUnmet_of_sem hwait]
      exact decide_eq_false (Nat.not_lt.mpr hge)
    · rw [Stage.syncUnmet_of_fence hwait, hok]
      rfl

/-- A field of one bit is that bit. -/
theorem bitsOf_bit (v : W64) (k : Nat) : bitsOf v k k = if v.getLsbD k then 1 else 0 := by
  have hbit : v.getLsbD k = decide (v.toNat / 2 ^ k % 2 = 1) := Nat.testBit_eq_decide_div_mod_eq
  rw [bitsOf, Nat.add_sub_cancel_left, Nat.pow_one, hbit]
  simp only [decide_eq_true_eq]
  split <;> omega

theorem State.setFlag_fld {s : State} (r : Reg) (i : Nat) (h : mwf 0 s.regs = true) : (s.setFlag r i).fld r (i / 64) (i % 64) (i % 64) = 1 := by
  rw [State.setFlag, State.setFld, State.wr_fld_same _ _ _ _ _ h, bitsOf_bit]
  have hbit := getLsbD_setBits_bit (s.rd r (i / 64)) (Nat.mod_lt i (by decide : 64 > 0)) true (i % 64)
  rw [if_pos (Eq.refl (i % 64))] at hbit
  exact if_pos hbit

/-- A Bell instruction flows on from `u`, which holds what it has done beside its predicate. -/
theorem issue_bell {s u : State} {p : Iss} {i : Inst} {uses : List (BitVec 5)} {cls op : Nat} {body : State → Stage → Inst → Did} {x : Stage}
    {pd : BitVec 3} {b : Bool} (hissues : Issues s p i uses) (hseq : SeqIn s p.stage i)
    (hbody : body (started s p cls op) (s.stage p.stage) i = .seq (u.setPred p.stage pd b)) (hwf : mwf Stage.idle u.stages = true)
    (hstage : u.stage p.stage = x) (hinst : x.inst = (s.stage p.stage).inst) (hloops : x.prm.loops = (s.stage p.stage).prm.loops) :
    ∃ t, issue p cls op false uses body s = .next t ∧ t.booth = u.booth ∧ t.regs = u.regs
      ∧ t.stage p.stage = Stage.goes { x with prm := x.prm.setPred pd b } (nextPc (s.stage p.stage).prm.pc (s.stage p.stage).prm.loops) := by
  have hset : (u.setPred p.stage pd b).stage p.stage = { x with prm := x.prm.setPred pd b } := by
    rw [State.setPred, State.modStage_stage _ _ _ hwf, if_pos rfl, hstage]
  have hsetwf : mwf Stage.idle (u.setPred p.stage pd b).stages = true := mset_wf hwf
  refine ⟨_, issue_seq_eq hissues hseq hbody hsetwf (by rw [hset]; exact hinst) (by rw [hset]; exact hloops), rfl, rfl, ?_⟩
  rw [State.setPc_stage _ _ _ hsetwf, if_pos rfl, hset]
  rfl

/-- What BELR leaves: RD and one predicate written. -/
theorem belr_reads {s t : State} {n op : Nat} {rd : BitVec 5} {v : W64} {pd : BitVec 3} {b : Bool} {r : Nat × List LoopEnt} (hcanon : Canon s)
    (h : t.stage n = Stage.goes { (s.stage n).issued 0xA op with
      prm := (((s.stage n).issued 0xA op).prm.setReg rd v).setPred pd b } r) : RegIs s t n rd v ∧ PredIs s t n pd b := by
  refine ⟨regIs_of_stage h (hcanon.2.2 n).1 ?_, predIs_of_stage h ?_⟩
  · show (((s.stage n).issued 0xA op).prm.setReg rd v).regs = _
    unfold Prm.setReg
    split <;> rfl
  · show ((((s.stage n).issued 0xA op).prm.setReg rd v).setPred pd b).preds = _
    unfold Prm.setPred
    rw [Prm.setReg_preds]
    rfl

theorem ring_of_clear {m : SMap Bell} {k : Nat} (w : W64) (h : (mget Bell.clear m k).full = false) : ring m k w = mset Bell.clear m k ⟨true, w⟩ :=
  if_neg (Bool.eq_false_iff.mp h)

/-- Settles O15: each Bell instruction writes its predicate beside what it does to the Bell, its flag or RD. -/
theorem prompterBells : Obligations.PrompterBells := by
  intro p i ra rd pd dir s hcanon hp2f hf2p hseq n b f
  have hwf : ∀ op, mwf Stage.idle (started s p 0xA op).stages = true := fun op => started_wf p 0xA op hcanon.2.1
  have hstage : ∀ op, (started s p 0xA op).stage n = (s.stage n).issued 0xA op := fun op => started_stage p 0xA op hcanon.2.1
  refine ⟨fun hissues => ⟨fun hempty => ?_, fun hfull => ?_⟩, fun hissues => ⟨fun hfull => ?_, fun hempty => ?_⟩, fun hissues => ?_⟩
  · have hstep : ∃ t, execBelw p ra pd s = .next t ∧ t.booth = _ ∧ t.regs = _ ∧ t.stage n = _ :=
      issue_bell hissues hseq (if_neg (Bool.eq_false_iff.mp hempty)) (hwf 0x18) (hstage 0x18) rfl rfl
    obtain ⟨t, ht, hbooth, -, hx⟩ := hstep
    have hbell : t.booth.bellP2F = mset Bell.clear s.booth.bellP2F n ⟨true, (s.stage n).prm.reg ra⟩ := by
      rw [hbooth, ← ring_of_clear _ hempty]
      rfl
    refine ⟨t, ht, ?_, fun k hk => ?_, predIs_of_stage hx rfl, flowsOn_of_stage hx⟩
    · rw [hbell, mget_mset_same _ _ hp2f]
    · rw [hbell, mget_mset_ne _ _ hk]
  · have hstep : ∃ t, execBelw p ra pd s = .next t ∧ t.booth = _ ∧ t.regs = _ ∧ t.stage n = _ :=
      issue_bell hissues hseq (if_pos hfull) (hwf 0x18) (hstage 0x18) rfl rfl
    obtain ⟨t, ht, hbooth, hregs, hx⟩ := hstep
    refine ⟨t, ht, hbooth, ?_, predIs_of_stage hx rfl, flowsOn_of_stage hx⟩
    have hflag : ((started s p 0xA 0x18).setFlag .belOvrP2f n).fld .belOvrP2f (n / 64) (n % 64) (n % 64) = 1 :=
      State.setFlag_fld _ _ (State.wr_wf _ _ _ hcanon.1)
    unfold State.fld State.rd at hflag ⊢
    rw [hregs]
    exact hflag
  · have hrd := State.modStage_stage n n (fun t => { t with prm := t.prm.setReg rd f.word }) (hwf 0x19)
    rw [if_pos rfl, hstage] at hrd
    have hstep : ∃ t, execBelr p rd pd s = .next t ∧ t.booth = _ ∧ t.regs = _ ∧ t.stage n = _ :=
      issue_bell hissues hseq (if_pos hfull) (mset_wf (hwf 0x19)) hrd rfl (Prm.setReg_loops _ _ _)
    obtain ⟨t, ht, hbooth, -, hx⟩ := hstep
    obtain ⟨hreg, hpred⟩ := belr_reads hcanon hx
    refine ⟨t, ht, ?_, hreg, hpred, flowsOn_of_stage hx⟩
    rw [hbooth]
    exact mget_mset_same _ _ hf2p
  · have hrd := State.modStage_stage n n (fun t => { t with prm := t.prm.setReg rd 0 }) (hwf 0x19)
    rw [if_pos rfl, hstage] at hrd
    have hstep : ∃ t, execBelr p rd pd s = .next t ∧ t.booth = _ ∧ t.regs = _ ∧ t.stage n = _ :=
      issue_bell hissues hseq (if_neg (Bool.eq_false_iff.mp hempty)) (mset_wf (hwf 0x19)) hrd rfl (Prm.setReg_loops _ _ _)
    obtain ⟨t, ht, hbooth, -, hx⟩ := hstep
    obtain ⟨hreg, hpred⟩ := belr_reads hcanon hx
    exact ⟨t, ht, hbooth, hreg, hpred, flowsOn_of_stage hx⟩
  · have hstep : WritesPred s n pd _ (execBelt p pd dir s) := issue_writesPred hcanon hissues hseq rfl
    exact hstep

end Sys2Proof.Machine
end

section
/-! PROOFS. The matrix queues: joining them, opening a slot, loading a weight tile (R55-R58, R67-R69, R115-R119). -/

namespace Sys2Proof.Machine

open Sys2Proof.Safety

section
variable {s : State} {p : Iss} {i : Inst} {uses : List (BitVec 5)} {cls op : Nat} {body : State → Stage → Inst → Did}

/-- An instruction that a queue of the Stage takes: `g` is what its Stage becomes, `f` that but for the Prompter. -/
theorem issue_enqueues {f g : Stage → Stage} (hcanon : Canon s) (hissues : Issues s p i uses) (hseq : SeqIn s p.stage i)
    (hbody : body (started s p cls op) (s.stage p.stage) i = .seq ((started s p cls op).modStage p.stage g))
    (hinst : (g ((s.stage p.stage).issued cls op)).inst = (s.stage p.stage).inst)
    (hloops : (g ((s.stage p.stage).issued cls op)).prm.loops = (s.stage p.stage).prm.loops)
    (hregs : (g ((s.stage p.stage).issued cls op)).prm.regs = (s.stage p.stage).prm.regs)
    (hpreds : (g ((s.stage p.stage).issued cls op)).prm.preds = (s.stage p.stage).prm.preds)
    (hrest : ∀ x : Prm, { g ((s.stage p.stage).issued cls op) with prm := x } = { f (s.stage p.stage) with prm := x }) :
    Enqueues s p.stage f (issue p cls op false uses body s) := by
  obtain ⟨t, ht, hleaves⟩ := issue_seq hissues hseq hbody ((leaves_started p cls op hcanon).modStage g) hinst hloops
  refine ⟨t, ht, hleaves.fileKept hregs hpreds, hleaves.flowsOn, hleaves.outside, hleaves.free, ?_⟩
  rw [hleaves.stage, ← hrest]
  rfl

/-- A full queue holds the instruction (R55). -/
theorem issue_full (hissues : Issues s p i uses) (hbody : body (started s p cls op) (s.stage p.stage) i = .full) :
    issue p cls op false uses body s = .next (stalled s p.stage cls op) := by
  rw [issue_of_issues hissues, hbody]
  rfl

end

section
variable {s : State} {p : Iss} {i : Inst} {uses : List (BitVec 5)} {op : Nat}

/-- A feed operation joins the feed queue (R55, R57). -/
theorem issueFeed_enqueues (mk : Prm → FeedOp) (hcanon : Canon s) (hissues : Issues s p i uses) (hseq : SeqIn s p.stage i)
    (hroom : (s.stage p.stage).mx.feed.length < 8) :
    Enqueues s p.stage (fun t => { t with mx := Mxa.toPort { t.mx with
      feed := t.mx.feed ++ [⟨⟨(s.stage p.stage).prm.pc, 4, op⟩, (s.stage p.stage).prm.seq, mk (s.stage p.stage).prm⟩] } })
      (issueFeed p op false uses mk s) :=
  issue_enqueues hcanon hissues hseq (if_neg (Nat.not_le.mpr hroom)) rfl rfl rfl rfl fun _ => rfl

theorem issueFeed_full (mk : Prm → FeedOp) (hissues : Issues s p i uses) (hfull : 8 ≤ (s.stage p.stage).mx.feed.length) :
    issueFeed p op false uses mk s = .next (stalled s p.stage 4 op) :=
  issue_full hissues (if_pos hfull)

/-- The handle of a service operation names a segment, where it has one (R119). -/
def SvcOp.resolves (s : State) (i : Inst) : SvcOp → Bool
  | .drain _ _ => true
  | .roll _ h _ x _ => s.hndOk i h x
  | .racc _ h x _ => s.hndOk i h x

/-- What an instruction of the service queue does at issue (R55, R119). -/
def svcBody (p : Iss) (op : Nat) (mk : Prm → SvcOp) (s : State) (t : Stage) (i : Inst) : Did :=
  if 8 ≤ t.mx.svc.length then .full
  else if (mk t.prm).resolves s i then
    .seq (s.modStage p.stage (fun x => { x with
      prm := { x.prm with seq := x.prm.seq + 1 }
      mx := { x.mx with svc := x.mx.svc ++ [⟨⟨t.prm.pc, 5, op⟩, t.prm.seq, mk t.prm⟩] } }))
  else .fault s .rollShape 0

theorem issueSvc_eq (p : Iss) (op : Nat) (uses : List (BitVec 5)) (mk : Prm → SvcOp) (s : State) :
    issueSvc p op uses mk s = issue p 5 op false uses (svcBody p op mk) s := by
  unfold issueSvc
  congr 1
  funext s t i
  unfold svcBody
  split
  · rfl
  · cases h : mk t.prm with
    | drain a b => rfl
    | roll a b c d e => cases hok : s.hndOk i b d <;> simp [SvcOp.resolves, hok]
    | racc a b c d => cases hok : s.hndOk i b c <;> simp [SvcOp.resolves, hok]

theorem issueSvc_full (mk : Prm → SvcOp) (hissues : Issues s p i uses) (hfull : 8 ≤ (s.stage p.stage).mx.svc.length) :
    issueSvc p op uses mk s = .next (stalled s p.stage 5 op) := by
  rw [issueSvc_eq]
  exact issue_full hissues (if_pos hfull)

/-- The launch, contexts and roster that a handle is resolved by are those of the state before the instruction. -/
theorem hndOk_started (h : W64) (x : Bool) : (started s p 5 op).hndOk i h x = s.hndOk i h x := rfl

theorem resolves_started (o : SvcOp) : o.resolves (started s p 5 op) i = o.resolves s i := by
  cases o <;> rfl

/-- A service operation whose handle resolves joins the service queue. -/
theorem issueSvc_enqueues (mk : Prm → SvcOp) (hcanon : Canon s) (hissues : Issues s p i uses) (hseq : SeqIn s p.stage i)
    (hroom : (s.stage p.stage).mx.svc.length < 8) (hok : (mk (s.stage p.stage).prm).resolves s i = true) :
    Enqueues s p.stage (fun t => { t with mx := { t.mx with
      svc := t.mx.svc ++ [⟨⟨(s.stage p.stage).prm.pc, 5, op⟩, (s.stage p.stage).prm.seq, mk (s.stage p.stage).prm⟩] } })
      (issueSvc p op uses mk s) := by
  rw [issueSvc_eq]
  exact issue_enqueues hcanon hissues hseq
    ((if_neg (Nat.not_le.mpr hroom)).trans (if_pos ((resolves_started _).trans hok))) rfl rfl rfl rfl fun _ => rfl

theorem issueSvc_faults (mk : Prm → SvcOp) (hissues : Issues s p i uses) (hroom : (s.stage p.stage).mx.svc.length < 8)
    (hbad : (mk (s.stage p.stage).prm).resolves s i = false) :
    issueSvc p op uses mk s
      = .next ((started s p 5 op).kernelFault p.stage ⟨.rollShape, ⟨(s.stage p.stage).prm.pc, 5, op⟩, 0, none⟩) := by
  rw [issueSvc_eq]
  exact issue_fault hissues
    ((if_neg (Nat.not_le.mpr hroom)).trans (if_neg (Bool.eq_false_iff.mp ((resolves_started _).trans hbad))))

end

/-- The codes of R30 are those up to 0xC. -/
theorem mmaFmt_isNone (c : Nat) : (mmaFmt c).isNone = decide (0xC < c) := by
  by_cases h : c ≤ 0xC
  · rw [decide_eq_false (by omega)]
    interval_cases c <;> rfl
  · rw [decide_eq_true (by omega)]
    unfold mmaFmt
    split
    case h_14 => rfl
    all_goals omega

/-- Settles O16: each of the six is an issue into the feed or the service queue. -/
theorem matrixInstructionsJoinTheirQueues : Obligations.MatrixInstructionsJoinTheirQueues := by
  intro p i s hcanon hseq n g pc q feed svc rows
  refine ⟨fun wt tile scl spk hissues => ⟨fun hroom => ?_, fun hfull => ?_⟩,
    fun slot wide mreg mimm mr hissues => ⟨fun hroom => ?_, fun hfull => ?_⟩,
    fun f hissues => ⟨fun hfmt hroom => ?_, fun hfmt hfull => ?_, fun hfmt => ?_⟩,
    fun slot desc hissues => ⟨fun hroom => ?_, fun hfull => ?_⟩,
    fun slot hnd dslot xdev amask hissues hfull => ⟨?_, ?_⟩,
    fun slot hnd dslot xdev amask hissues hroom => ⟨fun hok => ⟨?_, ?_⟩, fun hbad => ⟨?_, ?_⟩⟩⟩
  · exact issueFeed_enqueues (op := 0) (fun t => .wld wt (t.reg tile) (t.reg scl) spk) hcanon hissues hseq hroom
  · exact issueFeed_full (op := 0) (fun t => .wld wt (t.reg tile) (t.reg scl) spk) hissues hfull
  · exact issueFeed_enqueues (op := 1) (fun t => .azero slot.toNat wide (rowCount t mreg mimm mr)) hcanon hissues hseq hroom
  · exact issueFeed_full (op := 1) (fun t => .azero slot.toNat wide (rowCount t mreg mimm mr)) hissues hfull
  · show feed 2 _ (execMma p f s)
    unfold execMma
    rw [mmaFmt_isNone, decide_eq_false (Nat.not_lt.mpr hfmt)]
    exact issueFeed_enqueues _ hcanon hissues hseq hroom
  · show execMma p f s = _
    unfold execMma
    rw [mmaFmt_isNone, decide_eq_false (Nat.not_lt.mpr hfmt)]
    exact issueFeed_full _ hissues hfull
  · show execMma p f s = _
    unfold execMma
    rw [mmaFmt_isNone, decide_eq_true hfmt]
    exact issue_of_bad hissues 4 2 _
  · exact issueSvc_enqueues (op := 0) (fun t => .drain slot.toNat (t.reg desc)) hcanon hissues hseq hroom rfl
  · exact issueSvc_full (op := 0) (fun t => .drain slot.toNat (t.reg desc)) hissues hfull
  · exact issueSvc_full (op := 1) (fun t => .roll slot.toNat (t.reg hnd) dslot.toNat xdev amask.toNat) hissues hfull
  · exact issueSvc_full (op := 2) (fun t => .racc slot.toNat (t.reg hnd) xdev amask.toNat) hissues hfull
  · exact issueSvc_enqueues (op := 1) (fun t => .roll slot.toNat (t.reg hnd) dslot.toNat xdev amask.toNat) hcanon hissues hseq hroom hok
  · exact issueSvc_enqueues (op := 2) (fun t => .racc slot.toNat (t.reg hnd) xdev amask.toNat) hcanon hissues hseq hroom hok
  · exact issueSvc_faults (op := 1) (fun t => .roll slot.toNat (t.reg hnd) dslot.toNat xdev amask.toNat) hissues hroom hbad
  · exact issueSvc_faults (op := 2) (fun t => .racc slot.toNat (t.reg hnd) xdev amask.toNat) hissues hroom hbad

end Sys2Proof.Machine
end

section
/-! PROOFS. AZERO on a closed slot, and the weight port (R57, R58, R67-R69). -/

namespace Sys2Proof.Machine

open Sys2Proof.Safety

/-- A value that is no default reads back, whatever the form of the list. -/
theorem mget_mset_same_of_ne {α : Type} [DecidableEq α] {d : α} (m : SMap α) (k : Nat) {v : α} (h : v ≠ d) : mget d (mset d m k v) k = v := by
  induction m with
  | nil => rw [mset, if_neg h, mget, if_pos rfl]
  | cons e t ih =>
    obtain ⟨j, w⟩ := e
    rw [mset]
    by_cases hlt : k < j
    · rw [if_pos hlt, if_neg h, mget, if_pos rfl]
    · rw [if_neg hlt]
      by_cases heq : k = j
      · rw [if_pos heq, if_neg h, mget, if_pos rfl]
      · rw [if_neg heq, mget, if_neg (Ne.symm heq), ih]

/-- A range dropped reads as the default; every other key reads as before. -/
theorem mget_mdrop {α : Type} {d : α} [DecidableEq α] (m : SMap α) (lo hi k : Nat) :
    mget d (mdrop m lo hi) k = if lo ≤ k ∧ k < hi then d else mget d m k := by
  by_cases h : lo ≤ k ∧ k < hi
  · rw [if_pos h]
    refine mget_of_key_ne fun e he hk => ?_
    have hout := of_decide_eq_true (List.mem_filter.mp he).2
    omega
  · rw [if_neg h]
    exact mget_filter_of_key (P := fun x => x < lo ∨ hi ≤ x) m (by omega)

@[simp] theorem Mxa.toPort_slot (m : Mxa) (k : Nat) : m.toPort.slot k = m.slot k := by
  unfold Mxa.toPort
  split
  · split <;> rfl
  · rfl

@[simp] theorem Mxa.toPort_acc (m : Mxa) : m.toPort.acc = m.acc := by
  unfold Mxa.toPort
  split
  · split <;> rfl
  · rfl

/-- One row block of one array cleared (R67, R87). -/
def Mxa.zeroBlock (m : Mxa) (array b : Nat) : Mxa :=
  { m with
    acc := mdrop m.acc (accKey array b 0 0) (accKey array (b + 1) 0 0)
    accEcc := mdrop m.accEcc (accKey array b 0 0 / 2) (accKey array (b + 1) 0 0 / 2) }

/-- The block of every array cleared. -/
def Mxa.zeroBlocks (m : Mxa) (b : Nat) : Mxa := [0, 1, 2, 3].foldl (fun m a => m.zeroBlock a b) m

theorem Mxa.openSlot_eq (m : Mxa) (slot : Nat) (wide : Bool) (rows : Nat) (blocks : List Nat) :
    m.openSlot slot wide rows blocks = { (blocks.foldl Mxa.zeroBlocks m).setSlot slot ⟨true, wide, rows, blocks, []⟩ with
      rolled := (blocks.foldl Mxa.zeroBlocks m).rolled.filter (fun r => decide (r.1 ≠ slot)) } := rfl

/-- A key is an entry of row block `b`. -/
def inBlock (b k : Nat) : Prop := ∃ a r c, a < 4 ∧ r < 16 ∧ c < 256 ∧ k = accKey a b r c

theorem inBlock_iff (b k : Nat) : inBlock b k ↔ ∃ a, a < 4 ∧ accKey a b 0 0 ≤ k ∧ k < accKey a (b + 1) 0 0 := by
  unfold inBlock accKey
  constructor
  · rintro ⟨a, r, c, ha, hr, hc, rfl⟩
    exact ⟨a, ha, by omega, by omega⟩
  · rintro ⟨a, ha, hlo, hhi⟩
    refine ⟨a, (k - (65536 * a + 4096 * b)) / 256, (k - (65536 * a + 4096 * b)) % 256, ha, by omega, by omega, by omega⟩

theorem Mxa.zeroBlocks_acc (m : Mxa) (b k : Nat) :
    (inBlock b k → mget 0 (m.zeroBlocks b).acc k = 0) ∧ (¬ inBlock b k → mget 0 (m.zeroBlocks b).acc k = mget 0 m.acc k) := by
  have hget : mget 0 (m.zeroBlocks b).acc k = if accKey 3 b 0 0 ≤ k ∧ k < accKey 3 (b + 1) 0 0 then 0
      else if accKey 2 b 0 0 ≤ k ∧ k < accKey 2 (b + 1) 0 0 then 0
      else if accKey 1 b 0 0 ≤ k ∧ k < accKey 1 (b + 1) 0 0 then 0
      else if accKey 0 b 0 0 ≤ k ∧ k < accKey 0 (b + 1) 0 0 then 0 else mget 0 m.acc k := by
    rw [← mget_mdrop, ← mget_mdrop, ← mget_mdrop, ← mget_mdrop]
    rfl
  rw [hget, inBlock_iff]
  constructor
  · rintro ⟨a, ha, hin⟩
    interval_cases a <;> simp [hin]
  · intro hout
    have hnot : ∀ a, a < 4 → ¬ (accKey a b 0 0 ≤ k ∧ k < accKey a (b + 1) 0 0) := fun a ha hin => hout ⟨a, ha, hin⟩
    rw [if_neg (hnot 3 (by decide)), if_neg (hnot 2 (by decide)), if_neg (hnot 1 (by decide)), if_neg (hnot 0 (by decide))]

/-- Clearing blocks: their entries are +0, every other one as before. -/
theorem Mxa.foldl_zeroBlocks_acc (blocks : List Nat) (m : Mxa) (k : Nat) :
    ((∃ b ∈ blocks, inBlock b k) → mget 0 (blocks.foldl Mxa.zeroBlocks m).acc k = 0)
    ∧ ((∀ b ∈ blocks, ¬ inBlock b k) → mget 0 (blocks.foldl Mxa.zeroBlocks m).acc k = mget 0 m.acc k) := by
  induction blocks generalizing m with
  | nil => exact ⟨fun ⟨b, hb, _⟩ => absurd hb List.not_mem_nil, fun _ => rfl⟩
  | cons b t ih =>
    obtain ⟨hin, hout⟩ := ih (m.zeroBlocks b)
    obtain ⟨hzero, hkeep⟩ := m.zeroBlocks_acc b k
    rw [List.foldl_cons]
    constructor
    · rintro ⟨x, hx, hxk⟩
      by_cases hlater : ∃ b ∈ t, inBlock b k
      · exact hin hlater
      · rw [hout fun b hb hbk => hlater ⟨b, hb, hbk⟩]
        rcases List.mem_cons.mp hx with rfl | hx
        · exact hzero hxk
        · exact absurd ⟨x, hx, hxk⟩ hlater
    · intro hall
      rw [List.forall_mem_cons] at hall
      rw [hout hall.2, hkeep hall.1]

theorem Mxa.foldl_zeroBlocks_feed (blocks : List Nat) (m : Mxa) :
    (blocks.foldl Mxa.zeroBlocks m).feed = m.feed ∧ (blocks.foldl Mxa.zeroBlocks m).slots = m.slots := by
  induction blocks generalizing m with
  | nil => exact ⟨rfl, rfl⟩
  | cons b t ih => exact ih (m.zeroBlocks b)

/-- Settles O17: an open slot is waited for or a fault; a closed one is opened over the first free blocks, which are cleared. -/
theorem azeroOpensSlotsAfresh : Obligations.AzeroOpensSlotsAfresh := by
  intro n i e rest slot m wide s hcanon hn hinst hfeed hop hpos hmax x need
  have hstart := (exec_azeroStart_of_head hn hinst hfeed hop).trans
    (if_neg (show ¬ (m = 0 ∨ (if wide then 128 else 256) < m) from not_or.mpr ⟨hpos.ne', hmax.not_gt⟩))
  refine ⟨fun hopen hclosing => ?_, fun hopen hclosing => ?_, fun hclosed hfree => ?_⟩
  · exact hstart.trans ((if_pos hopen).trans (if_pos hclosing))
  · exact hstart.trans ((if_pos hopen).trans (if_neg (Bool.eq_false_iff.mp hclosing)))
  · have hpop : (s.popFeed n).stage n = { s.stage n with mx := (Mxa.toPort { x with feed := rest }).noteReady } := by
      rw [State.popFeed, State.modStage_stage _ _ _ hcanon.2.1, if_pos rfl, hfeed]
      rfl
    have hstage := State.modStage_stage (s := s.popFeed n) n n
      (fun t => { t with mx := t.mx.openSlot slot wide m (x.freeBlocks.take need) }) (mset_wf hcanon.2.1)
    rw [if_pos rfl, hpop] at hstage
    obtain ⟨hkeepFeed, hkeepSlots⟩ := Mxa.foldl_zeroBlocks_feed (x.freeBlocks.take need) (Mxa.toPort { x with feed := rest }).noteReady
    have hacc := Mxa.foldl_zeroBlocks_acc (x.freeBlocks.take need) (Mxa.toPort { x with feed := rest }).noteReady
    refine ⟨_, hstart.trans ((if_neg (Bool.eq_false_iff.mp hclosed)).trans (if_pos hfree)), ?_, ?_, fun k hk => ?_,
      fun a b r c ha hb hr hc => ?_, fun k hk => ?_, fun k hk => ?_, rfl⟩
    · rw [hstage, Mxa.openSlot_eq]
      exact hkeepFeed
    · rw [hstage, Mxa.openSlot_eq]
      exact mget_mset_same_of_ne _ _ fun h => absurd (show true = false from congrArg Slot.opened h) (by decide)
    · rw [hstage, Mxa.openSlot_eq]
      show mget Slot.closed (mset _ _ _ _) k = _
      rw [mget_mset_ne _ _ hk, hkeepSlots]
      exact Mxa.toPort_slot { x with feed := rest } k
    · rw [hstage, Mxa.openSlot_eq]
      exact (hacc _).1 ⟨b, hb, a, r, c, ha, hr, hc, rfl⟩
    · rw [hstage, Mxa.openSlot_eq]
      refine ((hacc k).2 ?_).trans (congrArg (fun m => mget 0 m k) (Mxa.toPort_acc { x with feed := rest }))
      rintro b hb ⟨a, r, c, ha, hr, hc, rfl⟩
      exact hk a b r c ha hb hr hc rfl
    · rw [State.modStage_stage _ _ _ (mset_wf hcanon.2.1), if_neg hk, State.popFeed, State.modStage_stage _ _ _ hcanon.2.1, if_neg hk]

theorem Inst.record?_of_inside {i : Inst} {a : W64} {al len : Nat} (halign : a.toNat % al = 0) (hinside : a.toNat + len ≤ i.dataSize) :
    i.record? a al len = some (i.dataBase + a.toNat) := by
  unfold Inst.record?
  rw [if_pos ⟨halign, decide_eq_true hinside⟩]
  rfl

section
variable {n : Nat} {s s1 s2 : State} {i : Inst} {e : FeedEnt} {wt spk : Bool} {tile scl : W64} {bs ps : List Byte}

/-- The start of a WLD whose tile and plane are read clean (R57). -/
theorem execWldStart_of_clean (hn : n < 144) (hinst : (s.stage n).inst = some i) (hpend : (s.stage n).mx.pend = some e)
    (hop : e.op = .wld wt tile scl spk) (hport : (s.stage n).mx.port = none) (hmma : ∀ r, (s.stage n).mx.mma = some r → r.wt ≠ wt)
    (htile : i.record? tile 1024 16384 = some (i.dataBase + tile.toNat))
    (hplane : scl ≠ 0 → i.record? scl 64 (if spk then 1024 else 512) = some (i.dataBase + scl.toNat))
    (hread : s.apRead n (i.dataBase + tile.toNat) 16384 0 = (bs, false, s1))
    (hscale : (if scl = 0 then ([], false, s1) else s1.apRead n (i.dataBase + scl.toNat) (if spk then 1024 else 512) 0) = (ps, false, s2)) :
    execWldStart n s =
      let own := if scl = 0 then 0 else wldHold (i.dataBase + tile.toNat) (i.dataBase + scl.toNat) (if spk then 1024 else 512)
      .next ((s2.bump .stgMxaStallBank n own).modStage n (fun t =>
        { t with mx := Mxa.toPort { t.mx.setWt wt { t.mx.wt wt with valid := false } with
          port := some ⟨e.seq, wt, ⟨true, mlist 0 0 bs, decide (scl ≠ 0), spk, mlist 0 0 ps⟩, own, 0⟩, pend := none } })) := by
  have hlegal : ¬ (scl ≠ 0 ∧ i.record? scl 64 (if spk then 1024 else 512) = none) := fun h => by
    rw [hplane h.1] at h
    exact absurd h.2 (by simp)
  unfold execWldStart
  rw [if_pos hn]
  cases hrun : (s.stage n).mx.mma with
  | none =>
    simp only [hinst, hpend, hop, hport, htile, if_neg hlegal, hread, Inst.dataAddr, hscale, Option.isSome_none, Bool.or_self,
      Bool.false_eq_true, if_false, hrun]
  | some r =>
    simp only [hinst, hpend, hop, hport, htile, if_neg hlegal, hread, Inst.dataAddr, hscale, Option.isSome_none, Bool.or_self,
      Bool.false_eq_true, if_false, hrun, decide_eq_false (hmma r hrun)]

end

theorem Mxa.wt_setWt (m : Mxa) (b : Bool) (r : WtReg) : (m.setWt b r).wt b = r ∧ (m.setWt b r).wt (!b) = m.wt (!b) := by
  cases b <;> exact ⟨rfl, rfl⟩

/-- Settles O19: the start takes tile and plane as they are read; the completion writes the one register. -/
theorem weightTilesLoad : Obligations.WeightTilesLoad := by
  intro n s hn
  refine ⟨fun i e wt spk tile scl bs ps s1 s2 hinst hpend hop hport hmma halign hinside hread hscale => ?_, fun l hcanon hport => ?_⟩
  · have htile := Inst.record?_of_inside (i := i) halign hinside
    obtain ⟨rfl, rfl, rfl⟩ | ⟨hne, hsalign, hsinside, hplane⟩ := hscale
    · exact execWldStart_of_clean hn hinst hpend hop hport hmma htile (fun h => absurd rfl h) hread rfl
    · exact execWldStart_of_clean hn hinst hpend hop hport hmma htile (fun _ => Inst.record?_of_inside hsalign hsinside) hread
        ((if_neg hne).trans hplane)
  · have hstep : execWldComplete n s = .next (s.modStage n (fun t => { t with mx := { t.mx.setWt l.wt l.data with port := none } })) := by
      unfold execWldComplete
      rw [if_pos hn, hport]
    have hstage := State.modStage_stage n n (fun t => { t with mx := { t.mx.setWt l.wt l.data with port := none } }) hcanon.2.1
    rw [if_pos rfl] at hstage
    obtain ⟨hsame, hother⟩ := (s.stage n).mx.wt_setWt l.wt l.data
    refine ⟨_, hstep, ?_, ?_, ?_, fun k hk => ?_, rfl⟩
    · rw [hstage]
      exact hsame
    · rw [hstage]
      exact hother
    · rw [hstage]
    · rw [State.modStage_stage _ _ _ hcanon.2.1, if_neg hk]

end Sys2Proof.Machine
end

section
/-! PROOFS. An MMA streams its rows, a DRAIN its blocks, and a Roll goes from Stage to Stage (R58-R89). -/

namespace Sys2Proof.Machine

open Sys2Proof.Safety

section
variable {n : Nat} {s s1 s2 : State} {i : Inst} {e : FeedEnt} {rest : List FeedEnt} {acc wt : Bool} {slot amask fmt m : Nat}
  {desc mask : W64} {f : MmaFmt} {db mb : List (List Byte)}

/-- The arrays a mask names. -/
def namedArrays (amask : Nat) : List Nat := [0, 1, 2, 3].filter (fun a => amask.testBit a)

/-- The entry of an array in the activation descriptor as read. -/
def descEntry (amask : Nat) (db : List (List Byte)) (a : Nat) : ActEnt :=
  ((((namedArrays amask).zip (db.map actEnt)).find? (fun x => decide (x.1 = a))).map (fun x => x.2)).getD ⟨0, 0, 0, 0⟩

/-- The rows each named array streams. -/
def rowsToFeed (amask m : Nat) (mb : List (List Byte)) : List (Nat × List Nat) :=
  (namedArrays amask).zipIdx.map (fun x => (x.1, fedRows (mb.getD x.2 []) m))

/-- The start of an MMA every check of which passes, with a row to stream (R58, R63-R66). -/
theorem execMmaStart_streams (hn : n < 144) (hinst : (s.stage n).inst = some i) (hfeed : (s.stage n).mx.feed = e :: rest)
    (hop : e.op = .mma acc slot wt desc mask amask fmt m) (hfmt : mmaFmt fmt = some f) (hmma : (s.stage n).mx.mma = none) (hm : m ≤ 256)
    (hopen : ((s.stage n).mx.slot slot).opened = true) (hrows : m ≤ ((s.stage n).mx.slot slot).m) (hcoming : (s.stage n).mx.wtComing wt = false)
    (hweights : (!((s.stage n).mx.wt wt).valid
      || (f.mx && (!((s.stage n).mx.wt wt).scaled || (decide (f.k = 128) && !((s.stage n).mx.wt wt).big)))) = false)
    (hdesc : i.record? desc 64 64 = some (i.dataBase + desc.toNat)) (hmask : ¬ (mask ≠ 0 ∧ i.record? mask 32 128 = none))
    (hread : State.apReads n ((namedArrays amask).map (fun a => (i.dataBase + desc.toNat + 16 * a, 16))) s = (db, false, s1))
    (hmasks : (if mask = 0 then ([], false, s1)
      else State.apReads n ((namedArrays amask).map (fun a => (i.dataBase + mask.toNat + 32 * a, cdiv m 8))) s1) = (mb, false, s2))
    (hstrides : (namedArrays amask).any (fun a => !(descEntry amask db a).strideOk f) = false)
    (haddr : (rowsToFeed amask m mb).findSome? (fun x => x.2.findSome? (fun r => (descEntry amask db x.1).badRow i f r)) = none)
    (hsome : (rowsToFeed amask m mb).all (fun x => x.2.isEmpty) = false) :
    execMmaStart n s = .next ((s2.popFeed n).modStage n (fun t => { t with mx := { t.mx with
      mma := some ⟨e.org, e.seq, acc, slot, wt, fmt, [0, 1, 2, 3].map (descEntry amask db), rowsToFeed amask m mb⟩ } })) := by
  unfold namedArrays at hread hmasks hstrides
  unfold rowsToFeed descEntry namedArrays at haddr
  unfold rowsToFeed namedArrays at hsome
  unfold descEntry namedArrays at hstrides
  unfold execMmaStart
  rw [if_pos hn]
  simp only [hinst, hfeed, hop, hfmt, hmma, hcoming, if_neg (Nat.not_lt.mpr hm), hopen, if_neg (Nat.not_lt.mpr hrows), hweights, hdesc,
    if_neg hmask, hread, Inst.dataAddr, hmasks, hstrides, haddr, hsome, Option.isSome_none, Bool.not_true, Bool.or_self, Bool.false_eq_true,
    if_false]
  rfl

end

theorem weights_fit {w : WtReg} {f : MmaFmt} (hvalid : w.valid = true) (hscale : f.mx = true → w.scaled = true ∧ (f.k = 128 → w.big = true)) :
    (!w.valid || (f.mx && (!w.scaled || (decide (f.k = 128) && !w.big)))) = false := by
  rw [hvalid]
  cases hmx : f.mx with
  | false => rfl
  | true =>
    obtain ⟨hscaled, hbig⟩ := hscale hmx
    rw [hscaled]
    by_cases hk : f.k = 128
    · rw [hbig hk, decide_eq_true hk]
      rfl
    · rw [decide_eq_false hk]
      rfl

/-- One CCLK of a streaming MMA that no row in an adder tree holds up and no poison ends (R59-R62). -/
theorem execMmaRowEnter_of_rows {n : Nat} {s s1 : State} {i : Inst} {run : MmaRun} {f : MmaFmt} {fs : List RowFly} (hn : n < 144)
    (hinst : (s.stage n).inst = some i) (hrun : (s.stage n).mx.mma = some run) (hfmt : mmaFmt run.fmt = some f)
    (hfree : (run.acc && (run.left.filterMap (fun x => x.2.head?.map (fun r => (x.1, r)))).any (fun x => (s.stage n).mx.fly.any (fun y =>
      decide (y.slot = run.slot ∧ y.array = x.1 ∧ y.row = x.2)))) = false)
    (grp : Nat) (hgrp : ∀ y, (s.stage n).mx.fly.getLast? = some y → grp = y.grp + 1) (hgrp0 : (s.stage n).mx.fly.getLast? = none → grp = 0)
    (hread : State.enterRows n i run f (((s.stage n).mx.wt run.wt).cols f) grp
      (run.left.filterMap (fun x => x.2.head?.map (fun r => (x.1, r)))) s = (some fs, s1)) :
    let now := run.left.filterMap (fun x => x.2.head?.map (fun r => (x.1, r)))
    let left := run.left.map (fun x => (x.1, x.2.drop 1))
    execMmaRowEnter n s = .next ((((s1.enterStalls n run (bankHold (run.banks i f now)) now).bump .stgMxaRows n now.length).bump .stgMxaBusy n
      1).modStage n (fun t => { t with mx := { t.mx with
        fly := t.mx.fly ++ fs, mma := if left.all (fun x => x.2.isEmpty) then none else some { run with left := left } } })) := by
  unfold execMmaRowEnter
  rw [if_pos hn]
  cases hlast : (s.stage n).mx.fly.getLast? with
  | none =>
    obtain rfl := hgrp0 hlast
    simp only [hinst, hrun, hfmt, hfree, hlast, hread, Bool.false_eq_true, if_false]
  | some y =>
    obtain rfl := hgrp y hlast
    simp only [hinst, hrun, hfmt, hfree, hlast, hread, Bool.false_eq_true, if_false]

/-- Settles O20: start, entry and write, each along the one path that its checks leave. -/
theorem mmaRowsStream : Obligations.MmaRowsStream := by
  intro n s hn
  refine ⟨?_, ?_, fun y rest hfly => ?_⟩
  · intro i e rest acc wt slot amask fmt m desc mask f db mb s1 s2 hinst hfeed hop hfmt hmma hm hopen hrows hcoming hvalid hscale named
      halign hinside hread hmasks ent left hstrides haddr hsome
    have hstrides' : named.any (fun a => !(ent a).strideOk f) = false :=
      List.any_eq_false.mpr fun a ha => by rw [hstrides a ha]; decide
    have haddr' : left.findSome? (fun x => x.2.findSome? (fun r => (ent x.1).badRow i f r)) = none :=
      List.findSome?_eq_none_iff.mpr fun x hx => List.findSome?_eq_none_iff.mpr fun r hr => haddr x hx r hr
    have hsome' : left.all (fun x => x.2.isEmpty) = false := by
      rw [← Bool.not_eq_true', List.not_all_eq_any_not]
      exact hsome
    obtain ⟨rfl, rfl, rfl⟩ | ⟨hne, hmalign, hminside, hmread⟩ := hmasks
    · exact execMmaStart_streams hn hinst hfeed hop hfmt hmma hm hopen hrows hcoming (weights_fit hvalid hscale)
        (Inst.record?_of_inside halign hinside) (fun h => h.1 rfl) hread rfl hstrides' haddr' hsome'
    · exact execMmaStart_streams hn hinst hfeed hop hfmt hmma hm hopen hrows hcoming (weights_fit hvalid hscale)
        (Inst.record?_of_inside halign hinside) (fun h => absurd h.2 (by rw [Inst.record?_of_inside hmalign hminside]; simp)) hread
        ((if_neg hne).trans hmread) hstrides' haddr' hsome'
  · intro i run f fs s1 hinst hrun hfmt now hfree hread left s2
    have hfree' : (run.acc && now.any (fun x => (s.stage n).mx.fly.any (fun y =>
        decide (y.slot = run.slot ∧ y.array = x.1 ∧ y.row = x.2)))) = false := by
      cases hacc : run.acc with
      | false => rfl
      | true => exact List.any_eq_false.mpr fun x hx h =>
          (List.any_eq_true.mp h).elim fun y hy => hfree hacc x hx y hy.1 (of_decide_eq_true hy.2)
    exact execMmaRowEnter_of_rows hn hinst hrun hfmt hfree' _ (fun y hy => by rw [hy]) (fun hy => by rw [hy]) hread
  · show execMmaRowWrite n s = _
    unfold execMmaRowWrite
    rw [if_pos hn]
    simp only [hfly]

end Sys2Proof.Machine
end

section
/-! PROOFS. The service queue: DRAIN, Rolls, and the wait limit of the matrix queues (R66-R89). -/

namespace Sys2Proof.Machine

open Sys2Proof.Safety

theorem next_ite (c : Prop) [Decidable c] (t u : State) :
    (if c then (.next t : Host.Outcome State Fault Refusal) else .next u) = .next (if c then t else u) := by
  split <;> rfl

section
variable {n : Nat} {s s1 : State}

theorem isEmpty_drop_one {α : Type} (l : List α) : (l.drop 1).isEmpty = decide (l.length ≤ 1) := by
  cases l with
  | nil => rfl
  | cons a t => cases t <;> simp

/-- Settles O21: each of the three steps acts on the DRAIN at the head of the service queue as its run stands. -/
theorem drainsFillTheFinishedTileQueue : Obligations.DrainsFillTheFinishedTileQueue := by
  intro n s hn
  refine ⟨?_, ?_, ?_⟩
  · intro i e rest slot desc bs d s1 hinst hsvc hop hrun hpending hopen halign hinside hread hd left
    have hrec := Inst.record?_of_inside (i := i) (al := 32) halign hinside
    show execDrainStart n s = _
    unfold execDrainStart
    rw [if_pos hn]
    simp only [hinst, hsvc, hop, hrun, hpending, hopen, hrec, hread, hd, Option.isSome_none, Bool.or_self, Bool.not_true,
      Bool.false_eq_true, if_false]
    exact next_ite _ _ _
  · intro e rest r d a g lo left b s1 hsvc hrun hdrain hout hleft
    have hstep : execDrainBlockReadout n s = if 8 ≤ (s.stage n).mx.ftq.length then .next (s.stall .stgMxaStallQfull n)
        else if !(s.stage n).mx.mayUse none a then .next s
        else .next ((s.readBlock n ((s.stage n).mx.slot (e.op.closes.getD 0)) a g lo 16).2.modStage n (fun t => { t with
          mx := Mxa.used { t.mx with svcRun := some { r with
            out := some (s.readBlock n ((s.stage n).mx.slot (e.op.closes.getD 0)) a g lo 16).1 } } none a })) := by
      unfold execDrainBlockReadout
      rw [if_pos hn]
      simp only [hsvc, hrun, hdrain, hout, hleft]
    refine ⟨fun hroom huse hread => ?_, fun hroom huse => ?_, fun hfull => ?_⟩
    · refine hstep.trans ((if_neg (Nat.not_le.mpr hroom)).trans ((if_neg ?_).trans ?_))
      · rw [huse]
        decide
      · rw [hread]
    · refine hstep.trans ((if_neg (Nat.not_le.mpr hroom)).trans (if_pos ?_))
      rw [huse]
      rfl
    · exact hstep.trans (if_pos hfull)
  · intro i e rest r d b hinst hsvc hrun hdrain hout slot u
    obtain ⟨_, left, _, granted⟩ := r
    obtain rfl : _ = some d := hdrain
    obtain rfl : _ = some b := hout
    show execDrainBlockEnqueue n s = _
    unfold execDrainBlockEnqueue
    rw [if_pos hn]
    simp only [hinst, hsvc, hrun, isEmpty_drop_one, decide_eq_true_eq]
    rfl

end

section
variable {n : Nat} {s s1 : State} {i : Inst} {e : SvcEnt} {rest : List SvcEnt} {slot dslot amask k m : Nat} {hnd : W64}

/-- No earlier AZERO of the slot waits in the feed queue (R70). -/
theorem none_opening {x : Mxa} (h : ∀ q ∈ x.feed, q.seq < e.seq → ∀ w r, q.op ≠ .azero slot w r) :
    x.feed.any (fun q => decide (q.seq < e.seq) && (match q.op with
      | .azero k _ _ => decide (k = slot)
      | _ => false)) = false := by
  refine List.any_eq_false.mpr fun q hq => ?_
  by_cases hseq : q.seq < e.seq
  · rw [decide_eq_true hseq, Bool.true_and]
    cases hop : q.op with
    | azero k w r =>
      have hne : k ≠ slot := fun hk => h q hq hseq w r (hk ▸ hop)
      simp only [hne, decide_false, Bool.false_eq_true, not_false_eq_true]
    | wld => simp
    | mma => simp
  · simp [hseq]

/-- A local RACC at the head whose slot is open (R70, R82). -/
theorem execRaccStart_of_open (hn : n < 144) (hinst : (s.stage n).inst = some i) (hsvc : (s.stage n).mx.svc = e :: rest)
    (hop : e.op = .racc slot hnd false amask) (hrun : (s.stage n).mx.svcRun = none)
    (hopening : ∀ q ∈ (s.stage n).mx.feed, q.seq < e.seq → ∀ w m, q.op ≠ .azero slot w m) (hopen : ((s.stage n).mx.slot slot).opened = true) :
    execRaccStart n s = .next ((s.popSvc n).modStage n (fun t => { t with mx := { t.mx with
      rollIns := t.mx.rollIns ++ [⟨e.org, e.seq, slot, hnd, false, amask, false, [],
        (readoutOrder amask ((s.stage n).mx.slot slot).groups false).length⟩] } })) := by
  unfold execRaccStart
  rw [if_pos hn]
  simp only [hinst, hsvc, hop, hrun, hopen, Option.isSome_none, Bool.false_or, Bool.not_true, Bool.false_eq_true, if_false]
  exact if_neg (Bool.eq_false_iff.mp (none_opening hopening))

/-- A local ROLL at the head and the RACC it pairs with (R82, R84, R118). -/
theorem execRollGrant_of_pair {r : RollIn} (hn : n < 144) (hinst : (s.stage n).inst = some i) (hsvc : (s.stage n).mx.svc = e :: rest)
    (hop : e.op = .roll slot hnd dslot false amask) (hrun : (s.stage n).mx.svcRun = none)
    (hpending : (s.stage n).mx.pendingInto slot e.seq = false) (hopen : ((s.stage n).mx.slot slot).opened = true)
    (hseg : s.segInst i hnd = some k) (hstage : s.instStage i.launch k = some m)
    (hpair : (s.stage m).mx.rollIns.find? (fun r => rollPair hnd r && !r.granted) = some r) :
    execRollGrant n s = if r.slot = dslot ∧ ((s.stage m).mx.slot r.slot).wide = ((s.stage n).mx.slot slot).wide
        ∧ ((s.stage m).mx.slot r.slot).m = ((s.stage n).mx.slot slot).m ∧ r.amask = amask then
      .next (((s.modRollIn m (fun q => rollPair hnd q && !q.granted) (fun q => { q with granted := true })).tidyRollIns
        m).rollBegin n slot amask ((s.stage n).mx.slot slot).groups)
      else .next ((((s.recordFault m ((s.stage m).inst.getD i) ⟨.rollShape, r.org, 0, none⟩).postFault m i.ctx).kernelFault n
        ⟨.rollShape, e.org, 0, none⟩).markFaulted m) := by
  unfold execRollGrant
  rw [if_pos hn]
  simp only [hinst, hsvc, hop, hrun, hpending, hopen, hseg, hstage, hpair, Option.isSome_none, Bool.or_self, Bool.not_true, Bool.false_eq_true,
    if_false, Option.bind_some]
  rfl

/-- A granted local ROLL reads out its next block (R82, R83). -/
theorem execRollReadout_of_pair {run : SvcRun} {a g : Nat} {lo : Bool} {left : List (Nat × Nat × Bool)} {b : Block} (hn : n < 144)
    (hinst : (s.stage n).inst = some i) (hsvc : (s.stage n).mx.svc = e :: rest) (hop : e.op = .roll slot hnd dslot false amask)
    (hrun : (s.stage n).mx.svcRun = some run) (hleft : run.left = (a, g, lo) :: left) (huse : (s.stage n).mx.mayUse none a = true)
    (hread : s.readBlock n ((s.stage n).mx.slot slot) a g lo 16 = (b, s1)) (hseg : s1.segInst i hnd = some k)
    (hstage : s1.instStage i.launch k = some m) :
    let u := (s1.deliverBlock m (rollPair hnd) b).modStage n (fun t =>
      { t with mx := (Mxa.used { t.mx with svcRun := some { run with left := left } } none a).noteReady })
    execRollReadout n s = .next (if left.isEmpty then (u.closeSlot n slot).popSvc n else u) := by
  unfold execRollReadout
  rw [if_pos hn]
  simp only [hinst, hsvc, hop, hrun, hleft, huse, hread, hseg, hstage, Option.bind_some, Bool.false_and, Bool.not_true, Bool.or_self,
    Bool.false_eq_true, if_false]
  cases s.link.grants.find? (fun q => rollGrantFor i hnd q && q.used) with
  | none => exact next_ite _ _ _
  | some q => exact next_ite _ _ _

/-- The block of a Roll-in whose turn it is (R83, R86, R87). -/
theorem execRollIn_of_turn {r : RollIn} {b : Block} {ok : Bool} (hn : n < 144)
    (hturn : (s.stage n).mx.noteReady.rollTurn.find? (fun x => !(s.stage n).mx.noteReady.heldIn x.1.slot x.2) = some (r, b))
    (hadd : State.addRows n ((s.stage n).mx.noteReady.slot r.slot) r.slot b (List.range 16)
      ((s.rollStalls n (s.stage n).mx.noteReady (s.stage n).mx.noteReady.rollTurn).modStage n (fun t =>
        { t with mx := (s.stage n).mx.noteReady.rollUsed r b })) = (ok, s1)) :
    execRollIn n s = .next (if ok then (s1.modRollIn n (fun q => decide (q.seq = r.seq)) (fun q =>
        { q with arrived := q.arrived.drop 1, left := q.left - 1 })).tidyRollIns n
      else s1.kernelFault n ⟨.poison, r.org, 0, none⟩) := by
  unfold execRollIn
  rw [if_pos hn]
  simp only [hturn, hadd]
  cases ok <;> rfl

/-- The operation that the wait limit of the matrix queues falls on (R88, R138). -/
def Stage.limitOrg (t : Stage) (service : Bool) : Option Origin :=
  if t.inst.isNone then none
  else if service then
    match t.mx.rollIns, t.mx.svc with
    | r :: _, _ => some r.org
    | [], e :: _ => some e.org
    | [], [] => if decide (t.prm.wait = .ending) && !t.mx.ftq.isEmpty then some t.prm.org else none
  else
    match t.mx.pend, t.mx.feed with
    | some e, _ => some e.org
    | none, e :: _ => some e.org
    | none, [] => none

theorem execMatrixWaitLimit_of_org {service : Bool} {o : Origin} (hn : n < 144) (h : (s.stage n).limitOrg service = some o) :
    execMatrixWaitLimit n service s = .next (s.kernelFault n ⟨.waitLimit, o, 0, none⟩) := by
  have hsame : ∀ q : Option Origin, q = some o → (match q with
      | some o => (.next (s.kernelFault n ⟨.waitLimit, o, 0, none⟩) : Host.Outcome State Fault Refusal)
      | none => .next s) = .next (s.kernelFault n ⟨.waitLimit, o, 0, none⟩) := fun q hq => by rw [hq]
  unfold execMatrixWaitLimit
  rw [if_pos hn]
  exact hsame _ h

end

/-- Settles O22: the steps of a local Roll, and whose operation the wait limit of the matrix queues falls on. -/
theorem rollsAndMatrixWaits : Obligations.RollsAndMatrixWaits := by
  constructor
  · intro n s hn
    refine ⟨?_, ?_, ?_, ?_⟩
    · intro i e rest slot amask hnd hinst hsvc hop hrun hopening hopen
      exact execRaccStart_of_open hn hinst hsvc hop hrun hopening hopen
    · intro i e rest slot dslot amask k m hnd r hinst hsvc hop hrun hpending hopen hseg hstage hpair x y
      have hstep := execRollGrant_of_pair hn hinst hsvc hop hrun hpending hopen hseg hstage hpair
      exact ⟨fun hfit => hstep.trans (if_pos hfit), fun hunfit => hstep.trans (if_neg hunfit)⟩
    · intro i e rest slot dslot amask k m a g lo hnd run left b s1 hinst hsvc hop hrun hleft huse hread hseg hstage
      exact execRollReadout_of_pair hn hinst hsvc hop hrun hleft huse hread hseg hstage
    · intro r b s1 m hturn u
      exact ⟨execRollIn_of_turn (ok := true) hn hturn, execRollIn_of_turn (ok := false) hn hturn⟩
  · intro n i s hn hinst
    have hlimit : ∀ service o, (s.stage n).limitOrg service = some o →
        exec (.matrixWaitLimit n service) s = .next (s.kernelFault n ⟨.waitLimit, o, 0, none⟩) :=
      fun _ _ => execMatrixWaitLimit_of_org hn
    refine ⟨fun e hpend => hlimit _ _ ?_, fun e rest hpend hfeed => hlimit _ _ ?_, fun r rest hins => hlimit _ _ ?_,
      fun e rest hins hsvc => hlimit _ _ ?_, fun hins hsvc hwait hftq => hlimit _ _ ?_⟩
    · simp [Stage.limitOrg, hinst, hpend]
    · simp [Stage.limitOrg, hinst, hpend, hfeed]
    · simp [Stage.limitOrg, hinst, hins]
    · simp [Stage.limitOrg, hinst, hins, hsvc]
    · simp [Stage.limitOrg, hinst, hins, hsvc, hwait, hftq]

end Sys2Proof.Machine
end

section
/-! PROOFS. Vector reductions over rows and over columns (R45, R159). -/

namespace Sys2Proof.Machine

open Sys2Proof.Safety

/-- From `s` to `t` only broadcast registers of the Snare of Stage `n` have changed. -/
structure BvOnly (s t : State) (n : Nat) : Prop extends SnareClean t n where
  mem : t.mem = s.mem
  others : ∀ m, m ≠ n → t.stage m = s.stage m
  stage : t.stage n = { s.stage n with sn := { (s.stage n).sn with bv := (t.stage n).sn.bv } }

section
variable {s t u : State} {n : Nat}

theorem BvOnly.refl (h : SnareClean s n) : BvOnly s s n where
  toSnareClean := h
  mem := rfl
  others _ _ := rfl
  stage := rfl

theorem BvOnly.trans (h : BvOnly s t n) (h' : BvOnly t u n) : BvOnly s u n where
  toSnareClean := h'.toSnareClean
  mem := h'.mem.trans h.mem
  others m hm := (h'.others m hm).trans (h.others m hm)
  stage := by rw [h'.stage, h.stage]

/-- Elements written into the broadcast registers where no word holds an error. -/
theorem State.bvWrite_of_clean (h : SnareClean s n) (code k : Nat) (vs : List W32) :
    BvOnly s (s.bvWrite n code k vs) n ∧ ((s.bvWrite n code k vs).stage n).sn.bv = msetRun 0 (s.stage n).sn.bv k vs := by
  have hwrite : s.bvWrite n code k vs = s.modStage n (fun x => { x with sn := { x.sn with bv := msetRun 0 x.sn.bv k vs } }) := by
    have hbv := h.bvClean
    unfold State.bvWrite
    simp only [hbv, show ∀ w l, eccClear [] w l = [] from fun _ _ => rfl, eccScan_nil, State.countSnr_of_clean, List.isEmpty_nil, if_true]
    show s.setStage n _ = s.setStage n _
    rw [← hbv]
  have hstage := State.modStage_stage n n (fun x => { x with sn := { x.sn with bv := msetRun 0 x.sn.bv k vs } }) h.wf
  rw [if_pos rfl] at hstage
  rw [hwrite]
  refine ⟨⟨⟨State.modStage_wf _ _ h.wf, ?_, ?_, ?_⟩, rfl, fun m hm => ?_, ?_⟩, ?_⟩
  · rw [hstage]; exact h.validWf
  · rw [hstage]; exact h.vbClean
  · rw [hstage]; exact h.bvClean
  · rw [State.modStage_stage _ _ _ h.wf, if_neg hm]
  · rw [hstage]
  · rw [hstage]

end

/-- What a row reduction makes of row `r` of its source. -/
def rowRed (x : Stage) (f : RedOp) (o : VOp) (sr : W64) (r : Nat) : W32 :=
  if srcValid x o.sa.toNat r then pairTree f.comb f.zero 8 ((List.range 256).map (fun c => f.pre (srcElem x sr o.sa.toNat r c))) else f.zero

/-- The element a reduction leaves: combined with the old one where ACC is set. -/
def accElem (x : Stage) (f : RedOp) (o : VOp) (k : Nat) (res : W32) : W32 := if o.acc then f.comb (mget 0 x.sn.bv k) res else res

section
variable {s t : State} {n : Nat} {f : RedOp} {o : VOp} {sr : W64}

/-- From `s` to `t` the Snare has worked off the given rows of a row reduction, and done nothing else. -/
structure RedRowsDone (s t : State) (n : Nat) (f : RedOp) (o : VOp) (sr : W64) (rows : List Nat) : Prop extends BvOnly s t n where
  computed : ∀ r ∈ rows, mget 0 (t.stage n).sn.bv (bvBase o.vd.toNat + r)
    = accElem (s.stage n) f o (bvBase o.vd.toNat + r) (rowRed (s.stage n) f o sr r)
  kept : ∀ k, (∀ r ∈ rows, k ≠ bvBase o.vd.toNat + r) → mget 0 (t.stage n).sn.bv k = mget 0 (s.stage n).sn.bv k

theorem srcValid_of_bvOnly (h : BvOnly s t n) (code r : Nat) : srcValid (t.stage n) code r = srcValid (s.stage n) code r := by
  rw [h.stage]
  rfl

/-- One row of a row reduction, where no word holds an error. -/
theorem rredRow_of_clean (h : SnareClean s n) (r : Nat) :
    rredRow n f o sr s r = .ok (s.bvWrite n o.vd.toNat (bvBase o.vd.toNat + r)
      [accElem (s.stage n) f o (bvBase o.vd.toNat + r) (rowRed (s.stage n) f o sr r)]) [] := by
  unfold rredRow accElem rowRed
  simp only [rowValid_eq_srcValid, State.vsrc_of_clean h, State.bvRead_of_clean h, mgetRun_one, List.headD_cons, Bool.false_eq_true, if_false]
  cases srcValid (s.stage n) o.sa.toNat r
  case false => cases o.acc <;> rfl
  case true =>
    have hrow : (srcRow (s.stage n) sr r o.sa.toNat).map f.pre = (List.range 256).map (fun c => f.pre (srcElem (s.stage n) sr o.sa.toNat r c)) :=
      List.map_map
    rw [hrow]
    cases o.acc <;> rfl

section
variable {rows : List Nat} (hvd : o.vd = 8 ∨ o.vd = 9) (h : RedRowsDone s t n f o sr rows) (hrows : ∀ q ∈ rows, q < 64) {r : Nat} (hr : r < 64)
  (hnew : r ∉ rows)

theorem bvBase_of_column (hvd : o.vd = 8 ∨ o.vd = 9) : bvBase o.vd.toNat = 512 + 64 * (o.vd.toNat - 8) ∧ 8 ≤ o.vd.toNat := by
  obtain hvd | hvd := hvd <;> rw [hvd] <;> decide

include hvd h hrows hr hnew

/-- A row not yet worked off still has its source's elements, the destination itself the source or not. -/
theorem RedRowsDone.srcElem_eq (code c : Nat) (hc : c < 256) : srcElem (t.stage n) sr code r c = srcElem (s.stage n) sr code r c := by
  obtain ⟨hbase, hge⟩ := bvBase_of_column hvd
  have hvb : (t.stage n).sn.vb = (s.stage n).sn.vb := by rw [h.stage]
  unfold srcElem
  rw [hvb]
  by_cases htile : code ≤ 5
  · rw [if_pos htile, if_pos htile]
  · rw [if_neg htile, if_neg htile]
    by_cases hrow : code ≤ 7
    · rw [if_pos hrow, if_pos hrow]
      exact h.kept _ fun q _ => by omega
    · rw [if_neg hrow, if_neg hrow]
      by_cases hcol : code ≤ 9
      · rw [if_pos hcol, if_pos hcol]
        refine h.kept _ fun q hq heq => hnew ?_
        have hq64 := hrows q hq
        obtain rfl : r = q := by omega
        exact hq
      · rw [if_neg hcol, if_neg hcol]

theorem RedRowsDone.rowRed_eq : rowRed (t.stage n) f o sr r = rowRed (s.stage n) f o sr r := by
  unfold rowRed
  rw [srcValid_of_bvOnly h.toBvOnly]
  split
  · congr 1
    exact List.map_congr_left fun c hc => by rw [h.srcElem_eq hvd hrows hr hnew _ c (List.mem_range.mp hc)]
  · rfl

/-- A further row worked off. -/
theorem RedRowsDone.snoc : ∃ u, rredRow n f o sr t r = .ok u [] ∧ RedRowsDone s u n f o sr (rows ++ [r]) := by
  obtain ⟨honly, hbv⟩ := State.bvWrite_of_clean h.toSnareClean o.vd.toNat (bvBase o.vd.toNat + r)
    [accElem (t.stage n) f o (bvBase o.vd.toNat + r) (rowRed (t.stage n) f o sr r)]
  have hold : mget 0 (t.stage n).sn.bv (bvBase o.vd.toNat + r) = mget 0 (s.stage n).sn.bv (bvBase o.vd.toNat + r) :=
    h.kept _ fun q hq heq => hnew (Nat.add_left_cancel heq ▸ hq)
  refine ⟨_, rredRow_of_clean h.toSnareClean r, { toBvOnly := h.toBvOnly.trans honly, computed := fun q hq => ?_, kept := fun k hk => ?_ }⟩
  · rw [hbv]
    by_cases heq : q = r
    · subst heq
      have hread := mget_msetRun_run (d := (0 : W32)) (t.stage n).sn.bv (bvBase o.vd.toNat + q)
        (vs := [accElem (t.stage n) f o (bvBase o.vd.toNat + q) (rowRed (t.stage n) f o sr q)]) (c := 0) Nat.one_pos
      rw [Nat.add_zero, List.getD_cons_zero] at hread
      rw [hread, accElem, hold, h.rowRed_eq hvd hrows hr hnew]
      rfl
    · have hmem : q ∈ rows := (List.mem_append.mp hq).resolve_right fun hlast => heq (List.mem_singleton.mp hlast)
      rw [mget_msetRun_of_outside _ _ (by rw [List.length_singleton]; omega), h.computed q hmem]
  · have hkr := hk r (List.mem_append_right _ (List.mem_singleton_self r))
    rw [hbv, mget_msetRun_of_outside _ _ (by rw [List.length_singleton]; omega), h.kept k fun q hq => hk q (List.mem_append_left _ hq)]

end

/-- The rows of a row reduction one after another (R152). -/
theorem vrows_rredRow_of_done {rows : List Nat} (hvd : o.vd = 8 ∨ o.vd = 9) (todo : List Nat) (h : RedRowsDone s t n f o sr rows)
    (hrows : ∀ q ∈ rows ++ todo, q < 64) (hdistinct : (rows ++ todo).Nodup) :
    ∃ u, vrows (rredRow n f o sr) todo t [] = .ok u [] ∧ RedRowsDone s u n f o sr (rows ++ todo) := by
  induction todo generalizing t rows with
  | nil => exact ⟨t, rfl, by rwa [List.append_nil]⟩
  | cons r todo ih =>
    have hr : r < 64 := hrows r (List.mem_append_right _ List.mem_cons_self)
    have hnew : r ∉ rows := fun hold => (List.nodup_append.mp hdistinct).2.2 r hold r List.mem_cons_self rfl
    obtain ⟨t', hrow, hdone⟩ := h.snoc hvd (fun q hq => hrows q (List.mem_append_left _ hq)) hr hnew
    rw [List.append_cons] at hrows hdistinct ⊢
    obtain ⟨u, hrest, hall⟩ := ih hdone hrows hdistinct
    refine ⟨u, ?_, hall⟩
    simp only [vrows, hrow, List.append_nil, hrest]

/-- A row reduction worked off, where no word holds an error. -/
theorem VInst.run_rowRed_of_clean (hby : f.byRow = true) (hvd : o.vd = 8 ∨ o.vd = 9) (hfits : o.row0.toNat + o.nr.toNat ≤ 63) (i : Inst)
    (h : SnareClean s n) : ∃ t, VInst.run (.red f o sr) n i s = .ok t [] ∧ RedRowsDone s t n f o sr (vrange o.row0.toNat o.nr.toNat) := by
  have hstart : RedRowsDone s s n f o sr [] := { toBvOnly := .refl h, computed := fun r hr => absurd hr List.not_mem_nil, kept := fun _ _ => rfl }
  obtain ⟨t, hrun, hdone⟩ := vrows_rredRow_of_done hvd (vrange o.row0.toNat o.nr.toNat) hstart
    (fun q hq => by have := mem_vrange.mp hq; omega) (nodup_vrange _ _)
  refine ⟨t, ?_, hdone⟩
  show (if f.byRow then _ else _) = _
  rw [hby]
  exact hrun

/-- The rows a column reduction collects, where no word holds an error. -/
theorem collect_of_clean (h : SnareClean s n) (code : Nat) (rows : List Nat) : collect n code sr rows s
    = ((rows.filter (fun r => srcValid (s.stage n) code r)).map (fun r => (r, srcRow (s.stage n) sr r code)), none, s) := by
  induction rows with
  | nil => rfl
  | cons r rows ih =>
    simp only [collect, rowValid_eq_srcValid, State.vsrc_of_clean h, ih, List.filter_cons]
    cases srcValid (s.stage n) code r <;> rfl

theorem find?_keyed {α : Type} (rows : List Nat) (P : Nat → Bool) (g : Nat → α) (r : Nat) :
    ((rows.filter P).map (fun r => (r, g r))).find? (fun p => decide (p.1 = r)) = if r ∈ rows ∧ P r = true then some (r, g r) else none := by
  induction rows with
  | nil => rfl
  | cons q rows ih =>
    rw [List.filter_cons]
    by_cases hq : P q = true
    · rw [if_pos hq, List.map_cons]
      by_cases heq : q = r
      · subst heq
        rw [List.find?_cons_of_pos (p := fun p : Nat × α => decide (p.1 = q)) (a := (q, g q)) (decide_eq_true rfl), if_pos ⟨List.mem_cons_self, hq⟩]
      · have hne : ¬ r = q := fun h => heq h.symm
        rw [List.find?_cons_of_neg (by simpa using heq), ih]
        simp only [List.mem_cons, hne, false_or]
    · rw [if_neg hq, ih]
      by_cases heq : r = q
      · subst heq
        rw [if_neg fun h => hq h.2, if_neg fun h => hq h.2]
      · simp only [List.mem_cons, heq, false_or]

/-- What a column reduction makes of column `c` of its source (R159). -/
def colRed (x : Stage) (f : RedOp) (o : VOp) (sr : W64) (c : Nat) : W32 :=
  pairTree f.comb f.zero 6 ((List.range 64).map (fun r =>
    if (decide (o.row0.toNat ≤ r ∧ r ≤ o.row0.toNat + o.nr.toNat) && srcValid x o.sa.toNat r) = true then f.pre (srcElem x sr o.sa.toNat r c)
    else f.zero))

/-- A column reduction worked off, where no word holds an error. -/
theorem cred_of_clean (h : SnareClean s n) : cred n f o sr s = .ok (s.bvWrite n o.vd.toNat (bvBase o.vd.toNat)
    ((List.range 256).map (fun c => accElem (s.stage n) f o (bvBase o.vd.toNat + c) (colRed (s.stage n) f o sr c)))) [] := by
  have hcols : ∀ at64 : Nat → List W32, (∀ c, c < 256 → at64 c = (List.range 64).map (fun r =>
        if (decide (o.row0.toNat ≤ r ∧ r ≤ o.row0.toNat + o.nr.toNat) && srcValid (s.stage n) o.sa.toNat r) = true then
          f.pre (srcElem (s.stage n) sr o.sa.toNat r c) else f.zero)) →
      (List.range 256).map (fun c => pairTree f.comb f.zero 6 (at64 c)) = (List.range 256).map (colRed (s.stage n) f o sr) :=
    fun at64 hat => List.map_congr_left fun c hc => by rw [hat c (List.mem_range.mp hc), colRed]
  unfold cred
  simp only [collect_of_clean h, find?_keyed, State.bvRead_of_clean h, Bool.false_eq_true, if_false]
  rw [hcols _ fun c hc => List.map_congr_left fun r _ => ?_]
  · unfold accElem
    cases o.acc
    case false => rfl
    case true =>
      rw [mgetRun_eq_map]
      simp only [if_true]
      rw [List.zip_map', List.map_map]
      rfl
  · simp only [mem_vrange, Bool.and_eq_true, decide_eq_true_eq]
    by_cases hlive : (o.row0.toNat ≤ r ∧ r ≤ o.row0.toNat + o.nr.toNat) ∧ srcValid (s.stage n) o.sa.toNat r = true
    · simp only [if_pos hlive, getD_srcRow _ _ _ _ hc]
    · simp only [if_neg hlive]

/-- From `s` to `t` the Snare has worked off a column reduction, and done nothing else. -/
structure RedColsDone (s t : State) (n : Nat) (f : RedOp) (o : VOp) (sr : W64) : Prop extends BvOnly s t n where
  computed : ∀ c, c < 256 → mget 0 (t.stage n).sn.bv (bvBase o.vd.toNat + c)
    = accElem (s.stage n) f o (bvBase o.vd.toNat + c) (colRed (s.stage n) f o sr c)
  kept : ∀ k, k < bvBase o.vd.toNat ∨ bvBase o.vd.toNat + 256 ≤ k → mget 0 (t.stage n).sn.bv k = mget 0 (s.stage n).sn.bv k

theorem VInst.run_colRed_of_clean (hby : f.byRow = false) (i : Inst) (h : SnareClean s n) :
    ∃ t, VInst.run (.red f o sr) n i s = .ok t [] ∧ RedColsDone s t n f o sr := by
  obtain ⟨honly, hbv⟩ := State.bvWrite_of_clean h o.vd.toNat (bvBase o.vd.toNat)
    ((List.range 256).map (fun c => accElem (s.stage n) f o (bvBase o.vd.toNat + c) (colRed (s.stage n) f o sr c)))
  have hlen : ((List.range 256).map (fun c => accElem (s.stage n) f o (bvBase o.vd.toNat + c) (colRed (s.stage n) f o sr c))).length = 256 := by
    rw [List.length_map, List.length_range]
  refine ⟨_, ?_, { toBvOnly := honly, computed := fun c hc => ?_, kept := fun k hk => ?_ }⟩
  · show (if f.byRow then _ else _) = _
    rw [hby]
    exact cred_of_clean h
  · rw [hbv, mget_msetRun_run _ _ (by rwa [hlen])]
    simp [List.getD_eq_getElem?_getD, hc]
  · rw [hbv, mget_msetRun_of_outside _ _ (by rwa [hlen])]

end

/-- A vector instruction issued to an idle Snare without a word in error, which changes broadcast registers alone: it is worked off at once, and
what it has done is told from the state at issue. -/
theorem issueV_did {s : State} {p : Iss} {i : Inst} {uses : List (BitVec 5)} (op : Nat) (mk : Prm → VInst) (hcanon : Canon s)
    (hseq : SeqIn s p.stage i) (hidle : SnareIdle s p.stage) (hissues : Issues s p i uses)
    (hapron : (mk (s.stage p.stage).prm).usesApron = false) {P : Snr → Prop}
    (hrun : ∀ t, SnareClean t p.stage → (∃ q x, t.stage p.stage = { s.stage p.stage with prm := x, sn := { (s.stage p.stage).sn with queue := q } }) →
      ∃ u, (mk (s.stage p.stage).prm).run p.stage i t = .ok u [] ∧ BvOnly t u p.stage ∧ P (u.stage p.stage).sn)
    (hP : ∀ x q, P x → P { x with queue := q }) :
    ∃ t, thenSnare p.stage (issueV p 6 op false uses mk s) = .next t
      ∧ SnareDid s t p.stage (mk (s.stage p.stage).prm) 6 op ∧ P (t.stage p.stage).sn
      ∧ (t.stage p.stage).sn.vb = (s.stage p.stage).sn.vb ∧ (t.stage p.stage).sn.valid = (s.stage p.stage).sn.valid := by
  obtain ⟨t, hissue, hwf, t', ht', hfile, hflow, hout, -, hstage⟩ := issueV_enqueues 6 op mk hcanon hseq hissues
    (by rw [hidle.queue]; exact Nat.zero_lt_succ _)
  cases ht'
  have hqueue : (t.stage p.stage).sn.queue = [⟨⟨(s.stage p.stage).prm.pc, 6, op⟩, mk (s.stage p.stage).prm, false, []⟩] := by
    rw [hstage, Stage.queueV, hidle.queue]
    rfl
  have hinst : (t.stage p.stage).inst = some i := by rw [hstage]; exact hissues.held
  have hclean : SnareClean t p.stage := by
    constructor
    case wf => exact hwf
    all_goals rw [hstage]
    case validWf => exact hidle.valid
    case vbClean => exact hidle.vbClean
    case bvClean => exact hidle.bvClean
  obtain ⟨u, hrunU, hdone, hPu⟩ := hrun t hclean ⟨_, _, hstage⟩
  have hqueueU : (u.stage p.stage).sn.queue = _ := (congrArg (fun x : Stage => x.sn.queue) hdone.stage).trans hqueue
  obtain ⟨hmem, hst⟩ := State.snareRun_of_single_no_wait hinst hqueue rfl hapron hrunU hdone.wf hqueueU
  have hn := hst p.stage
  rw [if_pos rfl] at hn
  have hfinal : (t.snareRun p.stage).stage p.stage = { t.stage p.stage with sn := { (t.stage p.stage).sn with
      bv := (u.stage p.stage).sn.bv, queue := [⟨⟨(s.stage p.stage).prm.pc, 6, op⟩, mk (s.stage p.stage).prm, true, []⟩] } } := by
    rw [hn, hdone.stage]
  refine ⟨t.snareRun p.stage, by rw [hissue, thenSnare], ?_, by rw [hn]; exact hP _ _ hPu, ?_, ?_⟩
  · exact {
      queue := by rw [hn]
      file := ⟨fun r => by rw [hfinal, ← hfile.regs r], by rw [hfinal, ← hfile.preds]⟩
      flow := ⟨by rw [hfinal, ← hflow.pc], by rw [hfinal, ← hflow.loops], by rw [hfinal, ← hflow.wait]⟩
      others := fun m hm => by rw [hst, if_neg hm, hdone.others m hm, hout.others m hm]
      rest := by rw [hfinal, hstage]; rfl
      mem := by rw [hmem, hdone.mem, hout.mem] }
  · rw [hfinal, hstage]
    rfl
  · rw [hfinal, hstage]
    rfl

/-- A reduction in its rows and with codes that exist meets no decode fault (R147, R156, R159). -/
theorem issueRed_of_legal (p : Iss) (op : Nat) {f : RedOp} {o : VOp} (hfits : o.row0.toNat + o.nr.toNat ≤ 63)
    (hvd : (if f.byRow then decide (o.vd.toNat = 8 ∨ o.vd.toNat = 9) else decide (o.vd.toNat = 6 ∨ o.vd.toNat = 7)) = true)
    (hsa : o.sa.toNat ≤ 10) (s : State) :
    issueRed p op f o s
      = thenSnare p.stage (issueV p 6 op false (if o.sa.toNat = 10 then [o.sr] else []) (fun t => .red f o (t.reg o.sr)) s) := by
  have huse : srUse [o.sa.toNat] o.sr = if o.sa.toNat = 10 then [o.sr] else [] := by
    rw [srUse_eq]
    simp only [List.mem_singleton, eq_comm]
  unfold issueRed
  simp only [hvd, huse, rowsBad, show ¬ o.row0.toNat + o.nr.toNat > 63 by omega, show ¬ 10 < o.sa.toNat by omega, decide_false, Bool.not_true,
    Bool.or_self]

/-- A row of a table of reductions: mnemonic, operation, opcode, combination, value of an excluded position, what is reduced (R45, R159). -/
structure RedEntry (p : Iss) (o : VOp) (byRow : Bool) (x : Instr × RedOp × Nat × (W32 → W32 → W32) × W32 × (W32 → W32)) : Prop where
  exec_eq : ∀ s, exec x.1 s = issueRed p x.2.2.1 x.2.1 o s
  comb_eq : x.2.2.2.1 = x.2.1.comb
  zero_eq : x.2.2.2.2.1 = x.2.1.zero
  pre_eq : x.2.2.2.2.2 = x.2.1.pre
  byRow_eq : x.2.1.byRow = byRow

/-- Settles O24: a row reduction leaves one element for each of its rows, a column reduction one for each column. -/
theorem reductionsCompute : Obligations.ReductionsCompute := by
  intro p i o s hcanon hseq hidle hfits hsa hissues n sr e live id kept
  constructor
  · intro hvd x hx base res
    have hentry : RedEntry p o true x := by
      simp only [List.mem_cons, List.not_mem_nil, or_false] at hx
      obtain rfl | rfl | rfl := hx
      all_goals exact ⟨fun _ => rfl, rfl, rfl, rfl, rfl⟩
    have hbase : bvBase o.vd.toNat = base := (bvBase_of_column hvd).1
    obtain ⟨ins, f, op, comb, zero, pre⟩ := x
    obtain ⟨hexec, hcomb, hzero, hpre, hby⟩ := hentry
    dsimp only at hexec hcomb hzero hpre hby
    subst hcomb hzero hpre
    obtain ⟨t, ht, hdid, ⟨hcomputed, hkept⟩, hvb, hvalid⟩ := issueV_did op (fun t => .red f o (t.reg o.sr)) hcanon hseq hidle hissues rfl
      (P := fun y => (∀ r ∈ vrange o.row0.toNat o.nr.toNat, mget 0 y.bv (base + r)
          = accElem (s.stage n) f o (base + r) (rowRed (s.stage n) f o sr r))
        ∧ ∀ k, (∀ r ∈ vrange o.row0.toNat o.nr.toNat, k ≠ base + r) → mget 0 y.bv k = mget 0 (s.stage n).sn.bv k)
      (fun t hclean ⟨q, y, hstage⟩ => by
        obtain ⟨u, hrun, hdone⟩ := VInst.run_rowRed_of_clean (sr := sr) hby hvd hfits i hclean
        have hc := hdone.computed
        have hk := hdone.kept
        rw [hbase, hstage] at hc
        rw [hbase, hstage] at hk
        exact ⟨u, hrun, hdone.toBvOnly, hc, hk⟩)
      (fun _ _ h => h)
    refine ⟨t, (hexec s).trans ((issueRed_of_legal p op hfits ?_ hsa s).trans ht), hdid, ⟨hvb, hvalid⟩, fun r hlow hhigh => ?_,
      fun k hk => hkept k fun r hr => ?_⟩
    · rw [hby]
      obtain hvd | hvd := hvd <;> rw [hvd] <;> rfl
    · have hlive : live r = srcValid (s.stage n) o.sa.toNat r := by
        show (decide _ && _) = _
        rw [decide_eq_true ⟨hlow, hhigh⟩, Bool.true_and]
      rw [hcomputed r (mem_vrange.mpr ⟨hlow, hhigh⟩)]
      unfold accElem rowRed
      show _ = if o.acc then f.comb _ (if live r then _ else _) else if live r then _ else _
      rw [hlive]
    · have hbound := mem_vrange.mp hr
      omega
  · intro hvd x hx base res
    have hentry : RedEntry p o false x := by
      simp only [List.mem_cons, List.not_mem_nil, or_false] at hx
      obtain rfl | rfl | rfl := hx
      all_goals exact ⟨fun _ => rfl, rfl, rfl, rfl, rfl⟩
    have hbase : bvBase o.vd.toNat = base := by
      show _ = 256 * (o.vd.toNat - 6)
      obtain hvd | hvd := hvd <;> rw [hvd] <;> rfl
    obtain ⟨ins, f, op, comb, zero, pre⟩ := x
    obtain ⟨hexec, hcomb, hzero, hpre, hby⟩ := hentry
    dsimp only at hexec hcomb hzero hpre hby
    subst hcomb hzero hpre
    obtain ⟨t, ht, hdid, ⟨hcomputed, hkept⟩, hvb, hvalid⟩ := issueV_did op (fun t => .red f o (t.reg o.sr)) hcanon hseq hidle hissues rfl
      (P := fun y => (∀ c, c < 256 → mget 0 y.bv (base + c) = accElem (s.stage n) f o (base + c) (colRed (s.stage n) f o sr c))
        ∧ ∀ k, k < base ∨ base + 256 ≤ k → mget 0 y.bv k = mget 0 (s.stage n).sn.bv k)
      (fun t hclean ⟨q, y, hstage⟩ => by
        obtain ⟨u, hrun, hdone⟩ := VInst.run_colRed_of_clean (o := o) (sr := sr) hby i hclean
        have hc := hdone.computed
        have hk := hdone.kept
        rw [hbase, hstage] at hc
        rw [hbase, hstage] at hk
        exact ⟨u, hrun, hdone.toBvOnly, hc, hk⟩)
      (fun _ _ h => h)
    refine ⟨t, (hexec s).trans ((issueRed_of_legal p op hfits ?_ hsa s).trans ht), hdid, ⟨hvb, hvalid⟩, fun c hc => ?_, hkept⟩
    · rw [hby]
      obtain hvd | hvd := hvd <;> rw [hvd] <;> rfl
    · rw [hcomputed c hc]
      rfl

end Sys2Proof.Machine
end

section
/-! PROOFS. The vector moves, draws, updates and tallies join the Snare queue, and the oldest instruction completes (R102, R154, R160, R161, R166). -/

namespace Sys2Proof.Machine

open Sys2Proof.Safety

section
variable {s : State} {n : Nat} {i : Inst} {e : SnEntry}

/-- What the Snare makes of the only instruction in its queue, by what the instruction comes to (R152, R195). -/
theorem State.snareRun_of_single_fault {u : State} {ws : List (Nat × List Byte)} {c : Cause} {x : W64} {k : Nat}
    (hinst : (s.stage n).inst = some i) (hqueue : (s.stage n).sn.queue = [e]) (hdone : e.done = false) (hrun : e.ins.run n i s = .fault u ws c x k) :
    s.snareRun n = (((u.landWrites n (u.stage n).sn.pendingWrites).landWrites n ws).snareCount n [e] e.ins (k - 1)
      (Nat.min k e.ins.rows)).kernelFault n ⟨c, e.org, x, none⟩ := by
  unfold State.snareRun
  simp [hinst, hqueue, State.snareGo, hdone, hrun]

theorem State.snareRun_of_single_hold (hinst : (s.stage n).inst = some i) (hqueue : (s.stage n).sn.queue = [e]) (hdone : e.done = false)
    (hrun : e.ins.run n i s = .hold) : s.snareRun n = s.stall .stgSnrStallPop n := by
  unfold State.snareRun
  simp [hinst, hqueue, State.snareGo, hdone, hrun]

end

/-- A legal vector instruction is taken by a Snare queue with room (R102, R147, R152). -/
theorem issueV_taken {s : State} {p : Iss} {i : Inst} {uses : List (BitVec 5)} (cls op : Nat) (mk : Prm → VInst) (hcanon : Canon s)
    (hseq : SeqIn s p.stage i) (hroom : (s.stage p.stage).sn.queue.length < 16) (hissues : Issues s p i uses) {bad : Bool} (hbad : bad = false) :
    SnareTakes s p.stage i (mk (s.stage p.stage).prm) cls op (thenSnare p.stage (issueV p cls op bad uses mk s)) := by
  obtain ⟨t, hissue, -, henq⟩ := issueV_enqueues cls op mk hcanon hseq hissues hroom
  have hnext : thenSnare p.stage (issueV p cls op bad uses mk s) = .next (t.snareRun p.stage) := by
    rw [hbad, hissue, thenSnare]
  obtain ⟨t', ht', -, -, -, -, hstage⟩ := id henq
  cases ht'
  have hinst : (t.stage p.stage).inst = some i := by
    rw [hstage]
    exact hissues.held
  have hqueue : (s.stage p.stage).sn.queue = [] → (t.stage p.stage).sn.queue = [⟨⟨(s.stage p.stage).prm.pc, cls, op⟩, mk (s.stage p.stage).prm, false, []⟩] := fun hempty => by
    rw [hstage, Stage.queueV, hempty]
    rfl
  refine ⟨t, henq, hnext, fun hempty u ws hrun => ?_, fun hempty u ws f x k hrun => ?_, fun hempty hrun => ?_⟩
  · rw [hnext, State.snareRun_of_single hinst (hqueue hempty) rfl hrun, hqueue hempty]
  · rw [hnext, State.snareRun_of_single_fault hinst (hqueue hempty) rfl hrun, hqueue hempty]
  · rw [hnext, State.snareRun_of_single_hold hinst (hqueue hempty) rfl hrun]

/-- The rows an instruction names are in its buffer (R156). -/
theorem rowsBad_of_fits {row0 nr : BitVec 6} (h : row0.toNat + nr.toNat ≤ 63) : rowsBad row0 nr = false := decide_eq_false (by omega)

theorem isTile_of_le {code : Nat} (h : code ≤ 5) : isTile code = true := decide_eq_true h

theorem pairBuf_of {b : BitVec 4} (h : b = 0 ∨ b = 2 ∨ b = 4) : pairBuf b = true := decide_eq_true h

/-- A source code of a tile buffer or a broadcast register (R147). -/
theorem reserved_of_le {code : Nat} (h : code ≤ 9) : decide (9 < code) = false := decide_eq_false (by omega)


theorem setAt_eq_set {α : Type} (l : List α) (k : Nat) (x : α) : setAt l k x = l.set k x := by
  induction l generalizing k with
  | nil => rfl
  | cons a l ih =>
    cases k with
    | zero => rfl
    | succ k => rw [setAt, ih, List.set_cons_succ]

/-- The pairs of expert `x` among those whose turn has come. -/
def pairsOf (x : Nat) (done : List Nat) : Nat := (done.filter (fun y => decide (y = x))).length

/-- The slot of the next pair of expert `x` after `done` (R280). -/
def slotAfter (c x : Nat) (done : List Nat) : Option Nat := if pairsOf x done < c then some (pairsOf x done) else none

/-- The slots given so far and, of each expert, how many. -/
structure SlotsGiven (c e : Nat) (done : List Nat) (acc : List Nat × List (Option Nat)) : Prop where
  experts : acc.1.length = e
  counts : ∀ x < e, acc.1.getD x 0 = min c (pairsOf x done)
  given : acc.2.length = done.length
  slots : ∀ j x, done[j]? = some x → acc.2[j]? = some (slotAfter c x (done.take j))

theorem pairsOf_append_singleton (x y : Nat) (done : List Nat) : pairsOf x (done ++ [y]) = pairsOf x done + if y = x then 1 else 0 := by
  by_cases h : y = x <;> simp [pairsOf, List.filter_append, h]

/-- One pair's turn gives it the slot after those of its expert before it. -/
theorem takeSlot_eq {c e x : Nat} {done : List Nat} {acc : List Nat × List (Option Nat)} (h : SlotsGiven c e done acc) (hx : x < e) :
    takeSlot c acc x = (if pairsOf x done < c then setAt acc.1 x (pairsOf x done + 1) else acc.1, acc.2 ++ [slotAfter c x done]) := by
  unfold takeSlot slotAfter
  rw [h.counts x hx]
  by_cases hlt : pairsOf x done < c
  · have hmin : min c (pairsOf x done) = pairsOf x done := by omega
    simp [hlt, hmin]
  · have hmin : min c (pairsOf x done) = c := by omega
    simp [hlt, hmin]

theorem slotsGiven_takeSlot {c e x : Nat} {done : List Nat} {acc : List Nat × List (Option Nat)} (h : SlotsGiven c e done acc) (hx : x < e) :
    SlotsGiven c e (done ++ [x]) (takeSlot c acc x) := by
  rw [takeSlot_eq h hx]
  refine ⟨?_, fun y hy => ?_, by simp [h.given], fun j y hj => ?_⟩
  · split <;> simp [setAt_eq_set, h.experts]
  · have hc := h.counts y hy
    rw [pairsOf_append_singleton]
    by_cases hyx : x = y
    · subst hyx
      split
      · simp [setAt_eq_set, List.getD, h.experts, hx]
        omega
      · simp only [if_pos]
        omega
    · split
      · simpa [setAt_eq_set, List.getD, List.getElem?_set, hyx] using hc
      · simpa [hyx] using hc
  · rcases Nat.lt_or_ge j done.length with hlt | hge
    · rw [List.getElem?_append_left hlt] at hj
      rw [List.getElem?_append_left (by simpa [h.given] using hlt), List.take_append_of_le_length (by omega)]
      exact h.slots j y hj
    · obtain ⟨hjl, -⟩ := List.getElem?_eq_some_iff.mp hj
      have hj' : j = done.length := by
        simp at hjl
        omega
      subst hj'
      simp at hj
      simp [← h.given, hj]

/-- Every pair of a source in its turn. -/
theorem slotsGiven_foldl {c e : Nat} (xs : List Nat) (hxs : ∀ x ∈ xs, x < e) :
    ∀ {done : List Nat} {acc : List Nat × List (Option Nat)}, SlotsGiven c e done acc → SlotsGiven c e (done ++ xs) (xs.foldl (takeSlot c) acc) := by
  induction xs with
  | nil => simp
  | cons x xs ih =>
    intro done acc h
    have hnext := ih (fun y hy => hxs y (List.mem_cons_of_mem x hy)) (slotsGiven_takeSlot h (hxs x List.mem_cons_self))
    simpa using hnext

theorem slotsGiven_start (c e : Nat) : SlotsGiven c e [] (List.replicate e 0, []) :=
  ⟨by simp, fun x hx => by simp [List.getD, hx, pairsOf], rfl, by simp⟩

/-- A fully masked key block folds into a fresh state without a trace (R284). -/
theorem attnCombine_masked {l : W32} {o : List W32} {b : AttnState} (hb : b.m = 0xFF800000) :
    attnCombine ⟨ninf32, l, o⟩ b = ⟨ninf32, l, o⟩ := by
  have hmax : EwOp.eval .max ninf32 b.m 0 = ninf32 := by
    rw [hb]
    decide +kernel
  unfold attnCombine
  simp only [hmax, if_pos]

theorem attnFold_masked {n : Nat} {bs : List AttnState} (hbs : ∀ b ∈ bs, b.m = 0xFF800000) :
    attnFold n bs = ⟨ninf32, 0, List.replicate n 0⟩ := by
  unfold attnFold
  induction bs with
  | nil => rfl
  | cons b bs ih =>
    rw [List.foldl_cons, attnCombine_masked (hbs b List.mem_cons_self)]
    exact ih (fun c hc => hbs c (List.mem_cons_of_mem b hc))

/-- Settles O25: each instruction's decode check passes, so the queue with room takes it; the experts' slots by the invariant of the fold. -/
theorem vectorMovesAndUpdatesJoinTheSnare : Obligations.VectorMovesAndUpdatesJoinTheSnare := by
  unfold Obligations.VectorMovesAndUpdatesJoinTheSnare
  refine ⟨?_, ?_, fun c e xs hxs j x hj => ?_, fun n bs hbs => attnFold_masked hbs⟩
  · intro p i s hcanon hseq hroom n g w
    refine ⟨fun vd blk hi => ⟨fun hv => ?_, fun hv => ?_⟩, fun o hi hr => ⟨fun hv => ⟨?_, ?_⟩, fun hv => ⟨?_, ?_⟩⟩,
      fun b ra hi => ⟨fun h6 h9 => ⟨?_, ?_⟩, fun hb => ⟨?_, ?_⟩⟩, fun b sa row col hi hs => ⟨fun hb => ?_, fun hb => ?_⟩, fun sem val hi => ?_⟩
    · exact issueV_taken 7 0x00 (fun _ => .pop vd.toNat blk.toNat) hcanon hseq hroom hi (by simp [isTile_of_le hv])
    · exact issueV_taken 7 0x01 (fun _ => .popw vd.toNat blk.toNat) hcanon hseq hroom hi (by simp [pairBuf_of hv])
    · exact issueV_taken 7 0x04 (fun t => .ld o (t.reg o.ra)) hcanon hseq hroom hi (by simp [rowsBad_of_fits hr, isTile_of_le hv])
    · exact issueV_taken 7 0x05 (fun t => .st o (t.reg o.ra)) hcanon hseq hroom hi (by simp [rowsBad_of_fits hr, isTile_of_le hv])
    · exact issueV_taken 7 0x06 (fun t => .ldw o (t.reg o.ra)) hcanon hseq hroom hi (by simp [rowsBad_of_fits hr, pairBuf_of hv])
    · exact issueV_taken 7 0x07 (fun t => .stw o (t.reg o.ra)) hcanon hseq hroom hi (by simp [rowsBad_of_fits hr, pairBuf_of hv])
    · exact issueV_taken 7 0x08 (fun t => .bld b.toNat (t.reg ra)) hcanon hseq hroom hi (by simp [isBcast, h6, h9])
    · exact issueV_taken 7 0x09 (fun t => .bst b.toNat (t.reg ra)) hcanon hseq hroom hi (by simp [isBcast, h6, h9])
    · exact issueV_taken 7 0x0C (fun t => .rvset b.toNat (t.reg ra)) hcanon hseq hroom hi (by simp [isTile_of_le hb])
    · exact issueV_taken 7 0x0D (fun _ => .rvget b.toNat ra) hcanon hseq hroom hi (by simp [isTile_of_le hb])
    · exact issueV_taken 7 0x0A (fun _ => .brow b.toNat sa.toNat row.toNat) hcanon hseq hroom hi (by simp only [decide_eq_true hb, reserved_of_le hs, Bool.not_true, Bool.or_self])
    · exact issueV_taken 7 0x0B (fun _ => .bcol b.toNat sa.toNat col.toNat) hcanon hseq hroom hi (by simp only [decide_eq_true hb, reserved_of_le hs, Bool.not_true, Bool.or_self])
    · exact issueV_taken 7 0x10 (fun _ => .sig sem.toNat val.toNat) hcanon hseq hroom hi rfl
  · intro p i s hcanon hseq hroom n g w
    refine ⟨fun o hr hv => ⟨fun hi => ?_, fun sa sr hs hi => ?_⟩, fun a b c d row0 nr ncol kk sr rc hr =>
      ⟨fun hi ha hb hab => ?_, fun hi ha hb hc hac => ?_, fun hi ha hb hc hd hab hac hbc => ?_, fun hi ha => ?_, fun hi => ?_⟩⟩
    · exact issueV_taken 8 0x00 (fun t => .rng o (t.reg o.ra)) hcanon hseq hroom hi (by simp [rowsBad_of_fits hr, isTile_of_le hv])
    · exact issueV_taken 8 0x01 (fun t => .drop o sa.toNat (t.reg o.ra) (t.reg sr)) hcanon hseq hroom hi
        (by simp [rowsBad_of_fits hr, isTile_of_le hv, hs])
    · exact issueV_taken 8 0x04 (fun _ => .topk a.toNat b.toNat row0.toNat nr.toNat (ncol.toNat + 1) (kk.toNat + 1)) hcanon hseq hroom hi (by simp [rowsBad_of_fits hr, isTile_of_le ha, hb, hab])
    · exact issueV_taken 8 0x08 (fun t => .mom a.toNat b.toNat c.toNat row0.toNat nr.toNat (t.reg sr)) hcanon hseq hroom hi
        (by simp [rowsBad_of_fits hr, isTile_of_le ha, isTile_of_le hb, isTile_of_le hc, hac])
    · exact issueV_taken 8 0x09 (fun t => .upd a.toNat b.toNat c.toNat d.toNat row0.toNat nr.toNat (t.reg sr)) hcanon hseq hroom hi
        (by simp [rowsBad_of_fits hr, isTile_of_le ha, isTile_of_le hb, isTile_of_le hc, isTile_of_le hd, hab, hac, hbc])
    · exact issueV_taken 8 0x0C (fun t => .tly a.toNat row0.toNat nr.toNat (t.reg sr)) hcanon hseq hroom hi (by simp [rowsBad_of_fits hr, ha])
    · exact issueV_taken 8 0x0D (fun t => .tlyc (t.reg sr) (t.reg rc)) hcanon hseq hroom hi rfl
  · have h := slotsGiven_foldl xs hxs (slotsGiven_start c e)
    exact h.slots j x (by simpa using hj)

section
variable {s : State} {n : Nat} {e : SnEntry} {rest : List SnEntry}

/-- What completing the oldest instruction does before its own effect: it leaves the queue and its bytes land. -/
def State.popDone (s : State) (n : Nat) (e : SnEntry) (rest : List SnEntry) : State :=
  (s.modStage n (fun t => { t with sn := { t.sn with queue := rest } })).landWrites n e.writes

theorem execSnareInstructionComplete_of_sig {sem k : Nat} (hn : n < 144) (hqueue : (s.stage n).sn.queue = e :: rest) (hdone : e.done = true)
    (hins : e.ins = .sig sem k) : execSnareInstructionComplete n s = .next ((s.popDone n e rest).semAdd n sem k e.org) := by
  unfold execSnareInstructionComplete
  rw [if_pos hn, hqueue]
  simp only [hdone, if_pos, hins]
  rfl

theorem execSnareInstructionComplete_of_not_sig (hn : n < 144) (hqueue : (s.stage n).sn.queue = e :: rest) (hdone : e.done = true)
    (hins : ∀ sem k, e.ins ≠ .sig sem k) : execSnareInstructionComplete n s = .next (s.popDone n e rest) := by
  unfold execSnareInstructionComplete
  rw [if_pos hn, hqueue]
  simp only [hdone, if_pos]
  rfl

/-- The oldest instruction not worked off, behind those that are. -/
theorem find?_not_done {done : List SnEntry} (hall : ∀ x ∈ done, x.done = true) (hdone : e.done = false) :
    (done ++ e :: rest).find? (fun x => !x.done) = some e := by
  have hnone : done.find? (fun x => !x.done) = none := List.find?_eq_none.mpr (fun x hx => by simp [hall x hx])
  simp [List.find?_append, hnone, hdone]

end

/-- Settles O26: by whether the oldest instruction is a VSIG, and by finding the first one not worked off. -/
theorem snareCompletesInOrder : Obligations.SnareCompletesInOrder := by
  unfold Obligations.SnareCompletesInOrder
  refine fun n s hn => ⟨fun e rest hqueue hdone => ⟨fun sem k hins => ?_, fun hins => ?_⟩, fun done e rest vd blk hqueue hall hdone hins => ?_⟩
  · exact execSnareInstructionComplete_of_sig hn hqueue hdone hins
  · exact execSnareInstructionComplete_of_not_sig hn hqueue hdone hins
  · show execSnarePopWaitLimit n s = _
    unfold execSnarePopWaitLimit
    rw [if_pos hn, hqueue, find?_not_done hall hdone]
    rcases hins with hins | hins <;> simp only [hins]

end Sys2Proof.Machine
end

section
/-! PROOFS. Transfers are issued, a step performs the front command or fetches the next, table words decode, and what reset leaves
(R10, R95, R99-R101, R120-R122). -/

namespace Sys2Proof.Machine

open Sys2Proof.Safety

section
variable {s s1 : State} {p : Iss} {i : Inst} {f : ShFields} {bs : List Byte}

theorem Inst.record?_of_misplaced {a : W64} {al len : Nat} (h : a.toNat % al ≠ 0 ∨ i.dataSize < a.toNat + len) : i.record? a al len = none := by
  refine if_neg fun hboth => ?_
  obtain ⟨halign, hin⟩ := hboth
  have hfit : a.toNat + len ≤ i.dataSize := of_decide_eq_true hin
  omega

theorem issueSh_of_full (op : Nat) (hissues : Issues s p i [f.desc]) (hfull : 32 ≤ (s.stage p.stage).sh.ops.length) :
    issueSh p op f s = .next ((stalled s p.stage 9 op).kick p.stage) := by
  unfold issueSh
  rw [issue_of_issues hissues]
  simp only [if_pos hfull]
  rfl

theorem issueSh_of_misplaced (op : Nat) (hissues : Issues s p i [f.desc]) (hroom : (s.stage p.stage).sh.ops.length < 32)
    (hdesc : ((s.stage p.stage).prm.reg f.desc).toNat % 64 ≠ 0 ∨ i.dataSize < ((s.stage p.stage).prm.reg f.desc).toNat + 64) :
    issueSh p op f s = .next (((started s p 9 op).kernelFault p.stage
      ⟨.address, ⟨(s.stage p.stage).prm.pc, 9, op⟩, (s.stage p.stage).prm.reg f.desc, none⟩).kick p.stage) := by
  unfold issueSh
  rw [issue_of_issues hissues]
  simp only [if_neg (Nat.not_le.mpr hroom), Inst.record?_of_misplaced hdesc]

/-- The descriptor is copied, poisoned or not (R121). -/
theorem issueSh_of_placed (op : Nat) (hissues : Issues s p i [f.desc]) (hroom : (s.stage p.stage).sh.ops.length < 32)
    (halign : ((s.stage p.stage).prm.reg f.desc).toNat % 64 = 0) (hinside : ((s.stage p.stage).prm.reg f.desc).toNat + 64 ≤ i.dataSize) {bad : Bool}
    (hread : (started s p 9 op).apRead p.stage (i.dataBase + ((s.stage p.stage).prm.reg f.desc).toNat) 64 3 = (bs, bad, s1)) :
    issueSh p op f s = .next ((if bad then s1.kernelFault p.stage ⟨.poison, ⟨(s.stage p.stage).prm.pc, 9, op⟩, 0, none⟩
      else (s1.modStage p.stage (fun t => { t with
        prm := { t.prm with seq := t.prm.seq + 1 }
        sh := { t.sh with ops := t.sh.ops ++
          [⟨⟨t.prm.pc, 9, op⟩, leWords 8 bs, i.dataBase + ((s.stage p.stage).prm.reg f.desc).toNat, f.sem.toNat, f.nosig, 0, none, none, 0, false,
            t.prm.seq, false, 8⟩] } })).goSeq p.stage (s.stage p.stage).prm.pc 9 op).kick p.stage) := by
  unfold issueSh
  rw [issue_of_issues hissues]
  simp only [if_neg (Nat.not_le.mpr hroom), Inst.record?_of_inside halign hinside, hread]
  cases bad <;> rfl

end

/-- Settles O27: each of the four is the issue of a transfer; by room and by its descriptor's place. -/
theorem stagehandInstructionsStart : Obligations.StagehandInstructionsStart := by
  intro p i f s hissues n x d c hc
  have hexec : exec c.1 s = issueSh p c.2 f s := by
    simp only [List.mem_cons, List.not_mem_nil, or_false] at hc
    rcases hc with rfl | rfl | rfl | rfl <;> rfl
  rw [hexec]
  refine ⟨issueSh_of_full c.2 hissues, fun hroom halign hinside bs s1 hread => ?_, fun hroom halign hinside bs s1 hread => ?_,
    issueSh_of_misplaced c.2 hissues⟩
  · exact issueSh_of_placed c.2 hissues hroom halign hinside hread
  · exact issueSh_of_placed c.2 hissues hroom halign hinside hread

/-- A clean word that spells an instruction joins the queue (R95). -/
theorem State.fetch_of_clean {s : State} {n : Nat} {i : Inst} {c : Instr} (hcanon : Canon s)
    (hclean : CleanApron (s.stage n) (i.codeBase + (s.stage n).prm.pc) 8)
    (hword : decodeKernel n (BitVec.ofNat 64 (apNumber s n (i.codeBase + (s.stage n).prm.pc) 8)) = .ok c) :
    s.fetch n i = { s with pending := s.pending ++ [c] } := by
  obtain ⟨-, hwf, hform⟩ := hcanon
  have hread := State.apRead_of_clean hwf (hform n).2.2.1 hclean (by decide) 1
  have hspelt : decodeKernel n (w64 (ofLe (mgetRun 0 (s.stage n).ap.bytes (i.codeBase + (s.stage n).prm.pc) 8))) = .ok c := by
    rw [mgetRun_eq_map]
    exact hword
  unfold State.fetch
  simp only [hread, hspelt, Bool.false_eq_true, if_false]

/-- Settles O55: by the queue; on an empty one the next Prompter's clean word is fetched. -/
theorem stepRunsTheFrontCommand : Obligations.StepRunsTheFrontCommand := by
  refine fun s => ⟨fun c rest => step_of_pending, fun hempty => ?_, ?_⟩
  · unfold step
    rw [hempty]
  · intro hempty n i c hnext a hclean hcanon hword
    have hfetch : State.fetch { s with turn := n + 1 } n i = { s with turn := n + 1, pending := s.pending ++ [c] } :=
      State.fetch_of_clean (s := { s with turn := n + 1 }) hcanon hclean hword
    refine ⟨{ s with turn := n + 1, pending := [c] }, ?_, rfl, rfl, rfl, fun k => rfl⟩
    unfold step tick
    rw [hempty]
    simp only [hnext]
    rw [hempty] at hfetch
    exact congrArg Host.Outcome.next hfetch

theorem wordClass_eq (w : W64) : wordClass w = w.toNat / 2 ^ 60 := by
  unfold wordClass fieldAt
  rw [BitVec.extractLsb'_toNat, Nat.shiftRight_eq_div_pow]
  omega

/-- No class from 0xB on is decoded (R101). -/
theorem decodeKernel_of_reserved {w : W64} (n : Nat) (h : 11 ≤ wordClass w) : decodeKernel n w = .error (.reservedClass (wordClass w)) := by
  unfold decodeKernel
  split
  case h_12 => rfl
  all_goals omega

/-- Settles O58: the words evaluate; a word of class 0xB or above meets no class of the decoder. -/
theorem wordsDecodeRight : Obligations.WordsDecodeRight := by
  unfold Obligations.WordsDecodeRight
  refine fun n => ⟨rfl, rfl, rfl, rfl, rfl, rfl, rfl, rfl, rfl, rfl, rfl, rfl, rfl, fun w hw => ?_⟩
  have hclass : 11 ≤ w.toNat / 2 ^ 60 := by
    have hle : 0xB000000000000000 ≤ w.toNat := hw
    omega
  rw [← wordClass_eq] at hclass ⊢
  exact decodeKernel_of_reserved n hclass

/-- Settles O60: an empty table reads its default everywhere. -/
theorem resetLeavesTheDevice : Obligations.ResetLeavesTheDevice := by
  refine ⟨⟨rfl, rfl, fun n => ⟨rfl, rfl, rfl, rfl⟩⟩, rfl, fun r i => ?_, fun n => rfl, rfl, rfl, rfl, rfl, rfl, rfl, rfl, rfl⟩
  show 0 ^^^ regReset r i = regReset r i
  exact BitVec.zero_xor

end Sys2Proof.Machine
end

section
/-! PROOFS. Transfers of the Stagehand complete, and what ends their waits (R121-R130, R137, R209-R216, R285, R419). -/

namespace Sys2Proof.Machine

open Sys2Proof.Safety

section
variable {s v : State} {n k : Nat} {x : Inst} {o : ShOp} {d : ShD} {bs : List Byte} {st : Nat} {crc : W64} {ok : Bool}

/-- What a transfer that passed its checks comes to, by its kind. -/
def State.shEffect (u : State) (n : Nat) (x : Inst) (o : ShOp) (d : ShD) : State :=
  if o.org.op = 3 then (u.unpin x d).shDone n o d none
  else if o.org.op = 1 then u.completeGather n x o d
  else if d.red ≠ 0 then (if o.lines < (u.redPieces n x o d).length then u else u.shDone n o d none)
  else if o.org.op = 0 ∧ d.srcSp = 2 then u.completePipe n x o d
  else if d.dstSp = 2 then u.completeSend n x o d
  else match u.copyRows n x o d (d.rowsOf o.list) with
    | .done t => t.shDone n o d none
    | .poison t => t.shFault n o d .poison 0 (t.shItem x d)
    | .wait t => t

theorem execStagehandComplete_of_bad {c : Cause} {info : W64} (hn : n < 144) (hinst : ((s.kick n).stage n).inst = some x)
    (hop : (((s.kick n).stage n).sh.ops.take 8)[k]? = some o) (halive : o.dead = false)
    (hcheck : (s.kick n).shCheck n x o.org.op (shDesc o.desc) o.list = some (c, info)) :
    execStagehandComplete n k s = .next ((s.kick n).shFault n o (shDesc o.desc) c info none) := by
  unfold execStagehandComplete
  simp only [if_pos hn, hinst, hop, halive, hcheck, Bool.false_eq_true, if_false]

theorem execStagehandComplete_of_good (hn : n < 144) (hinst : ((s.kick n).stage n).inst = some x)
    (hop : (((s.kick n).stage n).sh.ops.take 8)[k]? = some o) (halive : o.dead = false)
    (hcheck : (s.kick n).shCheck n x o.org.op (shDesc o.desc) o.list = none) :
    execStagehandComplete n k s = .next ((s.kick n).shEffect n x o (shDesc o.desc)) := by
  unfold execStagehandComplete State.shEffect
  simp only [if_pos hn, hinst, hop, halive, hcheck, Bool.false_eq_true, if_false]
  cases (s.kick n).copyRows n x o (shDesc o.desc) ((shDesc o.desc).rowsOf o.list) <;> split_ifs <;> rfl

/-- Pins that a DREL's descriptor names (R129). -/
def ShD.names (d : ShD) (x : Inst) (p : Pin) : Bool := decide (p.ctx = x.ctx ∧ p.tensor = tenOf d.src ∧ p.off = offOf d.src ∧ p.len = d.len * d.rows)

/-- Those of them that the kernel's own item set. -/
def ShD.namesOwn (d : ShD) (x : Inst) (p : Pin) : Bool := d.names x p && decide (p.vrank = x.vrank ∧ p.mb = x.mb.toNat)

theorem State.unpin_of_named {q : Pin} (h : s.sched.pins.find? (d.namesOwn x) = some q
    ∨ (s.sched.pins.find? (d.namesOwn x) = none ∧ s.sched.pins.find? (d.names x) = some q)) :
    s.unpin x d = s.modSched (fun y => { y with pins := y.pins.erase q }) := by
  unfold ShD.namesOwn ShD.names at h
  unfold State.unpin State.modSched
  rcases h with hown | ⟨hown, hnamed⟩
  · simp only [hown]
  · simp only [hown, hnamed]

theorem State.unpin_of_unnamed (h : s.sched.pins.find? (d.names x) = none) : s.unpin x d = s := by
  have hown : s.sched.pins.find? (d.namesOwn x) = none := by
    rw [List.find?_eq_none] at h ⊢
    intro p hp
    simp [ShD.namesOwn, h p hp]
  unfold ShD.namesOwn at hown
  unfold ShD.names at h hown
  unfold State.unpin State.modSched
  simp only [hown, h]

theorem State.completeGather_of_version (hshard : s.shardHere n x o d = .inl (bs, true, st, crc, v)) (hmatch : d.matching = true)
    (hstamp : ¬ (st % 2 ^ 32 = d.verStep ∧ crc = d.verCrc)) :
    s.completeGather n x o d = (if x.lead then v.redirect x d else v).shFault n o d .version 0 none := by
  unfold State.completeGather
  simp only [hshard, hmatch, hstamp, decide_false, Bool.not_false, Bool.and_true, if_true]

theorem State.completeGather_of_landed {t : State} (hshard : s.shardHere n x o d = .inl (bs, ok, st, crc, v))
    (hstamp : ok = false ∨ d.matching = false ∨ (st % 2 ^ 32 = d.verStep ∧ crc = d.verCrc)) (hland : v.landShard n x d bs st crc = .inl t) :
    s.completeGather n x o d = if ok then t.shDone n o d (if d.matching then none else some (st, crc))
      else t.shFault n o d .poison 0 (t.shItem x d) := by
  have hfine : (ok && d.matching && !decide (st % 2 ^ 32 = d.verStep ∧ crc = d.verCrc)) = false := by
    rcases hstamp with hpoison | hplain | hsame
    · rw [hpoison, Bool.false_and, Bool.false_and]
    · rw [hplain, Bool.and_false, Bool.false_and]
    · rw [decide_eq_true hsame, Bool.not_true, Bool.and_false]
  unfold State.completeGather
  simp only [hshard, hfine, hland, Bool.false_eq_true, if_false]

theorem State.completePipe_of_misfit {m : PipeMsg} (hpay : s.payloadFor x d = some m) (hlen : m.total ≠ d.len * d.rows) :
    s.completePipe n x o d = s.shFault n o d .tensor d.src none := by
  unfold State.completePipe
  simp only [hpay, if_pos hlen]

theorem State.completePipe_of_placed {m : PipeMsg} {t : State} (hpay : s.payloadFor x d = some m) (hlen : m.total = d.len * d.rows)
    (hwrite : State.writeRows n x d ((List.range d.rows).map (fun r => (r * d.dstride, (m.data.drop (r * d.len)).take d.len))) s = .inl t) :
    s.completePipe n x o d = (t.takePipe m (!x.lead) (t.ensIdOf x d.ens)).shDone n o d none := by
  unfold State.completePipe
  simp only [hpay, if_neg (not_not.mpr hlen), hwrite]

section
variable {rows : List (List Byte)}

theorem State.completeSend_of_dmov (hop : o.org.op = 0) (hsent : o.sent = true) (hacked : s.inFlight (fun q => decide (q = .transfer n o.id)) = false)
    (hread : State.readRows n x d (List.range d.rows) s = .inl (rows, true, v)) : s.completeSend n x o d = s.shDone n o d none := by
  unfold State.completeSend
  simp only [hread, if_pos hop, hsent, hacked, Bool.not_true, Bool.or_self, Bool.false_eq_true, if_false]

theorem State.completeSend_of_dscat {t : State} (hop : o.org.op = 2) (hsent : o.sent = true)
    (hacked : s.inFlight (fun q => decide (q = .transfer n o.id)) = false)
    (hread : State.readRows n x d (List.range d.rows) s = .inl (rows, true, v)) (hown : v.ownRows n x o d rows = .inl t) :
    s.completeSend n x o d = (t.noteRows x o d rows).shDone n o d none := by
  unfold State.completeSend
  simp only [hread, hop, hsent, hacked, hown, Bool.not_true, Bool.or_self, Bool.and_false, Bool.false_eq_true, if_false, if_true,
    show ¬ (2 = 0) by decide]

end

/-- A gather whose data has not come is one that a retry asks for again. -/
theorem gather_unanswered (h : ∀ y, o.arrived = some y → y.1.length ≠ (shDesc o.desc).len * (shDesc o.desc).rows) :
    (match o.arrived with
      | some a => decide (a.1.length ≠ (shDesc o.desc).len * (shDesc o.desc).rows)
      | none => true) = true := by
  cases harr : o.arrived with
  | none => rfl
  | some y => exact decide_eq_true (h y harr)

end

section
variable {s s1 s2 : State} {n k : Nat} {x : Inst} {o : ShOp} {d : ShD} {w v : RedWrite} {a : Nat} {bad : Bool} {t : TensorDecl}

theorem execReduceWrite_of_poisoned (hn : n < 144) (hnext : s.nextRed n k = some (x, o, d, v, a, true, s1)) :
    execReduceWrite w n k s = .next (s1.shFault n o d .poison 0 (s1.shItem x d)) := by
  unfold execReduceWrite
  simp only [if_pos hn, hnext, if_true]

theorem execReduceWrite_of_taken (hn : n < 144) (hnext : s.nextRed n k = some (x, o, d, { w with poison := false }, a, false, s1))
    (hdecl : s1.redDecl x w.tensor = some t) (hred : s1.reduce x.lead t a w.red w.key w.data w.poison = .taken s2) :
    execReduceWrite w n k s = .next (s2.modOp n o.id (fun o => { o with lines := o.lines + 1 })) := by
  unfold execReduceWrite
  simp only [if_pos hn, hnext, hdecl, hred, ne_eq, not_true_eq_false, Bool.false_eq_true, if_false]

theorem execReduceWrite_of_refused (hn : n < 144) (hnext : s.nextRed n k = some (x, o, d, { w with poison := false }, a, false, s1))
    (hdecl : s1.redDecl x w.tensor = some t) (hred : s1.reduce x.lead t a w.red w.key w.data w.poison = .refused s2) :
    execReduceWrite w n k s = .next s2 := by
  unfold execReduceWrite
  simp only [if_pos hn, hnext, hdecl, hred, ne_eq, not_true_eq_false, Bool.false_eq_true, if_false]

theorem execReduceRefuseLimit_of_refused (hn : n < 144) (hnext : s.nextRed n k = some (x, o, d, v, a, bad, s1))
    (hdecl : s1.redDecl x v.tensor = some t) (hred : s1.reduce x.lead t a v.red v.key v.data v.poison = .refused s2) :
    execReduceRefuseLimit n k s = .next (s.shFault n o d .waitLimit 0 none) := by
  unfold execReduceRefuseLimit
  simp only [if_pos hn, hnext, hdecl, hred]

theorem execOrderedReadWaitLimit_of_held (hn : n < 144) (hinst : (s.stage n).inst = some x) (hop : ((s.stage n).sh.ops.take 8)[k]? = some o)
    (hcheck : s.shCheck n x o.org.op (shDesc o.desc) o.list = none) (hheld : s.heldByOrder n x (shDesc o.desc) = true) :
    execOrderedReadWaitLimit n k s = .next (s.shFault n o (shDesc o.desc) .waitLimit 0 none) := by
  unfold execOrderedReadWaitLimit
  simp only [if_pos hn, hinst, hop, hcheck, hheld, Option.isNone_none, Bool.and_self, if_true]

theorem execShardRetryTimeout_of_gather (hn : n < 144) (hinst : (s.stage n).inst = some x) (hop : ((s.stage n).sh.ops.take 8)[k]? = some o)
    (hgath : o.org.op = 1) (hsent : o.sent = true) (halive : o.dead = false)
    (harr : ∀ y, o.arrived = some y → y.1.length ≠ (shDesc o.desc).len * (shDesc o.desc).rows) :
    execShardRetryTimeout n k s = .next (s.regather n x o (shDesc o.desc)) := by
  unfold execShardRetryTimeout
  simp only [if_neg (Nat.ne_of_lt hn), if_pos hn, hinst, hop]
  exact if_pos ⟨hgath, hsent, halive, gather_unanswered harr⟩

theorem execShardDeclareTimeout_of_gather {dev : Nat} (hn : n < 144) (hinst : (s.stage n).inst = some x)
    (hop : ((s.stage n).sh.ops.take 8)[k]? = some o) (hgath : o.org.op = 1) (hsent : o.sent = true) (halive : o.dead = false)
    (harr : ∀ y, o.arrived = some y → y.1.length ≠ (shDesc o.desc).len * (shDesc o.desc).rows)
    (hpeer : s.peerOf x (shDesc o.desc) (shDesc o.desc).member = some dev) :
    execShardDeclareTimeout n k s = .next ((s.bump .pbkShardDeclare 0 1).reportSuspect dev 3) := by
  unfold execShardDeclareTimeout
  simp only [if_neg (Nat.ne_of_lt hn), if_pos hn, hinst, hop, hpeer]
  exact if_pos ⟨hgath, hsent, halive, gather_unanswered harr⟩

end

/-- Settles O28: a transfer's end by its check and its kind; its waits by what the next write or the gather's source comes to. -/
theorem transfersAndTheirLimits : Obligations.TransfersAndTheirLimits := by
  unfold Obligations.TransfersAndTheirLimits
  refine ⟨?_, fun n k s hn => ⟨?_, ?_, ?_, ?_⟩⟩
  · intro n k x o s hn u hinst hop halive d op
    refine ⟨fun c info hcheck => execStagehandComplete_of_bad hn hinst hop halive hcheck, fun hcheck => ?_⟩
    have hdone : exec (.stagehandComplete n k) s = .next (u.shEffect n x o d) := execStagehandComplete_of_good hn hinst hop halive hcheck
    rw [hdone]
    unfold State.shEffect
    refine ⟨fun hdrel => ?_, fun hgath => ?_, fun hdmov hred hsrc m hpay => ?_, fun hsend hred hpipe hdst hsent hacked rows v hread => ?_,
      fun hsend hred hlines => ?_, fun hsend hred hpipe hdst => ?_⟩
    · rw [if_pos hdrel]
      intro named own
      exact ⟨fun q hq => by rw [State.unpin_of_named hq], fun hnone => by rw [State.unpin_of_unnamed hnone]⟩
    · have hne : ¬ o.org.op = 3 := by omega
      rw [if_neg hne, if_pos hgath]
      intro bs ok st crc v hshard
      refine ⟨fun hok hmatch hstamp => ?_, fun hstamp t hland => ?_⟩
      · subst hok
        rw [State.completeGather_of_version hshard hmatch hstamp]
      · rw [State.completeGather_of_landed hshard hstamp hland]
    · have hne : ¬ o.org.op = 3 ∧ ¬ o.org.op = 1 := by omega
      rw [if_neg hne.1, if_neg hne.2, if_neg (not_not.mpr hred), if_pos ⟨hdmov, hsrc⟩]
      refine ⟨fun hlen => ?_, fun hlen t hwrite => ?_⟩
      · rw [State.completePipe_of_misfit hpay hlen]
      · rw [State.completePipe_of_placed hpay hlen hwrite]
    · have hne : ¬ o.org.op = 3 ∧ ¬ o.org.op = 1 := by omega
      rw [if_neg hne.1, if_neg hne.2, if_neg (not_not.mpr hred), if_neg hpipe, if_pos hdst]
      refine ⟨fun hdmov => ?_, fun hdscat t hown => ?_⟩
      · rw [State.completeSend_of_dmov hdmov hsent hacked hread]
      · rw [State.completeSend_of_dscat hdscat hsent hacked hread hown]
    · have hne : ¬ o.org.op = 3 ∧ ¬ o.org.op = 1 := by omega
      rw [if_neg hne.1, if_neg hne.2, if_pos hred, if_neg (Nat.not_lt.mpr hlines)]
    · have hne : ¬ o.org.op = 3 ∧ ¬ o.org.op = 1 := by omega
      rw [if_neg hne.1, if_neg hne.2, if_neg (not_not.mpr hred), if_neg hpipe, if_neg hdst]
      exact ⟨fun t hcopy => by rw [hcopy], fun t hcopy => by rw [hcopy]⟩
  · intro w x o d v a bad s1 hnext
    refine ⟨fun hbad => ?_, fun t hdecl hgood hw => ⟨fun s2 hred => ?_, fun s2 hred => ?_⟩⟩
    · subst hbad
      exact execReduceWrite_of_poisoned hn hnext
    · subst hgood hw
      exact execReduceWrite_of_taken hn hnext hdecl hred
    · subst hgood hw
      exact execReduceWrite_of_refused hn hnext hdecl hred
  · intro x o d v a bad s1 s2 t hnext hdecl hred
    exact execReduceRefuseLimit_of_refused hn hnext hdecl hred
  · intro x o hinst hop d
    exact ⟨execOrderedReadWaitLimit_of_held hn hinst hop, fun hgath hsent halive harr =>
      ⟨execShardRetryTimeout_of_gather hn hinst hop hgath hsent halive harr,
        fun dev hpeer => execShardDeclareTimeout_of_gather hn hinst hop hgath hsent halive harr hpeer⟩⟩
  · intro q hq
    constructor
    · show execShardRetryTimeout 144 k s = _
      unfold execShardRetryTimeout
      simp only [if_true, hq]
    · show execShardDeclareTimeout 144 k s = _
      unfold execShardDeclareTimeout
      simp only [if_true, hq]

end Sys2Proof.Machine
end

section
/-! PROOFS. Launches start, Stages are claimed, contexts swap, Stages retire (R81, R204, R293-R318, R413). -/

namespace Sys2Proof.Machine

open Sys2Proof.Safety

/-- A field that is the whole register. -/
theorem bitsOf_whole (v : W64) : bitsOf v 63 0 = v.toNat := by
  unfold bitsOf
  have hlt := v.isLt
  omega

theorem setBits_whole (v : W64) (x : Nat) : setBits v 63 0 x = BitVec.ofNat 64 x := by
  unfold setBits
  rw [bitsOf_whole]
  refine BitVec.eq_of_toNat_eq ?_
  simp only [BitVec.toNat_ofNat]
  omega

section
variable {s : State} {launch : Nat} {x : Launch} {c : Ctx} {k : KernelDecl} {sc : Score} {seats : List Seat}

theorem State.launch?_id (h : s.launch? launch = some x) : x.id = launch := by
  unfold State.launch? at h
  simpa using List.find?_some h

/-- No seat on a Stage that another launch's claim holds. -/
theorem unclaimed_seats (h : ∀ w ∈ s.sched.wants, w.1 ≠ launch → ∀ y ∈ seats, y.stage ∉ w.2.2) :
    seats.any (fun y => (s.sched.wants.flatMap (fun w => if w.1 = launch then [] else w.2.2)).contains y.stage) = false := by
  rw [List.any_eq_false]
  intro y hy hclaimed
  obtain ⟨w, hw, hmem⟩ := List.mem_flatMap.mp (List.contains_iff_mem.mp hclaimed)
  by_cases hown : w.1 = launch
  · simp [hown] at hmem
  · rw [if_neg hown] at hmem
    exact h w hw hown y hy hmem

/-- The seats and claims a launch starts with (R296, R311). -/
structure MaySeat (s : State) (launch : Nat) (x : Launch) (c : Ctx) (k : KernelDecl) (sc : Score) (seats : List Seat) : Prop where
  known : s.launch? launch = some x
  ofCtx : s.ctx? x.ctx = some c
  ofKernel : s.kernelOf x = some k
  ofScore : c.score = some sc
  seated : s.seatsOk k seats = true
  unclaimed : ∀ w ∈ s.sched.wants, w.1 ≠ launch → ∀ y ∈ seats, y.stage ∉ w.2.2
  runs : s.plat.dev = .run ∨ s.plat.dev = .recast

/-- A fill launch starts (R293, R296). -/
theorem execLaunchStart_of_fill (h : MaySeat s launch x c k sc seats) (hfill : c.lead = false) (hstate : x.state = 0) (hactive : c.suspended = false)
    (hres : c.resident = true) (hdeps : s.depsDone x = true) (hswap : s.sched.swapIn ≠ some c.num)
    (hfew : (s.sched.launches.filter (fun y => decide (y.state = 1))).length < 64)
    (hadj : s.adjOk sc x ((List.range 144).filter s.stageAvail) seats = true) :
    execLaunchStart launch seats s = .next ((s.takeWset c x).seatLaunch c sc k x seats) := by
  unfold execLaunchStart
  simp only [h.known, h.ofCtx, h.ofKernel, h.ofScore, h.seated, unclaimed_seats h.unclaimed, decide_eq_true h.runs, hfill, hstate, hactive, hres, hdeps,
    hadj, decide_eq_true hswap, decide_eq_true hfew, Bool.false_eq_true, if_false, if_true, Bool.not_false, Bool.and_true, decide_true]

/-- A lead launch that may start on its share (R306). -/
structure LeadMayStart (s : State) (launch : Nat) (x : Launch) (c : Ctx) (k : KernelDecl) (sc : Score) (seats : List Seat) : Prop
    extends MaySeat s launch x c k sc seats where
  lead : c.lead = true
  may : s.leadMay c x k.instances = true
  kind : x.kind ≠ 4
  shared : ∀ y ∈ seats, y.stage ∈ s.shareOf x.sheet
  adj : s.adjOk sc x (s.shareOf x.sheet) seats = true

/-- A lead launch logs what it begins and waits for the mirror, or starts (R306, R413). -/
theorem execLaunchStart_of_lead (h : LeadMayStart s launch x c k sc seats) :
    execLaunchStart launch seats s = .next (if !(s.begins x).isEmpty && s.mirror.isSome then (s.begins x).foldl (fun (v : State) i => v.logBegin c i) s
      else (((((s.begins x).foldl (fun (v : State) i => v.logBegin c i) s).placeWork c sc x).supply c x).seatLaunch c sc k x seats).endRecast) := by
  have hshared : seats.all (fun y => (s.shareOf x.sheet).contains y.stage) = true :=
    List.all_eq_true.mpr fun y hy => List.contains_iff_mem.mpr (h.shared y hy)
  unfold execLaunchStart
  simp only [h.known, h.ofCtx, h.ofKernel, h.ofScore, h.seated, unclaimed_seats h.unclaimed, decide_eq_true h.runs, h.lead, h.may, decide_eq_true h.kind,
    hshared, h.adj, if_true, Bool.not_false, Bool.and_true]
  split <;> rfl

theorem flatMap_unclaimed {l : List (Nat × Nat × List Nat)} (h : ∀ w ∈ l, w.1 ≠ launch) :
    l.flatMap (fun w => if w.1 = launch then [] else w.2.2) = l.flatMap (fun w => w.2.2) :=
  List.flatMap_congr fun w hw => if_neg (h w hw)

/-- A lead launch short of Stages claims those it chose (R311, R494). -/
theorem execLeadWantsStage_of_short {stages : List Nat} (hlaunch : s.launch? launch = some x) (hctx : s.ctx? x.ctx = some c)
    (hkernel : s.kernelOf x = some k) (hlead : c.lead = true) (hmay : s.leadMay c x k.instances = true) (hfirst : ∀ w ∈ s.sched.wants, w.1 ≠ launch)
    (hshort : (s.choose c x k.instances).1.length < k.instances)
    (hall : ∀ n, n ∈ (s.choose c x k.instances).1 ++ (s.choose c x k.instances).2 ↔ n ∈ stages) (hpick : (s.choose c x k.instances).2 ≠ []) :
    execLeadWantsStage launch stages s = .next ((s.modSched (fun q => { q with
        wants := q.wants ++ [(launch, s.now.toNat, (s.choose c x k.instances).1 ++ (s.choose c x k.instances).2)] })).modBooth
      (fun b => { b with bellF2P := (s.choose c x k.instances).2.foldl (fun m n => ring m n 1) b.bellF2P })) := by
  have hnew : s.sched.wants.any (fun w => decide (w.1 = launch)) = false := by
    rw [List.any_eq_false]
    exact fun w hw => by simp [hfirst w hw]
  have hclaim : ((s.choose c x k.instances).1 ++ (s.choose c x k.instances).2).all (fun n => stages.contains n) = true :=
    List.all_eq_true.mpr fun n hn => List.contains_iff_mem.mpr ((hall n).mp hn)
  have hchosen : stages.all (fun n => ((s.choose c x k.instances).1 ++ (s.choose c x k.instances).2).contains n) = true :=
    List.all_eq_true.mpr fun n hn => List.contains_iff_mem.mpr ((hall n).mpr hn)
  have hsome : (s.choose c x k.instances).2.isEmpty = false := by simpa using hpick
  unfold execLeadWantsStage
  simp only [hlaunch, hctx, hkernel, hlead, hmay, decide_eq_true hshort, hnew, hclaim, hchosen, hsome, Bool.not_false, Bool.and_self, if_true]

theorem execHardPreempt_of_wanted (hlaunch : s.launch? launch = some x) (hruns : x.state = 1)
    (hfill : s.leadCtx.map (fun (c : Ctx) => c.num) ≠ some x.ctx) (hwant : ∃ w ∈ s.sched.wants, ∃ n ∈ w.2.2, n ∈ x.stages) :
    execHardPreempt launch s = .next (s.stopFill x) := by
  obtain ⟨w, hw, n, hn, hx⟩ := hwant
  have hany : s.sched.wants.any (fun w => w.2.2.any (fun n => x.stages.contains n)) = true :=
    List.any_eq_true.mpr ⟨w, hw, List.any_eq_true.mpr ⟨n, hn, List.contains_iff_mem.mpr hx⟩⟩
  unfold execHardPreempt
  simp only [hlaunch]
  exact if_pos ⟨hruns, hfill, hany⟩

end

section
variable {s : State} {ctx nx : Nat} {c y : Ctx}

/-- Residence is full of contexts that cannot run, or the next one finds too few segments free (R316). -/
def State.mustSwap (s : State) (y : Ctx) : Prop :=
  (3 ≤ s.fillResident.length ∧ ∀ z ∈ s.fillResident, s.runnable z = false) ∨ (s.fillResident.length < 3 ∧ s.freeSegs < y.cacheSegs + y.scratchSegs)

theorem execSwapOut_of_victim (hctx : s.ctx? ctx = some c) (hnext : s.swapNext = some nx) (hvictim : s.swapVictim = some ctx) (hy : s.ctx? nx = some y)
    (hmust : s.mustSwap y) (hroom : (s.swapRoom c).isSome = true) : execSwapOut ctx s = .next (s.swapOutNow c) := by
  have hdue : ((decide (3 ≤ s.fillResident.length) && s.fillResident.all (fun y => !s.runnable y))
      || (decide (s.fillResident.length < 3) && decide (s.freeSegs < y.cacheSegs + y.scratchSegs))) = true := by
    rcases hmust with ⟨hfull, hblocked⟩ | ⟨hfew, htight⟩
    · have hall : s.fillResident.all (fun y => !s.runnable y) = true := List.all_eq_true.mpr fun z hz => by rw [hblocked z hz]; rfl
      rw [decide_eq_true hfull, hall, Bool.and_self, Bool.true_or]
    · rw [decide_eq_true hfew, decide_eq_true htight, Bool.and_self, Bool.or_true]
  unfold execSwapOut
  simp only [hctx, hnext, hy, hdue, hvictim, hroom, decide_true, Bool.and_self, if_true]

end

section
variable {s u : State} {ctx ns : Nat}

/-- A counter raised, and the largest of what was counted kept. -/
def State.countMax (u : State) (r q : Reg) (ns : Nat) : State := (u.bump r 0 1).setFld q 0 63 0 (Nat.max ((u.bump r 0 1).fld q 0 63 0) ns)

section
variable {r q : Reg} (hwf : mwf 0 u.regs = true) (hapart : r.off 0 ≠ q.off 0)
include hwf hapart

theorem State.countMax_count : (u.countMax r q ns).rd r 0 = u.rd r 0 + 1 := by
  unfold State.countMax State.setFld State.bump
  rw [State.wr_rd_ne _ _ _ hapart, State.wr_rd_same _ _ _ hwf]
  rfl

theorem State.countMax_max (hns : ns < 2 ^ 64) : ((u.countMax r q ns).rd q 0).toNat = Nat.max (u.rd q 0).toNat ns := by
  unfold State.countMax State.setFld State.fld State.bump
  rw [State.wr_rd_same _ _ _ (State.wr_wf _ _ _ hwf), setBits_whole, bitsOf_whole, State.wr_rd_ne _ _ _ hapart.symm, BitVec.toNat_ofNat]
  exact Nat.mod_eq_of_lt (Nat.max_lt.mpr ⟨BitVec.isLt _, hns⟩)

end

theorem State.countMax_regs (r q : Reg) {off : Nat} (hr : off ≠ r.off 0) (hq : off ≠ q.off 0) : mget 0 (u.countMax r q ns).regs off = mget 0 u.regs off := by
  unfold State.countMax State.setFld State.bump
  rw [State.wr_regs_ne _ _ _ _ hq, State.wr_regs_ne _ _ _ _ hr]

/-- A swap that has completed is counted (R318, R335). -/
theorem execSwapComplete_of_swapIn (hswap : s.sched.swapIn = some ctx) :
    execSwapComplete ctx ns s = .next ((s.modSched (fun q => { q with swapIn := none })).countMax .smgSwap .smgSwapMax ns) := if_pos hswap

end

/-- Settles O29: each command's conditions are those its clause names. -/
theorem launchesAndSwaps : Obligations.LaunchesAndSwaps := by
  unfold Obligations.LaunchesAndSwaps
  refine ⟨?_, fun s => ⟨?_, fun launch x hlaunch hruns hfill hwant => execHardPreempt_of_wanted hlaunch hruns hfill hwant,
    fun ctx nx c y hctx hnext hvictim hy hmust hroom => execSwapOut_of_victim hctx hnext hvictim hy hmust hroom, ?_,
    fun ctx ns hcanon hswap hns => ?_, fun n cause hn hlow hhigh hues => ?_⟩⟩
  · intro launch seats x c k sc s hlaunch hctx hkernel hscore hseats hunclaimed hruns run
    have hmay : MaySeat s launch x c k sc seats := ⟨hlaunch, hctx, hkernel, hscore, hseats, hunclaimed, hruns⟩
    obtain rfl := State.launch?_id hlaunch
    refine ⟨fun hfill hstate hactive hres hdeps hswap hfew hadj => ?_, ?_⟩
    · exact execLaunchStart_of_fill hmay hfill hstate hactive hres hdeps hswap hfew hadj
    · intro hlead hready hkind hshared hadj u
      have hstart := execLaunchStart_of_lead ⟨hmay, hlead, hready, hkind, hshared, hadj⟩
      refine ⟨fun hbegins hmirror => hstart.trans ?_, fun hnone => hstart.trans ?_⟩
      · have hsome : (s.begins x).isEmpty = false := by simpa using hbegins
        rw [hsome, hmirror]
        rfl
      · have hgo : (!(s.begins x).isEmpty && s.mirror.isSome) = false := by
          rcases hnone with hnone | hnone <;> simp [hnone]
        rw [hgo]
        rfl
  · intro launch stages x c k hlaunch hctx hkernel hlead hmay hfirst claimed share free fills pick hshort hall hpick
    obtain rfl := State.launch?_id hlaunch
    have hchoose : s.choose c x k.instances = (free, pick) := by
      unfold State.choose
      rw [flatMap_unclaimed hfirst]
    have hstep := execLeadWantsStage_of_short (stages := stages) hlaunch hctx hkernel hlead hmay hfirst
    rw [hchoose] at hstep
    exact hstep hshort hall hpick
  · intro ctx c cache scratch hctx hnext hfew hidle hcache hscratch hapart hfree mv t u
    show execSwapIn ctx cache scratch s = _
    unfold execSwapIn
    simp only [hctx]
    exact if_pos ⟨hnext, hfew, hidle, hcache, hscratch, hapart, hfree⟩
  · obtain ⟨hwf, -, -⟩ := hcanon
    have hwf' : mwf 0 (s.modSched (fun q => { q with swapIn := none })).regs = true := hwf
    exact ⟨_, execSwapComplete_of_swapIn hswap, rfl, State.countMax_count hwf' (by decide), State.countMax_max hwf' (by decide) hns,
      fun off => State.countMax_regs _ _, rfl, rfl⟩
  · show execStageRetire n cause s = _
    unfold execStageRetire
    rw [if_pos hn, if_pos ⟨hlow, hhigh, hues⟩]

end Sys2Proof.Machine
end

section
/-! PROOFS. Packets that arrive, the Curtain's exchange, collectives, flows, link Bells and the Gong (R181, R308-R309, R339, R345-R356, R365, R378-R388). -/

namespace Sys2Proof.Machine

open Sys2Proof.Safety

theorem onPort_of_lt {n : Nat} {s : State} (hn : n < 24) (f : State → State) : onPort n s f = .next (f s).reportUnreachable := if_pos hn

section
variable {s : State} {n ty : Nat} {p : Pkt}

/-- A packet that arrives in order is handed to its rule by the state that has taken it (R345, R346, R349). -/
theorem State.receive_of_arrives (h : Arrives s n p ty) (hack : ty ≠ 0x11) (f : State → State) : s.receive n p ty f = f (taken s n p) := by
  have hfront : (!s.portUp n || !p.wire || decide (p.dst ≠ s.link.me)) = false := by simp [h.up, h.wire, h.mine]
  have hver : ¬ (p.vc ≤ 2 ∧ p.rver ≠ ((s.bump .lnkRxBytes n p.data.length).freeCredit n p.vc p.flits).rver) := by
    rintro ⟨hlow, hne⟩
    rcases h.version with hhigh | heq
    · omega
    · exact hne heq
  unfold State.receive taken
  simp only [hfront, Bool.false_eq_true, if_false, if_neg (not_not.mpr h.type), if_neg (not_not.mpr h.channel), if_neg hver, if_neg hack,
    if_neg (not_not.mpr h.order)]

theorem onPort_receive (h : Arrives s n p ty) (hack : ty ≠ 0x11) (f : State → State) :
    onPort n s (fun s => s.receive n p ty f) = .next (f (taken s n p)).reportUnreachable := by
  rw [onPort_of_lt h.port, State.receive_of_arrives h hack]

/-- An acknowledgment for this device is handed to its rule; it has no number of its own (R346, R356). -/
theorem State.receive_of_ack (hup : s.portUp n = true) (hwire : p.wire = true) (hdst : p.dst = s.link.me) (hty : p.ty = 0x11)
    (hvc : typeVc 0x11 = some p.vc) (hver : 2 < p.vc ∨ p.rver = ((s.bump .lnkRxBytes n p.data.length).freeCredit n p.vc p.flits).rver) (f : State → State) :
    s.receive n p 0x11 f = f ((s.bump .lnkRxBytes n p.data.length).freeCredit n p.vc p.flits) := by
  have hfront : (!s.portUp n || !p.wire || decide (p.dst ≠ s.link.me)) = false := by simp [hup, hwire, hdst]
  have hver' : ¬ (p.vc ≤ 2 ∧ p.rver ≠ ((s.bump .lnkRxBytes n p.data.length).freeCredit n p.vc p.flits).rver) := by
    rintro ⟨hlow, hne⟩
    rcases hver with hhigh | heq
    · omega
    · exact hne heq
  unfold State.receive
  simp only [hfront, Bool.false_eq_true, if_false, if_neg (not_not.mpr hty), if_neg (not_not.mpr hvc), if_neg hver', if_true]

end

section
variable {s : State} {n : Nat} {p : Pkt} {m : CurtainMsg} {t : Tally} {r : Roster}

theorem execCurtainArrive_of_may (hroster : s.link.roster = some r) (hmay : s.mayArrive r = true) :
    execCurtainArrive s = .next (((s.markReady.modLink (fun k => { k with curtain := 1, linkSent := k.linkChanged, linkChanged := false })).takeMsg
      s.markReady.link.me (s.markReady.ownMsg r)).tryExchange).endRecast := by
  unfold execCurtainArrive
  simp only [hroster, if_pos hmay]

theorem execCurtainOpen_of_first {c : Ctx} (hlead : s.leadCtx = some c) (hroster : s.link.roster = some r) (hcall : s.link.call = none)
    (hrest : s.pbk.restoring = none) (hbegun : s.sched.begun = false) (hscore : c.score.isSome = true)
    (hready : s.link.callDone ≠ none ∨ (1 ≤ r.version ∧ (r.entry s.link.me).isSome = true)) : execCurtainOpen s = .next s.openFirst := by
  have hgo : (s.link.callDone.isSome || (decide (1 ≤ r.version) && (r.entry s.link.me).isSome)) = true := by
    rcases hready with hdone | ⟨hver, hin⟩
    · rw [Option.isSome_iff_ne_none.mpr hdone, Bool.true_or]
    · rw [decide_eq_true hver, hin, Bool.and_self, Bool.or_true]
  unfold execCurtainOpen
  simp only [hlead, hroster, hcall, hrest, hbegun, hscore, hgo, Option.isSome_none, Bool.or_self, Bool.and_self, Bool.not_false, Bool.false_eq_true,
    if_false, if_true]

theorem execCurtainOpen_of_next {c : Ctx} (hlead : s.leadCtx = some c) (hroster : s.link.roster = some r) (hcall : s.link.call = none)
    (hrest : s.pbk.restoring = none) (hbegun : s.sched.begun = true) (hcurtain : s.link.curtain = 2) (hrecast : s.pbk.recast = none)
    (hrecord : s.link.record = some m) (hneeds : s.needsCall r m = false) : execCurtainOpen s = .next (s.openNext m) := by
  unfold execCurtainOpen
  simp only [hlead, hroster, hcall, hrest, hbegun, hcurtain, hrecast, hrecord, hneeds, Option.isSome_none, Option.isNone_none, Bool.or_self,
    Bool.not_true, Bool.false_eq_true, if_false, and_self, if_true]

/-- A child's record of this version joins the exchange (R379). -/
theorem execCurtainExchangeUp_of_child (h : Arrives s n p 0x13) (hroster : (taken s n p).link.roster = some r) (haux : p.aux16 = 0)
    (hkid : p.src ∈ r.kids (taken s n p).link.me) (hnew : p.src ∉ (taken s n p).link.curtFrom) (hver : m.version = r.version) :
    execCurtainExchangeUp n p m s = .next (((taken s n p).takeMsg p.src m).tryExchange).reportUnreachable := by
  have hjoin : (!(r.kids (taken s n p).link.me).contains p.src || (taken s n p).link.curtFrom.contains p.src || decide (m.version ≠ r.version)) = false := by
    simp [hkid, hnew, hver]
  unfold execCurtainExchangeUp
  rw [if_neg (not_not.mpr haux), onPort_receive h (by decide)]
  simp only [hroster, if_neg (show ¬ r.version < m.version by omega), hjoin, Bool.false_eq_true, if_false]

/-- A record under a later version waits (R380). -/
theorem execCurtainExchangeUp_of_later (h : Arrives s n p 0x13) (hroster : (taken s n p).link.roster = some r) (haux : p.aux16 = 0)
    (hver : r.version < m.version) : execCurtainExchangeUp n p m s = .next ((taken s n p).modLink (fun k =>
      { k with curtHeld := k.curtHeld.filter (fun x => decide (x.1 ≠ p.src)) ++ [(p.src, m)] })).reportUnreachable := by
  unfold execCurtainExchangeUp
  rw [if_neg (not_not.mpr haux), onPort_receive h (by decide)]
  simp only [hroster, if_pos hver]

theorem execCurtainExchangeDown_of_parent (h : Arrives s n p 0x13) (hroster : (taken s n p).link.roster = some r) (haux : p.aux16 = 1)
    (hparent : r.parent (taken s n p).link.me = some p.src) (hcurtain : (taken s n p).link.curtain = 1) (hver : m.version = r.version) :
    execCurtainExchangeDown n p m s = .next ((taken s n p).exchangeDone m).reportUnreachable := by
  unfold execCurtainExchangeDown
  rw [if_neg (not_not.mpr haux), onPort_receive h (by decide)]
  simp only [hroster, if_pos (And.intro hparent (And.intro hcurtain hver))]

theorem execTallyCombineUp_of_current (h : Arrives s n p 0x13) (hroster : (taken s n p).link.roster = some r) (haux : p.aux16 = 2)
    (hin : (r.entry (taken s n p).link.me).isSome = true)
    (hstep : (if (taken s n p).sched.begun then (taken s n p).sched.ring.step else 0) ≤ p.aux64.toNat) :
    execTallyCombineUp n p t s = .next (((taken s n p).modSched (fun q => { q with
      jobTally := q.jobTally.filter (fun x => decide (x.1 ≠ 65536 * p.aux64.toNat + p.src)) ++ [(65536 * p.aux64.toNat + p.src, t)] })).tryTally).reportUnreachable := by
  have htake : ((r.entry (taken s n p).link.me).isNone
      || decide (p.aux64.toNat < if (taken s n p).sched.begun then (taken s n p).sched.ring.step else 0)) = false := by
    rw [decide_eq_false (Nat.not_lt.mpr hstep), Bool.or_false, Option.isNone_eq_false_iff]
    exact hin
  unfold execTallyCombineUp
  rw [if_neg (not_not.mpr haux), onPort_receive h (by decide)]
  simp only [hroster, htake, Bool.false_eq_true, if_false]

theorem execTallyCombineDown_of_parent (h : Arrives s n p 0x13) (hroster : (taken s n p).link.roster = some r) (haux : p.aux16 = 3)
    (hparent : r.parent (taken s n p).link.me = some p.src) (hstep : p.aux64.toNat = (taken s n p).sched.ring.step)
    (hsent : (taken s n p).sched.tallySent = true) :
    execTallyCombineDown n p t s = .next ((taken s n p).tallyDone t).reportUnreachable := by
  unfold execTallyCombineDown
  rw [if_neg (not_not.mpr haux), onPort_receive h (by decide)]
  simp only [hroster, if_pos (And.intro hparent (And.intro hstep hsent))]

end

/-- Settles O30: each command's conditions are those its clause names; a packet of the exchange is handed on by the state that took it. -/
theorem curtainsOpen : Obligations.CurtainsOpen := by
  unfold Obligations.CurtainsOpen
  refine fun s => ⟨fun r hroster hmay => ?_, fun c r hlead hroster hcall hrest => ⟨?_, ?_⟩, rfl, ?_⟩
  · exact execCurtainArrive_of_may hroster hmay
  · exact execCurtainOpen_of_first hlead hroster hcall hrest
  · intro hbegun hcurtain hrecast m hrecord hneeds
    exact execCurtainOpen_of_next hlead hroster hcall hrest hbegun hcurtain hrecast hrecord hneeds
  · intro port p m t r harrives u hroster
    refine ⟨fun haux => ⟨?_, ?_⟩, ?_, ?_, ?_⟩
    · exact execCurtainExchangeUp_of_child harrives hroster haux
    · exact execCurtainExchangeUp_of_later harrives hroster haux
    · exact execCurtainExchangeDown_of_parent harrives hroster
    · exact execTallyCombineUp_of_current harrives hroster
    · exact execTallyCombineDown_of_parent harrives hroster

section
variable {s t : State} {inst chain l : Nat}

/-- The step a collective of the record can make on a chain, with its launch (R382-R386). -/
def State.chainStep (s : State) (inst chain : Nat) : Option (Nat × State) :=
  (s.link.colls.filter (fun k => decide (k.inst = inst))).findSome? (fun k => (s.collStep k.idle chain).map (fun t => (k.launch, t)))

theorem execEngineChainStep_of_step (h : s.chainStep inst chain = some (l, t)) : execEngineChainStep inst chain s = .next (t.endColls l) := by
  unfold State.chainStep at h
  unfold execEngineChainStep
  simp only [h]

theorem execEngineChainStep_of_idle (h : s.chainStep inst chain = none) : execEngineChainStep inst chain s =
    .next ((((s.link.colls.filter (fun k => decide (k.inst = inst))).map (fun (k : Coll) => k.launch)).eraseDups).foldl (fun s l => s.endColls l)
      ((s.link.colls.filter (fun k => decide (k.inst = inst))).foldl (fun s k => s.pumpColl k) s)) := by
  unfold State.chainStep at h
  unfold execEngineChainStep
  simp only [h]

end

/-- Settles O31: the start by whether the record is well formed, the step by whether some collective can make one. -/
theorem collectivesRun : Obligations.CollectivesRun := by
  unfold Obligations.CollectivesRun
  refine fun s => ⟨?_, ?_, fun inst k hk => ?_⟩
  · intro launch x c sc ws hlaunch hctx hscore hws hlead hkind hmay hruns hroom op len role sets u
    have hbind : c.score.bind (fun sc => sc.colls[x.kernel]?) = some ws := by rw [hscore, Option.bind_some, hws]
    refine ⟨fun hbad => ?_, fun hgood => ?_⟩
    · show execCollectiveStart launch s = _
      unfold execCollectiveStart
      simp only [hlaunch, hctx, hbind, hlead, hmay, decide_eq_true hkind, decide_eq_true hruns, decide_eq_true hroom, Bool.and_self, if_true]
      exact if_pos hbad
    · show execCollectiveStart launch s = _
      unfold execCollectiveStart
      simp only [hlaunch, hctx, hbind, hlead, hmay, decide_eq_true hkind, decide_eq_true hruns, decide_eq_true hroom, Bool.and_self, if_true]
      exact if_neg hgood
  · intro inst chain ks first
    exact ⟨fun l t => execEngineChainStep_of_step, execEngineChainStep_of_idle⟩
  · show execCollectiveWaitLimit inst s = _
    unfold execCollectiveWaitLimit
    rw [hk]

section
variable {s : State} {n : Nat} {p : Pkt}

/-- A packet that goes no further is discarded (R339, R345, R356). -/
theorem execPacketForward_of_ended (hn : n < 24) (hup : s.portUp n = true) (hwire : p.wire = true) (haway : p.dst ≠ s.link.me ∨ typeVc p.ty = none)
    (hend : p.hop = 7 ∨ typeVc p.ty ≠ some p.vc) :
    execPacketForward n p s = .next (((s.bump .lnkRxBytes n p.data.length).bump .lnkDiscard 0 1).freeCredit n p.vc p.flits).reportUnreachable := by
  have hfront : (!s.portUp n || !p.wire || (decide (p.dst = s.link.me) && (typeVc p.ty).isSome)) = false := by
    rcases haway with haway | haway <;> simp [hup, hwire, haway]
  unfold execPacketForward
  rw [onPort_of_lt hn]
  simp only [hfront, Bool.false_eq_true, if_false, if_pos (Or.inr hend : p.dst = (s.bump .lnkRxBytes n p.data.length).link.me ∨ _)]

/-- A packet for another device goes on (R339). -/
theorem execPacketForward_of_hop (hn : n < 24) (hup : s.portUp n = true) (hwire : p.wire = true) (haway : p.dst ≠ s.link.me)
    (hhop : p.hop < 7) (hvc : typeVc p.ty = some p.vc) :
    execPacketForward n p s = .next ((s.bump .lnkRxBytes n p.data.length).routeOut { p with hop := p.hop + 1 } (some n)).reportUnreachable := by
  have hfront : (!s.portUp n || !p.wire || (decide (p.dst = s.link.me) && (typeVc p.ty).isSome)) = false := by simp [hup, hwire, haway]
  have hon : ¬ (p.dst = (s.bump .lnkRxBytes n p.data.length).link.me ∨ p.hop = 7 ∨ typeVc p.ty ≠ some p.vc) := by
    rintro (h | h | h)
    · exact haway h
    · omega
    · exact h hvc
  unfold execPacketForward
  rw [onPort_of_lt hn]
  simp only [hfront, Bool.false_eq_true, if_false, if_neg hon]

end

/-- Settles O33: by where the packet is for, by the tries of the flow, and by what the acknowledgment covers. -/
theorem flowsAreKeptInOrder : Obligations.FlowsAreKeptInOrder := by
  unfold Obligations.FlowsAreKeptInOrder
  refine fun s => ⟨fun n p hn hup hwire haway => ⟨?_, fun hhop hvc => ?_⟩, fun dst vc flow hsome => ⟨fun hfew => ?_, fun hmany => ?_⟩,
    fun src vc flow howed => ?_, ?_⟩
  · exact execPacketForward_of_ended hn hup hwire haway
  · refine execPacketForward_of_hop hn hup hwire (haway.resolve_right fun hnone => ?_) hhop hvc
    rw [hvc] at hnone
    cases hnone
  · have hne : (s.txFlow dst vc flow).unacked.isEmpty = false := by simpa using hsome
    show execE2eTimeout dst vc flow s = _
    unfold execE2eTimeout
    simp only [hne, Bool.false_eq_true, if_false, if_neg (show ¬ (s.txFlow dst vc flow).tries + 1 ≥ 16 by omega)]
  · have hne : (s.txFlow dst vc flow).unacked.isEmpty = false := by simpa using hsome
    show execE2eTimeout dst vc flow s = _
    unfold execE2eTimeout
    simp only [hne, Bool.false_eq_true, if_false, if_pos (show (s.txFlow dst vc flow).tries + 1 ≥ 16 by omega)]
  · exact if_neg howed
  · intro n p hn hup hwire hdst hty hvc u hver hplain f k hcovers
    obtain ⟨x, hx, hbefore⟩ := hcovers
    have hany : f.unacked.any (fun x => seqBefore x.pkt.e2e k) = true := List.any_eq_true.mpr ⟨x, hx, hbefore⟩
    show execE2eAck n p s = _
    unfold execE2eAck
    rw [onPort_of_lt hn, State.receive_of_ack hup hwire hdst hty hvc hver, if_neg (Nat.not_le.mpr hplain)]
    exact congrArg (fun v : State => Host.Outcome.next v.reportUnreachable) (if_pos hany)

/-- Settles O34: by whether the Bell is FULL, by the generation of the record, and by the Gongs heard. -/
theorem linkBellsAndGong : Obligations.LinkBellsAndGong := by
  unfold Obligations.LinkBellsAndGong
  intro n b s hn i
  refine ⟨fun word => ⟨fun hfull => ?_, fun hclear => ?_⟩, fun hup gen word => ⟨fun hnew => ?_, fun hold => ⟨fun hfull => ?_, fun hclear => ?_⟩⟩,
    fun hup gen hgen => ?_, onPort_of_lt hn _, fun cause dev ver r hup hroster hin hnew => ?_⟩
  · refine (onPort_of_lt hn _).trans ?_
    rw [if_pos hfull]
  · refine (onPort_of_lt hn _).trans ?_
    rw [if_neg (Bool.eq_false_iff.mp hclear)]
  · refine (onPort_of_lt hn _).trans ?_
    simp only [hup, Bool.not_true, Bool.false_eq_true, if_false, if_neg hnew]
    rfl
  · refine (onPort_of_lt hn _).trans ?_
    simp only [hup, Bool.not_true, Bool.false_eq_true, if_false, if_pos hold]
    rw [if_pos hfull]
  · refine (onPort_of_lt hn _).trans ?_
    simp only [hup, Bool.not_true, Bool.false_eq_true, if_false, if_pos hold]
    rw [if_neg (Bool.eq_false_iff.mp hclear)]
  · refine (onPort_of_lt hn _).trans ?_
    simp only [hup, hgen, Bool.true_and, beq_self_eq_true, if_true]
    rfl
  · have hfirst : (!s.portUp n || (r.entry dev).isNone || s.link.gongs.contains (dev, ver)) = false := by
      rw [hup, Option.isNone_eq_false_iff.mpr hin]
      simpa using hnew
    show execGong n cause dev ver s = _
    unfold execGong
    rw [onPort_of_lt hn]
    simp only [hroster, hfirst, Bool.false_eq_true, if_false]

end Sys2Proof.Machine
end

section
/-! PROOFS. Data packets that arrive are delivered by their type (R83, R127, R130, R270, R281-R285, R345-R349, R372, R382-R384). -/

namespace Sys2Proof.Machine

open Sys2Proof.Safety

section
variable {u : State} {p : Pkt}

/-- The quarter of a Roll block a packet carries (R384). -/
def quarterOf (p : Pkt) : Quarter :=
  ⟨bitsOf p.aux64 55 48, decide (bitsOf p.aux64 58 58 = 1), bitsOf p.aux64 57 56, (chunks 4 1024 p.data).map (fun b => BitVec.ofNat 32 (ofLe b)),
    BitVec.ofNat 16 p.aux16, (List.range 4).filter (fun i => p.aux64.getLsbD (59 + i))⟩

/-- The quarters of a hop with a packet's among them. -/
def XHop.withQuarter (h : XHop) (p : Pkt) : List Quarter :=
  h.quarters.filter (fun y => !decide (y.lo = (quarterOf p).lo ∧ y.part = (quarterOf p).part)) ++ [quarterOf p]

/-- A quarter that does not complete its block joins the others of its hop. -/
theorem State.onRollBlock_of_more {h : XHop} (hhop : u.link.hops.find? (fun h => decide (h.src = p.src ∧ h.chain = bitsOf p.aux64 31 0
      ∧ h.seg = bitsOf p.aux64 47 32) && h.granted && u.hopLive h) = some h) (hblock : bitsOf p.aux64 55 48 = h.next) (hlen : p.data.length = 4096)
    (hmore : (h.withQuarter p).length < (if h.wide then 8 else 4)) :
    u.onRollBlock p = u.modLink (fun k => { k with hops := k.hops.map (fun x => if x = h then { h with quarters := h.withQuarter p } else x) }) := by
  unfold XHop.withQuarter quarterOf at hmore ⊢
  unfold State.onRollBlock
  simp only [hhop, hblock, hlen, ne_eq, not_true_eq_false, or_self, if_false]
  rw [hblock] at hmore
  exact if_pos hmore

/-- Chunk bytes that do not complete their chunk join those of their member (R382). -/
theorem State.onChunk_of_more {k : Coll} {m : Nat} {key : Nat × Nat × Nat × List Byte → Bool} {had : List Byte}
    (hcoll : u.link.colls.find? (fun k => decide (k.inst = bitsOf p.aux64 31 0) && k.members.contains (p.num 1 4)) = some k)
    (hm : m = k.members.idxOf (p.num 1 4)) (hkey : key = fun x => decide (x.1 = p.num 0 1 ∧ x.2.1 = bitsOf p.aux64 47 32 ∧ x.2.2.1 = m))
    (hhad : had = ((k.parts.find? key).map (fun (x : Nat × Nat × Nat × List Byte) => x.2.2.2)).getD [])
    (horder : bitsOf p.aux64 63 48 = had.length / 4000 % 2 ^ 16) (hhost : u.collHost k m = u.link.me) (hmore : (had ++ p.data.drop 5).length < k.chunk) :
    u.onChunk p = u.putColl { k with parts := k.parts.filter (fun x => !key x) ++ [(p.num 0 1, bitsOf p.aux64 47 32, m, had ++ p.data.drop 5)] } := by
  subst hm hkey hhad
  unfold Pkt.num at hcoll horder hhost hmore ⊢
  rw [List.drop_zero] at horder hmore ⊢
  unfold State.onChunk
  simp only [hcoll]
  rw [if_neg (by rintro (h | h) <;> exact h (by assumption)), if_pos hmore]

/-- The payload a packet's piece is of, without its bytes (R285). -/
def pipeMsgOf (p : Pkt) (ctx : Nat) : PipeMsg := ⟨ctx, p.num 4 4, p.num 8 4, p.num 12 8, p.num 20 4, p.num 24 8, p.num 32 8, p.src, []⟩

/-- The bytes of that payload that have come. -/
def State.pipeHad (u : State) (m : PipeMsg) : List Byte :=
  ((u.link.pipeIn.find? (fun x => decide ({ x with data := [] } = m))).map (fun (x : PipeMsg) => x.data)).getD []

/-- A piece that does not complete its payload joins it (R285). -/
theorem State.onPipe_of_more {c : Ctx} (hlead : u.leadCtx = some c) (haux : p.aux16 ≠ 1) (htaken : u.link.pipeTaken = [])
    (hpos : p.num 40 8 = (u.pipeHad (pipeMsgOf p c.num)).length)
    (hmore : (u.pipeHad (pipeMsgOf p c.num) ++ p.data.drop 48).length < (pipeMsgOf p c.num).total) :
    u.onPipe p false = u.modLink (fun k => { k with pipeIn := k.pipeIn.filter (fun x => !decide ({ x with data := [] } = pipeMsgOf p c.num))
      ++ [{ pipeMsgOf p c.num with data := u.pipeHad (pipeMsgOf p c.num) ++ p.data.drop 48 }] }) := by
  have hwhole : ¬ (u.pipeHad (pipeMsgOf p c.num) ++ p.data.drop 48).length = (pipeMsgOf p c.num).total := by omega
  unfold State.pipeHad pipeMsgOf at hpos hwhole ⊢
  unfold State.onPipe State.ctxOfEns
  simp only [if_neg haux, Bool.false_eq_true, if_false, hlead, htaken, List.any_nil, hpos, ne_eq, not_true_eq_false, and_false, List.take_length, and_true, if_neg hwhole]

/-- A piece of a row goes into its place (R130, R281). -/
theorem State.onDispatch_of_more {c : Ctx} {d : TensorDecl} {l : List (Nat × Nat)} (hlead : u.leadCtx = some c) (hrow : p.aux16 ≠ 2 ^ 15)
    (haux : p.aux16 ≠ 1) (hctx : u.ctx? c.num = some c) (hdecl : c.decl (p.num 20 4) = some d) (hact : d.act = false)
    (hplace : c.resolveW (u.remoteKey c (p.num 20 4) (p.num 8 4) (p.num 12 8)) (p.num 20 4) (p.num 24 8) (p.data.drop 48).length = some l)
    (hregion : (u.putRuns l (p.data.drop 48)).rowRegion p false = none) (hmore : p.num 40 8 + (p.data.drop 48).length < p.num 32 8) :
    u.onDispatch p false = u.putRuns l (p.data.drop 48) := by
  have hwhole : ¬ p.num 40 8 + (p.data.drop 48).length = p.num 32 8 := by omega
  unfold State.onDispatch State.ctxOfEns
  simp only [hrow, false_and, if_false, if_neg haux, Bool.false_eq_true, hlead, hdecl, hact, Bool.and_false, hctx, Option.bind_some, hplace, hregion, true_and, if_neg hwhole]

/-- A request for the current copy is answered with its bytes and stamp (R127, R270). -/
theorem State.onGatherReq_of_held {c : Ctx} {l : List (List (Nat × Nat))} {st : Option (Nat × W64)} {bs : List Byte} {v : State}
    (hlead : u.leadCtx = some c) (hwant : p.num 50 1 ≠ 1) (hreqs : ∀ q ∈ u.pbk.reqs, ¬ (q.vr = p.num 4 4 ∧ q.tensor = p.num 8 4))
    (hruns : u.shardRuns c (p.num 4 4) (p.num 8 4) (p.num 42 8) (p.num 12 8) (p.num 20 8) (p.num 28 4) (p.num 32 8) none (p.num 67 8) = some (l, st))
    (hread : readShard 4 l u = .inl (bs, true, v)) :
    u.onGatherReq p false = v.sendShard false (p.num 40 2) p.aux16 p.aux64.toNat (v.stampFor true st bs) bs := by
  have hnone : u.pbk.reqs.find? (fun q => decide (q.vr = p.num 4 4 ∧ q.tensor = p.num 8 4)) = none :=
    List.find?_eq_none.mpr fun q hq => by simpa using hreqs q hq
  unfold State.onGatherReq State.ctxOfEns
  simp only [Bool.false_eq_true, if_false, hlead, if_neg hwant, Option.isSome_none, Bool.or_self, hnone, hruns, hread, if_true]
  rfl

/-- The bytes of a gather that have arrived. -/
def ShOp.got (o : ShOp) : List Byte :=
  match o.arrived with
  | some a => a.1
  | none => []

/-- Shard bytes that do not complete their gather join it (R127). -/
theorem State.onGatherData_of_more {i : Inst} {o : ShOp} (hstage : p.aux16 < 144) (hinst : (u.stage p.aux16).inst = some i)
    (hop : (u.stage p.aux16).sh.ops.find? (fun o => decide (o.id = p.aux64.toNat ∧ o.org.op = 1)) = some o) (hpos : p.num 24 8 = o.got.length)
    (hmore : (o.got ++ p.data.drop 32).length < (shDesc o.desc).len * (shDesc o.desc).rows) :
    u.onGatherData p = u.modOp p.aux16 o.id (fun x =>
      { x with arrived := some (o.got ++ p.data.drop 32, p.num 0 8, w64 (p.num 8 8), w64 (p.num 16 8)) }) := by
  have hfits : ¬ (p.num 24 8 ≠ o.got.length ∨ (shDesc o.desc).len * (shDesc o.desc).rows ≤ o.got.length) := by
    rw [List.length_append] at hmore
    omega
  have hpart : ¬ (o.got ++ p.data.drop 32).length = (shDesc o.desc).len * (shDesc o.desc).rows := by omega
  unfold State.onGatherData
  simp only [if_neg (show ¬ p.aux16 = 144 by omega), if_neg (show ¬ 144 < p.aux16 by omega), hinst, hop]
  exact (if_neg hfits).trans (if_neg fun h => hpart h.1)

theorem State.onGrant_of_payload {c : Ctx} (hlead : u.leadCtx = some c) (haux : p.aux16 = 3) :
    u.onGrant p false = (u.modLink (fun k => { k with pipeOut := k.pipeOut.erase (c.num, p.num 4 4, p.num 8 4, p.aux64.toNat) })).kickAll := by
  unfold State.onGrant State.ctxOfEns
  rw [if_neg (by omega), if_neg (by omega), if_pos haux]
  simp only [Bool.false_eq_true, if_false, hlead]

/-- The packet a FILL packet's payload makes, its type taken off it (R372). -/
def unwrapFill (p : Pkt) : Pkt := { p with aux16 := p.num 0 2, data := p.data.drop 2 }

/-- A FILL packet is what the type it names says (R345, R372). -/
theorem State.onFill_eq : u.onFill p = if p.aux64.getLsbD 63 then u.onRollBlock { p with aux64 := p.aux64 &&& ~~~(w64 (2 ^ 63)) }
    else if p.aux16 = 0x03 then u.onPipe (unwrapFill p) true
    else if p.aux16 = 0x04 then u.onDispatch (unwrapFill p) true
    else if p.aux16 = 0x05 then u.onGatherReq (unwrapFill p) true
    else if p.aux16 = 0x06 then u.onGatherData (unwrapFill p)
    else if p.aux16 = 0x10 then u.onGrant (unwrapFill p) true
    else u := rfl

end

section
variable {s : State} {n ty : Nat} {p : Pkt}

/-- A dispatch whose rows are occupied keeps its place in front of the port (R283). -/
theorem State.orWait_of_held (h : Arrives s n p ty) (hheld : s.rowHeld p = true) (f : State → State) :
    s.orWait n p f = s.modLink (fun k => { k with rowsWait := k.rowsWait ++ [(n, p)] }) := by
  unfold State.orWait
  rw [h.up, h.wire, h.mine, hheld]
  simp

theorem State.orWait_of_free (hfree : s.rowHeld p = false) (f : State → State) : s.orWait n p f = f s := by
  unfold State.orWait
  rw [hfree, Bool.and_false]
  rfl

theorem execDispatch_of_held (h : Arrives s n p 0x04) (hheld : s.rowHeld p = true) :
    execDispatch n p s = .next (s.modLink (fun k => { k with rowsWait := k.rowsWait ++ [(n, p)] })).reportUnreachable := by
  unfold execDispatch State.dispatchIn
  rw [onPort_of_lt h.port, State.orWait_of_held h hheld]

theorem execDispatch_of_free (h : Arrives s n p 0x04) (hfree : s.rowHeld p = false) :
    execDispatch n p s = .next ((taken s n p).onDispatch p false).reportUnreachable := by
  unfold execDispatch State.dispatchIn
  rw [onPort_of_lt h.port, State.orWait_of_free hfree, State.receive_of_arrives h (by decide)]

theorem execFill_of_held (h : Arrives s n p 0x08) (hheld : s.rowHeld p = true) :
    execFill n p s = .next (s.modLink (fun k => { k with rowsWait := k.rowsWait ++ [(n, p)] })).reportUnreachable := by
  unfold execFill State.fillIn
  rw [onPort_of_lt h.port, State.orWait_of_held h hheld]

theorem execFill_of_free (h : Arrives s n p 0x08) (hfree : s.rowHeld p = false) :
    execFill n p s = .next ((taken s n p).onFill p).reportUnreachable := by
  unfold execFill State.fillIn
  rw [onPort_of_lt h.port, State.orWait_of_free hfree, State.receive_of_arrives h (by decide)]

end

/-- Settles O35: each packet is handed to its type's rule by the state that took it, and the rule's own case gives the effect. -/
theorem dataPacketsAreDelivered : Obligations.DataPacketsAreDelivered := by
  unfold Obligations.DataPacketsAreDelivered
  intro n p s u next
  refine ⟨fun h => ?_, fun h => ?_, fun h => ?_, fun h => ⟨execDispatch_of_held h, fun hfree => ?_⟩, fun h => ?_, fun h => ?_, fun h => ?_, fun h => ?_⟩
  · have hstep : exec (.rollBlock n p) s = next (u.onRollBlock p) := onPort_receive h (by decide) _
    refine ⟨hstep, ?_⟩
    intro x hhop hblock hlen q qs hmore
    have hq : x.withQuarter p = qs := by
      unfold XHop.withQuarter quarterOf
      rw [hblock]
    rw [hstep, State.onRollBlock_of_more hhop hblock hlen (by rw [hq]; exact hmore), hq]
  · have hstep : exec (.chunk n p) s = next (u.onChunk p) := onPort_receive h (by decide) _
    refine ⟨hstep, ?_⟩
    intro k hcoll m key had horder hhost hmore
    rw [hstep, State.onChunk_of_more hcoll rfl rfl rfl horder hhost hmore]
  · have hstep : exec (.pipe n p) s = next (u.onPipe p false) := onPort_receive h (by decide) _
    refine ⟨hstep, ?_⟩
    intro c hlead haux m same had htaken hpos hmore
    exact hstep.trans (congrArg next (State.onPipe_of_more hlead haux htaken hpos hmore))
  · refine ⟨execDispatch_of_free h hfree, fun c d l hlead hrow haux hctx hdecl hact hplace hregion hmore => ?_⟩
    exact (execDispatch_of_free h hfree).trans (congrArg next (State.onDispatch_of_more hlead hrow haux hctx hdecl hact hplace hregion hmore))
  · have hstep : exec (.gatherReq n p) s = next (u.onGatherReq p false) := onPort_receive h (by decide) _
    refine ⟨hstep, fun c l st bs v hlead hwant hstage hreqs hruns hread => ?_⟩
    rw [hstep, State.onGatherReq_of_held hlead hwant hreqs hruns hread]
  · have hstep : exec (.gatherData n p) s = next (u.onGatherData p) := onPort_receive h (by decide) _
    refine ⟨hstep, ?_⟩
    intro i o hstage hinst hop hcopy d had hpos hmore
    exact hstep.trans (congrArg next (State.onGatherData_of_more hstage hinst hop hpos hmore))
  · have hstep : exec (.grant n p) s = next (u.onGrant p false) := onPort_receive h (by decide) _
    refine ⟨hstep, fun c hlead haux => ?_⟩
    rw [hstep, State.onGrant_of_payload hlead haux]
  · intro q
    refine ⟨execFill_of_held h, fun hfree => ?_⟩
    have hstep : exec (.fill n p) s = next (u.onFill p) := execFill_of_free h hfree
    rw [hstep, State.onFill_eq]
    refine ⟨fun hbit => by rw [if_pos hbit], fun hbit => ?_⟩
    rw [if_neg (Bool.eq_false_iff.mp hbit)]
    refine ⟨fun haux => ?_, fun haux => ?_, fun haux => ?_, fun haux => ?_, fun haux => ?_⟩ <;> rw [haux] <;> rfl

end Sys2Proof.Machine
end

section
/-! PROOFS. The Call, suspicion and the quorum, the beginning of a Recast, the Prompt Book's packets (R374-R377, R404-R443). -/

namespace Sys2Proof.Machine

open Sys2Proof.Safety

section
variable {s : State} {n b : Nat} {p : Pkt} {k : CallSt}

theorem execCallPropose_of_arrives {x : Proposal} (h : Arrives s n p 0x12) (hknown : s.link.roster.isSome = true ∨ x.base = none) :
    execCallPropose n p x s = .next ((taken s n p).onPropose x).reportUnreachable := by
  have hsame : ¬ (s.link.roster.isNone = true ∧ x.base.isSome = true) := by
    rcases hknown with hroster | hbase
    · rw [Option.isNone_eq_false_iff.mpr hroster]
      simp
    · simp [hbase]
  unfold execCallPropose
  rw [onPort_of_lt h.port]
  simp only [if_neg hsame]
  rw [State.receive_of_arrives h (by decide)]

section
variable (h : Arrives s n p 0x12) (hcall : (taken s n p).link.call = some k) (hballot : b = k.prop.ballot)
include h hcall hballot

/-- A child's subtree accepts (R374). -/
theorem execCallAccept_of_kid (hkid : p.src ∈ k.next.kids (taken s n p).link.me) (haux : p.aux16 < 256) :
    execCallAccept n p b s = .next (((taken s n p).modLink (fun x => { x with call := some { k with answered := k.answered ++ [p.src] } })).tryAnswer).reportUnreachable := by
  have hmine : ¬ (b ≠ k.prop.ballot ∨ (k.next.kids (taken s n p).link.me).contains p.src = false) := by simp [hballot, hkid]
  unfold execCallAccept
  rw [onPort_receive h (by decide)]
  simp only [hcall, if_neg hmine, if_neg (Nat.not_le.mpr haux)]

/-- A child's rejection aborts the coordinator's Call (R376). -/
theorem execCallReject_of_coordinator (hkid : p.src ∈ k.next.kids (taken s n p).link.me) (hcoord : k.coordinator = true) :
    execCallReject n p b s = .next ((taken s n p).abortCall).reportUnreachable := by
  have hmine : ¬ (b ≠ k.prop.ballot ∨ (k.next.kids (taken s n p).link.me).contains p.src = false) := by simp [hballot, hkid]
  unfold execCallReject
  rw [onPort_receive h (by decide)]
  simp only [hcall, if_neg hmine, if_pos hcoord]

/-- A child's rejection goes up (R374). -/
theorem execCallReject_of_parent {up : Nat} (hkid : p.src ∈ k.next.kids (taken s n p).link.me) (hcoord : k.coordinator = false)
    (hfirst : k.rejected = false) (hup : k.next.parent (taken s n p).link.me = some up) :
    execCallReject n p b s = .next (((taken s n p).modLink (fun x => { x with call := some { k with rejected := true } })).sendCall up 2 b
      (.reject b)).reportUnreachable := by
  have hmine : ¬ (b ≠ k.prop.ballot ∨ (k.next.kids (taken s n p).link.me).contains p.src = false) := by simp [hballot, hkid]
  have hparent : k.next.parent ((taken s n p).modLink (fun x => { x with call := some { k with rejected := true } })).link.me = some up := hup
  unfold execCallReject
  rw [onPort_receive h (by decide)]
  simp only [hcall, if_neg hmine, if_neg (Bool.eq_false_iff.mp hcoord), hparent, if_neg (Bool.eq_false_iff.mp hfirst)]

theorem execCallCommit_of_member (hcoord : k.coordinator = false) (haux : p.aux16 < 256) :
    execCallCommit n p b s = .next ((taken s n p).commitCall k).reportUnreachable := by
  have hmine : ¬ (b ≠ k.prop.ballot ∨ k.coordinator = true) := by simp [hballot, hcoord]
  unfold execCallCommit
  rw [onPort_receive h (by decide)]
  simp only [hcall, if_neg hmine, if_neg (Nat.not_le.mpr haux)]

theorem execCallAbort_of_member (hcoord : k.coordinator = false) : execCallAbort n p b s = .next ((taken s n p).abortCall).reportUnreachable := by
  unfold execCallAbort
  rw [onPort_receive h (by decide)]
  simp only [hcall, if_pos (And.intro hballot hcoord)]

end

theorem execCallSilenceTimeout_of_kid {dev : Nat} (hcall : s.link.call = some k) (hkid : dev ∈ k.next.kids s.link.me) (hsilent : dev ∉ k.answered) :
    execCallSilenceTimeout dev s = .next (if k.coordinator then
      (if k.prop.version = 1 then (s.abortCall.reportSuspect dev 1).firstCall else s.abortCall.reportSuspect dev 1) else s.reportSuspect dev 1) := by
  have hdue : (!(k.next.kids s.link.me).contains dev || k.answered.contains dev) = false := by simp [hkid, hsilent]
  unfold execCallSilenceTimeout
  simp only [hcall, hdue, Bool.false_eq_true, if_false]
  split_ifs <;> rfl

end

/-- Settles O36: each message is handed to the Call it names by the state that took it. -/
theorem callsAreAnswered : Obligations.CallsAreAnswered := by
  unfold Obligations.CallsAreAnswered
  refine fun n p s => ⟨fun h x hknown => execCallPropose_of_arrives h hknown, fun h k b hcall hballot => ⟨fun hkid => ⟨?_, ?_, ?_⟩, fun hcoord => ⟨?_, ?_⟩⟩,
    fun k dev hcall hkid hsilent => execCallSilenceTimeout_of_kid hcall hkid hsilent⟩
  · exact execCallAccept_of_kid h hcall hballot hkid
  · exact execCallReject_of_coordinator h hcall hballot hkid
  · exact fun hcoord hfirst up hup => execCallReject_of_parent h hcall hballot hkid hcoord hfirst hup
  · exact execCallCommit_of_member h hcall hballot hcoord
  · exact execCallAbort_of_member h hcall hballot hcoord

section
variable {s : State} {n : Nat} {p : Pkt} {r : Roster}

section
variable (h : Arrives s n p 0x07) (hroster : (taken s n p).link.roster = some r) (hsrc : (r.entry p.src).isSome = true)
include h hroster hsrc

theorem execSuspect_of_member (hkind : p.aux16 % 256 = 0x09) (hdouble : ¬ (p.aux64.toNat = noDev ∧ p.num 0 1 = 4))
    (hother : p.aux64.toNat ≠ (taken s n p).link.me) :
    execSuspect n p s = .next (if (taken s n p).coordBut [p.aux64.toNat] = some (taken s n p).link.me then (taken s n p).suspectAt p.aux64.toNat (p.num 0 1)
      else (taken s n p).reportSuspect p.aux64.toNat (p.num 0 1)).reportUnreachable := by
  unfold execSuspect
  rw [if_neg (not_not.mpr hkind), onPort_receive h (by decide)]
  simp only [hroster, Option.isNone_eq_false_iff.mpr hsrc, Bool.false_eq_true, if_false, if_neg hdouble, if_neg hother]

theorem execQuorumQuery_of_member (hkind : p.aux16 % 256 = 0x0A) : execQuorumQuery n p s =
    .next ((taken s n p).resil p.src 0x0B p.aux64 [if (taken s n p).alive p.aux64.toNat then 1 else 0]).reportUnreachable := by
  unfold execQuorumQuery
  rw [if_neg (not_not.mpr hkind), onPort_receive h (by decide)]
  simp only [hroster, Option.isNone_eq_false_iff.mpr hsrc, Bool.false_eq_true, if_false]

/-- An answer of a device that has not answered yet counts (R423). -/
theorem execQuorumAnswer_of_member {q : Query} (hkind : p.aux16 % 256 = 0x0B)
    (hquery : (taken s n p).pbk.queries.find? (fun q => decide (q.dev = p.aux64.toNat)) = some q) (hasked : p.src ∈ q.asked)
    (hfirst : ∀ a ∈ q.answers, a.1 ≠ p.src) :
    execQuorumAnswer n p s = .next (if q.asked.length ≤ (q.answers ++ [(p.src, decide (p.num 0 1 = 1))]).length then
        ((taken s n p).modPbk (fun x => { x with queries := x.queries.map (fun (y : Query) => if y.dev = q.dev then
          { q with answers := q.answers ++ [(p.src, decide (p.num 0 1 = 1))] } else y) })).settleQuery
            { q with answers := q.answers ++ [(p.src, decide (p.num 0 1 = 1))] }
      else (taken s n p).modPbk (fun x => { x with queries := x.queries.map (fun (y : Query) => if y.dev = q.dev then
        { q with answers := q.answers ++ [(p.src, decide (p.num 0 1 = 1))] } else y) })).reportUnreachable := by
  have hcounts : (!q.asked.contains p.src || q.answers.any (fun a => decide (a.1 = p.src))) = false := by
    have hnone : q.answers.any (fun a => decide (a.1 = p.src)) = false := List.any_eq_false.mpr fun a ha => by simp [hfirst a ha]
    rw [hnone, List.contains_iff_mem.mpr hasked]
    rfl
  unfold execQuorumAnswer
  rw [if_neg (not_not.mpr hkind), onPort_receive h (by decide)]
  simp only [hroster, Option.any_some, hsrc, Bool.not_true, Bool.false_eq_true, if_false, hquery, hcounts]

end

/-- No heartbeat within the last millisecond on any port (R424). -/
theorem unheard_of_old (hold : ∀ k t, k < 24 → (s.port k).beat = some t → 1000000 ≤ (s.now - t).toNat) :
    (List.range 24).any (fun n => match (s.port n).beat with
      | some t => decide ((s.now - t).toNat < 1000000)
      | none => false) = false := by
  refine List.any_eq_false.mpr fun k hk => ?_
  cases hbeat : (s.port k).beat with
  | none => simp
  | some t =>
    have hlate := hold k t (List.mem_range.mp hk) hbeat
    simpa using hlate

section
variable {dev cause : Nat} (hroster : s.link.roster = some r) (hin : (r.entry dev).isSome = true) (hother : dev ≠ s.link.me) (hcause : cause < 4)
  (hsafe : s.plat.dev ≠ .safe) (hfault : s.plat.dev ≠ .fault)
include hroster hin hother hcause hsafe hfault

theorem execRecastStart_of_member (hcoord : s.coordBut [dev] ≠ some s.link.me) : execRecastStart dev cause s = .next (s.recastBegin dev cause) := by
  unfold execRecastStart
  simp [hroster, hin, hother, hcause, hsafe, hfault, hcoord]

theorem execRecastStart_of_coordinator (hcoord : s.coordBut [dev] = some s.link.me) (hconfirmed : (dev, cause) ∈ s.pbk.confirmed) :
    execRecastStart dev cause s = .next (s.recastBegin dev cause).proposeRecast.tryAnswer := by
  unfold execRecastStart
  simp [hroster, hin, hother, hcause, hsafe, hfault, hcoord, hconfirmed]

end

end

/-- Settles O37: each packet is handed to its rule by the state that took it; the limits by what the state shows. -/
theorem failuresAreConfirmed : Obligations.FailuresAreConfirmed := by
  unfold Obligations.FailuresAreConfirmed
  refine fun s => ⟨?_, fun q rest hqueries => ?_, fun r hroster hjob hold => ?_, fun dev cause r hroster hin hother hcause hsafe hfault => ⟨?_, ?_⟩,
    fun c hphase => ?_⟩
  · intro n p r u h hroster hsrc
    exact ⟨execSuspect_of_member h hroster hsrc, execQuorumQuery_of_member h hroster hsrc,
      fun hkind q hquery hasked hfirst => execQuorumAnswer_of_member h hroster hsrc hkind hquery hasked hfirst⟩
  · show execQuorumTimeout s = _
    unfold execQuorumTimeout
    rw [hqueries]
  · show execIsolationTimeout s = _
    unfold execIsolationTimeout
    simp only [hroster]
    exact if_pos ⟨hjob, unheard_of_old hold⟩
  · exact execRecastStart_of_member hroster hin hother hcause hsafe hfault
  · exact execRecastStart_of_coordinator hroster hin hother hcause hsafe hfault
  · show execPhaseOverrun s = _
    unfold execPhaseOverrun
    rw [hphase]

section
variable {s : State} {n : Nat} {p : Pkt} {r : Roster}

/-- A resilience packet of a device of the Roster is handed to the rule of its kind (R416, R417). -/
theorem pbkPacket_of_member {kind : Nat} (h : Arrives s n p 0x07) (hroster : (taken s n p).link.roster = some r)
    (hsrc : (r.entry p.src).isSome = true) (hkind : p.aux16 % 256 = kind) (hlow : 0 < kind) (hhigh : kind ≤ 0x0E) (f : State → State) :
    pbkPacket n p kind s f = .next (f (taken s n p)).reportUnreachable := by
  unfold pbkPacket
  rw [onPort_of_lt h.port]
  simp only [if_neg (show ¬ (p.aux16 % 256 = 0 ∨ 0x0E < p.aux16 % 256) by omega), if_neg (not_not.mpr hkind)]
  rw [State.receive_of_arrives h (by decide)]
  simp only [hroster, Option.isNone_eq_false_iff.mpr hsrc, Bool.false_eq_true, if_false]

theorem execAdmitReq_of_coord {ident : W64} {c : Nat} (h : Arrives s n p 0x07) (hdst : p.dst ≠ noDev) (hkind : p.aux16 = 0x0E)
    (hcoord : (taken s n p).coord = some c) :
    execAdmitReq n p ident s = .next (if c = (taken s n p).link.me then (taken s n p).modPbk (fun x => { x with
        admitReqs := x.admitReqs.filter (fun y => decide (y.1 ≠ ident)) ++ [(ident, p.data)] })
      else (taken s n p).resil c 0x0E ident p.data).reportUnreachable := by
  unfold execAdmitReq
  rw [if_neg (not_not.mpr (by rw [hkind])), onPort_of_lt h.port]
  simp only [if_neg hdst]
  rw [State.receive_of_arrives h (by decide), if_neg (show ¬ 256 ≤ p.aux16 by omega)]
  simp only [hcoord, Bool.false_or, decide_eq_true_eq]
  by_cases hme : c = (taken s n p).link.me
  · simp only [if_pos hme]
    exact congrArg (fun v : State => Host.Outcome.next v.reportUnreachable) (if_pos hme)
  · simp only [if_neg hme]

/-- No transfer of a save is under way. -/
theorem no_save_xfer (h : ∀ x ∈ s.plat.xfers, x.kind ≠ 2) : s.plat.xfers.any (fun x => decide (x.kind = 2)) = false :=
  List.any_eq_false.mpr fun x hx => by simp [h x hx]

end

/-- Settles O38: a packet of a kind is handed to that kind's rule by the state that took it. -/
theorem protectionPacketsAreKept : Obligations.ProtectionPacketsAreKept := by
  unfold Obligations.ProtectionPacketsAreKept
  refine fun s => ⟨?_, ?_, fun v r hsave hroster hidle => ⟨fun hown hdone => ?_, ?_⟩⟩
  · intro n p r u h hroster hsrc
    have hand : ∀ kind, p.aux16 % 256 = kind → 0 < kind → kind ≤ 0x0E → ∀ f, pbkPacket n p kind s f = .next (f u).reportUnreachable :=
      fun kind => pbkPacket_of_member h hroster hsrc
    refine ⟨fun hk => hand _ hk (by decide) (by decide) _, fun hk => hand _ hk (by decide) (by decide) _, fun hk => hand _ hk (by decide) (by decide) _,
      fun hk => hand _ hk (by decide) (by decide) _, fun hk => hand _ hk (by decide) (by decide) _, fun hk => hand _ hk (by decide) (by decide) _,
      fun hk => hand _ hk (by decide) (by decide) _, fun hk hstep => ?_, fun hk => ?_, fun hk => ?_, fun hk => ?_, fun hk v hsave hstep => ?_⟩
    · refine (hand _ hk (by decide) (by decide) _).trans ?_
      rw [if_neg (Nat.not_lt.mpr hstep)]
    · refine (hand 0x08 (by rw [hk]) (by decide) (by decide) _).trans ?_
      rw [if_pos (by omega)]
    · refine (hand 0x08 (by rw [hk]) (by decide) (by decide) _).trans ?_
      rw [if_neg (by omega), if_neg (by omega)]
    · refine (hand 0x08 (by rw [hk]) (by decide) (by decide) _).trans ?_
      rw [if_neg (by omega), if_pos (by omega)]
    · show execSaveDone n p s = _
      unfold execSaveDone
      rw [hand 0x0D (by rw [hk]) (by decide) (by decide)]
      simp only [hsave, if_neg (not_not.mpr hstep), if_neg (show ¬ 256 ≤ p.aux16 by omega)]
  · intro n p ident c u h hdst hkind hcoord
    have hstep := execAdmitReq_of_coord (ident := ident) h hdst hkind hcoord
    exact ⟨fun hme => hstep.trans (by rw [if_pos hme]), fun hother => hstep.trans (by rw [if_neg hother])⟩
  · have hsome : v.done.isEmpty = false := by simpa using hdone
    show execSaveStreamDone s = _
    unfold execSaveStreamDone
    simp only [hsave, hroster, no_save_xfer hidle, hown, hsome, Bool.false_eq_true, if_false, if_true]
  · intro hown t hcoord
    show execSaveStreamDone s = _
    unfold execSaveStreamDone
    simp only [hsave, hroster, no_save_xfer hidle, hown, Bool.false_eq_true, if_false]
    exact if_pos hcoord

end Sys2Proof.Machine
end

section
/-! PROOFS. Memory accesses, scrubbing and repair, storage transfers (R197-R244, R471, R558-R560). -/

namespace Sys2Proof.Machine

open Sys2Proof.Safety

section
variable {s : State} {off len pa : Nat} {write : Option (List Byte)} {bs : List Byte} {t : State}

section
variable (hlive : s.barLive = true) (hlen : 0 < len) (hin : off + len ≤ 2 ^ 36)
include hlive hlen hin

/-- A host read that comes back, poisoned or not (R232, R243). -/
theorem execBar2Read_of_read {bad : List Nat} (hread : s.settleHost.memRead 4 false (s.settleHost.bar2Addr off) len = .inl (bs, bad, t)) :
    execBar2Read off len s = .next (t.hostAnswer (if bad.isEmpty then 0 else 2) bs) := by
  unfold execBar2Read
  rw [if_pos ⟨hlive, hlen, hin⟩]
  simp only [hread]

theorem execBar2Read_of_unmapped (hread : s.settleHost.memRead 4 false (s.settleHost.bar2Addr off) len = .inr .unmapped) :
    execBar2Read off len s = .next (s.settleHost.hostAnswer 1 []) := by
  unfold execBar2Read
  rw [if_pos ⟨hlive, hlen, hin⟩]
  simp only [hread]

/-- A host read that cannot be made yet waits (R208, R214). -/
theorem execBar2Read_of_stop {e : MStop} (hread : s.settleHost.memRead 4 false (s.settleHost.bar2Addr off) len = .inr e) (he : e ≠ .unmapped) :
    execBar2Read off len s = .next (s.settleHost.addWaiter
      ⟨s.settleHost.pageOwner (s.settleHost.bar2Addr off), s.settleHost.bar2Addr off, len, none, none⟩) := by
  unfold execBar2Read
  rw [if_pos ⟨hlive, hlen, hin⟩]
  simp only [hread]

end

/-- The bytes of an access at a home slice: those written, or the rest of the 64-byte block that is read (R206). -/
def accessLen (pa : Nat) (write : Option (List Byte)) : Nat :=
  match write with
  | some bs => bs.length
  | none => 64 - pa % 64

/-- An access at a home slice keeps to its 256-byte line. -/
theorem accessLen_fits (h : ∀ bs, write = some bs → bs ≠ [] ∧ pa % 256 + bs.length ≤ 256) : 0 < accessLen pa write ∧ pa % 256 + accessLen pa write ≤ 256 := by
  cases write with
  | none =>
    unfold accessLen
    simp only
    omega
  | some bs =>
    obtain ⟨hsome, hfits⟩ := h bs rfl
    exact ⟨List.length_pos_iff.mpr hsome, hfits⟩

/-- The request an access at a home slice makes of its stack (R225). -/
def State.accessReq (s : State) (pa : Nat) (write : Option (List Byte)) : MemReq := ⟨s.pageOwner pa, pa, accessLen pa write, write, none⟩

section
variable (hplace : s.place pa = .stack) (hfits : ∀ bs, write = some bs → bs ≠ [] ∧ pa % 256 + bs.length ≤ 256)
  (hmid : write = none → s.midSeq (pa / 256) = false)
include hplace hfits hmid

theorem execCacheAccess_of_served (hneed : s.stackNeed pa write = none) : execCacheAccess pa write s = .next (s.sliceServe pa write) := by
  refine (if_pos (And.intro hplace (accessLen_fits hfits))).trans ?_
  rw [if_neg (fun h : write = none ∧ s.midSeq (pa / 256) = true => by rw [hmid h.1] at h; exact absurd h.2 (by decide))]
  simp only [hneed]

/-- What needs its stack is served at once, or joins the queue (R225, R226). -/
theorem execCacheAccess_of_need {w : Bool} {k : Nat} (hneed : s.stackNeed pa write = some (w, k)) :
    execCacheAccess pa write s = if s.admissible (s.pageOwner pa) w k && s.isNext (s.accessReq pa write) then .next (s.serveReq (s.accessReq pa write))
      else .next { s with mem := { s.mem with queue := s.mem.queue ++ [s.accessReq pa write] } } := by
  refine (if_pos (And.intro hplace (accessLen_fits hfits))).trans ?_
  rw [if_neg (fun h : write = none ∧ s.midSeq (pa / 256) = true => by rw [hmid h.1] at h; exact absurd h.2 (by decide))]
  simp only [hneed]
  rfl

end

theorem execCacheAccess_of_midSeq (hplace : s.place pa = .stack) (hmid : s.midSeq (pa / 256) = true) : execCacheAccess pa none s = .next s := by
  refine (if_pos (And.intro hplace (accessLen_fits (write := none) (by simp)))).trans ?_
  exact if_pos ⟨rfl, hmid⟩

theorem execCacheSetWaitLimit_of_waiter {i : Nat} {r : MemReq} (hr : s.mem.waiters[i]? = some r) (hown : r.kernel = none) :
    execCacheSetWaitLimit i s = .next (State.serveWaiter { s with mem := { s.mem with waiters := dropAt s.mem.waiters i } } r) := by
  unfold execCacheSetWaitLimit
  simp only [hr, hown]

theorem execCacheSetWaitLimit_of_kernel {i n pc cls op : Nat} {r : MemReq} (hr : s.mem.waiters[i]? = some r) (hown : r.kernel = some (n, pc, cls, op)) :
    execCacheSetWaitLimit i s = .next (if s.blocked r then
      State.kernelFault { s with mem := { s.mem with waiters := dropAt s.mem.waiters i } } n ⟨.waitLimit, ⟨pc, cls, op⟩, 0, none⟩
      else { s with mem := { s.mem with waiters := dropAt s.mem.waiters i } }) := by
  unfold execCacheSetWaitLimit
  simp only [hr, hown]
  split <;> rfl

end

/-- Settles O39: each access by where its bytes lie and what its stack and its set allow. -/
theorem memoryAccessesComplete : Obligations.MemoryAccessesComplete := by
  unfold Obligations.MemoryAccessesComplete
  refine fun s => ⟨?_, fun off data hlive hin => if_pos ⟨hlive, hin⟩, fun pa write hplace hfits hmid => ⟨?_, ?_⟩, fun pa hplace hmid => ?_, ?_, ?_⟩
  · intro off len hlive hlen hin u
    refine ⟨fun bs t hread => ?_, fun bs b bad t hread => ?_, fun hread => ?_, fun hread => ?_⟩
    · exact execBar2Read_of_read hlive hlen hin hread
    · exact execBar2Read_of_read hlive hlen hin hread
    · exact execBar2Read_of_unmapped hlive hlen hin hread
    · rcases hread with hread | hread
      · exact execBar2Read_of_stop hlive hlen hin hread (by decide)
      · exact execBar2Read_of_stop hlive hlen hin hread (by decide)
  · exact execCacheAccess_of_served hplace hfits hmid
  · intro w k hneed r
    have hstep := execCacheAccess_of_need hplace hfits hmid hneed
    refine ⟨fun hadm hnext => hstep.trans (if_pos ?_), fun hwait => hstep.trans (if_neg ?_)⟩
    · exact Bool.and_eq_true_iff.mpr ⟨hadm, hnext⟩
    · intro h
      obtain ⟨hadm, hnext⟩ := Bool.and_eq_true_iff.mp h
      rcases hwait with hwait | hwait
      · exact Bool.eq_false_iff.mp hwait hadm
      · exact Bool.eq_false_iff.mp hwait hnext
  · exact execCacheAccess_of_midSeq hplace hmid
  · intro i r hr t
    have hstep : exec (.requestAdmit i) s = if t.isNext r then .next (({ t with mem := { t.mem with queue := dropAt t.mem.queue i } }).serveReq r)
        else .next s := by
      show execRequestAdmit i s = _
      unfold execRequestAdmit
      simp only [hr]
      rfl
    exact ⟨fun hnext => hstep.trans (if_pos hnext), fun hwait => hstep.trans (if_neg (Bool.eq_false_iff.mp hwait))⟩
  · intro i r hr t
    exact ⟨execCacheSetWaitLimit_of_waiter hr, fun n pc cls op => execCacheSetWaitLimit_of_kernel hr⟩

section
variable {s : State}

/-- A row whose bank has had its hard repair gets a soft remap alone (R236-R238). -/
theorem execSoftRemapInstall_of_hard {pc row : Nat} (hfail : (pc, row) ∈ s.mem.failing) (hok : s.softOk pc row = true)
    (hhard : ∃ r ∈ (settleBlocks (s.rowPlaces pc row) s).mem.hard, r.pc = pc ∧ Config.bankOf pc r.row = Config.bankOf pc row) :
    execSoftRemapInstall (pc / 64) pc row s = .next ((State.logRepair { settleBlocks (s.rowPlaces pc row) s with mem :=
      { (settleBlocks (s.rowPlaces pc row) s).mem with remaps := (settleBlocks (s.rowPlaces pc row) s).mem.remaps ++ [(⟨2, pc / 64, pc, row⟩ : Repair)] } }
        ⟨2, pc / 64, pc, row⟩).rowDone pc row) := by
  have hcond : (s.mem.failing.contains (pc, row) && s.softOk pc row && decide (pc / 64 = pc / 64)) = true := by simp [hfail, hok]
  have hsome : (settleBlocks (s.rowPlaces pc row) s).mem.hard.any (fun r => decide (r.pc = pc ∧ Config.bankOf pc r.row = Config.bankOf pc row)) = true := by
    obtain ⟨r, hr, hbank⟩ := hhard
    exact List.any_eq_true.mpr ⟨r, hr, decide_eq_true hbank⟩
  unfold execSoftRemapInstall
  rw [if_pos hcond]
  simp only [hsome, Bool.not_true, Bool.false_and, Bool.false_eq_true, if_false]

/-- A page of a row that has no spare left retires at once, or at the Curtain (R239, R240). -/
theorem execPageRetire_of_failing {page target : Nat} {x : Nat × Nat}
    (hfind : s.mem.failing.find? (fun x => (s.rowPages x.1 x.2).contains page && !s.softOk x.1 x.2) = some x) (hnew : page ∉ s.mem.retiredPages)
    (hpend : ∀ p ∈ s.mem.pendPages, p.1 ≠ page ∧ p.2 ≠ target) (hroom : s.mem.retiredPages.length + s.mem.pendPages.length < 4096)
    (hfree : s.freePage target = true) :
    execPageRetire page target s = if s.leadCtx.isSome then .next { s with mem := { s.mem with pendPages := s.mem.pendPages ++ [(page, target)] } }
      else .next (s.retirePage page target) := by
  have hpage : page ∈ s.rowPages x.1 x.2 := by
    have hx := List.find?_some hfind
    exact List.contains_iff_mem.mp (Bool.and_eq_true_iff.mp hx).1
  have hsome : (s.rowPages x.1 x.2).all (fun g => s.mem.retiredPages.contains g) = false :=
    List.all_eq_false.mpr ⟨page, hpage, by simpa using hnew⟩
  have hfirst : (s.mem.retiredPages.contains page || s.mem.pendPages.any (fun p => decide (p.1 = page))) = false := by
    have hnone : s.mem.pendPages.any (fun p => decide (p.1 = page)) = false := List.any_eq_false.mpr fun p hp => by simp [(hpend p hp).1]
    rw [hnone, Bool.or_false]
    simpa using hnew
  unfold execPageRetire
  simp only [hfind, hsome, hfirst, if_neg (Nat.not_le.mpr hroom), hfree, Bool.not_true, Bool.and_false, Bool.false_and, Bool.false_eq_true, if_false]

theorem execChannelRetire_of_worn {ch : Nat} (hch : 2 * ch + 1 < pcCount) (hworn : s.fld .hbmRepairCfg 0 16 8 < s.chanPages ch)
    (hnew : ch ∉ s.mem.retiredChans) (hidle : s.mem.copy = none) :
    execChannelRetire ch s = .next ((State.setFld { s with mem := { s.mem with copy := some ⟨[ch], false⟩ } } .hbmCapacity 0 10 10 1).logRepair
      ⟨4, ch / 32, 2 * ch, 0⟩) := by
  have hcontains : s.mem.retiredChans.contains ch = false := by simpa using hnew
  unfold execChannelRetire
  rw [if_pos hch]
  simp only [hidle, decide_eq_true hworn, hcontains, Bool.not_false, Bool.and_self, if_true]

theorem execChannelCopyDone_of_copy {c : ChanCopy} (hcopy : s.mem.copy = some c) (hgoes : c.ended = false) (hrecast : s.pbk.recast = none) :
    execChannelCopyDone s = if (s.copyChannels c.chans).leadCtx.isSome then
        .next { s.copyChannels c.chans with mem := { (s.copyChannels c.chans).mem with copy := some { c with ended := true } } }
      else .next ((s.copyChannels c.chans).switchRemap c.chans) := by
  have hdue : ¬ (c.ended = true ∨ s.pbk.recast.isSome = true) := by simp [hgoes, hrecast]
  unfold execChannelCopyDone
  simp only [hcopy, if_neg hdue]

end

/-- Settles O40: the scrubber by the level that holds the address; repairs by what is left for the row, the page, the channel. -/
theorem scrubbingAndRepair : Obligations.ScrubbingAndRepair := by
  unfold Obligations.ScrubbingAndRepair
  refine fun s => ⟨fun addr n off bs bad t hplace hread => ?_, fun addr o bs bad t hplace hon hread => ?_, fun addr f t hplace hon => ?_,
    fun pc row hfail hok => ?_, fun page target x hfind hnew hpend hroom hfree hne => ⟨fun hlead => ?_, fun hlead => ?_⟩,
    fun ch hch hworn hnew hidle => execChannelRetire_of_worn hch hworn hnew hidle, fun c hcopy hgoes hrecast => ⟨fun hlead => ?_, fun hlead => ?_⟩⟩
  · show execScrubRead 0 addr s = _
    unfold execScrubRead
    simp only [hplace, hread]
  · show execScrubRead 1 addr s = _
    unfold execScrubRead
    simp only [hplace, hon, hread, Nat.one_ne_zero, if_false]
  · intro g hblocks
    show execScrubRead 2 addr s = _
    unfold execScrubRead
    simp only [hplace, hon, Nat.one_ne_zero, if_false]
    rw [hblocks]
  · exact execSoftRemapInstall_of_hard hfail hok
  · exact (execPageRetire_of_failing hfind hnew hpend hroom hfree).trans (if_pos hlead)
  · exact (execPageRetire_of_failing hfind hnew hpend hroom hfree).trans (if_neg (by rw [hlead]; decide))
  · exact (execChannelCopyDone_of_copy hcopy hgoes hrecast).trans (if_pos hlead)
  · exact (execChannelCopyDone_of_copy hcopy hgoes hrecast).trans (if_neg (by rw [hlead]; decide))

end Sys2Proof.Machine
end

section
/-! PROOFS. Storage transfers; Camod commands that report or reset a unit (R4, R464-R482, R504, R558-R560). -/

namespace Sys2Proof.Machine

open Sys2Proof.Safety

/-- A request of `n` bytes moves an endpoint's expected number on (R558). -/
def State.received (u : State) (ep n : Nat) : State := u.setEp ep { u.ep ep with recvPsn := psnNext (u.ep ep).recvPsn n }

/-- A transfer opened the bytes to an endpoint's peer, and memory is there (R471). -/
def State.opens (v : State) (ep pa n : Nat) : Bool := v.plat.xfers.any (fun x => decide (x.ep = ep) && x.opened && x.covers pa n) && v.mapped pa n

/-- An answer of `n` bytes moves an endpoint's own number on, and its retries start afresh (R560). -/
def State.answered (u : State) (ep n : Nat) : State := u.setEp ep { u.ep ep with retries := 0, sendPsn := psnNext (u.ep ep).sendPsn n }

section
variable {s t : State} {ep : Nat}

section
variable {pa len : Nat} {data bs : List Byte} (hep : ep < 256) (hrun : s.epState ep = 1) (heth : s.hasEth = true)
include hep hrun heth

/-- Every rule of a port that is there passes its checks on a running endpoint. -/
theorem eth_serves {α : Type} (x y z : α) : (if 256 ≤ ep then x else if !s.hasEth || decide (s.epState ep ≠ 1) then y else z) = z := by
  rw [if_neg (Nat.not_le.mpr hep), heth, hrun]
  rfl

/-- A peer's write outside what a transfer opened is refused (R471). -/
theorem execRdmaRequest_of_refused (hmine : ((s.ethMoved ep false data.length).received ep data.length).opens ep pa data.length = false) :
    execRdmaRequest ep true pa len data s = .next (((s.ethMoved ep false data.length).received ep data.length).nak ep 0) := by
  have hrefused := congrArg (fun b : Bool => !b) hmine
  unfold State.opens at hrefused
  simp only [Bool.not_and] at hrefused
  unfold State.received at hrefused ⊢
  unfold execRdmaRequest
  rw [eth_serves hep hrun heth]
  simp only [if_true, hrefused]
  rfl

theorem execRdmaRequest_of_write (hmine : ((s.ethMoved ep false data.length).received ep data.length).opens ep pa data.length = true)
    (hwrite : ((s.ethMoved ep false data.length).received ep data.length).memWrite 4 pa data = .inl t) :
    execRdmaRequest ep true pa len data s = .next t := by
  have hopened := congrArg (fun b : Bool => !b) hmine
  unfold State.opens at hopened
  simp only [Bool.not_and, Bool.not_true] at hopened
  unfold State.received at hopened hwrite
  unfold execRdmaRequest
  rw [eth_serves hep hrun heth]
  simp only [if_true, hopened, Bool.false_eq_true, if_false, hwrite]

theorem execRdmaRequest_of_read (hmine : (s.received ep len).opens ep pa len = true)
    (hread : (s.received ep len).memRead 4 false pa len = .inl (bs, [], t)) :
    execRdmaRequest ep false pa len data s = .next ((t.ethMoved ep true len).hostAnswer 0 bs) := by
  have hopened := congrArg (fun b : Bool => !b) hmine
  unfold State.opens at hopened
  simp only [Bool.not_and, Bool.not_true] at hopened
  unfold State.received at hopened hread
  unfold execRdmaRequest
  rw [eth_serves hep hrun heth]
  simp only [Bool.false_eq_true, if_false, hopened, hread, List.isEmpty_nil, if_true]

end

section
variable {x : Xfer} {data : List Byte} (hep : ep < 256) (hrun : s.epState ep = 1) (hx : s.xferOn ep = some x)
include hep hrun hx

theorem execRdmaResponse_of_fatal : execRdmaResponse ep true data s = .next (s.failEp ep) := by
  unfold execRdmaResponse
  rw [if_neg (Nat.not_le.mpr hep), if_neg (not_not.mpr hrun)]
  simp only [hx, if_true]

/-- An answer moves the oldest transfer on (R560). -/
theorem execRdmaResponse_of_answer {n : Nat} (hn : n = if x.write then x.len else Nat.min data.length x.len) :
    execRdmaResponse ep false data s = if x.write then .next ((if x.kind = 2 then ((s.ethMoved ep x.write n).answered ep n).bump .pbkSaveBytes 0 n
        else (s.ethMoved ep x.write n).answered ep n).modPlat (fun p => { p with xfers := p.xfers.filter (fun y => decide (y ≠ x)) }))
      else .next ((((s.ethMoved ep x.write n).answered ep n).xferData x data).stepRestore x.kind) := by
  subst hn
  unfold execRdmaResponse
  rw [if_neg (Nat.not_le.mpr hep), if_neg (not_not.mpr hrun)]
  simp only [hx, Bool.false_eq_true, if_false]
  rfl

theorem execRdmaRetryTimeout_of_xfer : execRdmaRetryTimeout ep s = if 7 ≤ (s.ep ep).retries then .next (s.failEp ep)
    else .next ((s.setEp ep { s.ep ep with retries := (s.ep ep).retries + 1 }).bump .ethRetx 0 1) := by
  unfold execRdmaRetryTimeout
  rw [if_neg (Nat.not_le.mpr hep), hrun, hx]
  rfl

end

end

/-- Settles O41: by what a transfer opened, by the endpoint's oldest transfer, by its retries. -/
theorem storageTransfersMove : Obligations.StorageTransfersMove := by
  unfold Obligations.StorageTransfersMove
  refine fun ep s hep hrun => ⟨fun heth => ⟨?_, ?_, ?_, fun hfirst => ?_, ?_, ?_⟩, fun x hx => ⟨fun data => ?_, ?_, fun hfew => ?_, fun hmany => ?_⟩⟩
  · intro pa data u v mine
    exact ⟨execRdmaRequest_of_refused hep hrun heth, fun hmine t hwrite => execRdmaRequest_of_write hep hrun heth hmine hwrite⟩
  · intro pa len bs t v hmine hread
    exact execRdmaRequest_of_read hep hrun heth hmine hread
  · exact eth_serves hep hrun heth _ _ _
  · exact (eth_serves hep hrun heth _ _ _).trans (if_neg (Bool.eq_false_iff.mp hfirst))
  · exact eth_serves hep hrun heth _ _ _
  · exact eth_serves hep hrun heth _ _ _
  · exact execRdmaResponse_of_fatal hep hrun hx
  · intro data n u v
    have hstep := execRdmaResponse_of_answer (data := data) hep hrun hx rfl
    exact ⟨fun hwrite => hstep.trans (if_pos hwrite), fun hread => hstep.trans (if_neg (Bool.eq_false_iff.mp hread))⟩
  · exact (execRdmaRetryTimeout_of_xfer hep hrun hx).trans (if_neg (Nat.not_le.mpr hfew))
  · exact (execRdmaRetryTimeout_of_xfer hep hrun hx).trans (if_pos hmany)

section
variable {c : CmdSrc} {op : Nat} {s t : State} {k : Cmd} {mine : Cmd → Bool} {f : State → Cmd → Reply} {after : State → Cmd → State}

/-- A command whose packet passes every check runs its own rule (R459-R478). -/
theorem runThen_of_admits (h : Admits s c op t k) (hlisted : listedOps.contains op = true) (hmine : mine k = true) :
    runThen c op mine f after s = .next (if (f t k).status < 0x10 then after (t.finish k (f t k)) k else t.finish k (f t k)) := by
  unfold runThen
  simp only [h.brought, h.passes, h.opcode, hlisted, hmine, decide_true, Bool.true_or, Bool.and_self, Bool.not_true, Bool.and_false,
    Bool.false_eq_true, if_false]

/-- One that does not fail is followed by what its row adds. -/
theorem runThen_ok {r : Reply} (h : Admits s c op t k) (hlisted : listedOps.contains op = true) (hmine : mine k = true) (hr : f t k = r)
    (hok : r.status < 0x10) : runThen c op mine f after s = .next (after (t.finish k r) k) := by
  rw [runThen_of_admits h hlisted hmine, hr, if_pos hok]

theorem runThen_fails {r : Reply} (h : Admits s c op t k) (hlisted : listedOps.contains op = true) (hmine : mine k = true) (hr : f t k = r)
    (hbad : 0x10 ≤ r.status) : runThen c op mine f after s = .next (t.finish k r) := by
  rw [runThen_of_admits h hlisted hmine, hr, if_neg (Nat.not_lt.mpr hbad)]

theorem runCmd_of_admits (h : Admits s c op t k) (hlisted : listedOps.contains op = true) (hmine : mine k = true) :
    runCmd c op mine f s = .next (t.finish k (f t k)) := by
  unfold runCmd
  rw [runThen_of_admits h hlisted hmine, ite_self]

/-- So does one that is alone with its opcode. -/
theorem runCmd_anyOf_of_admits (h : Admits s c op t k) (hlisted : listedOps.contains op = true) {r : Reply} (hr : f t k = r) :
    runCmd c op anyOf f s = .next (t.finish k r) := by
  rw [runCmd_of_admits h hlisted rfl, hr]

end

section
variable {t : State} {k : Cmd} {r : Roster}

theorem State.rosterGet_of_old (hold : k.w 0 0 0 = 1) (hprev : t.link.prevRoster = some r) : t.rosterGet k = t.gives (r.bytes r.digest) := by
  unfold State.rosterGet
  simp only [if_pos hold, hprev]

theorem State.rosterGet_of_new (hnew : k.w 0 0 0 = 0) (hcall : t.link.call = none) (hroster : t.link.roster = some r) :
    t.rosterGet k = t.gives (r.bytes r.digest) := by
  unfold State.rosterGet
  simp only [hnew, hcall, hroster, Option.isSome_none, Bool.false_eq_true, if_false, Nat.zero_ne_one]

/-- A neighbour's request is answered over the link (R389). -/
theorem execPeerCmd_of_arrives {s : State} {n : Nat} {p : Pkt} {x : Packet} {q : Cmd} {a : Answer} (h : Arrives s n p 0x14) (haux : p.aux16 = 0)
    (htaking : (taken s n p).taking = true) (hq : q = ⟨65 + n, x.hdr, x.params, x.paramErr⟩) (hchecks : (taken s n p).checks q = none)
    (hanswer : ((taken s n p).finish q ((taken s n p).rosterGet q)).booth.answer = some a) :
    execPeerCmd n p x s = .next (((taken s n p).finish q ((taken s n p).rosterGet q)).peerAnswer p.src a).reportUnreachable := by
  have hgo : ¬ (p.aux16 ≠ 0 ∨ (taken s n p).taking = false) := by simp [haux, htaking]
  subst hq
  unfold execPeerCmd
  rw [onPort_receive h (by decide), if_neg hgo]
  simp only [hchecks, hanswer]

end

/-- Settles O42: each admitted command runs its own rule. -/
theorem readingCommandsGiveTheirData : Obligations.ReadingCommandsGiveTheirData := by
  unfold Obligations.ReadingCommandsGiveTheirData
  refine fun c t k s => ⟨fun h => ?_, fun h => ?_, ?_, fun h => ?_, ?_, fun h => ⟨fun hold r hprev => ?_, fun hnew hcall r hroster => ?_⟩, ?_⟩
  · exact runCmd_anyOf_of_admits h (by decide) rfl
  · exact runCmd_anyOf_of_admits h (by decide) rfl
  · intro h n
    refine ⟨?_, fun hbad => runCmd_anyOf_of_admits h (by decide) (if_pos hbad)⟩
    intro hlow hhigh r
    exact runCmd_anyOf_of_admits h (by decide) (if_neg (by omega))
  · exact runCmd_anyOf_of_admits h (by decide) rfl
  · intro h n hlow hhigh e rest hlog es
    have hhead : t.booth.log.head? = some e := by
      rw [hlog]
      rfl
    refine runCmd_anyOf_of_admits h (by decide) ((if_neg (by omega)).trans ?_)
    simp only [hhead]
    rfl
  · exact runCmd_anyOf_of_admits h (by decide) (State.rosterGet_of_old hold hprev)
  · exact runCmd_anyOf_of_admits h (by decide) (State.rosterGet_of_new hnew hcall hroster)
  · intro n p x haux u q h htaking hchecks a hanswer
    exact execPeerCmd_of_arrives h haux htaking rfl hchecks hanswer

/-- A field of another register keeps its value. -/
theorem State.setFld_fld_ne (s : State) {r q : Reg} (i hi lo : Nat) {x j a b : Nat} (h : q.off j ≠ r.off i) :
    (s.setFld r i hi lo x).fld q j a b = s.fld q j a b := by
  unfold State.fld State.setFld
  rw [State.wr_rd_ne _ _ _ h]

theorem ethEpCfg_ne_ethPort (e : Nat) {n : Nat} (hn : n < 4) : Reg.off .ethEpCfg e ≠ Reg.off .ethPort n := by
  simp only [Reg.off, Reg.desc]
  omega

section
variable {c : CmdSrc} {s t : State} {k : Cmd} {u : Nat} {f : State → Cmd → Reply} {r : Reply}

theorem resets_of_unit (hu : k.w 0 3 0 = u) : resets u k = true := decide_eq_true (Or.inl hu)

theorem knownUnit_of_unit (hu : k.w 0 3 0 = u) (hlow : u ≤ 4) : knownUnit f t k = f t k := if_neg (by omega)

/-- A reset of a unit of the list runs the unit's rule (R475). -/
theorem resetUnit_of_admits (h : Admits s c 0x08 t k) (hu : k.w 0 3 0 = u) (hlow : u ≤ 4) (hr : f t k = r) :
    runCmd c 0x08 (resets u) (knownUnit f) s = .next (t.finish k r) := by
  rw [runCmd_of_admits h (by decide) (resets_of_unit hu), knownUnit_of_unit hu hlow, hr]

theorem needsForce_of_free (hforce : k.w 0 16 16 = 0) (hfree : t.leadCtx = none ∨ t.plat.dev = .quiesced) : needsForce f t k = f t k := by
  have hmay : ¬ (t.leadCtx.isSome = true ∧ t.plat.dev ≠ .quiesced) := by
    rcases hfree with hnone | hquiet
    · simp [hnone]
    · simp [hquiet]
  unfold needsForce
  rw [if_neg (by omega), if_neg hmay]

theorem needsForce_of_lead (hforce : k.w 0 16 16 = 0) (hlead : t.leadCtx.isSome = true) (hdev : t.plat.dev ≠ .quiesced) :
    needsForce f t k = t.fails 0x14 := by
  unfold needsForce
  rw [if_neg (by omega), if_pos ⟨hlead, hdev⟩]

/-- A Stage that can be reset: neither fused off nor retired (R475). -/
theorem stage_kept {n : Nat} (hfused : Config.stageFused n = true) (hretired : ∀ r ∈ t.sched.retired, r.1 ≠ n) :
    ¬ (Config.stageFused n = false ∨ (t.sched.retired.any (fun r => decide (r.1 = n))) = true) := by
  have hnone : t.sched.retired.any (fun r => decide (r.1 = n)) = false := List.any_eq_false.mpr fun r hr => by simp [hretired r hr]
  simp [hfused, hnone]

/-- RESET_UNIT of the device that goes through (R475, R501). -/
theorem execResetUnitDevice_of_free (h : Admits s c 0x08 t k) (hu : k.w 0 3 0 = 0) (hforce : k.w 0 16 16 = 0)
    (hfree : t.leadCtx = none ∨ t.plat.dev = .quiesced) : execResetUnitDevice c s =
      .next (((t.finish k t.ok).warmReset 2).modBooth (fun b => { b with answer := (t.finish k t.ok).booth.answer })) :=
  runThen_ok h (by decide) (resets_of_unit hu) ((knownUnit_of_unit hu (by decide)).trans (needsForce_of_free hforce hfree)) (Nat.zero_lt_succ 15)

theorem execResetUnitDevice_of_lead (h : Admits s c 0x08 t k) (hu : k.w 0 3 0 = 0) (hforce : k.w 0 16 16 = 0) (hlead : t.leadCtx.isSome = true)
    (hdev : t.plat.dev ≠ .quiesced) : execResetUnitDevice c s = .next (t.finish k (t.fails 0x14)) :=
  runThen_fails h (by decide) (resets_of_unit hu) ((knownUnit_of_unit hu (by decide)).trans (needsForce_of_lead hforce hlead hdev)) (Nat.le_add_left 0x10 4)

section
variable (h : Admits s c 0x08 t k) (hu : k.w 0 3 0 = 2) (hn : k.w 0 15 8 < 144) (hfused : Config.stageFused (k.w 0 15 8) = true)
  (hretired : ∀ r ∈ t.sched.retired, r.1 ≠ k.w 0 15 8)
include h hu hn hfused hretired

/-- RESET_UNIT of a Stage on which nothing runs (R475, R492). -/
theorem execResetUnitStage_of_idle (hinst : (t.stage (k.w 0 15 8)).inst = none) : execResetUnitStage c s =
    .next (t.finish k (((t.modStage (k.w 0 15 8) (fun x => { Stage.idle with ap := x.ap, ues := x.ues })).modBooth (fun b =>
      { b with bellF2P := mset Bell.clear b.bellF2P (k.w 0 15 8) Bell.clear, bellP2F := mset Bell.clear b.bellP2F (k.w 0 15 8) Bell.clear })).accept k 25000)) := by
  refine resetUnit_of_admits h hu (by decide) ?_
  simp only [if_neg (Nat.not_le.mpr hn), if_neg (stage_kept hfused hretired), hinst, Option.map_none, Option.getD_none, Bool.false_eq_true, if_false]

theorem execResetUnitStage_of_lead {i : Inst} (hinst : (t.stage (k.w 0 15 8)).inst = some i) (hlead : i.lead = true) :
    execResetUnitStage c s = .next (t.finish k (t.fails 0x13)) := by
  refine resetUnit_of_admits h hu (by decide) ?_
  simp only [if_neg (Nat.not_le.mpr hn), if_neg (stage_kept hfused hretired), hinst, Option.map_some, Option.getD_some, hlead, if_true]

end

end

/-- Settles O44: each admitted RESET_UNIT runs its unit's rule. -/
theorem resetUnitCommands : Obligations.ResetUnitCommands := by
  unfold Obligations.ResetUnitCommands
  intro c t k s h n free
  refine ⟨fun hu => ⟨?_, fun hforce hlead hdev => ?_⟩, fun hu hfree => ?_, fun hu => ⟨?_, fun hn => ?_, fun i hn hfused hretired hinst hlead => ?_⟩,
    fun hu => ⟨fun hport => ?_, fun hport => ?_⟩, fun hu => ⟨?_, fun hbad => ?_⟩⟩
  · intro hfree u
    exact execResetUnitDevice_of_free h hu hfree.1 hfree.2
  · exact execResetUnitDevice_of_lead h hu hforce hlead hdev
  · exact resetUnit_of_admits h hu (by decide) (needsForce_of_free hfree.1 hfree.2)
  · intro hn hfused hretired hinst u
    exact execResetUnitStage_of_idle h hu hn hfused hretired hinst
  · exact resetUnit_of_admits h hu (by decide) (if_pos hn)
  · exact execResetUnitStage_of_lead h hu hn hfused hretired hinst hlead
  · exact resetUnit_of_admits h hu (by decide) (if_neg (by rw [hport]; decide))
  · exact resetUnit_of_admits h hu (by decide) (if_pos (by rw [hport]; rfl))
  · intro heth hn u
    have hport : (!t.hasEth || decide (4 ≤ n)) = false := by
      rw [heth, decide_eq_false (Nat.not_le.mpr hn)]
      rfl
    refine resetUnit_of_admits h hu (by decide) ((if_neg (Bool.eq_false_iff.mp hport)).trans ?_)
    have hcfg : ∀ e, u.fld .ethEpCfg e 2 1 = t.fld .ethEpCfg e 2 1 := fun e => State.setFld_fld_ne _ _ _ _ (ethEpCfg_ne_ethPort e hn)
    simp only [hcfg]
    rfl
  · refine resetUnit_of_admits h hu (by decide) (if_pos ?_)
    rcases hbad with hnone | hhigh
    · rw [hnone]
      rfl
    · rw [decide_eq_true hhigh, Bool.or_true]

end Sys2Proof.Machine
end

section
/-! PROOFS. Camod commands of jobs (R290-R303, R399, R473-R476). -/

namespace Sys2Proof.Machine

open Sys2Proof.Safety

section
variable {c : CmdSrc} {s t : State} {k : Cmd}

/-- Settles O45: by the checks of each command in turn. -/
theorem jobCommands : Obligations.JobCommands := by
  unfold Obligations.JobCommands
  refine fun c t k s => ⟨?_, fun x hx => ⟨fun h => ?_, fun h hrun => ?_, fun h hquiet hsusp => ?_, fun h sc shape hscore hshape => ?_, fun h score hquiet => ?_⟩⟩
  · intro h hquiet hpages hpages' hprio hprio' hrate hrate' hroom lead segs resident leadSegs num
    have hawake : ¬ t.quiesced = true := Bool.eq_false_iff.mp hquiet
    have hfields : ¬ (k.w 0 31 16 = 0 ∨ 1152 < k.w 0 31 16 ∨ k.w 3 31 16 = 0 ∨ k.w 3 63 48 = 0 ∨ 30720 < k.w 3 14 0 ∨ 30720 < k.w 3 46 32) := by omega
    have hfew : ¬ 16 ≤ t.sched.ctxs.length := Nat.not_le.mpr hroom
    refine ⟨fun hkind hsome hfits hleft => ?_, fun hlead htaken => ?_⟩
    · have hfree : ¬ (lead && t.leadCtx.isSome) = true := by
        rcases hkind with hfill | hnone
        · simp [hfill]
        · simp [hnone]
      refine runCmd_anyOf_of_admits h (by decide) ?_
      exact (if_neg hawake).trans <| (if_neg hfields).trans <| (if_neg hfew).trans <| (if_neg hfree).trans <|
        (if_neg (not_or.mpr ⟨Nat.ne_of_gt hsome, Nat.not_lt.mpr hfits⟩)).trans <| if_neg (Nat.not_lt.mpr hleft)
    · refine runCmd_anyOf_of_admits h (by decide) ?_
      exact (if_neg hawake).trans <| (if_neg hfields).trans <| (if_neg hfew).trans <| if_pos (Bool.and_eq_true_iff.mpr ⟨hlead, htaken⟩)
  · refine ⟨fun hmay => ?_, fun hlead hrun => ?_⟩
    · refine runCmd_anyOf_of_admits h (by decide) ?_
      have hstopped : (x.lead && !x.suspended) = false := by
        rcases hmay with hfill | hsusp
        · rw [hfill]; rfl
        · rw [hsusp]; exact Bool.and_false _
      simp only [hx, hstopped, Bool.false_eq_true, if_false]
    · refine runCmd_anyOf_of_admits h (by decide) ?_
      simp only [hx, hlead, hrun, Bool.not_false, Bool.and_true, if_true]
  · refine ⟨fun hlead => ?_, fun hfill => ?_⟩
    · refine runCmd_anyOf_of_admits h (by decide) ?_
      simp only [hx, hrun, hlead, Bool.false_eq_true, if_false, if_true]
      rfl
    · refine runCmd_anyOf_of_admits h (by decide) ?_
      simp only [hx, hrun, hfill, Bool.false_eq_true, if_false]
  · refine ⟨fun hcause => ?_, fun hcause hlead => ?_, fun hcause hfill => ?_⟩
    · refine runCmd_anyOf_of_admits h (by decide) ?_
      simp only [hx, hquiet, hsusp, hcause, Bool.not_true, Bool.false_eq_true, if_false, if_true]
    · refine runCmd_anyOf_of_admits h (by decide) ?_
      simp only [hx, hquiet, hsusp, hcause, hlead, Bool.not_true, Bool.false_eq_true, if_false, if_true]
    · refine runCmd_anyOf_of_admits h (by decide) ?_
      simp only [hx, hquiet, hsusp, hcause, hfill, Bool.not_true, Bool.false_eq_true, if_false]
  · intro p n sh hlead hp hlen hsheet hstep hstaged
    refine runCmd_anyOf_of_admits h (by decide) ?_
    have hgood : ¬ (!x.lead || decide (shape.pp ≤ p) || decide (k.params.length < 2 + 2 * n) || !sheetOk sc sh) = true := by
      simp [hlead, hsheet, hp, hlen]
    have hfirst : ¬ (t.sched.staged.any (fun y => decide (y.p = p))) = true := by simpa using hstaged
    simp only [hx, hscore, hshape]
    exact (if_neg hgood).trans <| (if_neg hfirst).trans <| if_neg (Bool.eq_false_iff.mp hstep)
  · refine ⟨fun hnone hshape => ?_, fun hsome => ?_⟩
    · refine runCmd_anyOf_of_admits h (by decide) ?_
      have hfits : ¬ (x.lead && (shapeOf (k.word 6) (k.word 7)).isNone) = true := by
        rcases hshape with hfill | hsome
        · simp [hfill]
        · simp [Option.isNone_eq_false_iff.mpr hsome]
      simp only [hx, hquiet, hnone]
      exact if_neg hfits
    · refine runCmd_anyOf_of_admits h (by decide) ?_
      simp only [hx, hquiet, hsome, Bool.false_or, if_true]

end
end Sys2Proof.Machine
end

section
/-! PROOFS. Camod commands of Rosters and data, of tests and firmware (R260-R263, R362, R371-R373, R438-R447, R471-R481, R508-R513). -/

namespace Sys2Proof.Machine

open Sys2Proof.Safety

section
variable {c : CmdSrc} {s t : State} {k : Cmd}

section
variable {x : Ctx} {r : Roster} {digest : W64} {n : Nat} (h : Admits s c 0x20 t k) (hx : t.ctx? k.ctx = some x)
  (himage : rosterFrom (wordsLe k.params) = some (r, digest, n))

/-- The bytes of the image a ROSTER_SET brings, without its digest (R263). -/
def Cmd.rosterCrc (k : Cmd) (n : Nat) : W64 :=
  crc64 (((wordsLe k.params).take n).take 40 ++ leBytes 8 0 ++ ((wordsLe k.params).take n).drop 48)

include h hx himage

theorem execRosterSet_of_badDigest (hcrc : k.rosterCrc n ≠ digest) : execRosterSet c s = .next (t.finish k (t.fails 0x20)) := by
  refine runThen_fails h (by decide) rfl ?_ (Nat.le_add_left 16 16)
  simp only [hx, himage]
  exact if_pos hcrc

section
variable (hcrc : k.rosterCrc n = digest)
include hcrc

theorem execRosterSet_of_misfit (hlead : x.lead = true) (hfirst : t.rosterVersion = 0) (hmis : ∃ h, x.shape = some h ∧ rosterFits h r = false) :
    execRosterSet c s = .next (t.finish k (t.fails 0x11)) := by
  obtain ⟨shape, hshape, hfits⟩ := hmis
  refine runThen_fails h (by decide) rfl ?_ (Nat.le_add_left 16 1)
  simp only [hx, himage, hlead, hfirst, hshape, Option.map_some, Option.getD_some, hfits, Bool.not_false, Bool.or_true, if_true]
  exact if_neg (not_not.mpr hcrc)

/-- A lead's first Roster calls its devices (R373). -/
theorem execRosterSet_of_lead {e : DevEntry} {u : State} (hlead : x.lead = true) (hfirst : t.rosterVersion = 0)
    (hok : rosterOk r digest ((wordsLe k.params).take n) = true) (hfits : ∀ h, x.shape = some h → rosterFits h r = true)
    (he : r.devs.find? (fun e => decide (e.ident = t.rd .idnDevid)) = some e) (hu : u = t.finish k ((t.setRoster r e.number).accept k 30000000))
    (hstill : (u.ctx? k.ctx).map (fun (x : Ctx) => x.lead) = some true) : execRosterSet c s = .next u.firstCall := by
  have hshape : (x.shape.map (fun h => rosterFits h r)).getD true = true := by
    rcases hs : x.shape with _ | shape
    · rfl
    · exact hfits shape hs
  subst hu
  refine (runThen_ok (r := (t.setRoster r e.number).accept k 30000000) h (by decide) rfl ?_ (Nat.le_add_left 2 14)).trans ?_
  · simp only [hx, himage, hlead, hfirst, hok, hshape, he, Bool.not_true, Bool.or_self, Bool.false_eq_true, if_true, if_false]
    exact if_neg (not_not.mpr hcrc)
  · rw [hstill]
    rfl

/-- A fill context's Ensembles are recorded (R372). -/
theorem execRosterSet_of_fill {u : State} (hfill : x.lead = false)
    (hroom : (t.link.roster.map (fun (q : Roster) => q.ensOf t.hosted)).getD 0 + (t.link.fillEns.filter (fun y => decide (y.1 ≠ k.ctx))).length
      + r.ens.length ≤ 64) (hens : ∀ y ∈ r.ens, 2 ≤ y.members ∧ y.members ≤ 4096) (hu : u = t.finish k (t.setFillEns k.ctx r.ens).ok)
    (hstill : (u.ctx? k.ctx).map (fun (x : Ctx) => x.lead) = some false) : execRosterSet c s = .next u := by
  have hall : r.ens.all (fun e => decide (2 ≤ e.members ∧ e.members ≤ 4096)) = true := List.all_eq_true.mpr fun y hy => decide_eq_true (hens y hy)
  subst hu
  refine (runThen_ok (r := (t.setFillEns k.ctx r.ens).ok) h (by decide) rfl ?_ (Nat.zero_lt_succ 15)).trans ?_
  · simp only [hx, himage, hfill, hall, Bool.not_true, Bool.or_false, Bool.false_eq_true, if_false, decide_eq_true_eq, Nat.not_lt.mpr hroom]
    exact if_neg (not_not.mpr hcrc)
  · rw [hstill]
    rfl

end
end

/-- Settles O46: by the checks of each command in turn. -/
theorem rosterAndDataCommands : Obligations.RosterAndDataCommands := by
  unfold Obligations.RosterAndDataCommands
  refine fun c t k s => ⟨fun h x r digest n hx himage => ?_, fun h x hx hlead hscore hfirst htested hwant hadm => ?_, fun h r hr hother hrel hadm => ?_,
    fun h x hx hep hquiet htarget hidle hfree => ?_, fun h x y hx hfill hy => ?_, fun h hsave => ?_, fun h x shape hep hx hshape hquiet hidle hnone hroster => ?_⟩
  · intro bs crc
    refine ⟨execRosterSet_of_badDigest h hx himage, fun hcrc hlead hfirst hok hfits e he => ?_, execRosterSet_of_misfit h hx himage,
      fun hcrc hfill hroom hens => ?_⟩
    · intro u hu
      exact execRosterSet_of_lead h hx himage hcrc hlead hfirst hok hfits he rfl hu
    · intro u hu
      exact execRosterSet_of_fill h hx himage hcrc hfill hroom hens rfl hu
  · refine runCmd_anyOf_of_admits h (by decide) ?_
    have hscored : x.score.isNone = false := Option.isNone_eq_false_iff.mpr hscore
    simp only [hx, hlead, hscored, hfirst, htested, hadm, decide_eq_false (Nat.not_lt.mpr hwant), Option.isSome_none, Bool.not_true, Bool.or_self,
      Bool.false_eq_true, if_false]
  · refine runCmd_anyOf_of_admits h (by decide) ?_
    have hsome : ¬ (r.devs.filter (fun e => decide (e.number ≠ t.link.me))).isEmpty = true := by simpa using hother
    simp only [hr, hrel, hadm, Option.isSome_none, Bool.or_self, Bool.false_eq_true, if_false]
    exact if_neg hsome
  · refine runCmd_anyOf_of_admits h (by decide) ?_
    have hgood : (if k.w 0 0 0 = 1 then t.epBad (k.w 0 15 8) else none) = none := by
      rcases hep with hhost | hep
      · rw [hhost]; rfl
      · rw [hep, ite_self]
    have hrun : (x.lead && t.sched.begun) = false := Bool.and_eq_false_iff.mpr hidle
    have hset : (k.fill && setInUse x (k.w 0 17 16)) = false := Bool.and_eq_false_iff.mpr hfree
    simp only [hx, hgood, hquiet, htarget, hrun, hset, Bool.not_true, Bool.or_self, Bool.false_eq_true, if_false]
  · refine ⟨fun hbad => ?_, fun hgood hloaded hold => ?_⟩
    · refine runCmd_anyOf_of_admits h (by decide) ?_
      have hbad' : y.bad.isEmpty = false := List.isEmpty_eq_false_iff.mpr hbad
      simp only [hx, hy, hfill, hbad', Bool.not_false, Bool.false_eq_true, if_false, if_true]
    · refine runCmd_anyOf_of_admits h (by decide) ?_
      simp only [hx, hy, hfill, hgood, hloaded, hold, List.isEmpty_nil, Bool.not_true, Bool.false_eq_true, if_false]
  · refine ⟨fun hfull htrain => ?_, fun honly => ?_⟩
    · refine (runCmd_of_admits h (by decide) (decide_eq_true hfull)).trans ?_
      simp only [hsave, htrain]
      rfl
    · refine (runCmd_of_admits h (by decide) (decide_eq_true honly)).trans ?_
      simp only [hsave]
  · refine runCmd_anyOf_of_admits h (by decide) ?_
    have hrun : (t.sched.begun && !x.suspended) = false := by
      rcases hidle with hbegun | hsusp
      · rw [hbegun]; rfl
      · rw [hsusp]; exact Bool.and_false _
    have hros : t.link.roster.isNone = false := Option.isNone_eq_false_iff.mpr hroster
    simp only [hep, hx, hshape, hquiet, hrun, hnone, hros, Option.isSome_none, Bool.or_self, Bool.false_eq_true, if_false]

/-- Two areas of the flash with the staged image put into the one not in force (R510). -/
theorem Flash.activate_of_staged {f : Flash} {i : Image} (h : f.staging = some i) :
    f.activate = { (if f.selB then { f with imgA := some i } else { f with imgB := some i }) with selB := !f.selB, staging := none } := by
  unfold Flash.activate Flash.put
  rw [h]
  cases f.selB <;> rfl

theorem State.modPlat_activate {i : Image} (h : t.plat.flash.staging = some i) :
    t.modPlat (fun p => { p with flash := p.flash.activate }) = t.modPlat (fun p => { p with flash :=
      { (if p.flash.selB then { p.flash with imgA := some i } else { p.flash with imgB := some i }) with selB := !p.flash.selB, staging := none } }) :=
  congrArg (fun f => t.modPlat (fun p => { p with flash := f })) (Flash.activate_of_staged h)

/-- Settles O47: by the scope each test names, and by what the flash holds. -/
theorem testAndFirmwareCommands : Obligations.TestAndFirmwareCommands := by
  unfold Obligations.TestAndFirmwareCommands
  intro c t k s n
  refine ⟨fun h hstage => ⟨fun hgood hfree => ?_, fun hgood hbusy => ?_, fun st hbad => ?_⟩, fun h hstage => ⟨fun hgood hfree => ?_, fun st hbad => ?_⟩, fun h => ?_,
    fun h => ?_, fun h => ⟨fun hnew => ⟨fun hmay i hi => ?_, fun hmay hnone => ?_, fun hmay => ?_⟩, fun hback hmay i hi => ?_⟩, fun f e hf => ?_⟩
  · refine runCmd_anyOf_of_admits h (by decide) ?_
    simp only [hstage, show t.stageBad (k.w 0 15 8) = none from hgood, hfree, Bool.false_eq_true, if_false]
    rfl
  · refine runCmd_anyOf_of_admits h (by decide) ?_
    simp only [hstage, show t.stageBad (k.w 0 15 8) = none from hgood, hbusy, if_true]
  · refine runCmd_anyOf_of_admits h (by decide) ?_
    simp only [hstage, show t.stageBad (k.w 0 15 8) = some st from hbad]
  · refine runCmd_anyOf_of_admits h (by decide) ?_
    simp only [hstage, show t.stageBad (k.w 0 15 8) = none from hgood, hfree, Bool.false_eq_true, if_false]
    rfl
  · refine runCmd_anyOf_of_admits h (by decide) ?_
    simp only [hstage, show t.stageBad (k.w 0 15 8) = some st from hbad]
  · intro p ls hport hsome
    refine runCmd_anyOf_of_admits h (by decide) ?_
    have hport' : ¬ (!t.hasPort p) = true := by simp [hport]
    have hsome' : ¬ ls.isEmpty = true := by simpa using hsome
    exact (if_neg hport').trans (if_neg hsome')
  · intro len
    refine ⟨fun hpos hmax => ?_, fun hbad => runCmd_anyOf_of_admits h (by decide) (if_pos hbad)⟩
    exact runCmd_anyOf_of_admits h (by decide) (if_neg (not_or.mpr ⟨Nat.ne_of_gt hpos, Nat.not_lt.mpr hmax⟩))
  · refine (runCmd_of_admits h (by decide) (decide_eq_true hnew)).trans ?_
    simp only [hmay, hi, Option.isNone_some, Bool.not_true, Bool.false_eq_true, if_false]
    rw [State.modPlat_activate hi]
  · refine (runCmd_of_admits h (by decide) (decide_eq_true hnew)).trans ?_
    simp only [hmay, hnone, Option.isNone_none, Bool.not_true, Bool.false_eq_true, if_false, if_true]
  · refine (runCmd_of_admits h (by decide) (decide_eq_true hnew)).trans ?_
    simp only [hmay, Bool.not_false, if_true]
  · refine (runCmd_of_admits h (by decide) (decide_eq_true hback)).trans ?_
    simp only [hmay, hi, Bool.not_true, Bool.false_eq_true, if_false, ← Nat.not_lt, ite_not]
  · show execCommandDeferredComplete f.seq f.src e s = _
    unfold execCommandDeferredComplete
    rw [hf]

end
end Sys2Proof.Machine
end

section
/-! PROOFS. Flits, lanes, widths, optics and retraining (R341-R343, R348, R351, R357-R364). -/

namespace Sys2Proof.Machine

open Sys2Proof.Safety

/-- The alarms of a module retire lanes and its warnings mark them (R357, R361). -/
def State.opticsJudged (s : State) (n : Nat) (warn alarm : BitVec 8) : State :=
  (List.range 8).foldl (fun s l => if alarm.getLsbD l then s.retireLane n l else if warn.getLsbD l then s.pendLane n l else s) s

theorem State.opticsJudged_of_quiet (s : State) (n : Nat) : s.opticsJudged n 0 0 = s := by
  unfold State.opticsJudged
  simp

section
variable {s : State} {n : Nat} (hn : n < 24)
include hn

section
variable {bytes : List Byte} {bad first : Bool} (hup : s.portUp n = true)
include hup

/-- A flit is good where no codeword it overlaps is beyond correction and its CRC is right (R341). -/
def GoodFlit (bytes : List Byte) (bad : Bool) : Prop := bad = false ∧ bytes.length = 256 ∧ ofLe (bytes.drop 252) = (crc32 (bytes.take 252)).toNat

/-- What an accepted flit does: its acknowledgment is applied, and one that carries packets or records moves the expected number on (R342). -/
def State.flitAccepted (v : State) (n ack ftype : Nat) : State :=
  v.modPort n (fun p => if ftype = 2 then p.acked ack else { p.acked ack with rxSeq := ((p.acked ack).rxSeq + 1) % 2048, naked := false })

theorem execFlit_of_bad (hbad : ¬ GoodFlit bytes bad) :
    execFlit n ⟨bytes, bad, first⟩ s = .next ((s.bump .lnkFecUncorr n (if first then 1 else 0)).discardFlit n).reportUnreachable := by
  unfold execFlit
  have hbad' : bad = true ∨ bytes.length ≠ 256 ∨ ofLe (bytes.drop 252) ≠ (crc32 (bytes.take 252)).toNat := by
    unfold GoodFlit at hbad
    rwa [not_and_or, not_and_or, Bool.not_eq_false] at hbad
  rw [onPort_of_lt hn]
  simp only [hup, Bool.not_true, Bool.false_eq_true, if_false, if_pos hbad']

theorem execFlit_of_good (hgood : GoodFlit bytes bad) :
    execFlit n ⟨bytes, bad, first⟩ s = .next (if ofLe (bytes.take 4) / 2 ^ 30 = 3 ∨
        (ofLe (bytes.take 4) / 2 ^ 30 ≠ 2 ∧ ofLe (bytes.take 4) / 2 ^ 16 % 2048 ≠ (s.port n).rxSeq)
      then (s.bump .lnkFecUncorr n (if first then 1 else 0)).discardFlit n
      else ((((s.bump .lnkFecUncorr n (if first then 1 else 0)).flitAccepted n (ofLe (bytes.take 4) / 32 % 2048)
        (ofLe (bytes.take 4) / 2 ^ 30)).switchWidth n).pump n)).reportUnreachable := by
  obtain ⟨hfec, hlen, hcrc⟩ := hgood
  have hgood' : ¬ (bad = true ∨ bytes.length ≠ 256 ∨ ofLe (bytes.drop 252) ≠ (crc32 (bytes.take 252)).toNat) := by
    rw [hfec, hlen, hcrc]
    simp
  unfold execFlit
  rw [onPort_of_lt hn]
  simp only [hup, Bool.not_true, Bool.false_eq_true, if_false, if_neg hgood', ite_or]
  rfl

end

/-- A lane below 8 that passed or failed its test goes from the list, its training record kept (R338, R362). -/
def State.testEnded (s : State) (n lane : Nat) (x : Nat × Nat) (ident : W64) (peer : Nat) : State :=
  (s.modLink (fun k => { k with retrain := k.retrain.erase x })).modPort n (fun p =>
    { p with recs := p.recs.filter (fun r => decide (r.1 ≠ lane)) ++ [(lane, ident, peer)] })

theorem execRetrainTestEnd_of_first {lane : Nat} {x : Nat × Nat} {ident : W64} {peer : Nat} (pass : Bool) (hlane : lane < 8)
    (hx : s.link.retrain.find? (fun x => decide (x.1 / 8 = n)) = some x) (hmine : x.1 = 8 * n + lane) :
    execRetrainTestEnd n lane ⟨pass, ident, peer⟩ s = .next ((if !pass then (s.testEnded n lane x ident peer).markRetired n lane
      else if (s.testEnded n lane x ident peer).leadCtx.isNone then (s.testEnded n lane x ident peer).lanesPass [x]
      else (s.testEnded n lane x ident peer).modLink (fun k => { k with passedLanes := k.passedLanes ++ [x] })).startRetrain n [] true).reportUnreachable := by
  unfold execRetrainTestEnd
  rw [if_pos hlane, onPort_of_lt hn]
  simp only [hx, hmine, ne_eq, not_true_eq_false, if_false]
  rfl

/-- What a module answers is kept (R363). -/
def State.opticsRead (s : State) (n : Nat) (temp warn alarm : BitVec 8) : State :=
  ((((s.setFld .lnkOptics n 7 0 temp.toNat).setFld .lnkOptics n 15 8 warn.toNat).setFld .lnkOptics n 23 16 alarm.toNat).setFld
    .lnkOptics n 25 25 0).modPort n (fun p => { p with readErr := 0 })

section
variable (temp warn alarm : BitVec 8)

theorem execOpticsPoll_of_present (hpresent : s.fld .lnkOptics n 24 24 = 1) :
    execOpticsPoll n true temp warn alarm s = .next ((s.opticsRead n temp warn alarm).opticsJudged n warn alarm).reportUnreachable := by
  unfold execOpticsPoll
  rw [onPort_of_lt hn]
  simp only [hpresent, if_true]
  rfl

/-- A module that answers for the first time shows that it is present (log entry 21). -/
theorem execOpticsPoll_of_new (hgone : s.fld .lnkOptics n 24 24 = 0) : execOpticsPoll n true temp warn alarm s = .next
    (((((s.setFld .lnkOptics n 24 24 1).setFld .lnkPort n 31 31 1).modPort n (fun p => { p with txOff := BitVec.ofNat 8 (s.fld .lnkPort n 22 15) })).opticsRead
      n temp warn alarm).opticsJudged n warn alarm).reportUnreachable := by
  unfold execOpticsPoll
  rw [onPort_of_lt hn]
  simp only [hgone, if_true]
  rfl

theorem execOpticsPoll_of_silent {u : State} (hpresent : s.fld .lnkOptics n 24 24 = 1)
    (hu : u = (s.setFld .lnkOptics n 25 25 1).modPort n (fun p => { p with readErr := p.readErr + 1 })) :
    execOpticsPoll n false temp warn alarm s = .next (if 10 ≤ (u.port n).readErr then u.portDown n else u).reportUnreachable := by
  subst hu
  unfold execOpticsPoll
  rw [onPort_of_lt hn]
  simp only [hpresent, Bool.false_eq_true, if_false]
  rfl

end

theorem execModuleRemoved_of_present (hpresent : s.fld .lnkOptics n 24 24 = 1) : execModuleRemoved n s =
    .next ((((s.setFld .lnkOptics n 24 24 0).setFld .lnkPort n 31 31 0).modPort n (fun p => { p with txOff := 0 })).portDown n).reportUnreachable := by
  unfold execModuleRemoved
  rw [onPort_of_lt hn]
  simp only [hpresent]
  rfl

section
variable {m : BitVec 8} {seq : Nat} (hup : s.portUp n = true)
include hup

theorem execWidth_of_agreed (hown : (s.port n).width = some m) :
    execWidth n true m seq s = .next ((s.modPort n (fun p => { p with switchAt := some seq })).switchWidth n).reportUnreachable := by
  unfold execWidth
  rw [onPort_of_lt hn]
  simp only [hup, hown, Bool.not_true, Bool.false_eq_true, if_false, if_true]

/-- A proposed width is judged with the lanes the partner has retired retired here too (R357-R359). -/
theorem execWidth_of_proposed {u : State} (hlanes : popLanes m = 8 ∨ popLanes m = 6 ∨ popLanes m = 4)
    (hu : u = (s.partnerRetired n m).foldl (fun s l => s.markRetired n l) s) :
    execWidth n false m seq s = .next (if (List.range 8).all (fun l => !m.getLsbD l || (u.goodLanes n).contains l)
      then ((u.sendCtl n (recWidth true m (((u.port n).txSeq + (u.port n).ctlq.length / 15 + 1) % 2048))).applyWidth n m).reWidth n
      else u.reWidth n).reportUnreachable := by
  subst hu
  have hwide : ¬ (popLanes m ≠ 8 ∧ popLanes m ≠ 6 ∧ popLanes m ≠ 4) := by omega
  unfold execWidth
  rw [onPort_of_lt hn]
  simp only [hup, Bool.not_true, Bool.false_eq_true, if_false, if_neg hwide]

end

end

/-- A heartbeat interval that leaves every partner heard reports nobody (R364). -/
theorem execHeartbeatInterval_of_heard {s u : State} (hu : u = (List.range 24).foldl State.beatInterval s)
    (hheard : ∀ k, k < 24 → u.partnerDev k ≠ none → (u.port k).missed < 8) : execHeartbeatInterval s = .next u := by
  subst hu
  refine congrArg Host.Outcome.next (List.foldl_fixed' (fun d => if_neg ?_) _)
  rw [Bool.and_eq_true, List.any_eq_true]
  rintro ⟨-, k, hk, hmissed⟩
  obtain ⟨hk, hdev⟩ := List.mem_filter.mp hk
  rw [decide_eq_true_eq] at hdev hmissed
  have hfew := hheard k (List.mem_range.mp hk) (by rw [hdev]; exact Option.some_ne_none d)
  omega

/-- The record of a HEARTBEAT a device sends (R364). -/
def State.heartbeatRec (s : State) : Ctl := recHeartbeat (devCode s.plat.dev) s.link.me s.rosterVersion s.sched.step

/-- Sending a record leaves what a HEARTBEAT says. -/
theorem State.sendCtl_heartbeatRec (s : State) (n : Nat) (r : Ctl) : (s.sendCtl n r).heartbeatRec = s.heartbeatRec := by
  unfold State.sendCtl
  split <;> rfl

theorem foldl_sendCtl_heartbeatRec (ns : List Nat) {s : State} {r : Ctl} (hr : r = s.heartbeatRec) :
    ns.foldl (fun s n => s.sendCtl n r) s = ns.foldl (fun s n => s.sendCtl n s.heartbeatRec) s := by
  induction ns generalizing s with
  | nil => rfl
  | cons n ns ih =>
    subst hr
    exact ih (s.sendCtl_heartbeatRec n _).symm

/-- Settles O32: by what each flit, record, lane and module brings to a port. -/
theorem flitsLanesAndPorts : Obligations.FlitsLanesAndPorts := by
  unfold Obligations.FlitsLanesAndPorts
  refine ⟨fun n s hn => ⟨fun hup => ⟨fun counts => ?_, fun seq => ?_, fun k rest hkept => ?_, fun st dev ver step => ?_, fun bytes bad first => ?_⟩,
      congrArg Host.Outcome.next (foldl_sendCtl_heartbeatRec _ rfl), fun hheard => execHeartbeatInterval_of_heard rfl hheard⟩,
    fun n s hn => ⟨fun lane hlane => (if_pos hlane).trans (onPort_of_lt hn _), fun syms => ?_, onPort_of_lt hn _, fun hup => ⟨fun m seq hown => execWidth_of_agreed hn hup hown,
      fun m seq hlanes => ?_⟩, fun hpresent => ⟨fun temp warn alarm => ?_, fun temp warn alarm => ?_, execModuleRemoved_of_present hn hpresent⟩,
      fun hgone temp => ?_, fun hauto => if_pos hauto, fun lane x ident peer hlane hx hmine => ?_, fun r hr => ?_⟩⟩
  · refine (onPort_of_lt hn _).trans ?_
    rw [if_pos hup]
  · refine (onPort_of_lt hn _).trans ?_
    rw [if_pos hup]
  · show execLinkResendTimeout n s = _
    unfold execLinkResendTimeout
    rw [onPort_of_lt hn]
    simp only [hkept, hup, if_true]
  · refine (onPort_of_lt hn _).trans ?_
    rw [if_pos hup]
  · intro good h ack v
    refine ⟨fun hbad => execFlit_of_bad hn hup hbad, fun hgood htype => ?_, fun hgood htype hseq => ?_, fun hgood htype => ?_, fun hgood htype hseq => ?_⟩
    · exact (execFlit_of_good hn hup hgood).trans (by rw [if_pos (Or.inl htype)])
    · exact (execFlit_of_good hn hup hgood).trans (by rw [if_pos (Or.inr ⟨Nat.ne_of_lt htype, hseq⟩)])
    · refine (execFlit_of_good hn hup hgood).trans ?_
      have htype' : ofLe (bytes.take 4) / 2 ^ 30 = 2 := htype
      rw [htype', if_neg (not_or.mpr ⟨Nat.succ_ne_self 2 ∘ Eq.symm, fun hother => hother.1 rfl⟩)]
      rfl
    · refine (execFlit_of_good hn hup hgood).trans ?_
      have hplain : ¬ ofLe (bytes.take 4) / 2 ^ 30 = 2 := Nat.ne_of_lt htype
      rw [if_neg (not_or.mpr ⟨Nat.ne_of_lt (Nat.lt_succ_of_lt htype), fun hother => hother.2 hseq⟩)]
      unfold State.flitAccepted
      simp only [if_neg hplain]
      rfl
  · show execLaneWindowEnd n syms s = _
    unfold execLaneWindowEnd
    rw [onPort_of_lt hn]
  · intro u
    refine ⟨fun hgood => (execWidth_of_proposed hn hup hlanes rfl).trans ?_, fun hbad => (execWidth_of_proposed hn hup hlanes rfl).trans ?_⟩
    · rw [if_pos]
      simpa [Bool.eq_false_or_eq_true, or_iff_not_imp_left] using hgood
    · rw [if_neg]
      simpa using hbad
  · exact execOpticsPoll_of_present hn temp warn alarm hpresent
  · exact execOpticsPoll_of_silent hn temp warn alarm hpresent rfl
  · refine (execOpticsPoll_of_new hn temp 0 0 hgone).trans ?_
    rw [State.opticsJudged_of_quiet]
    rfl
  · intro u
    have hend := fun pass => execRetrainTestEnd_of_first (ident := ident) (peer := peer) hn pass hlane hx hmine
    refine ⟨hend false, fun hidle => (hend true).trans ?_, fun hlead => (hend true).trans ?_⟩
    · have hidle' : (s.testEnded n lane x ident peer).leadCtx.isNone = true := Option.isNone_iff_eq_none.mpr hidle
      rw [hidle']
      rfl
    · have hlead' : (s.testEnded n lane x ident peer).leadCtx.isNone = false := Option.isNone_eq_false_iff.mpr (Option.isSome_iff_ne_none.mpr hlead)
      rw [hlead']
      rfl
  · show execRouteTableReady s = _
    unfold execRouteTableReady
    rw [hr]
    rfl

end Sys2Proof.Machine
end

section
/-! PROOFS. Every well-formed command answers a next state: one rule per shared operation, then the commands by the operation they are. -/

namespace Sys2Proof.Machine

open Sys2Proof.Safety

/-- An outcome that is a next state. -/
def Completes (o : Host.Outcome State Fault Refusal) : Prop := ∃ t, o = .next t

section
variable {o r : Host.Outcome State Fault Refusal}

theorem completes_next (t : State) : Completes (.next t) := ⟨t, rfl⟩

theorem completes_ite {c : Prop} [Decidable c] (ho : Completes o) (hr : Completes r) : Completes (if c then o else r) := by
  split
  · exact ho
  · exact hr

/-- A unit the device has is no fault (R4). -/
theorem completes_unit {n m : Nat} (hn : n < m) (h : Completes o) : Completes (if n < m then o else r) := by
  rwa [if_pos hn]

/-- A shard is asked for by a Stage, or, as unit 144, by the device (R419). -/
theorem completes_upTo {n m : Nat} {q : Host.Outcome State Fault Refusal} (hn : n ≤ m) (hq : Completes q) (h : Completes o) :
    Completes (if n = m then q else if n < m then o else r) := by
  split
  case isTrue => exact hq
  case isFalse hne => exact completes_unit (Nat.lt_of_le_of_ne hn hne) h

theorem completes_below {n m : Nat} (hn : n < m) (h : Completes o) : Completes (if m ≤ n then r else o) := by
  rwa [if_neg (Nat.not_le.mpr hn)]

theorem completes_unless {c : Prop} [Decidable c] {t : State} (h : Completes o) : Completes (if c then .next t else o) :=
  completes_ite (completes_next t) h

/-- An issue of a Prompter the device has completes, however it comes out (R99-R103). -/
theorem issue_completes {p : Iss} {cls op : Nat} {bad : Bool} {uses : List (BitVec 5)} {body : State → Stage → Inst → Did} {s : State}
    (hp : p.ok = true) : Completes (issue p cls op bad uses body s) := by
  refine completes_unit (of_decide_eq_true hp) ?_
  unfold Completes
  dsimp only
  repeat' split
  all_goals exact ⟨_, rfl⟩

section
variable {p : Iss} {op len : Nat} {rd ra rb : BitVec 5} {pd : BitVec 3} {off : W32} {c : Cmp} {s : State} (hp : p.ok = true)
include hp

theorem issueRd_completes {cls : Nat} {uses : List (BitVec 5)} {f : Prm → W64} : Completes (issueRd p cls op uses rd f s) := issue_completes hp

theorem issuePd_completes {cls : Nat} {uses : List (BitVec 5)} {f : Prm → Bool} : Completes (issuePd p cls op uses pd f s) := issue_completes hp

theorem rrr_completes {f : W64 → W64 → W64} : Completes (rrr p op rd ra rb f s) := issueRd_completes hp

theorem rri_completes {f : W64 → W64 → W64} : Completes (rri p op rd ra off f s) := issueRd_completes hp

theorem prr_completes : Completes (prr p op pd ra rb c s) := issuePd_completes hp

theorem pri_completes : Completes (pri p op pd ra off c s) := issuePd_completes hp

theorem load_completes {ext : Nat → W64} : Completes (load p op len rd ra off ext s) := issue_completes hp

theorem store_completes : Completes (store p op len rd ra off s) := issue_completes hp

theorem issueFeed_completes {bad : Bool} {uses : List (BitVec 5)} {mk : Prm → FeedOp} : Completes (issueFeed p op bad uses mk s) := issue_completes hp

theorem issueSvc_completes {uses : List (BitVec 5)} {mk : Prm → SvcOp} : Completes (issueSvc p op uses mk s) := issue_completes hp

end

theorem issueSh_completes {p : Iss} {op : Nat} {f : ShFields} {s : State} (hp : p.ok = true) : Completes (issueSh p op f s) := by
  unfold issueSh
  split
  · exact ⟨_, rfl⟩
  · exact issue_completes hp

/-- The Snare runs after an issue that completed. -/
theorem thenSnare_completes {n : Nat} (h : Completes o) : Completes (thenSnare n o) := by
  obtain ⟨t, rfl⟩ := h
  exact ⟨_, rfl⟩

theorem issueV_completes {p : Iss} {cls op : Nat} {bad : Bool} {uses : List (BitVec 5)} {mk : Prm → VInst} {s : State} (hp : p.ok = true) :
    Completes (thenSnare p.stage (issueV p cls op bad uses mk s)) := thenSnare_completes (issue_completes hp)

theorem onPort_completes {n : Nat} {s : State} {f : State → State} (hn : n < 24) : Completes (onPort n s f) := ⟨_, if_pos hn⟩

theorem pbkPacket_completes {n : Nat} {p : Pkt} {kind : Nat} {s : State} {f : State → State} (hn : n < 24) : Completes (pbkPacket n p kind s f) :=
  onPort_completes hn

/-- A Camod command answers with the state its packet leaves, whatever its checks say (R459-R478). -/
theorem runThen_completes {c : CmdSrc} {op : Nat} {mine : Cmd → Bool} {f : State → Cmd → Reply} {after : State → Cmd → State} {s : State} :
    Completes (runThen c op mine f after s) := by
  unfold runThen Completes
  repeat' split
  all_goals exact ⟨_, rfl⟩

theorem runCmd_completes {c : CmdSrc} {op : Nat} {mine : Cmd → Bool} {f : State → Cmd → Reply} {s : State} : Completes (runCmd c op mine f s) :=
  runThen_completes

theorem jtag_completes {s : State} {code : Nat} {driven high : Bool} {out : List Bool} : Completes (s.jtag code driven high out) :=
  completes_unless ⟨_, rfl⟩

end

theorem port_of_wf {n : Nat} {b : Bool} (h : (decide (n < 24) && b) = true) : n < 24 := of_decide_eq_true (Bool.and_elim_left h)

section
variable {n : Nat} {s : State}

theorem execDrainStart_completes (hn : n < 144) : Completes (execDrainStart n s) := by
  refine completes_unit hn ?_
  extract_lets t
  split
  · split
    · refine completes_unless (completes_unless ?_)
      split
      · exact completes_next _
      · split
        refine completes_unless ?_
        split
        · exact completes_next _
        · exact completes_unless (completes_next _)
    · exact completes_next _
  · exact completes_next _

theorem execMatrixWaitLimit_completes {service : Bool} (hn : n < 144) : Completes (execMatrixWaitLimit n service s) := by
  refine completes_unit hn ?_
  extract_lets t org
  clear_value org
  cases org <;> exact completes_next _

theorem execDimmerSample_completes {x : PowerSample} : Completes (execDimmerSample x s) := by
  refine completes_unless ?_
  extract_lets u v c
  clear_value c
  cases c <;> exact completes_next _

/-- Each level of the scrubber reads and goes on (R234-R240). -/
theorem execScrubRead_completes {level addr : Nat} : Completes (execScrubRead level addr s) := by
  unfold execScrubRead
  split
  · split
    exact completes_next _
  · refine completes_unless ?_
    split
    exact completes_next _
  · refine completes_unless ?_
    split
    · exact completes_next _
    · exact completes_next _
  · refine completes_unless ?_
    extract_lets g
    split
    exact completes_next _
  · exact completes_next _

end

/-- Settles O56: by the operation each command is. -/
theorem wellFormedCommandsComplete : Obligations.WellFormedCommandsComplete := by
  unfold Obligations.WellFormedCommandsComplete
  intro c s h
  show Completes (exec c s)
  cases c
  all_goals dsimp only [exec]
  case add | sub | mul | mulh | mulhu | divu | remu | div | rem | and | or | xor | shl | shr | sra | min | max | minu | maxu =>
    exact rrr_completes h
  case clz | popc | sel | prd | movi | movhi =>
    exact issueRd_completes h
  case ceq | cne | clt | cle | cltu | cleu =>
    exact prr_completes h
  case pand | por | pxor | pnot =>
    exact issuePd_completes h
  case pwr | rdspec | nop | br | call | jr | loop | endK | trap | semsig | semwait | semset | semrd | fence | curtwait | belw | belt =>
    exact issue_completes h
  case addi | andi | ori | xori | shli | shri | srai =>
    exact rri_completes h
  case ceqi | cnei | clti | clei | cltui | cleui =>
    exact pri_completes h
  case ldb | ldh | ldw | ldd | ldbu | ldhu | ldwu =>
    exact load_completes h
  case stb | sth | stw | std =>
    exact store_completes h
  case wld | azero | mma =>
    exact issueFeed_completes h
  case drain | roll | racc =>
    exact issueSvc_completes h
  case dmov | dgath | dscat | drel =>
    exact issueSh_completes h
  case belr =>
    exact issue_completes (Bool.and_elim_left h)
  case vadd | vsub | vmul | vfma | vfms | vfnma | vmin | vmax | vabs | vneg | vcpy | vceq | vcne | vclt | vcle | vcnan | vsel | vexp | vrcp | vrsq |
      vrsum | vrmax | vramax | vcsum | vcmax | vcamax | vpop | vpopw | vld | vst | vldw | vstw | vbld | vbst | vbrow | vbcol | vrvset | vrvget | vsig |
      vrng | vtopk | vmom | vupd | vtly | vtlyc =>
    exact issueV_completes h
  case vdrop =>
    exact issueV_completes (Bool.and_elim_left h)
  case nak | heartbeat | width | bell | bellTaken | gong | linkResendTimeout | portSilenceTimeout | laneWindowEnd | opticsPoll | moduleRemoved |
      linkBellWrite | linkBellRead =>
    exact onPort_completes (of_decide_eq_true h)
  case flit =>
    exact onPort_completes (port_of_wf (Bool.and_elim_left h))
  case credit | packetForward | rollBlock | chunk | pipe | dispatch | gatherReq | gatherData | fill | grant | e2eAck | peerCmd | callPropose | callAccept
      | callReject | callCommit | callAbort =>
    exact onPort_completes (port_of_wf h)
  case stateReq | stateData | teeTotal | parityDelta | parityRead | replPut | logPut | logGet | scrubDigest | saveDone =>
    exact pbkPacket_completes (port_of_wf h)
  case curtainExchangeUp | curtainExchangeDown | tallyCombineUp | tallyCombineDown | suspect | quorumQuery | quorumAnswer | admitReq =>
    exact completes_unless (onPort_completes (port_of_wf h))
  case identify | getCaps | setConfig | commitStaged | enterQuiesced | leaveQuiesced | resetUnitBooth | resetUnitStage | resetUnitLinkPort |
      resetUnitEthPort | loadScore | contextCreate | contextDestroy | contextSuspend | contextResume | cueSheetSet | rosterGet | admitDev | release |
      shardLoad | weightPointerSwitch | snapshotSave | snapshotSaveRegion | snapshotRestore | selfTest | calibrate | laneRetrain | telemetryRead |
      tallyRead | eventLogRead | powerLimitSet | firmwareStage | firmwareActivate | firmwareRollback =>
    exact runCmd_completes
  case resetUnitDevice | rosterSet =>
    exact runThen_completes
  case bypass | idcode | clamp | highz =>
    exact jtag_completes
  case drainStart =>
    exact execDrainStart_completes (of_decide_eq_true h)
  case matrixWaitLimit =>
    exact execMatrixWaitLimit_completes (of_decide_eq_true h)
  case scrubRead =>
    exact execScrubRead_completes
  case dimmerSample =>
    exact execDimmerSample_completes
  case' endComplete | wldStart | wldComplete | azeroStart | mmaStart | mmaRowEnter | mmaRowWrite | drainBlockReadout | drainBlockEnqueue | raccStart |
      rollGrant | rollReadout | rollIn | stagehandComplete | remoteSemsig | semwaitSatisfy | fenceSatisfy | curtwaitResume | syncWaitLimit |
      snarePopWaitLimit | stageRetire | reduceWrite | reduceRefuseLimit | orderedReadWaitLimit | snareInstructionComplete =>
    refine completes_unit (of_decide_eq_true h) ?_
  case' rdmaRequest | roceSend | doorbell | slotEnable | slotDisable | cqCoalesceTimer | h2fBellWrite | h2fBellTake | f2hBellRead | p2fBellTake |
      endpointEnable | endpointDisable | ethPortRetrain | vrAlert | droopDetect | pllLockLoss | rdmaRetryTimeout | ecnCeArrival | cnpReceive |
      rateRecoveryTimer | rdmaResponse =>
    refine completes_below (of_decide_eq_true h) ?_
  case laneLockLoss =>
    exact completes_unit (of_decide_eq_true (Bool.and_elim_right h)) (onPort_completes (port_of_wf h))
  case retrainTestEnd =>
    have hports := Bool.and_elim_left h
    exact completes_unit (of_decide_eq_true (Bool.and_elim_right hports)) (onPort_completes (port_of_wf hports))
  case' channelRetire =>
    refine completes_unit (of_decide_eq_true h) ?_
  case' shardRetryTimeout | shardDeclareTimeout =>
    refine completes_upTo (of_decide_eq_true h) ?_ ?_
  case' launchStart | leadWantsStage | hardPreempt | swapOut | swapIn | swapComplete | curtainArrive | curtainOpen | curtainSyncEnd | bar2Read | bar2Write
      | cacheAccess | requestAdmit | cacheSetWaitLimit | softRemapInstall | pageRetire | channelCopyDone | e2eTimeout | e2eAckTimer | heartbeatSend |
      heartbeatInterval | autoRetrain | routeTableReady | callSilenceTimeout | quorumTimeout | isolationTimeout | recastStart | phaseOverrun |
      collectiveStart | engineChainStep | collectiveWaitLimit | saveStreamDone | commandDeferredComplete | evqEnable | tlyRingEnable | lastTripClear |
      rcRegisterRead | registerWrite | pwrgoodRise | pwrgoodFall | perstAssert | perstDeassert | bootRomDone | firmwareAuthDone | sramTestDone |
      stageTestDone | stackTrainingDone | linkTrainingDone | ethTimeDone | serviceStartDone | safeExit | thermalTrip | ppsEdge | ptpSync | timeHoldover
      | sensorSample | setEndpointId | setEventReceiver | readId | status | write | check | samplePreload | extest | pcieLinkDown | delayResp =>
    simp only [execLaunchStart, execLeadWantsStage, execHardPreempt, execSwapOut, execSwapIn, execSwapComplete, execCurtainArrive, execCurtainOpen,
      execCurtainSyncEnd, execBar2Read, execBar2Write, execCacheAccess, execRequestAdmit, execCacheSetWaitLimit, execSoftRemapInstall,
      execPageRetire, execChannelCopyDone, execE2eTimeout, execE2eAckTimer, execHeartbeatSend, execHeartbeatInterval, execAutoRetrain,
      execRouteTableReady, execCallSilenceTimeout, execQuorumTimeout, execIsolationTimeout, execRecastStart, execPhaseOverrun,
      execCollectiveStart, execEngineChainStep, execCollectiveWaitLimit, execSaveStreamDone, execCommandDeferredComplete, execEvqEnable,
      execTlyRingEnable, execLastTripClear, execRcRegisterRead, execRegisterWrite, execPwrgoodRise, execPwrgoodFall, execPerstAssert,
      execPerstDeassert, execBootRomDone, execFirmwareAuthDone, execSramTestDone, execStageTestDone, execStackTrainingDone, execLinkTrainingDone,
      execEthTimeDone, execServiceStartDone, execSafeExit, execThermalTrip, execPpsEdge, execPtpSync, execTimeHoldover, execSensorSample,
      execSetEndpointId, execSetEventReceiver, execReadId, execStatus, execWrite, execCheck, execSamplePreload, execExtest, execPcieLinkDown,
      execDelayResp]
  all_goals repeat' ((try apply_rules [completes_next, completes_ite]); (try extract_lets); split)
  all_goals apply_rules [completes_next, completes_ite]

end Sys2Proof.Machine
end

section
/-! PROOFS. The host's registers: which one answers at an offset; reads and writes by access code (R5-R10, R505). -/

namespace Sys2Proof.Machine

open Sys2Proof.Safety

/-- Some copy of a register lies at an offset. -/
def Reg.covers (r : Reg) (off : Nat) : Bool :=
  decide (r.desc.base ≤ off ∧ (off - r.desc.base) % r.desc.stride = 0 ∧ (off - r.desc.base) / r.desc.stride < r.desc.count)

/-- The copies of two registers lie in ranges that do not meet, or on two residues of one stride. -/
def Reg.apart (r q : Reg) : Bool :=
  decide (r.desc.base + r.desc.count * r.desc.stride ≤ q.desc.base) || decide (q.desc.base + q.desc.count * q.desc.stride ≤ r.desc.base)
    || decide (r.desc.stride = q.desc.stride ∧ r.desc.base % r.desc.stride ≠ q.desc.base % q.desc.stride)

/-- A register that lies apart from all others, so that its own offsets are its alone. -/
def Reg.alone (r : Reg) : Bool :=
  decide (0 < r.desc.stride) && allRegs.contains r && allRegs.all (fun q => decide (q = r) || decide (0 < q.desc.stride) && r.apart q)

theorem Reg.covers_off {r : Reg} {i : Nat} (hstride : 0 < r.desc.stride) (hi : i < r.desc.count) : r.covers (r.off i) = true := by
  unfold Reg.covers Reg.off
  rw [Nat.add_sub_cancel_left, Nat.mul_mod_left, Nat.mul_div_cancel _ hstride]
  exact decide_eq_true ⟨Nat.le_add_right _ _, rfl, hi⟩

theorem Reg.not_covers_of_apart {r q : Reg} {i : Nat} (hstride : 0 < r.desc.stride) (hstride' : 0 < q.desc.stride) (hi : i < r.desc.count)
    (h : r.apart q = true) : ¬ q.covers (r.off i) = true := by
  unfold Reg.covers Reg.off
  rw [decide_eq_true_eq]
  rintro ⟨hbase, hmod, hdiv⟩
  unfold Reg.apart at h
  simp only [Bool.or_eq_true, decide_eq_true_eq] at h
  obtain (hbelow | habove) | ⟨hsame, hres⟩ := h
  · have hcopy : i * r.desc.stride < r.desc.count * r.desc.stride := Nat.mul_lt_mul_of_pos_right hi hstride
    omega
  · have hcopy := (Nat.div_lt_iff_lt_mul hstride').mp hdiv
    omega
  · have hcong : q.desc.base % q.desc.stride = (r.desc.base + i * r.desc.stride) % q.desc.stride :=
      (Nat.modEq_iff_dvd' hbase).mpr (Nat.dvd_of_mod_eq_zero hmod)
    rw [← hsame, Nat.add_mul_mod_self_right, hsame] at hcong
    exact hres (hsame ▸ hcong.symm)

/-- At the offsets of a register that lies alone, that register answers. -/
theorem findReg_off {r : Reg} (h : r.alone = true) {i : Nat} (hi : i < r.desc.count) : findReg (r.off i) = some (r, i) := by
  unfold Reg.alone at h
  simp only [Bool.and_eq_true, decide_eq_true_eq, List.contains_iff_mem, List.all_eq_true, Bool.or_eq_true] at h
  obtain ⟨⟨hstride, hmem⟩, halone⟩ := h
  have hcover := Reg.covers_off hstride hi
  have hfind : allRegs.find? (fun q => q.covers (r.off i)) = some r := by
    obtain ⟨q, hq⟩ := Option.isSome_iff_exists.mp (List.find?_isSome (p := fun q => q.covers (r.off i)) |>.mpr ⟨r, hmem, hcover⟩)
    rcases halone q (List.mem_of_find?_eq_some hq) with rfl | ⟨hstride', hapart⟩
    · exact hq
    · exact absurd (List.find?_some hq) (Reg.not_covers_of_apart hstride hstride' hi hapart)
  unfold Reg.covers at hfind
  unfold findReg
  rw [hfind]
  show some (r, (r.desc.base + i * r.desc.stride - r.desc.base) / r.desc.stride) = some (r, i)
  rw [Nat.add_sub_cancel_left, Nat.mul_div_cancel _ hstride]

theorem and_not_zero (v : W64) : v &&& ~~~(0 : W64) = v := BitVec.and_allOnes

section
variable {s : State} {r : Reg} {i off : Nat} (hfound : findReg off = some (r, i)) (hthere : r.absent i = false)
include hfound hthere

theorem State.peekReg_of_found : s.peekReg off = s.view r i &&& w64 (accMask r.desc.fields (fun a => decide (a ≠ .wo))) := by
  unfold State.peekReg
  simp only [hfound, hthere, Bool.false_eq_true, if_false]

/-- After the boot the host reads what is there (R505). -/
theorem State.hostRead64_of_found (half : Option Bool) (hboot : s.settleHost.booting = false) :
    s.hostRead64 off half = (s.settleHost.clearRead off (laneMask half)).modBooth (fun b => { b with
      readData := [laneOut half (s.settleHost.view r i &&& w64 (accMask r.desc.fields (fun a => decide (a ≠ .wo))))] }) := by
  unfold State.hostRead64 State.hostView
  simp only [hboot, Bool.false_and, Bool.false_eq_true, if_false, State.peekReg_of_found hfound hthere]

/-- A write reaches the register that answers, during the boot only one of a window or a slot (R466, R505). -/
theorem State.barWrite_of_found (mask v : W64) (hlive : s.barLive = true) (hboot : s.booting = false ∨ (bootWindow off || r.isSlot) = true) :
    s.barWrite off mask v = s.regWrite r i mask v := by
  have hopen : (s.booting && !(bootWindow off || r.isSlot)) = false := by
    rcases hboot with hdone | hwindow
    · rw [hdone]; rfl
    · rw [hwindow]; exact Bool.and_false _
  unfold State.barWrite
  simp only [hlive, hfound, hthere, hopen, Bool.not_true, Bool.or_self, Bool.false_eq_true, if_false]

/-- Reading clears the RC bits read (R9); the next read of STG_SNR_STATUS is free again (log entry 10). -/
theorem State.clearRead_of_found (within : W64) (hbell : r ≠ .belF2hData) : s.clearRead off within =
    if r = .stgSnrStatus then { s with freeCtr := s.freeCtr + 1 }
    else if w64 (accMask r.desc.fields (fun a => decide (a = .rc))) &&& within = 0 then s
    else s.wr r i (s.rd r i &&& ~~~(w64 (accMask r.desc.fields (fun a => decide (a = .rc))) &&& within)) := by
  unfold State.clearRead
  simp only [hfound, hthere, hbell, Bool.false_eq_true, if_false]

theorem State.clearRead_rd (within : W64) (hbell : r ≠ .belF2hData) (hwf : mwf 0 s.regs = true) : (s.clearRead off within).rd r i =
    s.rd r i &&& ~~~(w64 (accMask r.desc.fields (fun a => decide (a = .rc))) &&& within) := by
  rw [State.clearRead_of_found hfound hthere within hbell]
  split
  case isTrue hsnr =>
    subst hsnr
    have hnone : w64 (accMask (Reg.desc .stgSnrStatus).fields (fun a => decide (a = .rc))) &&& within = 0 := BitVec.zero_and
    rw [hnone, and_not_zero]
    rfl
  case isFalse =>
    split
    case isTrue hzero => rw [hzero, and_not_zero]
    case isFalse => exact State.wr_rd_same r i _ hwf

theorem State.clearRead_regs (within : W64) (hbell : r ≠ .belF2hData) {k : Nat} (hk : k ≠ r.off i) :
    mget 0 (s.clearRead off within).regs k = mget 0 s.regs k := by
  rw [State.clearRead_of_found hfound hthere within hbell]
  split
  · rfl
  · split
    · rfl
    · exact State.wr_regs_ne s r i _ hk

theorem State.clearRead_frame (within : W64) (hbell : r ≠ .belF2hData) :
    { s.clearRead off within with regs := s.regs, booth := s.booth, freeCtr := s.freeCtr } = s := by
  rw [State.clearRead_of_found hfound hthere within hbell]
  split
  · rfl
  · split <;> rfl

theorem State.clearRead_booth (within : W64) (hbell : r ≠ .belF2hData) : (s.clearRead off within).booth = s.booth := by
  rw [State.clearRead_of_found hfound hthere within hbell]
  split
  · rfl
  · split <;> rfl

end

/-- The registers whose writes have no rule of their own (R9). -/
def plainRegs : List Reg :=
  [.pciBar2Base, .bthPinCfg, .bthGpio, .smgTqSel, .wngScrub, .hbmScrub, .hbmRepairCfg, .belOvrHost, .belOvrP2f, .belOvrF2p, .belOvrLo, .stgFault]

theorem State.regWrite_of_plain {r : Reg} (h : r ∈ plainRegs) (s : State) (i : Nat) (mask v : W64) : s.regWrite r i mask v = s.store r i mask v := by
  simp only [plainRegs, List.mem_cons, List.not_mem_nil, or_false] at h
  rcases h with rfl | rfl | rfl | rfl | rfl | rfl | rfl | rfl | rfl | rfl | rfl | rfl <;> rfl

/-- A plain write in range takes the bits it covers (R9). -/
theorem State.store_of_inRange (s : State) (r : Reg) (i : Nat) {mask v : W64} (h : r.outOfRange (masked (s.rd r i) mask v) = 0) :
    s.store r i mask v = s.wr r i (r.written mask (s.rd r i) v) := by
  have hall : ~~~w64 0 = BitVec.allOnes 64 := rfl
  unfold State.store
  rw [h, hall, BitVec.and_allOnes]

/-- Settles O50: by the register that answers, the bits of its access codes, and the frame of one register written. -/
theorem registersReadAndWrite : Obligations.RegistersReadAndWrite := by
  unfold Obligations.RegistersReadAndWrite
  intro off i r half v s hcanon hlive hboot haligned hbar hfound hthere lanes mask u seen
  have hoff := barOffset_of_aligned haligned hbar
  refine ⟨fun hbell hcanon' hboot' => ?_, fun hplain hrange => ?_⟩
  · obtain ⟨hregs, -, -⟩ := hcanon'
    refine ⟨_, exec_rcRegisterRead_of_live hlive hoff half, ?_⟩
    rw [State.hostRead64_of_found hfound hthere half hboot']
    refine ⟨?_, State.clearRead_rd hfound hthere _ hbell hregs, fun k hk => State.clearRead_regs hfound hthere _ hbell hk,
      State.clearRead_frame hfound hthere (laneMask half) hbell⟩
    unfold State.modBooth
    simp only [State.clearRead_booth hfound hthere _ hbell]
    rcases half with _ | _ | _ <;> rfl
  · obtain ⟨hregs, -, -⟩ := hcanon
    refine ⟨_, exec_registerWrite_of_barOffset hoff half v s, ?_⟩
    rw [State.barWrite_of_found hfound hthere _ _ hlive (Or.inl hboot), State.regWrite_of_plain hplain]
    have hstore := State.store_of_inRange (mask := laneMask half) (v := laneIn half v) s r i hrange
    rw [hstore]
    exact ⟨State.wr_rd_same r i _ hregs, fun k hk => State.wr_regs_ne s r i _ hk, rfl⟩

end Sys2Proof.Machine
end

section
/-! PROOFS. Command slots, rings, endpoints and the host Bells (R188, R457-R461, R488-R499, R517, R559-R563). -/

namespace Sys2Proof.Machine

open Sys2Proof.Safety

/-- A word written back with bit 0 cleared clears EN. -/
theorem clearsBit0_of_cleared (v : W64) : clearsBit0 (BitVec.allOnes 64) (v &&& ~~~1) = true := by
  unfold clearsBit0
  simp

theorem setsBit0_of_set {v : W64} (hset : v.getLsbD 0 = true) : setsBit0 (BitVec.allOnes 64) v = true := by
  unfold setsBit0
  rw [hset]
  rfl

/-- A write of the whole word replaces it. -/
theorem masked_allOnes (old v : W64) : masked old (BitVec.allOnes 64) v = v := by
  unfold masked
  rw [BitVec.not_allOnes, BitVec.and_zero, BitVec.zero_or, BitVec.and_allOnes]

section
variable {s : State} (hlive : s.barLive = true)
include hlive

/-- A write of a slot's register reaches it in every phase of the boot (R466). -/
theorem State.barWrite_slot {r : Reg} {k : Nat} (halone : r.alone = true) (hk : k < r.desc.count) (hthere : r.absent k = false) (hslot : r.isSlot = true)
    (mask v : W64) : s.barWrite (r.off k) mask v = s.regWrite r k mask v :=
  State.barWrite_of_found (findReg_off halone hk) hthere mask v hlive (Or.inr (by rw [hslot]; exact Bool.or_true _))

/-- After the boot a write reaches every register that is there. -/
theorem State.barWrite_booted {r : Reg} {i : Nat} (halone : r.alone = true) (hi : i < r.desc.count) (hthere : r.absent i = false)
    (hboot : s.booting = false) (mask v : W64) : s.barWrite (r.off i) mask v = s.regWrite r i mask v :=
  State.barWrite_of_found (findReg_off halone hi) hthere mask v hlive (Or.inl hboot)

section
variable {k : Nat} (hk : k < 64)
include hk

theorem execDoorbell_of_slot (h : BitVec 16) : execDoorbell k h s = .next (s.ringDoorbell k h.toNat) := by
  have hhead : bitsOf (w64 h.toNat) 15 0 = h.toNat := by
    unfold bitsOf
    have := h.isLt
    rw [BitVec.toNat_ofNat]
    omega
  unfold execDoorbell
  rw [if_neg (Nat.not_le.mpr hk), State.barWrite_slot hlive (by decide) hk rfl rfl]
  show Host.Outcome.next (s.ringDoorbell k (bitsOf (w64 h.toNat) 15 0)) = _
  rw [hhead]

theorem execSlotEnable_of_off {v : W64} (hoff : s.fld .bthSlotCfg k 0 0 = 0) (hset : v.getLsbD 0 = true) :
    execSlotEnable k v s = .next (s.enableSlot k (BitVec.allOnes 64) v) := by
  unfold execSlotEnable
  rw [if_neg (Nat.not_le.mpr hk), if_pos ⟨hoff, hset⟩, State.barWrite_slot hlive (by decide) hk rfl rfl]
  unfold State.regWrite
  simp only [hoff, setsBit0_of_set hset, Nat.zero_ne_one, decide_false, Bool.false_eq_true, if_false, if_true]

theorem execSlotDisable_of_on (hon : s.fld .bthSlotCfg k 0 0 = 1) :
    execSlotDisable k s = .next (s.disableSlot k (BitVec.allOnes 64) (s.rd .bthSlotCfg k &&& ~~~1)) := by
  unfold execSlotDisable
  rw [if_neg (Nat.not_le.mpr hk), if_pos hon, State.barWrite_slot hlive (by decide) hk rfl rfl]
  unfold State.regWrite
  simp only [hon, clearsBit0_of_cleared, decide_true, if_true]

end

/-- Writing 1 to LAST_TRIP clears it, in every phase (R505, R517). -/
theorem execLastTripClear_of_live :
    execLastTripClear s = .next { s with plat := { s.plat with flash := { s.plat.flash with trip := false } } } := by
  unfold execLastTripClear
  rw [State.barWrite_of_found (findReg_off (r := .idnState) (i := 0) (by decide) (by decide)) rfl _ _ hlive (Or.inr (by decide))]
  rfl

section
variable {v : W64} (hboot : s.booting = false) (hset : v.getLsbD 0 = true)
include hboot

/-- A word of the host is kept in a clear Bell, and lost with an overrun flag in a FULL one (R491). -/
theorem execH2fBellWrite_of_booted {i : Nat} (hi : i < 16) : execH2fBellWrite i v s = .next (s.ringHost i v) := by
  unfold execH2fBellWrite
  rw [if_neg (Nat.not_le.mpr hi), State.barWrite_booted hlive (by decide) hi rfl hboot]
  unfold State.regWrite
  simp only [masked_allOnes]

theorem execEndpointDisable_of_on {i : Nat} (hi : i < 256) (hthere : Reg.absent .ethEpCfg i = false) (hon : s.fld .ethEpCfg i 0 0 = 1) :
    execEndpointDisable i s = .next (s.disableEp i (BitVec.allOnes 64) (s.rd .ethEpCfg i &&& ~~~1)) := by
  unfold execEndpointDisable
  rw [if_neg (Nat.not_le.mpr hi), if_pos hon, State.barWrite_booted hlive (by decide) hi hthere hboot]
  unfold State.regWrite
  simp only [hon, clearsBit0_of_cleared, decide_true, if_true]

include hset

theorem execEvqEnable_of_off (hoff : s.fld .bthEvqCfg 0 0 0 = 0) : execEvqEnable v s = .next (s.writeEvqCfg (BitVec.allOnes 64) v) := by
  unfold execEvqEnable
  rw [if_pos ⟨hoff, hset⟩, State.barWrite_booted hlive (by decide) (by decide) rfl hboot]
  rfl

theorem execTlyRingEnable_of_off (hoff : s.fld .tlyCtrl 0 0 0 = 0) : execTlyRingEnable v s = .next (s.writeTlyCtrl (BitVec.allOnes 64) v) := by
  unfold execTlyRingEnable
  rw [if_pos ⟨hoff, hset⟩, State.barWrite_booted hlive (by decide) (by decide) rfl hboot]
  rfl

theorem execEndpointEnable_of_off {i : Nat} (hi : i < 256) (hthere : Reg.absent .ethEpCfg i = false) (hoff : s.fld .ethEpCfg i 0 0 = 0) :
    execEndpointEnable i v s = .next (s.enableEp i (BitVec.allOnes 64) v) := by
  unfold execEndpointEnable
  rw [if_neg (Nat.not_le.mpr hi), if_pos ⟨hoff, hset⟩, State.barWrite_booted hlive (by decide) hi hthere hboot]
  unfold State.regWrite
  simp only [hoff, setsBit0_of_set hset, Nat.zero_ne_one, decide_false, Bool.false_eq_true, if_false, if_true]

end
end

section
variable {s : State} {i : Nat} (hi : i < 16)
include hi

/-- The host's read of an F2H Bell gives its word and clears it (R491, R499). -/
theorem execF2hBellRead_of_live (hlive : s.barLive = true) (hboot : s.settleHost.booting = false) :
    execF2hBellRead i s = .next { s.settleHost with booth := { s.settleHost.booth with
      readData := [(mget Bell.clear s.settleHost.booth.bellF2H i).word], bellF2H := mset Bell.clear s.settleHost.booth.bellF2H i Bell.clear } } := by
  have hfound : findReg (Reg.off .belF2hData i) = some (.belF2hData, i) := findReg_off (by decide) hi
  have hall : ∀ w : W64, laneOut none (w &&& w64 (accMask (Reg.desc .belF2hData).fields (fun a => decide (a ≠ .wo)))) = w := fun w =>
    BitVec.and_allOnes
  have hclear : s.settleHost.clearRead (Reg.off .belF2hData i) (laneMask none) =
      s.settleHost.modBooth (fun b => { b with bellF2H := mset Bell.clear b.bellF2H i Bell.clear }) := by
    unfold State.clearRead
    simp only [hfound]
    rfl
  unfold execF2hBellRead
  rw [if_neg (Nat.not_le.mpr hi), if_pos hlive, State.hostRead64_of_found hfound rfl none hboot, hclear, hall]
  rfl

section
variable (htaking : s.taking = true) (hfull : (mget Bell.clear s.booth.bellH2F i).full = true)
include htaking hfull

/-- Uzokel takes a word; vector 66 is raised (R489, R494). -/
theorem execH2fBellTake_of_other (hne : i ≠ 0) : execH2fBellTake i s =
    .next ((s.modBooth (fun x => { x with bellH2F := mset Bell.clear x.bellH2F i Bell.clear })).msi 66) := by
  unfold execH2fBellTake
  rw [if_neg (Nat.not_le.mpr hi)]
  simp only [htaking, hfull, hne, decide_false, Bool.not_true, Bool.false_and, Bool.or_self, Bool.false_eq_true, if_false]

/-- The word of Bell 0 comes back through F2H Bell 0, once that is clear (R494). -/
theorem execH2fBellTake_of_echo (hzero : i = 0) (hecho : (mget Bell.clear s.booth.bellF2H 0).full = false) : execH2fBellTake i s =
    .next ((((s.modBooth (fun x => { x with bellH2F := mset Bell.clear x.bellH2F i Bell.clear })).msi 66).modBooth (fun x => { x with
      bellF2H := mset Bell.clear x.bellF2H 0 ⟨true, (mget Bell.clear s.booth.bellH2F 0).word⟩ })).msi 65) := by
  subst hzero
  have hring : ∀ w : W64, ring s.booth.bellF2H 0 w = mset Bell.clear s.booth.bellF2H 0 ⟨true, w⟩ := fun w => if_neg (Bool.eq_false_iff.mp hecho)
  unfold execH2fBellTake
  rw [if_neg (Nat.not_le.mpr hi)]
  simp only [htaking, hfull, hecho, Bool.not_true, Bool.and_false, Bool.or_self, Bool.false_eq_true, if_false, if_true]
  unfold State.msi State.modBooth
  simp only [hring]

end
end

/-- A Prompter's word is taken while the event queue has room or is disabled (R494). -/
theorem execP2fBellTake_of_room {s : State} {n : Nat} (hn : n < 144) (htaking : s.taking = true) (hroom : s.fld .bthEvqCfg 0 0 0 = 0 ∨
      (s.fld .bthEvqHead 0 15 0 + 1) % 2 ^ s.fld .bthEvqCfg 0 7 3 ≠ s.fld .bthEvqTail 0 15 0 % 2 ^ s.fld .bthEvqCfg 0 7 3) :
    execP2fBellTake n s = .next (s.takeP2f n) := by
  unfold execP2fBellTake
  rw [if_neg (Nat.not_le.mpr hn)]
  refine if_pos ?_
  rw [htaking, Bool.true_and, Bool.or_eq_true, decide_eq_true_eq, decide_eq_true_eq]
  exact hroom

/-- Settles O51: by the register each command writes, and by the state of the Bell it rings, takes or reads. -/
theorem slotsRingsAndHostBells : Obligations.SlotsRingsAndHostBells := by
  unfold Obligations.SlotsRingsAndHostBells
  refine ⟨fun s hlive => ⟨fun k h hk => ⟨fun hon hentry => ?_, fun hon hpast => ?_, fun hoff => ?_⟩, fun k v hk => ⟨execSlotEnable_of_off hlive hk,
      execSlotDisable_of_on hlive hk, fun hirq hcoal hwait => ?_⟩, fun hboot v hset => ⟨execEvqEnable_of_off hlive hboot hset,
      execTlyRingEnable_of_off hlive hboot hset, fun i hi hthere => ⟨execEndpointEnable_of_off hlive hboot hset hi hthere,
      execEndpointDisable_of_on hlive hboot hi hthere⟩⟩, execLastTripClear_of_live hlive⟩,
    fun s => ⟨fun i w hi hlive hboot => ?_, fun i hi htaking hfull => ?_, fun n hn htaking hroom => execP2fBellTake_of_room hn htaking hroom⟩⟩
  · refine (execDoorbell_of_slot hlive hk h).trans ?_
    unfold State.ringDoorbell
    rw [hon, if_neg Nat.one_ne_zero, if_neg (Nat.not_le.mpr hentry)]
  · refine (execDoorbell_of_slot hlive hk h).trans ?_
    unfold State.ringDoorbell
    rw [hon, if_neg Nat.one_ne_zero, if_pos hpast]
  · exact (execDoorbell_of_slot hlive hk h).trans (congrArg Host.Outcome.next (if_pos hoff))
  · exact (if_neg (Nat.not_le.mpr hk)).trans (if_pos ⟨hirq, hcoal, hwait⟩)
  · intro b
    refine ⟨fun hclear => ?_, fun hfull => ?_, fun hboot' => execF2hBellRead_of_live hi hlive hboot'⟩
    · have hring : ring s.booth.bellH2F i w = mset Bell.clear s.booth.bellH2F i ⟨true, w⟩ := if_neg (Bool.eq_false_iff.mp hclear)
      refine (execH2fBellWrite_of_booted hlive hboot hi).trans (congrArg Host.Outcome.next ((if_neg (Bool.eq_false_iff.mp hclear)).trans ?_))
      rw [← hring]
      rfl
    · exact (execH2fBellWrite_of_booted hlive hboot hi).trans (congrArg Host.Outcome.next (if_pos hfull))
  · exact ⟨execH2fBellTake_of_other hi htaking hfull, execH2fBellTake_of_echo hi htaking hfull⟩

end Sys2Proof.Machine
end

section
/-! PROOFS. Time sources, the management port, the recovery port and the TAP: what each command does where it applies (R511, R522, R523, R552, R565-R568). -/

namespace Sys2Proof.Machine
open Sys2Proof.Safety

section
variable {s : State}

/-! ### Time (R522, R523) -/

/-- An edge that counts, once its guards are met: the rest of `execPpsEdge`. -/
theorem execPpsEdge_of_due (hlive : s.live = true) (hsrc : s.timeSrc = 2)
    (hlast : ∀ t, s.plat.time.lastEdge = some t → 900000000 ≤ (s.now - t).toNat) :
    execPpsEdge true s =
      let u := match s.plat.time.setSec with
        | some n => (s.discipline ((s.now.toNat : Int) - (n.toNat * 1000000000 : Nat)) 3).modTime (fun t => { t with setSec := some (n + 1) })
        | none => s
      .next (u.modTime (fun t => { t with lastEdge := some (if u.plat.time.setSec.isSome then u.now else s.now) })) := by
  unfold execPpsEdge
  refine if_neg ?_
  cases h : s.plat.time.lastEdge with
  | none => simp [hlive, hsrc]
  | some t =>
    have hlate : ¬ (s.now - t).toNat < 900000000 := Nat.not_lt.2 (hlast t h)
    simp only [hlive, hsrc, hlate, decide_false]
    decide

theorem execPpsEdge_of_second (hlive : s.live = true) (hsrc : s.timeSrc = 2)
    (hlast : ∀ t, s.plat.time.lastEdge = some t → 900000000 ≤ (s.now - t).toNat) {k : W64} (hk : s.plat.time.setSec = some k) :
    let u := (s.discipline ((s.now.toNat : Int) - (k.toNat * 1000000000 : Nat)) 3).modTime (fun t => { t with setSec := some (k + 1) })
    execPpsEdge true s = .next (u.modTime (fun t => { t with lastEdge := some u.now })) := by
  rw [execPpsEdge_of_due hlive hsrc hlast, hk]
  rfl

theorem execPpsEdge_of_noSecond (hlive : s.live = true) (hsrc : s.timeSrc = 2)
    (hlast : ∀ t, s.plat.time.lastEdge = some t → 900000000 ≤ (s.now - t).toNat) (hk : s.plat.time.setSec = none) :
    execPpsEdge true s = .next (s.modTime (fun t => { t with lastEdge := some s.now })) := by
  rw [execPpsEdge_of_due hlive hsrc hlast]
  simp only [hk]
  rfl

theorem execPpsEdge_narrow : execPpsEdge false s = .next s := by
  unfold execPpsEdge
  exact if_pos (by simp)

theorem ptp_applies (hlive : s.live = true) (hsrc : s.timeSrc = 1) : ¬ (!s.live || decide (s.timeSrc ≠ 1)) = true := by
  simp [hlive, hsrc]

theorem execTimeHoldover_of_long (hlive : s.live = true) (hsrc : s.timeSrc = 1 ∨ s.timeSrc = 2) {t : W64}
    (hlast : s.plat.time.lastEdge = some t) (hlong : 10000000000 ≤ (s.now - t).toNat) :
    execTimeHoldover s = .next ((s.setFld .clkTimeStatus 0 1 0 3).modTime (fun t => { t with good := 0, slew := 0 })) := by
  unfold execTimeHoldover
  simp only [hlast]
  refine if_pos ?_
  rw [hlive, decide_eq_true hsrc, decide_eq_true hlong]
  rfl

/-! ### Management and recovery (R511, R565, R566, R568) -/

theorem execSensorSample_silent (h : s.managed = true) (hq : s.plat.ports.sensors = [] ∨ s.plat.ports.eventReceiver = 0) :
    execSensorSample s = .next { s with plat := { s.plat with ports := { s.plat.ports with sensors := s.sensorValues } } } := by
  have hsilent : s.plat.ports.sensors.isEmpty = true ∨ s.plat.ports.eventReceiver = 0 := hq.imp_left List.isEmpty_iff.2
  unfold execSensorSample
  rw [if_neg (by simp [h])]
  simp only [if_pos hsilent, List.append_nil]
  rfl

theorem write_applies (hrec : s.recovering = true) {data : List Byte} (hne : data ≠ []) (hlen : data.length ≤ 256) :
    ¬ (!s.recovering || data.isEmpty || decide (256 < data.length)) = true := by
  simp [hrec, hne, hlen]

/-! ### The TAP (R567) -/

/-- Free bits move the count of free values and nothing else. -/
theorem freeBits_eq (n : Nat) : ∀ s : State, ∃ k, (s.freeBits n).2 = { s with freeCtr := k } := by
  induction n with
  | zero => exact fun s => ⟨s.freeCtr, rfl⟩
  | succ n ih =>
    intro s
    obtain ⟨k, hk⟩ := ih s.free.2
    exact ⟨k, hk⟩

/-- A TAP instruction was selected: its code, who drives the pins, and nothing outside the ports changed. -/
def TapSelected (s : State) (code : Nat) (driven high : Bool) (t : State) : Prop :=
  t.plat.ports.jtagInstr = code ∧ t.plat.ports.jtagDriven = driven ∧ t.plat.ports.jtagHigh = high
    ∧ t.regs = s.regs ∧ t.stages = s.stages ∧ t.mem = s.mem ∧ t.booth = s.booth ∧ t.link = s.link ∧ t.sched = s.sched ∧ t.pbk = s.pbk

/-- Selecting an instruction, also after free bits were drawn or the cells were written (`u` differs from `s` in `plat` and the free count only). -/
theorem jtag_selects {u : State} (p : PlatSt) (k : Nat) (hu : u = { s with plat := p, freeCtr := k }) (hpow : p.pwrgood = true)
    (code : Nat) (driven high : Bool) (out : List Bool) :
    ∃ t, u.jtag code driven high out = .next t ∧ TapSelected s code driven high t := by
  subst hu
  exact ⟨_, if_neg (by simp [hpow]), rfl, rfl, rfl, rfl, rfl, rfl, rfl, rfl, rfl, rfl⟩

theorem execSamplePreload_selects (hpow : s.plat.pwrgood = true) (v : List Bool) :
    ∃ t, execSamplePreload v s = .next t ∧ TapSelected s 1 false false t := by
  obtain ⟨k, hk⟩ := freeBits_eq v.length s
  have hcells : (s.freeBits v.length).2.modPorts (fun p => { p with jtagCells := v }) =
      { s with plat := { s.plat with ports := { s.plat.ports with jtagCells := v } }, freeCtr := k } := by
    rw [hk]
    rfl
  unfold execSamplePreload
  rw [if_neg (by simp [hpow])]
  exact jtag_selects _ k hcells hpow 1 false false _

theorem execExtest_selects (hpow : s.plat.pwrgood = true) : ∃ t, execExtest s = .next t ∧ TapSelected s 0 true false t := by
  obtain ⟨k, hk⟩ := freeBits_eq s.plat.ports.jtagCells.length s
  unfold execExtest
  rw [if_neg (by simp [hpow])]
  exact jtag_selects _ k hk hpow 0 true false _

end

/-- Settles O54: each command's guard holds under the clause's hypotheses, and what is left of it is what the clause says. -/
theorem timeManagementAndTap : Obligations.TimeManagementAndTap := by
  unfold Obligations.TimeManagementAndTap
  refine ⟨fun s hlive => ⟨fun hsrc hlast => ⟨?_, ?_⟩, ?_, fun hsrc => ⟨?_, ?_⟩, ?_⟩, fun s => ⟨fun hman => ⟨?_, ?_⟩, ?_, fun hon => ⟨?_, ?_⟩, ?_, ?_⟩⟩
  · intro k hk u _
    exact execPpsEdge_of_second hlive hsrc hlast hk
  · exact execPpsEdge_of_noSecond hlive hsrc hlast
  · exact execPpsEdge_narrow
  · intro offset u
    exact if_neg (ptp_applies hlive hsrc)
  · intro delay
    exact if_neg (ptp_applies hlive hsrc)
  · intro hsrc t hlast hlong
    exact execTimeHoldover_of_long hlive hsrc hlast hlong
  · exact execSensorSample_silent hman
  · exact fun eid => if_pos hman
  · exact fun hbar eid => if_pos hbar
  · exact ⟨_, if_neg hon, rfl, rfl⟩
  · exact ⟨_, if_neg hon, rfl, rfl⟩
  · intro hrec
    refine ⟨fun off data hne hlen => ⟨fun hfar => ?_, fun hin => ?_⟩, ?_⟩
    · exact (if_neg (write_applies hrec hne hlen)).trans (if_pos hfar)
    · exact (if_neg (write_applies hrec hne hlen)).trans (if_neg (Nat.not_lt.2 hin))
    · intro i
      have hgo : ¬ (!s.recovering) = true := by simp [hrec]
      split
      next hpass => exact ⟨_, s.free.2.modPlat (fun p => { p with flash := { p.flash with imgA := some i, selB := false } }), rfl, rfl,
          (if_neg hgo).trans (if_pos hpass)⟩
      next hfail => exact (if_neg hgo).trans (if_neg hfail)
  · intro hpow tap
    have hself : s = { s with plat := s.plat, freeCtr := s.freeCtr } := rfl
    exact ⟨jtag_selects _ _ hself hpow 3 false false _, jtag_selects _ _ hself hpow 2 false false _, execSamplePreload_selects hpow,
      execExtest_selects hpow, jtag_selects _ _ hself hpow 4 true false _, jtag_selects _ _ hself hpow 5 false true _⟩

end Sys2Proof.Machine
end

section
/-! PROOFS. The Dimmer, SAFE, the thermal trip, regulators, droop, the PLLs and the PCIe link (R524-R530, R536, R550, R555). -/

namespace Sys2Proof.Machine
open Sys2Proof.Safety

/-- The device after the Dimmer has shown, counted and acted on a sample (R525-R534). -/
def State.dimmed (s : State) (x : PowerSample) : State :=
  let u := (s.showSample x).countSafe x
  if u.plat.cclkStopped then u else (u.dim x).dimmerTime

/-- The sample judged for SAFE: whether a condition of R528 holds is shown, and samples without one are counted. -/
def State.judged (s : State) (x : PowerSample) : State :=
  let v := s.setFld .pwrStatus 0 32 32 (bit01 (s.safeCond x).isSome)
  let calm := decide (x.junction < 105 ∧ stackMax x < 100) && (List.range 7).all (fun r => !v.railOut x r)
  { v with plat := { v.plat with safeClear := if calm then v.plat.safeClear + 1 else 0 } }

section
variable {s : State}

theorem execDimmerSample_of_live (hlive : s.live = true) (x : PowerSample) :
    execDimmerSample x s = match (s.dimmed x).safeCond x with
      | some (cause, unit, reading) => .next (((s.dimmed x).judged x).enterSafe cause unit reading)
      | none => .next ((s.dimmed x).judged x) := by
  unfold execDimmerSample
  rw [if_neg (by simp [hlive])]
  rfl

theorem execDimmerSample_calm (hlive : s.live = true) {x : PowerSample} (hc : (s.dimmed x).safeCond x = none) :
    execDimmerSample x s = .next ((s.dimmed x).judged x) := by
  rw [execDimmerSample_of_live hlive, hc]

theorem execDimmerSample_safe (hlive : s.live = true) {x : PowerSample} {cause unit reading : Nat}
    (hc : (s.dimmed x).safeCond x = some (cause, unit, reading)) :
    execDimmerSample x s = .next (((s.dimmed x).judged x).enterSafe cause unit reading) := by
  rw [execDimmerSample_of_live hlive, hc]

/-! ### A PLL's loss (R536, R540): its lock bit clears, and what it clocks fails -/

/-- What fails with PLL `n`, its lock bit already clear. -/
def State.pllLost (u : State) (n : Nat) : State :=
  if n = 0 ∨ n = 1 ∨ n = 14 then u.enterFault 9
  else if n < 14 then u.loseStack (n - 2)
  else if n = 15 then u
  else if n < 20 then ((List.range 24).filter (fun k => decide (k / 6 = n - 16))).foldl State.portDown u
  else if n = 20 then u.pcieDown
  else u.setFld .ethPort (n - 21) 1 0 0

theorem execPllLockLoss_of_live (hlive : s.live = true) {n : Nat} (hn : n < 25) :
    execPllLockLoss n s = .next ((s.setFld .clkPllStatus 0 n n 0).pllLost n) := by
  unfold execPllLockLoss State.pllLost
  rw [if_neg (Nat.not_le.2 hn), if_neg (by simp [hlive])]
  simp only [apply_ite Host.Outcome.next]

theorem pllLost_core (u : State) {n : Nat} (h : n = 0 ∨ n = 1 ∨ n = 14) : u.pllLost n = u.enterFault 9 := if_pos h

theorem pllLost_stack (u : State) {n : Nat} (hlo : 2 ≤ n) (hhi : n < 14) : u.pllLost n = u.loseStack (n - 2) := by
  unfold State.pllLost
  rw [if_neg (by omega), if_pos hhi]

theorem pllLost_time (u : State) : u.pllLost 15 = u := rfl

theorem pllLost_ports (u : State) {n : Nat} (hlo : 16 ≤ n) (hhi : n < 20) :
    u.pllLost n = ((List.range 24).filter (fun k => decide (k / 6 = n - 16))).foldl State.portDown u := by
  unfold State.pllLost
  rw [if_neg (by omega), if_neg (by omega), if_neg (by omega), if_pos hhi]

theorem pllLost_pcie (u : State) : u.pllLost 20 = u.pcieDown := rfl

theorem pllLost_eth (u : State) {n : Nat} (hlo : 21 ≤ n) : u.pllLost n = u.setFld .ethPort (n - 21) 1 0 0 := by
  unfold State.pllLost
  rw [if_neg (by omega), if_neg (by omega), if_neg (by omega), if_neg (by omega), if_neg (by omega)]

/-! ### The other commands -/

theorem execThermalTrip_stops (hlive : s.live = true) :
    ∃ t, execThermalTrip s = .next t ∧ t.plat.cclkStopped = true ∧ t.plat.selfRefresh = true ∧ t.plat.txStopped = true ∧ t.plat.thermTrip = true
      ∧ t.plat.faultN = true :=
  ⟨_, if_neg (by simp [hlive]), rfl, rfl, rfl, rfl, rfl⟩

theorem execDroopDetect_counts (hlive : s.live = true) (hcanon : Canon s) {field : Nat} (hf : field < 4) (edges : Nat)
    (hrun : s.plat.cclkStopped = false) :
    ∃ t, execDroopDetect field edges s = .next t
      ∧ t.rd .pwrDroop 0 = s.rd .pwrDroop 0 + BitVec.ofNat 64 edges ∧ (∀ k, k ≠ Reg.off .pwrDroop 0 → mget 0 t.regs k = mget 0 s.regs k)
      ∧ { t with regs := s.regs } = s :=
  ⟨s.bump .pwrDroop 0 edges, (if_neg (Nat.not_le.2 hf)).trans (if_pos (by simp [hlive, hrun])), State.wr_rd_same _ _ _ hcanon.1,
    fun _ hk => State.wr_regs_ne _ _ _ _ hk, rfl⟩

end

/-- Settles O53: the Dimmer by its two parts `dimmed` and `judged`, a PLL by what its number clocks, the rest by each command's guard. -/
theorem powerHeatAndClocks : Obligations.PowerHeatAndClocks := by
  unfold Obligations.PowerHeatAndClocks
  intro s hlive
  refine ⟨?_, ?_, ?_, ?_, ?_, ?_, ?_⟩
  · intro x
    exact ⟨fun hc => execDimmerSample_calm hlive hc, fun _ _ _ hc => execDimmerSample_safe hlive hc⟩
  · exact fun hsafe hclear => if_pos ⟨hsafe, hclear⟩
  · exact execThermalTrip_stops hlive
  · exact fun reg status mv hreg hstatus => (if_neg (Nat.not_le.2 hreg)).trans (if_pos (by rw [hlive, decide_eq_true hstatus]; rfl))
  · exact fun field edges hcanon hfield hrun => execDroopDetect_counts hlive hcanon hfield edges hrun
  · exact if_pos hlive
  · intro n hn u
    have hexec : exec (.pllLockLoss n) s = .next (u.pllLost n) := execPllLockLoss_of_live hlive hn
    rw [hexec]
    refine ⟨fun h => ?_, fun hlo hhi => ?_, fun h => ?_, fun hlo hhi => ?_, fun h => ?_, fun hlo => ?_⟩
    · rw [pllLost_core u h]
    · rw [pllLost_stack u hlo hhi]
    · rw [h, pllLost_time]
    · rw [pllLost_ports u hlo hhi]
    · rw [h, pllLost_pcie]
    · rw [pllLost_eth u hlo]

end Sys2Proof.Machine
end

section
/-! PROOFS. What recording an event, a run of register writes, and putting one field into a word leave as it was (R486-R489, R493, R506). -/

namespace Sys2Proof.Machine
open Sys2Proof.Safety

/-! ### One field put into a word -/

/-- The word in three parts: what stands above the field, the field, what stands below it. -/
theorem setBits_eq_parts (v : W64) {hi lo : Nat} (h : lo ≤ hi) (x : Nat) :
    setBits v hi lo x = BitVec.ofNat 64 (2 ^ lo * (2 ^ (hi + 1 - lo) * (v.toNat / 2 ^ (hi + 1)) + x % 2 ^ (hi + 1 - lo)) + v.toNat % 2 ^ lo) := by
  unfold setBits bitsOf
  have hw : 2 ^ (hi + 1) = 2 ^ lo * 2 ^ (hi + 1 - lo) := by rw [← Nat.pow_add]; congr 1; omega
  have hlow := Nat.div_add_mod v.toNat (2 ^ lo)
  have hmid := Nat.div_add_mod (v.toNat / 2 ^ lo) (2 ^ (hi + 1 - lo))
  rw [hw, ← Nat.div_div_eq_div_mul]
  generalize v.toNat / 2 ^ lo = q at hlow hmid ⊢
  generalize q / 2 ^ (hi + 1 - lo) = u at hmid ⊢
  generalize q % 2 ^ (hi + 1 - lo) = m at hmid ⊢
  subst hmid
  rw [Nat.mul_add] at hlow
  rw [Nat.mul_add, Nat.mul_comm m, Nat.mul_comm (x % _)]
  congr 1
  omega

theorem getLsbD_setBits (v : W64) {hi lo : Nat} (h : lo ≤ hi) (h64 : hi < 64) (x j : Nat) :
    (setBits v hi lo x).getLsbD j = if lo ≤ j ∧ j ≤ hi then x.testBit (j - lo) else v.getLsbD j := by
  have hv : ∀ k, v.toNat.testBit k = v.getLsbD k := fun _ => rfl
  rw [setBits_eq_parts v h, BitVec.getLsbD_ofNat, Nat.testBit_two_pow_mul_add _ (Nat.mod_lt _ (Nat.two_pow_pos lo)),
    Nat.testBit_two_pow_mul_add _ (Nat.mod_lt _ (Nat.two_pow_pos _)), Nat.testBit_mod_two_pow, Nat.testBit_mod_two_pow, Nat.testBit_div_two_pow, hv, hv]
  by_cases hlo : j < lo
  · rw [if_pos hlo, if_neg (by omega)]
    simp [hlo, show j < 64 by omega]
  · by_cases hhi : j ≤ hi
    · rw [if_neg hlo, if_pos (show j - lo < hi + 1 - lo by omega), if_pos ⟨Nat.le_of_not_lt hlo, hhi⟩]
      simp [show j - lo < hi + 1 - lo by omega, show j < 64 by omega]
    · rw [if_neg hlo, if_neg (show ¬ j - lo < hi + 1 - lo by omega), if_neg (fun hin => hhi hin.2),
        show j - lo - (hi + 1 - lo) + (hi + 1) = j by omega, Bool.and_eq_right_iff_imp]
      exact fun hbit => decide_eq_true (BitVec.lt_of_getLsbD hbit)

theorem testBit_bitsOf (v : W64) (hi lo j : Nat) : (bitsOf v hi lo).testBit j = (decide (j < hi + 1 - lo) && v.getLsbD (j + lo)) := by
  unfold bitsOf
  rw [Nat.testBit_mod_two_pow, Nat.testBit_div_two_pow]
  rfl

theorem bitsOf_setBits_same (v : W64) {hi lo : Nat} (h : lo ≤ hi) (h64 : hi < 64) (x : Nat) :
    bitsOf (setBits v hi lo x) hi lo = x % 2 ^ (hi + 1 - lo) := by
  refine Nat.eq_of_testBit_eq fun j => ?_
  rw [testBit_bitsOf, getLsbD_setBits v h h64, Nat.testBit_mod_two_pow]
  by_cases hj : j < hi + 1 - lo
  · rw [if_pos (by omega), Nat.add_sub_cancel]
  · simp [hj]

/-- A field that lies wholly above or below the one put in keeps its value. -/
theorem bitsOf_setBits_apart (v : W64) {hi lo a b : Nat} (h : lo ≤ hi) (h64 : hi < 64) (hab : hi < b ∨ a < lo) (x : Nat) :
    bitsOf (setBits v hi lo x) a b = bitsOf v a b := by
  refine Nat.eq_of_testBit_eq fun j => ?_
  rw [testBit_bitsOf, testBit_bitsOf, getLsbD_setBits v h h64]
  by_cases hj : j < a + 1 - b
  · rw [if_neg (by omega)]
  · simp [hj]

/-- A field within the one put in holds that part of the number. -/
theorem bitsOf_setBits_bit (v : W64) {hi lo k : Nat} (h64 : hi < 64) (hk : lo ≤ k ∧ k ≤ hi) (x : Nat) :
    bitsOf (setBits v hi lo x) k k = if x.testBit (k - lo) then 1 else 0 := by
  rw [bitsOf_bit, getLsbD_setBits v (hk.1.trans hk.2) h64, if_pos hk]

section
variable {s : State} (hwf : mwf 0 s.regs = true)
include hwf

theorem State.setFld_wf (r : Reg) (i hi lo x : Nat) : mwf 0 (s.setFld r i hi lo x).regs = true := State.wr_wf _ _ _ hwf

theorem State.setFld_fld_same (r : Reg) (i : Nat) {hi lo : Nat} (h : lo ≤ hi) (h64 : hi < 64) (x : Nat) :
    (s.setFld r i hi lo x).fld r i hi lo = x % 2 ^ (hi + 1 - lo) := by
  unfold State.setFld
  rw [State.wr_fld_same _ _ _ _ _ hwf, bitsOf_setBits_same _ h h64]

/-- Another field of the same register keeps its value. -/
theorem State.setFld_fld_apart (r : Reg) (i : Nat) {hi lo a b : Nat} (h : lo ≤ hi) (h64 : hi < 64) (hab : hi < b ∨ a < lo) (x : Nat) :
    (s.setFld r i hi lo x).fld r i a b = s.fld r i a b := by
  unfold State.setFld
  rw [State.wr_fld_same _ _ _ _ _ hwf, bitsOf_setBits_apart _ h h64 hab]
  rfl

end

/-! ### Register writes alone -/

/-- From `s` to `t` only registers changed, those at offsets of `P`; the one form stays. -/
structure RegWrites (P : Nat → Prop) (s t : State) : Prop where
  rest : ∃ m, t = { s with regs := m }
  kept : ∀ off, ¬ P off → mget 0 t.regs off = mget 0 s.regs off
  wf : mwf 0 s.regs = true → mwf 0 t.regs = true

theorem RegWrites.refl (P : Nat → Prop) (s : State) : RegWrites P s s := ⟨⟨s.regs, rfl⟩, fun _ _ => rfl, id⟩

theorem RegWrites.trans {P : Nat → Prop} {s t u : State} (h : RegWrites P s t) (g : RegWrites P t u) : RegWrites P s u := by
  obtain ⟨m, rfl⟩ := h.rest
  obtain ⟨k, rfl⟩ := g.rest
  exact ⟨⟨k, rfl⟩, fun off hoff => (g.kept off hoff).trans (h.kept off hoff), fun hwf => g.wf (h.wf hwf)⟩

theorem RegWrites.wr {P : Nat → Prop} (s : State) {r : Reg} {i : Nat} (hP : P (r.off i)) (v : W64) : RegWrites P s (s.wr r i v) :=
  ⟨⟨_, rfl⟩, fun _ hoff => State.wr_regs_ne _ _ _ _ (fun heq => hoff (heq ▸ hP)), State.wr_wf _ _ _⟩

theorem RegWrites.setFld {P : Nat → Prop} (s : State) {r : Reg} {i : Nat} (hP : P (r.off i)) (hi lo x : Nat) : RegWrites P s (s.setFld r i hi lo x) :=
  RegWrites.wr s hP _

theorem RegWrites.foldl {P : Nat → Prop} {α : Type} {f : State → α → State} (l : List α) (hf : ∀ s, ∀ a ∈ l, RegWrites P s (f s a)) (s : State) :
    RegWrites P s (l.foldl f s) := by
  induction l generalizing s with
  | nil => exact .refl P s
  | cons a l ih => exact (hf s a (List.mem_cons_self ..)).trans (ih (fun s b hb => hf s b (List.mem_cons_of_mem _ hb)) _)

theorem RegWrites.fld {P : Nat → Prop} {s t : State} (h : RegWrites P s t) {r : Reg} {i : Nat} (hr : ¬ P (r.off i)) (hi lo : Nat) :
    t.fld r i hi lo = s.fld r i hi lo := by
  unfold State.fld State.rd
  rw [h.kept _ hr]

/-! ### Events -/

/-- The registers that recording an event moves (R488, R496). -/
def eventRegs : List Nat := [Reg.off .bthEvtSeq 0, Reg.off .bthEvqHead 0, Reg.off .bthEvqDrop 0]

/-- From `s` to `t` nothing changed but what recording events changes: the event registers, the Booth, host memory. -/
structure EventsOnly (s t : State) : Prop where
  rest : ∃ regs booth host, t = { s with regs := regs, booth := booth, mem := { s.mem with host := host } }
  kept : ∀ off, off ∉ eventRegs → mget 0 t.regs off = mget 0 s.regs off

theorem EventsOnly.refl (s : State) : EventsOnly s s := ⟨⟨s.regs, s.booth, s.mem.host, rfl⟩, fun _ _ => rfl⟩

theorem EventsOnly.trans {s t u : State} (h : EventsOnly s t) (g : EventsOnly t u) : EventsOnly s u := by
  obtain ⟨_, _, _, rfl⟩ := h.rest
  obtain ⟨_, _, _, rfl⟩ := g.rest
  exact ⟨⟨_, _, _, rfl⟩, fun off hoff => (g.kept off hoff).trans (h.kept off hoff)⟩

theorem EventsOnly.setFld (s : State) {r : Reg} (hr : r.off 0 ∈ eventRegs) (hi lo x : Nat) : EventsOnly s (s.setFld r 0 hi lo x) :=
  ⟨⟨_, _, _, rfl⟩, fun _ hoff => State.wr_regs_ne _ _ _ _ (fun heq => hoff (heq ▸ hr))⟩

theorem EventsOnly.booth (s : State) (b : BoothSt) : EventsOnly s { s with booth := b } := ⟨⟨_, b, _, rfl⟩, fun _ _ => rfl⟩

theorem EventsOnly.hostWrite {s t : State} {a : Nat} {bs : List Byte} (h : s.hostWrite a bs = some t) : EventsOnly s t := by
  unfold State.hostWrite at h
  split at h
  · cases h
  · cases h
    exact ⟨⟨_, _, _, rfl⟩, fun _ _ => rfl⟩

theorem copyEvent_eventsOnly (s : State) (e : Event) : EventsOnly s (s.copyEvent e) := by
  have hdrop : EventsOnly s (s.satBump .bthEvqDrop 0 31 0 1) := .setFld s (by decide) ..
  unfold State.copyEvent
  split
  · split
    · exact .refl s
    · exact (EventsOnly.booth s _).trans (.booth _ _)
  · split
    · exact .refl s
    · dsimp only
      split
      · exact hdrop
      · split
        next => exact hdrop
        next t hwrite => exact ((EventsOnly.hostWrite hwrite).trans (.setFld t (by decide) ..)).trans (.booth _ _)

theorem postAt_eventsOnly (s : State) (t : W64) (type sev : Nat) (ctx : Option Nat) (detail : List W64) :
    EventsOnly s (s.postAt t type sev ctx detail) :=
  ((EventsOnly.booth s _).trans (.setFld _ (by decide) ..)).trans (copyEvent_eventsOnly _ _)

theorem post_eventsOnly (s : State) (type sev : Nat) (ctx : Option Nat) (detail : List W64) : EventsOnly s (s.post type sev ctx detail) :=
  postAt_eventsOnly s _ _ _ _ _

namespace EventsOnly
variable {s t : State} (h : EventsOnly s t)
include h

theorem plat : t.plat = s.plat := by obtain ⟨_, _, _, rfl⟩ := h.rest; rfl
theorem stages : t.stages = s.stages := by obtain ⟨_, _, _, rfl⟩ := h.rest; rfl
theorem sched : t.sched = s.sched := by obtain ⟨_, _, _, rfl⟩ := h.rest; rfl
theorem memLog : t.mem.log = s.mem.log := by obtain ⟨_, _, _, rfl⟩ := h.rest; rfl

theorem fld {r : Reg} {i : Nat} (hr : r.off i ∉ eventRegs) (hi lo : Nat) : t.fld r i hi lo = s.fld r i hi lo := by
  unfold State.fld State.rd
  rw [h.kept _ hr]

theorem now : t.now = s.now := by
  unfold State.now State.rd
  rw [h.kept _ (by decide)]

end EventsOnly

theorem romStart_eventsOnly (s : State) : EventsOnly s s.romStart := by
  unfold State.romStart
  split
  · exact postAt_eventsOnly ..
  · exact .refl s

theorem romStart_of_not_mem {s : State} (h : 1 ∉ s.plat.phase) : s.romStart = s := by
  unfold State.romStart
  exact if_neg (by simpa using h)

end Sys2Proof.Machine
end

section
/-! PROOFS. Power, resets and every phase of the boot (R338, R500-R509, R514, R546, R547). -/

namespace Sys2Proof.Machine
open Sys2Proof.Safety

/-! ### Resets (R500, R501, R504) -/

/-- What a reset of the whole device leaves before HEADROOM that was staged takes effect. -/
def State.wiped (s : State) (regs : SMap W64) (booth : BoothSt) : State :=
  { s with
    regs := regs
    stages := []
    mem := { MemSt.empty with log := s.mem.log, host := s.mem.host, hostBad := s.mem.hostBad }
    sched := .empty
    link := .empty
    pbk := .empty
    booth := { booth with autoStaged := s.booth.autoStaged.filter (fun e => decide (e.off = Reg.hbmCapacity.off 0)) }
    plat := { PlatSt.boot with
      pwrgood := s.plat.pwrgood, railsOk := s.plat.railsOk, perst := s.plat.perst, flash := s.plat.flash, gpioIn := s.plat.gpioIn
      thermTrip := s.plat.thermTrip, phase := [], phaseStart := []
      ports := { PortsSt.fresh with
        jtagInstr := s.plat.ports.jtagInstr, jtagCells := s.plat.ports.jtagCells, jtagDriven := s.plat.ports.jtagDriven
        jtagHigh := s.plat.ports.jtagHigh } } }

theorem cleared_eq (s : State) (regs : SMap W64) (booth : BoothSt) : s.cleared regs booth = (s.wiped regs booth).applyAuto .hbmCapacity := rfl

/-- Deferred values that all stand for HBM_CAPACITY change that register and the list they wait in. -/
theorem applyAuto_hbmCapacity (s : State) (h : ∀ e ∈ s.booth.autoStaged, e.off = Reg.hbmCapacity.off 0) :
    ∃ regs auto, s.applyAuto .hbmCapacity = { s with regs := regs, booth := { s.booth with autoStaged := auto } }
      ∧ ∀ off, off ≠ Reg.hbmCapacity.off 0 → mget 0 regs off = mget 0 s.regs off := by
  have hfind : findReg (Reg.hbmCapacity.off 0) = some (.hbmCapacity, 0) := findReg_off (by decide) (by decide)
  unfold State.applyAuto
  extract_lets mine u
  have hu : RegWrites (fun off => off = Reg.hbmCapacity.off 0) s u := by
    refine RegWrites.foldl _ (fun t e he => ?_) s
    rw [h e (List.mem_of_mem_filter he), hfind]
    refine RegWrites.wr (r := .hbmCapacity) (i := 0) t ?_ _
    rfl
  clear_value u
  obtain ⟨m, rfl⟩ := hu.rest
  exact ⟨m, _, rfl, hu.kept⟩

/-- A reset: the wiped device, but for HBM_CAPACITY and the values still deferred. -/
theorem cleared_frame (s : State) (regs : SMap W64) (booth : BoothSt) :
    ∃ regs' auto, s.cleared regs booth = { s.wiped regs booth with regs := regs', booth := { booth with autoStaged := auto } }
      ∧ ∀ off, off ≠ Reg.hbmCapacity.off 0 → mget 0 regs' off = mget 0 regs off := by
  rw [cleared_eq]
  exact applyAuto_hbmCapacity _ (fun e he => of_decide_eq_true (List.mem_filter.mp he).2)

/-- A register that is kept keeps its value. -/
theorem mget_keepRegs (m : SMap W64) {ks : List Nat} {off : Nat} (h : off ∈ ks) : mget 0 (keepRegs ks m) off = mget 0 m off := by
  unfold keepRegs
  simpa using mget_filter_of_key (d := (0 : W64)) (P := (· ∈ ks)) m h

theorem powerReset_fresh (s : State) :
    let u := s.powerReset
    u.plat.dev = (if s.plat.perst then .off else .boot) ∧ u.plat.phase = (if s.plat.perst then [] else [1])
      ∧ u.plat.pwrgood = s.plat.pwrgood ∧ u.plat.railsOk = s.plat.railsOk ∧ u.booth.log = [] ∧ u.stages = [] ∧ u.sched.ctxs = []
      ∧ u.mem.log = s.mem.log ∧ u.plat.flash = s.plat.flash := by
  obtain ⟨regs, auto, hcleared, -⟩ := cleared_frame s (keepRegs [Reg.idnSvnFloor.off 0] s.regs) .empty
  dsimp only [State.powerReset]
  rw [hcleared]
  cases hp : s.plat.perst with
  | false =>
    rw [if_neg (by simpa [State.modPlat, State.wiped] using hp)]
    exact ⟨rfl, rfl, rfl, rfl, rfl, rfl, rfl, rfl, rfl⟩
  | true =>
    rw [if_pos (by simpa [State.modPlat, State.wiped] using hp)]
    exact ⟨rfl, rfl, rfl, rfl, rfl, rfl, rfl, rfl, rfl⟩

theorem execPwrgoodFall_off {s : State} (hpow : s.plat.pwrgood = true) :
    ∃ t, execPwrgoodFall s = .next t ∧ t.plat.dev = .off ∧ t.plat.pwrgood = false ∧ t.stages = [] ∧ t.sched.ctxs = []
      ∧ t.plat.cclkStopped = true ∧ t.plat.selfRefresh = true ∧ t.plat.txStopped = true ∧ t.plat.thermTrip = false ∧ t.plat.faultN = s.plat.faultN
      ∧ t.booth.log = [] ∧ t.mem.log = s.mem.log ∧ t.plat.flash = s.plat.flash ∧ t.rd .idnSvnFloor 0 = s.rd .idnSvnFloor 0 := by
  obtain ⟨regs, auto, hcleared, hregs⟩ := cleared_frame s (keepRegs [Reg.idnSvnFloor.off 0] s.regs) .empty
  have hfloor : mget 0 regs (Reg.idnSvnFloor.off 0) = mget 0 s.regs (Reg.idnSvnFloor.off 0) :=
    (hregs _ (by decide)).trans (mget_keepRegs _ (List.mem_singleton.mpr rfl))
  unfold execPwrgoodFall
  rw [if_neg (by simp [hpow]), hcleared]
  exact ⟨_, rfl, rfl, rfl, rfl, rfl, rfl, rfl, rfl, rfl, rfl, rfl, rfl, rfl, congrArg (· ^^^ regReset .idnSvnFloor 0) hfloor⟩

/-- A warm reset that PERST_N holds (R504): the event log stays, with the record of the boot ROM phase where one ran. -/
theorem warmReset_held {s : State} (hperst : s.plat.perst = true) (cause : Nat) :
    let u := s.warmReset cause
    u.plat.dev = .boot ∧ u.plat.phase = [] ∧ u.plat.perst = true ∧ u.plat.resetCause = cause ∧ u.stages = [] ∧ u.sched.ctxs = []
      ∧ u.mem.log = s.mem.log ∧ u.plat.flash = s.plat.flash ∧ u.booth.log = s.romStart.booth.log := by
  have hrom := romStart_eventsOnly s
  have hheld : s.romStart.plat.perst = true := by rw [hrom.plat, hperst]
  have hflash : s.romStart.plat.flash = s.plat.flash := by rw [hrom.plat]
  dsimp only [State.warmReset]
  obtain ⟨regs, auto, hcleared, -⟩ := cleared_frame s.romStart (keepRegs warmRegs s.romStart.regs)
    { BoothSt.empty with log := s.romStart.booth.log, nextSeq := s.romStart.booth.nextSeq, msix := s.romStart.booth.msix }
  rw [hcleared, if_pos (by simpa [State.modPlat, State.wiped] using hheld)]
  exact ⟨rfl, rfl, hheld, rfl, rfl, rfl, hrom.memLog, hflash, rfl⟩

/-! ### The phases of the boot (R505-R509) -/

section
variable {s : State}

theorem boot_applies {k : Nat} (h : s.inPhase k = true) : ¬ (!s.inPhase k) = true := by simp [h]

theorem execFirmwareAuthDone_of_inPhase (h : s.inPhase 2 = true) :
    let passes := fun (x : Option Image) => x.any s.imagePasses
    let run := fun (u : State) => ((u.endPhase 2).modPlat (fun p => { p with dev := .test, runFw := imageVer p.flash.active })).beginPhase 3
    execFirmwareAuthDone s = .next (if passes s.plat.flash.active then run s
      else if passes s.plat.flash.other then run (s.modPlat (fun p => { p with
        flash := { p.flash with selB := !p.flash.selB }, bootEvents := p.bootEvents ++ [(2, 0)] }))
      else s.enterFault 7) := by
  intro passes run
  rw [apply_ite Host.Outcome.next, apply_ite Host.Outcome.next]
  unfold execFirmwareAuthDone
  rw [if_neg (boot_applies h)]
  cases s.plat.flash.active <;> cases s.plat.flash.other <;> rfl

theorem bootStages_eq (s : State) (bad : List Nat) (k : Nat) (next : List Nat) :
    s.bootStages bad k next = if (bad.foldl State.bootRetire s).availCount < 32 then (bad.foldl State.bootRetire s).enterFault 3
      else next.foldl State.beginPhase ((bad.foldl State.bootRetire s).endPhase k) := rfl

theorem bootRetire_retires {n : Nat} (hfused : Config.stageFused n = true) (hnew : ∀ r ∈ s.sched.retired, r.1 ≠ n) :
    (s.bootRetire n).sched.retired = s.sched.retired ++ [(n, 1)] := by
  unfold State.bootRetire
  have hfresh : s.sched.retired.any (fun r => decide (r.1 = n)) = false :=
    List.any_eq_false.mpr (fun r hr => by simpa using hnew r hr)
  rw [if_neg (by rw [hfused, hfresh]; decide)]
  rfl

theorem endPhase_plat (s : State) (k : Nat) :
    (s.endPhase k).plat = { s.plat with
      phase := s.plat.phase.filter (fun x => decide (x ≠ k)), phaseStart := s.plat.phaseStart.filter (fun x => decide (x.1 ≠ k)) } := by
  have hstart : EventsOnly s (if k = 1 then s.romStart else s) := by
    split
    · exact romStart_eventsOnly s
    · exact .refl s
  have hplat := (hstart.trans (post_eventsOnly _ 0x0002 0 none [w64 k, (if k = 1 then s.romStart else s).now - s.phaseBegan k])).plat
  unfold State.endPhase State.modPlat
  dsimp only
  rw [hplat]

theorem beginPhase_phase (s : State) (k : Nat) : (s.beginPhase k).plat.phase = s.plat.phase ++ [k] :=
  congrArg PlatSt.phase (post_eventsOnly (s.modPlat _) ..).plat

theorem endParallel_last {k : Nat} (h : ∀ x ∈ s.plat.phase, x = k) : (s.endParallel k).plat.phase = [8] := by
  have hend : (s.endPhase k).plat.phase = [] := by
    rw [endPhase_plat]
    exact List.filter_eq_nil_iff.mpr (fun x hx => by simp [h x hx])
  unfold State.endParallel
  rw [if_pos (by rw [hend]; rfl), beginPhase_phase, hend]
  rfl

/-! ### Service start (R507-R509) -/

theorem bootPost_plat (s : State) (x : Nat × Nat) : (s.bootPost x).plat = s.plat := by
  unfold State.bootPost
  split
  · exact (post_eventsOnly ..).plat
  · split
    · exact (post_eventsOnly ..).plat
    · exact (post_eventsOnly ..).plat

theorem foldl_bootPost_plat (l : List (Nat × Nat)) (s : State) : (l.foldl State.bootPost s).plat = s.plat := by
  induction l generalizing s with
  | nil => rfl
  | cons x l ih => rw [List.foldl_cons, ih, bootPost_plat]

theorem runImage_plat (s : State) (i : Image) : (s.runImage i).plat = { s.plat with runFw := Config.imageVersion i.bytes } := by
  unfold State.runImage
  dsimp only
  split <;> rfl

/-- The image in force runs, if there is one. -/
def State.runActive (s : State) : Option Image → State
  | some i => s.runImage i
  | none => s

theorem runActive_plat (s : State) (x : Option Image) : (s.runActive x).plat.dev = s.plat.dev ∧ (s.runActive x).plat.bootEvents = s.plat.bootEvents := by
  cases x with
  | none => exact ⟨rfl, rfl⟩
  | some i =>
    have hplat := runImage_plat s i
    exact ⟨by rw [State.runActive, hplat], by rw [State.runActive, hplat]⟩

theorem execServiceStartDone_of_inPhase (h : s.inPhase 8 = true) :
    let v := ((s.endPhase 8).modPlat (fun p => { p with dev := .ready })).runActive s.plat.flash.active
    ∃ t, execServiceStartDone s = .next t ∧ t.plat.dev = .ready ∧ t.plat.bootEvents = []
      ∧ t = (s.plat.bootEvents.foldl State.bootPost v).modPlat (fun p => { p with bootEvents := [] }) := by
  intro v
  have hend := endPhase_plat s 8
  have hactive : (s.endPhase 8).plat.flash.active = s.plat.flash.active := by rw [hend]
  obtain ⟨hdev, hevents⟩ := runActive_plat ((s.endPhase 8).modPlat (fun p => { p with dev := .ready })) s.plat.flash.active
  have hleft : v.plat.bootEvents = s.plat.bootEvents := by rw [hevents, State.modPlat, hend]
  have hexec : execServiceStartDone s = .next (
      let w := ((s.endPhase 8).modPlat (fun p => { p with dev := .ready })).runActive (s.endPhase 8).plat.flash.active
      (w.plat.bootEvents.foldl State.bootPost w).modPlat (fun p => { p with bootEvents := [] })) := if_neg (boot_applies h)
  rw [hactive] at hexec
  refine ⟨_, hexec, ?_, rfl, ?_⟩
  · show (v.plat.bootEvents.foldl State.bootPost v).plat.dev = .ready
    rw [foldl_bootPost_plat, hdev]
    rfl
  · rw [← hleft]

/-! ### Training the stacks (R223, R236, R240) -/

theorem RegWrites.foldl_fst {P : Nat → Prop} {α β : Type} {f : State × β → α → State × β} (hf : ∀ a i, RegWrites P a.1 (f a i).1) (l : List α)
    (a : State × β) : RegWrites P a.1 (l.foldl f a).1 := by
  induction l generalizing a with
  | nil => exact .refl P a.1
  | cons i l ih => exact (hf a i).trans (ih _)

theorem setRemap_regWrites (s : State) (chans : List Nat) : RegWrites (fun _ => True) s (s.setRemap chans) := by
  unfold State.setRemap
  refine (RegWrites.foldl_fst (fun a i => ?_) _ (s, 0, 0)).trans (.setFld _ trivial ..)
  dsimp only
  split
  · exact .wr a.1 trivial _
  · exact .wr a.1 trivial _

theorem foldl_logRepair (f : Nat → Repair) (l : List Nat) (s : State) :
    ∃ log, l.foldl (fun (s : State) c => s.logRepair (f c)) s = { s with mem := { s.mem with log := log } } := by
  induction l generalizing s with
  | nil => exact ⟨s.mem.log, rfl⟩
  | cons c l ih =>
    obtain ⟨log, hlog⟩ := ih (s.logRepair (f c))
    refine ⟨log, hlog.trans ?_⟩
    unfold State.logRepair
    split <;> rfl

/-- The pages retired afresh: those of the repair log that fail again. -/
theorem mem_failedPages {log : List Repair} {pages : List Nat} {g : Nat} :
    g ∈ ((log.filter (fun r => decide (r.kind = 3))).map (fun (r : Repair) => r.row)).eraseDups.filter (fun g => pages.contains g)
      ↔ g ∈ pages ∧ ∃ r ∈ log, r.kind = 3 ∧ r.row = g := by
  simp only [List.mem_filter, List.mem_eraseDups, List.mem_map, List.contains_iff_mem, decide_eq_true_eq, and_assoc]
  exact and_comm

theorem execStackTrainingDone_of_inPhase (h : s.inPhase 5 = true) (chans pages : List Nat) (serials : List W64) :
    ∃ t : State, execStackTrainingDone chans pages serials s = .next (t.endParallel 5)
      ∧ t.mem.retiredChans = (List.range (pcCount / 2)).filter (fun c => chans.contains c)
      ∧ (∀ g, g ∈ t.mem.retiredPages ↔ g ∈ pages ∧ ∃ r ∈ s.mem.log, r.kind = 3 ∧ r.row = g)
      ∧ (chans = [] → t.mem.log = s.mem.log) ∧ t.mem.remaps = remapsLeft t.mem.log ∧ t.plat.phase = s.plat.phase ∧ t.stages = s.stages := by
  unfold execStackTrainingDone
  rw [if_neg (boot_applies h)]
  extract_lets bad new failed logged counts before trained remapped served posted
  have hserved : RegWrites (fun _ => True) trained served :=
    ((setRemap_regWrites trained bad).trans (.setFld _ trivial ..)).trans
      (.foldl _ (fun u k _ => (RegWrites.setFld u trivial ..).trans (.wr _ trivial _)) _)
  clear_value served
  obtain ⟨m, rfl⟩ := hserved.rest
  obtain ⟨log, hlog⟩ := foldl_logRepair (fun c => ⟨4, c / 32, 2 * c, 0⟩) new s
  have hnone : chans = [] → logged = s := by
    intro hchans
    have hbad : bad = [] := List.filter_eq_nil_iff.mpr (fun c _ => by rw [hchans]; exact Bool.false_ne_true)
    have hnew : new = [] := by rw [show new = bad.filter _ from rfl, hbad]; rfl
    rw [show logged = new.foldl _ s from rfl, hnew]
    rfl
  have hmem : posted.mem = trained.mem := rfl
  have hphase : posted.plat.phase = trained.plat.phase := rfl
  have hstages : posted.stages = trained.stages := rfl
  refine ⟨posted, rfl, by rw [hmem], fun g => ?_, fun hchans => ?_, by rw [hmem], ?_, ?_⟩
  · rw [hmem]
    exact mem_failedPages
  · rw [hmem]
    show logged.mem.log = s.mem.log
    rw [hnone hchans]
  · rw [hphase]
    show logged.plat.phase = s.plat.phase
    rw [show logged = _ from hlog]
  · rw [hstages]
    show logged.stages = s.stages
    rw [show logged = _ from hlog]

end

/-! ### Training a port (R338, R358) -/

theorem mget_mset_of_ne_default {α : Type} [DecidableEq α] {d : α} (m : SMap α) (k : Nat) {v : α} (h : v ≠ d) : mget d (mset d m k v) k = v := by
  induction m with
  | nil => rw [mset, if_neg h, mget, if_pos rfl]
  | cons e t ih =>
    obtain ⟨j, w⟩ := e
    rw [mset, if_neg h, if_neg h]
    split
    · rw [mget, if_pos rfl]
    · split
      · rw [mget, if_pos rfl]
      · rw [mget, if_neg (Ne.symm ‹_›), ih]

/-- The lanes of a bitmap. -/
def trainedLanes (m : BitVec 8) : List Nat := (List.range 8).filter (fun l => m.getLsbD l)

theorem getLsbD_laneMap_foldl (ls : List Nat) (m : BitVec 8) {j : Nat} (hj : j < 8) :
    (ls.foldl (fun m l => m ||| (1#8 <<< l)) m).getLsbD j = (m.getLsbD j || decide (j ∈ ls)) := by
  induction ls generalizing m with
  | nil => simp
  | cons l ls ih =>
    have hbit : (1#8 <<< l).getLsbD j = decide (j = l) := by
      rw [BitVec.getLsbD_shiftLeft, BitVec.getLsbD_one]
      by_cases hl : j = l
      · simp [hl, hl ▸ hj]
      · simp [hl]
        omega
    rw [List.foldl_cons, ih, BitVec.getLsbD_or, hbit, Bool.or_assoc, ← Bool.decide_or]
    simp only [List.mem_cons]

theorem laneMap_ne_zero {ls : List Nat} {l : Nat} (hmem : l ∈ ls) (hl : l < 8) : laneMap ls ≠ 0 := by
  intro hzero
  have hbit : (laneMap ls).getLsbD l = ((0#8).getLsbD l || decide (l ∈ ls)) := getLsbD_laneMap_foldl ls 0 hl
  rw [hzero, decide_eq_true hmem, Bool.or_true] at hbit
  exact absurd hbit (by simp)

/-- R358 makes lanes active exactly where four are good. -/
theorem laneMap_take_eq_zero_iff (m : BitVec 8) : laneMap ((trainedLanes m).take (widthOf (trainedLanes m).length)) = 0 ↔ popLanes m < 4 := by
  have hlen : (trainedLanes m).length = popLanes m := rfl
  rw [hlen]
  constructor
  · intro hzero
    by_contra hfour
    have hwide : 0 < widthOf (popLanes m) := by
      unfold widthOf
      split_ifs <;> omega
    obtain ⟨l, ls, hcons⟩ := List.exists_cons_of_length_pos (l := trainedLanes m) (by omega)
    have hl : l < 8 := List.mem_range.mp (List.mem_of_mem_filter (show l ∈ trainedLanes m by rw [hcons]; exact List.mem_cons_self ..))
    refine laneMap_ne_zero (l := l) ?_ hl hzero
    rw [hcons, ← Nat.succ_pred_eq_of_pos hwide, List.take_succ_cons]
    exact List.mem_cons_self ..
  · intro hfew
    have hwidth : widthOf (popLanes m) = 0 := by
      unfold widthOf
      split_ifs <;> omega
    rw [hwidth]
    rfl

/-- The port's state, active or down, beside its width and its lanes. -/
def State.setPortState (s : State) (n state width lanes : Nat) : State :=
  ((s.setFld .lnkPort n 2 0 state).setFld .lnkPort n 6 3 width).setFld .lnkPort n 14 7 lanes

theorem setPortState_fld {s : State} (hwf : mwf 0 s.regs = true) (n state width lanes : Nat) :
    (s.setPortState n state width lanes).fld .lnkPort n 2 0 = state % 8 := by
  unfold State.setPortState
  rw [State.setFld_fld_apart (State.setFld_wf (State.setFld_wf hwf ..) ..) _ _ (by decide) (by decide) (by decide),
    State.setFld_fld_apart (State.setFld_wf hwf ..) _ _ (by decide) (by decide) (by decide), State.setFld_fld_same hwf _ _ (by decide) (by decide)]
  rfl

theorem applyWidth_fld {s : State} (hwf : mwf 0 s.regs = true) (n : Nat) (m : BitVec 8) : (s.applyWidth n m).fld .lnkPort n 2 0 = 2 :=
  setPortState_fld hwf n 2 (popLanes m) m.toNat

/-- The port with its training records. -/
def State.portRecorded (s : State) (n : Nat) (m : BitVec 8) (x : Option (W64 × Nat)) : State :=
  s.modPort n (fun p => { p with
    trained := m
    recs := (x.map (fun r => (trainedLanes m).map (fun l => (l, r)))).getD []
    recOut := some (s.rd .idnDevid 0, n, (trainedLanes m).getLast?.getD 7) })

/-- The port with its training records and its retired lanes shown, its partner not yet looked at. -/
def State.lanesLocked (s : State) (n : Nat) (m : BitVec 8) (x : Option (W64 × Nat)) : State :=
  (List.range 8).foldl (fun s l =>
    (s.setFld .lnkLane (8 * n + l) 41 40 (1 - if m.getLsbD l then 1 else 0)).setFld .lnkLane (8 * n + l) 42 42 (if m.getLsbD l then 1 else 0))
    (((s.portRecorded n m x).setFld .lnkPort n 22 15 (255 - m.toNat)).setFld .lnkPort n 30 23 0)

theorem trainPort_some (s : State) (n : Nat) (m : BitVec 8) (r : W64 × Nat) :
    let u := s.lanesLocked n m (some r)
    s.trainPort n m (some r) = if u.wantLanes n ≠ 0
      then ((u.applyWidth n (u.wantLanes n)).setPartner n r).modLink (fun k => { k with linkChanged := true })
      else u.setPortState n 4 0 0 := rfl

theorem trainPort_none (s : State) (n : Nat) (m : BitVec 8) : s.trainPort n m none = (s.lanesLocked n m none).setPortState n 4 0 0 := rfl

section
variable {s : State} (hwf : mwf 0 s.regs = true) {n : Nat} (hn : n < 24) (m : BitVec 8) (x : Option (W64 × Nat))

theorem lnkPort_not_lnkLane {n : Nat} (hn : n < 24) : ¬ Reg.lnkLane.covers (Reg.lnkPort.off n) = true :=
  Reg.not_covers_of_apart (by decide) (by decide) hn (by decide)

theorem lnkPort_notin_eventRegs (n : Nat) : Reg.lnkPort.off n ∉ eventRegs := by
  simp only [eventRegs, Reg.off, Reg.desc, List.mem_cons, List.not_mem_nil, or_false]
  omega

include hn in
/-- Showing the lanes of a port writes the lane registers alone. -/
theorem lanesLocked_regWrites : RegWrites (fun off => Reg.lnkLane.covers off = true)
    (((s.portRecorded n m x).setFld .lnkPort n 22 15 (255 - m.toNat)).setFld .lnkPort n 30 23 0) (s.lanesLocked n m x) := by
  refine RegWrites.foldl _ (fun u l hl => ?_) _
  have hcover : Reg.lnkLane.covers (Reg.lnkLane.off (8 * n + l)) = true :=
    Reg.covers_off (by decide) (show 8 * n + l < 192 by have := List.mem_range.mp hl; omega)
  exact (RegWrites.setFld u hcover ..).trans (.setFld _ hcover ..)

include hn in
theorem lanesLocked_trained : ((s.lanesLocked n m x).port n).trained = m := by
  obtain ⟨regs, hregs⟩ := (lanesLocked_regWrites (s := s) hn m x).rest
  have hport : (s.lanesLocked n m x).port n = (s.portRecorded n m x).port n := by rw [hregs]; rfl
  rw [hport]
  unfold State.portRecorded State.modPort State.setPort State.port
  rw [mget_mset_of_ne_default _ _ (fun heq => by simpa [PortLink.fresh] using congrArg PortLink.recOut heq)]

include hwf hn

theorem lanesLocked_wf : mwf 0 (s.lanesLocked n m x).regs = true :=
  (lanesLocked_regWrites hn m x).wf (State.wr_wf _ _ _ (State.wr_wf _ _ _ hwf))

/-- A lane that did not train shows as retired. -/
theorem lanesLocked_retired {l : Nat} (hl : l < 8) : (s.lanesLocked n m x).fld .lnkPort n (15 + l) (15 + l) = if m.getLsbD l then 0 else 1 := by
  have hnot : (255 - m.toNat).testBit l = !m.getLsbD l := by
    rw [show 255 - m.toNat = (~~~m).toNat by rw [BitVec.toNat_not], BitVec.testBit_toNat, BitVec.getLsbD_not, decide_eq_true hl, Bool.true_and]
  have hrecorded : mwf 0 (s.portRecorded n m x).regs = true := hwf
  rw [(lanesLocked_regWrites hn m x).fld (lnkPort_not_lnkLane hn),
    State.setFld_fld_apart (State.setFld_wf hrecorded ..) _ _ (by decide) (by decide) (by omega), State.setFld,
    State.wr_fld_same _ _ _ _ _ hrecorded, bitsOf_setBits_bit _ (by decide) (by omega), Nat.add_sub_cancel_left, hnot]
  cases m.getLsbD l <;> rfl

theorem lanesLocked_goodLanes : (s.lanesLocked n m x).goodLanes n = trainedLanes m := by
  unfold State.goodLanes trainedLanes
  refine List.filter_congr (fun l hl => ?_)
  rw [lanesLocked_trained hn, lanesLocked_retired hwf hn m x (List.mem_range.mp hl)]
  cases m.getLsbD l <;> rfl

theorem lanesLocked_wantLanes : (s.lanesLocked n m x).wantLanes n = 0 ↔ popLanes m < 4 := by
  unfold State.wantLanes
  rw [lanesLocked_goodLanes hwf hn]
  exact laneMap_take_eq_zero_iff m

end

theorem setPartner_fld (s : State) (n : Nat) (r : W64 × Nat) (hi lo : Nat) : (s.setPartner n r).fld .lnkPort n hi lo = s.fld .lnkPort n hi lo := by
  unfold State.setPartner
  dsimp only
  split
  · rfl
  · exact (post_eventsOnly ..).fld (lnkPort_notin_eventRegs n) hi lo

/-- A port trained with four lanes and one partner is active; any other is down (R338). -/
theorem trainPort_state {s : State} (hwf : mwf 0 s.regs = true) {n : Nat} (hn : n < 24) (m : BitVec 8) (x : Option (W64 × Nat)) :
    let t := s.trainPort n m x
    (4 ≤ popLanes m → x ≠ none → t.fld .lnkPort n 2 0 = 2) ∧ (popLanes m < 4 ∨ x = none → t.fld .lnkPort n 2 0 = 4) := by
  cases x with
  | none => exact ⟨fun _ hsome => absurd rfl hsome, fun _ => setPortState_fld (lanesLocked_wf hwf hn m none) n 4 0 0⟩
  | some r =>
    have hwant := lanesLocked_wantLanes hwf hn m (some r)
    have hlocked := lanesLocked_wf hwf hn m (some r)
    dsimp only
    rw [trainPort_some]
    generalize s.lanesLocked n m (some r) = u at hwant hlocked ⊢
    refine ⟨fun hfour _ => ?_, fun hfew => ?_⟩
    · rw [if_pos (fun hzero => absurd (hwant.mp hzero) (Nat.not_lt.2 hfour))]
      show ((u.applyWidth n (u.wantLanes n)).setPartner n r).fld .lnkPort n 2 0 = 2
      rw [setPartner_fld, applyWidth_fld hlocked]
    · rw [if_neg (not_not.2 (hwant.mpr (hfew.resolve_right (Option.some_ne_none r)))), setPortState_fld hlocked]

/-- Settles O52: the resets by what `cleared` leaves, the phases by their guards and the frame of events, a trained port by its good lanes. -/
theorem theBoot : Obligations.TheBoot := by
  unfold Obligations.TheBoot
  intro s
  refine ⟨?_, ?_, ?_, ?_, ?_, ?_, ?_, ?_, ?_, ?_, ?_, ?_, ?_, ?_⟩
  · intro ok hoff u
    exact ⟨if_neg (by simp [hoff]), powerReset_fresh _⟩
  · exact fun _ hpow => execPwrgoodFall_off hpow
  · intro hfree v
    refine ⟨?_, fun hoff => ?_⟩
    · intro hon u
      obtain ⟨hdev, hphase, hheld, hcause, hstages, hctxs, hlog, hflash, hevents⟩ := warmReset_held (s := v) rfl 1
      refine ⟨?_, hdev, hphase, hheld, hcause, hstages, hctxs, hlog, hflash, fun hrom => hevents.trans ?_⟩
      · exact (if_neg (by simp [hfree])).trans (if_neg hon)
      · rw [romStart_of_not_mem (s := v) hrom]
    · exact (if_neg (by simp [hfree])).trans (if_pos hoff)
  · intro hheld
    exact ⟨fun hpow => (if_neg (by simp [hheld])).trans (if_pos hpow), fun hpow => (if_neg (by simp [hheld])).trans (if_neg (by simp [hpow]))⟩
  · intro h pll fuse
    exact ⟨fun hok => (if_neg (boot_applies h)).trans (if_neg (by simp [hok])), fun hbad => (if_neg (boot_applies h)).trans (if_pos (by simp [hbad]))⟩
  · exact fun h => execFirmwareAuthDone_of_inPhase h
  · intro left
    refine ⟨fun h bad => ⟨?_, ?_⟩, fun h bad => if_neg (boot_applies h), fun n => bootRetire_retires⟩
    · exact (if_neg (boot_applies h)).trans (if_neg (by decide))
    · exact (if_neg (boot_applies h)).trans (if_pos rfl)
  · exact fun h => execStackTrainingDone_of_inPhase h
  · intro h lanes partners
    rw [← List.foldl_filter]
    exact if_neg (boot_applies h)
  · exact fun hcanon n m x hn => trainPort_state hcanon.1 hn m x
  · exact fun h up => if_neg (boot_applies h)
  · exact fun k h => endParallel_last h
  · exact fun h => execServiceStartDone_of_inPhase h
  · exact fun e ok he hdown heth hon hboot => (if_neg (Nat.not_le.2 he)).trans (if_pos ⟨hdown, heth, hon, hboot⟩)

end Sys2Proof.Machine
end
